-- ==== Sys2Proof/Word.lean ====
section
/-! DEFINITION. The word types of the block: bytes, and the fixed-width words its objects hold. -/
namespace Sys2Proof

/-- One byte of an object value. -/
abbrev Byte := BitVec 8
/-- A REAL32 (R10): the 32 bits of an IEEE 754 single precision number. -/
abbrev Real32 := BitVec 32
/-- A 32-bit word, for abort codes, masks and status words. -/
abbrev Word := BitVec 32
/-- A sparse table: (key, value) pairs, keys strictly rising. -/
abbrev Tab (α : Type) := List (Nat × α)

end Sys2Proof
end

