-- ==== Sys2Proof/Machine/Units.lean ====
section
/-! DEFINITION. The operand types of the commands and the structures of the units' hidden state, as plain data. -/
namespace Sys2Proof

/-- What a converter slice gives for one conversion: the code and its two range comparators (R81). -/
structure AdcSample where
  raw : Nat := 0
  above : Bool := false
  below : Bool := false
deriving DecidableEq, Repr

/-- A CAN frame (R267): identifier format, FD, bit-rate switching, error state, remote request, data. -/
structure Frame where
  ide : Bool := false
  id : Nat
  fd : Bool := true
  brs : Bool := false
  esi : Bool := false
  rtr : Bool := false
  data : List Byte := []
deriving DecidableEq, Repr

/-- What a start-up finds: the levels of two straps at reset release, START_MODE and TESTEN, whose high level keeps the boot ROM from
starting (R487), and the store banks, tag and bank 1 or not, whose payload CRC fails when they are read after selection (R420). -/
structure StartStraps where
  startMode : Bool
  testen : Bool
  decayed : List (Nat × Bool) := []
deriving DecidableEq, Repr

/-- The start-of-frame edge of a CAN frame: ticks before the present one, and the CLK_CAN cycle of its base period (R272). -/
structure FrameStart where
  back : Nat
  cycle : Nat
deriving DecidableEq, Repr

/-- What a controller measures of a frame that it sends: the loop delay in CLK_CAN cycles, and the start-of-frame edge (R270,
R272). -/
structure FrameSent where
  delay : Nat
  start : FrameStart
deriving DecidableEq, Repr

/-- How a CAN error is counted, by eight or by one (R284), and the loop delay where the frame got past the edge at which it is
measured (R270). -/
structure ErrorCount where
  eight : Bool
  delay : Option Nat
deriving DecidableEq, Repr

/-- A single-shot attempt of a controller in SOLITARY: acknowledged or not, and what was measured of the frame (R286). -/
structure Attempt where
  acked : Bool
  sent : FrameSent
deriving DecidableEq, Repr

/-- The index input takes a level and holds it for so many CLK_POS cycles (R122, R130). -/
structure IndexEdge where
  level : Bool
  held : Nat
deriving DecidableEq, Repr

/-- A bank as it is read back: its header and its payload (R416, R418). -/
structure BankBytes where
  header : List Byte
  payload : List Byte
deriving DecidableEq, Repr

/-- A halyard frame: its type, length, sequence and payload, and its CRC field (R340). -/
structure HalyardFrame where
  raw : List Byte
  crc : Nat
deriving DecidableEq, Repr

/-- An acceptance filter (R272, R292): target 0 to 63 a buffer, 64 the FIFO, 65 rejection. -/
structure Filter where
  enabled : Bool
  ide : Bool
  id : Nat
  mask : Nat
  target : Nat
  reader : Nat
deriving DecidableEq, Repr

/-- What the outside world gives in one base period. -/
structure TickIn where
  /-- codes by slice, in the order of conversion; entry 16 is SP -/
  adc : List (List AdcSample) := []
  /-- levels that the field ports' input buffers read at the tick, bit n for FPn -/
  pins : Nat := 0
  /-- loops whose lanes disagree in this tick, and whether the recomputation disagrees too (R169 to R171) -/
  lanes : List (Nat × Bool) := []
  /-- uncorrectable ECC errors that evaluations find: loop, bank (0, 1; 2 live state), word (R171) -/
  loopEcc : List (Nat × Nat × Nat) := []
  /-- the service cores wrote their watchdog in this period (R346) -/
  watchdog : Bool := true
  /-- a mismatch or uncorrectable error in the scheduler and output queue: its queue entry (R173, R174) -/
  scheduler : Option Nat := none
deriving DecidableEq, Repr

/-- A USDO request (R306): a read, an expedited write, the first frame of a segmented write with its total length, or a further
segment, the last one or not. `bus` is the controller that delivered it first. DEDUCED, unsafe: log entry 113. -/
inductive UsdoOp where
  | read (idx sub : Nat)
  | write (idx sub : Nat) (data : List Byte)
  | start (idx sub len : Nat) (bus : Nat)
  | segment (data : List Byte) (last : Bool) (bus : Nat)
deriving DecidableEq, Repr

/-- What a field node answers to the transfers of R314, in their order; none: no answer. DEDUCED, unsafe: log entry 117. -/
structure NodeResp where
  type : Option Nat := none
  vendor : Option Nat := none
  product : Option Nat := none
  loaded : Bool := false
deriving DecidableEq, Repr

/-- A REPORT frame (R347): unit, command answered, result, order number, role, epoch, and bytes 6 and 7. -/
structure Report where
  unit : Nat
  cmd : Nat
  result : Nat
  num : Nat
  role : Nat
  epoch : Nat
  val : Nat
deriving DecidableEq, Repr

/-- A HEALTH frame (R347): unit and bytes 0 to 7. -/
structure Health where
  unit : Nat
  role : Nat
  flags : Nat
  ctr : Nat
  reason : Nat
  epoch : Nat
  hoist : Nat
deriving DecidableEq, Repr

/-- What the scrubber finds a word to belong to (R36): loop memory by loop, bank (2: live state) and word; the field-port
configuration memory; a receive buffer of a controller or its shadow; a FIFO slot; the memory behind a sub-index (timetable, zones,
trace and the firmware's own); an entry of the bunting log by its number; any other memory. -/
inductive Region where
  | loop (n bank word : Nat)
  | ports
  | canBuffer (x n : Nat) (shadow : Bool)
  | canFifo (x slot : Nat)
  | value (idx sub : Nat)
  | log (num : Nat)
  | other
deriving DecidableEq, Repr

end Sys2Proof

namespace Sys2Proof.Machine
open Sys2Proof

/-- A dictionary write accepted and not yet in place (R48, R49): TICK at own tick `due`, PERIOD at the first boundary
of the owner at or after it. They stand in order of acceptance. -/
structure PendingWrite where
  client : Nat
  due : Nat
  period : Bool
  idx : Nat
  sub : Nat
  data : List Byte
deriving DecidableEq, Repr

/-- What the device answered a client last: abort code 0 is success. -/
structure Answer where
  code : Nat
  data : List Byte
deriving DecidableEq, Repr

/-- An open write group (R54). -/
structure Group where
  client : Nat
  items : List (Nat × Nat × List Byte)
  lastAt : Nat
deriving DecidableEq, Repr

/-- A work item (R38, R461 to R465). `journal` is bit :0B. -/
structure WorkItem where
  id : Nat
  kind : Nat
  origin : Nat
  state : Nat
  reason : Nat
  idx : Nat
  sub : Nat
  accepted : Nat
  ended : Nat
  abort : Nat
  journalled : Bool
deriving DecidableEq, Repr

/-- A bunting-log entry (R455). -/
structure LogEntry where
  num : Nat
  time : Nat
  subSec : Nat
  code : Nat
  calInvalid : Bool
  loc : Nat
  qual : Nat
  data : Nat
deriving DecidableEq, Repr

/-- A queued EMCY (R309). -/
structure Emcy where
  code : Nat
  loc : Nat
  pennant : Nat
  source : Nat
  obj : Nat
deriving DecidableEq, Repr

/-- One conversion held in a channel's filter (R78): the unrounded corrected value and its flags; with them the slice that
made it, its start in CLK_ADC cycles of own time, and what the converter gave, from which a detector that changes within the
period marks it anew (R83). -/
structure Conv where
  c : Rat
  ovr : Bool
  unr : Bool
  susp : Bool
  phys : Nat := 0
  start : Int := 0
  sample : AdcSample := {}
deriving DecidableEq, Repr

/-- A measurement channel's hidden state: the filter window, newest first; the conversions still to be marked SETTLING;
a refill after a change of N; whether the value delivered for this period is valid. -/
structure Chan where
  win : List Conv := []
  settle : Nat := 0
  refill : Bool := false
  valid : Bool := false
  /-- the voltage of the last valid delivery (R93, R390) -/
  pin : Rat := 0
deriving DecidableEq, Repr

/-- The measurement subsystem (R65 to R98). -/
structure Meas where
  chans : Tab Chan := []
  /-- offset and gain of slice and range, key slice * 8 + range; unlisted: the OTP trims (R91) -/
  coef : Tab (Real32 × Real32) := []
  /-- inputs whose clamp detector is active: channel, bit 0 above the upper rail, bit 1 below the lower, bit 2 above 1 mA
      (R83, R84) -/
  inj : Tab Nat := []
  /-- conversions of a slice still to carry SUSPECT (R83, R84) -/
  suspTail : Tab Nat := []
  /-- the slice of the calibration window, its tick T and its phase: 0 none, 1 parallel before T, 2 substituted,
      3 parallel with new coefficients, 4 repeated comparison (R89, R90) -/
  calSlice : Nat := 0
  calT : Nat := 0
  calPhase : Nat := 0
  calPrev : List (Real32 × Real32) := []
  calOob : Bool := false
  /-- the comparison of the running period failed (R90) -/
  cmpFail : Bool := false
  /-- slice to retry in the next window, and consecutive failures at step 1 -/
  calRetry : Option Nat := none
  calFails : Nat := 0
  calStopped : Bool := false
  calItem : Option Nat := none
  /-- SP's self-calibration: tick of use and its new coefficients -/
  spCal : Option (Nat × List (Real32 × Real32)) := none
  /-- the temperature of the start-up calibration is still to be read (R68) -/
  calTemp : Bool := false
  /-- sources whose monitor reads below 95 % (R75) -/
  excOpen : List Nat := []
  /-- the sources were driven at the last tick pass (R476) -/
  driven : Bool := false
deriving DecidableEq, Repr

/-- A field port's hidden state (R99 to R118). Times are in ns of `nowNs`; CLK_POS counts are 5 ns. DESIGN CHOICE, unsafe: log
entry 20. -/
structure Port where
  /-- the glitch-filtered level of the pin -/
  lvl : Bool := false
  /-- the debounced level, and since when the filtered level has differed from it -/
  deb : Bool := false
  debSince : Option Nat := none
  /-- the levels have been taken from the pin since the input buffer came on -/
  sync : Bool := false
  /-- DI_PIR: the stretched level and its deadline -/
  stretched : Bool := false
  stretchEnd : Nat := 0
  /-- DI_COUNT and DI_PIR: the running counter, and the presets due at an own tick, in the order of their acceptance -/
  count : Nat := 0
  preset : List (Nat × Nat) := []
  /-- FREQ: edges since measurement start, timestamps newest first -/
  edgeCount : Nat := 0
  stamps : List Nat := []
  /-- class 2: the value latched at the tick and its validity -/
  value : Real32 := 0#32
  valid : Bool := false
  /-- the last applied duty d and whether a function output has been applied -/
  duty : Real32 := 0#32
  applied : Bool := false
  /-- the safe state holds until a value is due (R102) -/
  waiting : Bool := true
  /-- PWM: counts of the running cycle, active counts of it, its start, and the duty due at the next start -/
  pwmC : Nat := 0
  pwmH : Nat := 0
  pwmStart : Int := 0
  pwmDuty : Real32 := 0#32
  /-- ZXO: burst accumulator, level driven, k of the effective duty latched at the last tick, crossings lost, positive-going
      crossings in a row since, time of the last of them, the decision point already used, and since when a level waits -/
  zxAcc : Nat := 0
  zxOn : Bool := false
  zxK : Nat := 0
  zxLost : Bool := false
  zxRun : Nat := 0
  zxLast : Nat := 0
  zxUsed : Rat := 0
  zxDue : Option Nat := none
  /-- time of the last edge the port drove -/
  edgeAt : Nat := 0
  /-- consecutive mismatches, the port fault and its next retry in own ticks (R103) -/
  mismatch : Nat := 0
  faulted : Bool := false
  retryAt : Nat := 0
deriving DecidableEq, Repr

/-- A position channel's hidden state (R121 to R142). Times are in ns of `nowNs`. -/
structure Pos where
  count : Nat := 0
  /-- filtered levels of A, B and Z -/
  a : Bool := false
  b : Bool := false
  z : Bool := false
  idxRef : Nat := 0
  referenced : Bool := false
  mismatch : Bool := false
  indexCount : Nat := 0
  /-- last counted movement was down -/
  down : Bool := false
  /-- speed history: timestamps newest first, and how it stands -/
  stamps : List Nat := []
  edges : Nat := 0
  stopped : Bool := true
  starting : Bool := false
  reversal : Bool := false
  /-- since the previous latch -/
  corrected : Bool := false
  sigFault : Bool := false
  /-- SSI: previous good value, good frames' counts newest first, errors in a row, last change (none: stopped since the
      start), frame in progress, its start, earliest start of the next frame -/
  vPrev : Option Nat := none
  frames : List Nat := []
  ssiErrors : Nat := 0
  changedAt : Option Nat := none
  frameBusy : Bool := false
  frameAt : Nat := 0
  frameFree : Nat := 0
  /-- the set-point's validity (R141) -/
  spValid : Bool := false
  /-- commands due at an own tick, in the order of their acceptance: preset values, re-references, arm (1) or disarm (2) -/
  preset : List (Nat × Nat) := []
  reRef : List Nat := []
  arm : List (Nat × Nat) := []
  /-- the end of the running compare pulse -/
  pulseEnd : Option Nat := none
deriving DecidableEq, Repr

/-- An input of a loop block: the held value (none: no valid value since the start) and the boundaries in a row at which it
was invalid (R161). -/
structure LoopInput where
  held : Option Real32 := none
  age : Nat := 0
deriving DecidableEq, Repr

/-- A pending bank swap (R179 to R181): incoming bank, Kd of the outgoing one, own tick from which it may happen, and
whether the whole swap set changes at that very tick. -/
structure Swap where
  bank : Nat
  kdOld : Real32
  due : Nat
  inSet : Bool
deriving DecidableEq, Repr

/-- A loop's hidden state beside its live-state words 0x3400+n:90 to 9F (R147 to R186). -/
structure Loop where
  pv : LoopInput := {}
  sp : LoopInput := {}
  ff : List LoopInput := [{}, {}, {}]
  /-- the value of the cascade writer, none while it gives no valid target (R168) -/
  casc : Option Real32 := none
  /-- the output in the queue: tick at which it is due, u and r (R20 step 10, R23) -/
  out : Option (Nat × Real32 × Real32) := none
  /-- what classes 4 and 5 deliver, none until the first output is due -/
  u : Option Real32 := none
  r : Option Real32 := none
  swap : Option Swap := none
  /-- the next evaluation is the swap evaluation; Kd of the outgoing bank -/
  swapEval : Option Real32 := none
  /-- the next evaluation under R160 resumes under R163 -/
  resume : Bool := false
  /-- derivative and notches restart at the next evaluation (R53) -/
  fresh : Bool := false
  /-- an evaluation has completed since the start (R188) -/
  evaluated : Bool := false
  /-- trace nodes 0 and 6 of the last evaluation (R187) -/
  node0 : Real32 := 0#32
  node6 : Real32 := 0#32
  /-- words with an uncorrectable ECC error, by bank; live-state words are 64 + w (R171, R172) -/
  bad : List (Nat × Nat) := []
  /-- words still to be written before a bank with an error is usable again, by bank (R172) -/
  owed : List (Nat × Nat) := []
  /-- restart command due at an own tick (R171) -/
  restart : Option Nat := none
deriving DecidableEq, Repr

/-- The trace (R187 to R191): samples newest first, one row of eight channels each. -/
structure Trace where
  rows : List (List Real32) := []
  /-- samples stored since arming -/
  count : Nat := 0
  /-- rows still to record after the trigger -/
  left : Nat := 0
  forced : Bool := false
  /-- the channels enabled when the capture was armed -/
  mask : Nat := 0
  /-- commands due at an own tick, in the order of their acceptance -/
  cmds : List (Nat × Nat) := []
deriving DecidableEq, Repr

/-- A value with its validity mark (R32). -/
abbrev Sig := Real32 × Bool

/-- The results of a zone evaluation, due at the zone's next boundary (R195). -/
structure ZoneDue where
  /-- own tick at which they are due -/
  at_ : Nat
  /-- quantities 0 to 15 -/
  qs : List Sig
  /-- surface temperatures, margins and air dew points of the four surfaces -/
  temps : List Sig
  margins : List Sig
  dews : List Sig
  /-- margins below the alarm value, bit j -/
  alarm : Nat
  /-- set-points supplied to slots 0 to 4 -/
  sp : List Real32
  /-- the decoupling coefficients of a learning step, by link, with Ho as 8 (R214) -/
  coef : List (Nat × Real32)
deriving DecidableEq, Repr

/-- A zone's hidden state (R194 to R217). Times are own ticks. -/
structure Zone where
  /-- validity of the quantities 0 to 15, bit q -/
  qValid : Nat := 0
  /-- last valid values that writers gave to the actuator channels, by slot (R24, R198) -/
  chan : Tab Real32 := []
  /-- channels to gate in this tick, bit s; slots held by the changeover time, bit s (R198, R199) -/
  gate : Nat := 0
  waitMask : Nat := 0
  /-- when the forwarded value of slots 0 and 1 last stopped being active -/
  stopHeat : Option Nat := none
  stopCool : Option Nat := none
  /-- the estimator: initialised, state Ta Ts Qg b, covariance by rows (R205, R206) -/
  init : Bool := false
  x : List Real32 := []
  p : List (List Real32) := []
  /-- the coast time has been reached -/
  coasted : Bool := false
  /-- actuator heat formed at the last evaluation (R195, R205) -/
  heat : Real32 := 0#32
  /-- smoothed occupancy N, previous CO2 value, previous presence counts (R207) -/
  occ : Option Real32 := none
  co2 : Option Real32 := none
  pir : List (Option Nat) := [none, none, none, none]
  /-- first of the boundaries in a row with quantity 13 below the alarm (R211) -/
  lowSince : Option Nat := none
  due : Option ZoneDue := none
  /-- the decoupling step: covariance by rows over links 0 to 7 and Ho as 8; Ta, Ts, qa and qg_prior of the previous
      boundary; the errors of the last 100 updates, newest first (R214) -/
  rls : List (List Real32) := []
  prev : Option (List Real32) := none
  errs : List Real32 := []
  /-- what the walker supplies: mode, whether an entry applies, and the profile used (R201, R230) -/
  ttMode : Nat := 2
  ttEntry : Bool := false
  ttProfile : Nat := 255
  /-- the profile in force, which a zone in an operator mode takes (R225) -/
  ttInForce : Nat := 255
deriving DecidableEq, Repr

/-- A timetable action (R224): kind 0 STATE, 1 MODE, 2 MODE lead, 3 window lead, 4 window open, 5 window close, 6 PULSE.
`te` is the occurrence it belongs to. -/
structure Action where
  instant : Nat
  weekly : Bool
  entry : Nat
  kind : Nat
  te : Nat
  mask : Nat
  p0 : Nat
  p1 : Nat
  log : Bool
deriving DecidableEq, Repr

/-- A window of a zone, open or in its lead (R224, R230): walks it has been open, duration in walks, order of application. -/
structure Win where
  zone : Nat
  entry : Nat
  te : Nat
  isOpen : Bool
  profile : Nat
  rank : Int
  secs : Nat
  dur : Nat
  weekly : Bool
  log : Bool
deriving DecidableEq, Repr

/-- A running pulse instance (R226). -/
structure Inst where
  zone : Nat
  shape : Nat
  mag : Nat
  secs : Nat
deriving DecidableEq, Repr

/-- The results of a walk, due at an own tick (R228): by zone the mode supplied, whether an entry applies, the profile used
and the profile in force; the channel values; the words 0x4F00:86 to 8D. -/
structure WalkDue where
  at_ : Nat
  supply : List (Nat × Bool × Nat × Nat)
  chan : List Real32
  words : List Nat
  /-- the walk took a committed table (R239) -/
  commits : Bool
deriving DecidableEq, Repr

/-- The timetable walker (R223 to R241). -/
structure Walker where
  /-- the next walk is a step from nothing (R236) -/
  nothing : Bool := true
  last : Nat := 0
  high : Nat := 0
  /-- profiles in force, timetable modes and MODE lead ends, by zone -/
  prof : Tab Nat := []
  mode : Tab Nat := []
  lead : Tab Nat := []
  wins : List Win := []
  insts : List Inst := []
  deferred : List Action := []
  seq : Nat := 0
  /-- actions applied, deferred, discarded, instances not started -/
  applied : Nat := 0
  nDeferred : Nat := 0
  discarded : Nat := 0
  noSlot : Nat := 0
  /-- a seconds pulse waits to be walked -/
  pulse : Bool := false
  due : List WalkDue := []
  /-- a commit whose checks passed waits for its walk, with the client to answer (R239) -/
  commit : Option Nat := none
  /-- a commit waits for its due tick -/
  answerTo : Option Nat := none
deriving DecidableEq, Repr

/-- An update of a panel in progress (R246 to R253): the compensation phase and the frames, formed at its start. -/
structure PanelRun where
  item : Option Nat
  /-- 0 an update, 1 the start-up recovery -/
  recovery : Bool
  /-- the image it drives to -/
  target : Nat
  /-- segments driven in it -/
  driven : Nat
  /-- compensation: its length in sub-steps; segment, level and sub-steps of each -/
  compLen : Nat
  comp : List (Nat × Nat × Nat)
  /-- frames: common level and segment levels (1 +VP, 2 −VP) -/
  frames : List (Nat × List Nat)
  /-- frame period and spacing in sub-steps, latched -/
  fLen : Nat
  fGap : Nat
  /-- sub-steps since the start -/
  pos : Nat
  /-- the band moved by 2 or more (R253) -/
  redrive : Bool
deriving DecidableEq, Repr

/-- The account of a panel port as a record or the hoist carries it (R258 to R262). -/
structure PanelRec where
  acc : List Int
  displayed : Nat
  /-- the target image, and the pending target: that of an update in progress or cut, else the displayed image -/
  target : Nat
  pending : Nat
  flagged : Nat
  band : Nat
  /-- an update was in progress -/
  busy : Bool
  /-- written while the port was powered, every 3 600 s (R260) -/
  periodic : Bool
  /-- the queued update, if there is one: it is a clear update (R245, R262) -/
  queued : Option Bool := none
deriving DecidableEq, Repr

/-- What the holder mirrors to the standby (R342): a write to 0x1000 to 0x507F on any path but RPDO, commands, commits and
store commands being writes too; a write group; the staged calendar fields and the second of a calendar commit (R369); a
unit record saved; the content of a store area for a joining unit (R357). -/
inductive MirrorItem where
  | write (idx sub : Nat) (data : List Byte)
  | group (items : List (Nat × Nat × List Byte))
  | calendar (fields : List (Nat × Nat)) (sec : Nat)
  | area (a : Nat) (vals : Tab (List Byte))
  | coupling (zones : List (Nat × List Nat × List Real32))
  | panel (p : Nat) (r : PanelRec)
deriving DecidableEq, Repr

/-- A panel port's hidden state (R242 to R265). Times are own ticks. -/
structure Panel where
  /-- the class whose sequences run (0 none) -/
  cls : Nat := 0
  run : Option PanelRun := none
  /-- the queued update item: item, clear update, own tick from which it may start -/
  queued : Option (Option Nat × Bool × Nat) := none
  /-- power-on or power-off asked for, from an own tick on; power-on to follow the power-off -/
  onReq : Option Nat := none
  offReq : Option Nat := none
  thenOn : Bool := false
  /-- power-on: 0 none, 1 VPP, 2 VNN, 3 recovery, 4 clear update of class L; own tick of its step -/
  onStep : Nat := 0
  onAt : Nat := 0
  /-- power-off or discharge: 0 none, 1 class L, 2 discharge; own tick of its start; steps done -/
  offKind : Nat := 0
  offAt : Nat := 0
  offStep : Nat := 0
  /-- PSU_EN0 to PSU_EN2 asked for, bit n; ties closed; drivers high-Z -/
  en : Nat := 0
  ties : Bool := false
  hiZ : Bool := true
  /-- sub-steps in a row with VPP, VNN within 5 %, and outside it -/
  okP : Nat := 0
  okN : Nat := 0
  badP : Nat := 0
  badN : Nat := 0
  /-- the band has been computed since start-up or commit; a valid value has been seen since start-up -/
  bandSet : Bool := false
  bandSeen : Bool := false
  /-- flagged for compensation, for re-drive, for recovery -/
  comp : Nat := 0
  redrive : Nat := 0
  recover : Nat := 0
  /-- front-light ramp: own tick of PSU_EN2, and of the ramp's start -/
  lightAt : Option Nat := none
  rampAt : Option Nat := none
  /-- a cut ordered for an own tick, with the reason of its item (R257, R258) -/
  cutAt : Option (Nat × Nat) := none
  /-- own tick of the last periodic record -/
  recAt : Nat := 0
  /-- retained memory: displayed image, pending target, update in progress, latched band (R259) -/
  ret : Nat × Nat × Bool × Nat := (0, 0, false, 0)
  /-- common level and segment levels driven in the running sub-step -/
  lvl : Option (Nat × List Nat) := none
  /-- own tick at which the accumulators are to be zeroed -/
  zeroAt : Option Nat := none
  /-- the pending target: that of the last update started (R258 to R261) -/
  pend : Nat := 0
deriving DecidableEq, Repr

/-- A queued transmit frame (R279): a PDO or a service frame, with the own tick at which it was queued. -/
structure TxFrame where
  frame : Frame
  pdo : Bool
  at_ : Nat
deriving DecidableEq, Repr

/-- A receive buffer (R274). -/
structure RxBuf where
  frame : Option Frame := none
  isNew : Bool := false
  isOpen : Bool := false
  shadow : Option Frame := none
  /-- stamps of the frame and of the shadow: tick and CLK_CAN cycle of the start-of-frame edge (R272) -/
  stamp : Nat × Nat := (0, 0)
  shadowStamp : Nat × Nat := (0, 0)
  overrun : Bool := false
  lost : Nat := 0
  reader : Nat := 0
deriving DecidableEq, Repr

/-- A frame in the FIFO with its stamp: tick and CLK_CAN cycle (R272). -/
structure RxFifo where
  frame : Frame
  tick : Nat
  cycle : Nat
deriving DecidableEq, Repr

/-- A CAN controller's hidden state (R266 to R292). Times are own ticks. -/
structure Can where
  txq : List TxFrame := []
  /-- the held frame of a bus-off (R284); after recovery it goes first -/
  held : Option TxFrame := none
  bufs : Tab RxBuf := []
  fifo : List RxFifo := []
  table0 : List Filter := []
  table1 : List Filter := []
  /-- the table in use; a new allocation waits for bus idle (R273) -/
  inUse : Nat := 0
  realloc : Bool := false
  /-- a change of mode waits for bus idle (R283) -/
  modeDue : Bool := false
  offAt : Nat := 0
  tryAt : Nat := 0
deriving DecidableEq, Repr

/-- The power-fail record, also the thermal record (R388). -/
structure PowerRec where
  thermal : Bool
  tick : Nat
  secs : Nat
  sub : Nat
  vina : Real32
  vinb : Real32
  temp : Real32
  dropped : Nat
  panels : List PanelRec
  entries : List LogEntry
deriving DecidableEq, Repr

/-- The firmware session record (R426): 0x2400:80 to 87 as they stood when it was written, and the header's hash. -/
structure Session where
  state : Nat := 0
  target : Nat := 0
  header : List Byte := []
  mask : Nat := 0
deriving DecidableEq, Repr

/-- The boot record (R429, R430). -/
structure Boot where
  selected : Nat := 0
  previous : Nat := 0
  trial : Nat := 0
  starts : Nat := 0
deriving DecidableEq, Repr

/-- An image slot (R425): state 0x2400:89 or 8A, header fields, SHA-256 of the header's bytes 0 to 3 711, block hashes that the
header lists, and the hashes of the blocks programmed. -/
structure Image where
  state : Nat := 0
  version : Nat := 0
  level : Nat := 0
  applic : Nat := 0
  hoistFmt : Nat := 0
  n : Nat := 0
  hash : List Byte := []
  wanted : List (List Byte) := []
  have_ : Tab (List Byte) := []
deriving DecidableEq, Repr

/-- A firmware item waiting or in progress: block `num` with the hash of its data, or a commit (`num` 64). -/
structure FwJob where
  client : Nat
  item : Option Nat
  num : Nat
  hash : List Byte
deriving DecidableEq, Repr

/-- Firmware update (R425 to R431). -/
structure Fw where
  imgA : Image := {}
  imgB : Image := {}
  boot : Option Boot := none
  /-- hash of the open session's header -/
  session : List Byte := []
  jobs : List FwJob := []
  /-- own tick of a restart by 0x2400:11 or 0x260C:03 (R430, R446) -/
  restartAt : Option Nat := none
deriving DecidableEq, Repr

/-- A verified configuration image being applied (R443): client, image sequence, signing slot, the own tick of its held values, its
key-slot and policy entries, whether a store follows, and the store's item. -/
structure ImageJob where
  client : Nat
  seq : Nat
  slot : Nat
  due : Nat
  keys : List (Nat × Nat × List Byte)
  store : Bool
  storeItem : Option Nat := none
deriving DecidableEq, Repr

/-- Security (R435 to R450): debug challenge with its own tick, an accepted response due at a tick, the attestation queue,
reports by client, newest first, and the signing slot of the last accepted image. -/
structure Sec where
  challenge : Option (List Byte × Nat) := none
  unlockAt : Option Nat := none
  unlocked : Bool := false
  nonces : List (Nat × List Byte × Option Nat) := []
  /-- the 256 signed bytes of the report being signed -/
  signing : Option (List Byte) := none
  reports : List (Nat × List Byte) := []
  lastSlot : Nat := 255
  job : Option ImageJob := none
deriving DecidableEq, Repr

/-- A tag of the host port (R325, R326): what was asked, and the response when it is ready. -/
structure HostTag where
  idx : Nat
  sub : Nat
  resp : Option (Bool × List Byte) := none
deriving DecidableEq, Repr

/-- An open SEG_WRITE (R328). -/
structure SegWrite where
  idx : Nat
  sub : Nat
  total : Nat
  data : List Byte
  at_ : Nat
  item : Option Nat
  /-- the gap was too long: the next segment is answered with 0x05040000 -/
  late : Bool
deriving DecidableEq, Repr

/-- A page of the process-image window (R329, R330). -/
structure Page where
  data : List Byte := []
  shadow : Option (List Byte) := none
  isOpen : Bool := false
  count : Nat := 0
deriving DecidableEq, Repr

/-- What a queued host request asks (R324): `bulk` with offset and count; `reply` is an answer that waits its turn (a segment of
SEG_WRITE before the last). -/
inductive HostOp where
  | read (idx sub : Nat)
  | write (idx sub : Nat) (data : List Byte)
  | readRecord (idx : Nat)
  | writeRecord (idx : Nat) (payload : List Byte)
  | bulk (idx sub off count : Nat)
  | reply (code : Nat)
deriving DecidableEq, Repr

/-- The host port (R320 to R333). -/
structure HostPort where
  /-- byte 3 of the prefix -/
  last : Nat := 0
  tags : Tab HostTag := []
  /-- requests waiting for service, with tag and work item -/
  queue : List (Nat × Nat × HostOp) := []
  seg : Option SegWrite := none
  bulk : Option (Nat × Nat × List Byte × Nat) := none
  /-- page assignments in use -/
  assign : Tab Nat := []
  pages : Tab Page := []
  /-- page data not yet written -/
  pageDue : List (Nat × List Byte) := []
  /-- byte 63 bit 0 of page 0 -/
  lost : Bool := false
deriving DecidableEq, Repr

/-- Reset and start-up (R470 to R481). Phase: 0 reset asserted, 1 released, 2 configuration loaded, 3 controllers enabled,
4 start-up record built, 5 boot-up. -/
structure Rst where
  phase : Nat := 0
  /-- causes asserted -/
  causes : List Nat := [0]
  cause : Nat := 0
  prevCause : Nat := 0
  /-- the boot ROM holds: neither image passed (R438) -/
  romHold : Bool := false
  bootResult : Nat := 0
  imageBooted : Nat := 255
  retries : Nat := 0
  starts : Nat := 0
  startMode : Bool := false
  /-- calendar latched at assertion: seconds, sub-second, valid -/
  latch : Nat × Nat × Bool := (0, 0, false)
  /-- start-up record: table retained, power-fail record read, thermal record read, lost without record; entries; first new
  identifier; entries dropped -/
  recFlags : Nat := 0
  recItems : Tab WorkItem := []
  recFirst : Nat := 0
  recDropped : Nat := 0
  recBuilt : Bool := false
  /-- CFG_DEFAULTS was set during this start-up (R431, R478) -/
  defaults : Bool := false
  /-- the work table survived -/
  tableKept : Bool := false
  /-- store write number at the previous start-up -/
  writeNo : Nat := 0
  /-- own tick of the operational tick -/
  opAt : Option Nat := none
  /-- NMT reset in progress: boot-up is due -/
  nmtReset : Bool := false
  /-- HEALTH_OUT's level; base periods run; ticks since the watchdog was written -/
  healthOut : Bool := false
  commits : Nat := 0
  wdAge : Nat := 0
deriving DecidableEq, Repr

/-- The TAP (R447, R490, R491): the instruction's code, the 402 boundary cells (cell n is bit n), what the selected data register
captured, a hold under EXTEST, CLAMP or HIGHZ, and internal debug access by a private instruction. -/
structure Tap where
  ir : Nat := 1
  cells : Nat := 0
  dr : Nat := 0
  hold : Bool := false
  access : Bool := false
deriving DecidableEq, Repr

/-- A slew (R371): its counts C, the ms it was given, seconds already slewed, and whether its first second has begun. -/
structure Slew where
  c : Int
  d : Rat
  i : Nat
  begun : Bool
deriving DecidableEq, Repr

/-- A client's shadows (R366): frozen at an own tick. -/
structure Shadow where
  client : Nat
  at_ : Nat
  secs : Nat
  sub : Nat
deriving DecidableEq, Repr

/-- The calendar and the backup domain (R361 to R385). The domain's other values are the sub-indices of 0x2300 and
0x2310 that another memory holds. -/
structure Cal where
  /-- UTC seconds since 2000-01-01 -/
  secs : Nat := 0
  /-- own tick at which the prescaler was last set, and what it was set to -/
  pulseAt : Nat := 0
  sub0 : Nat := 0
  slew : Option Slew := none
  /-- staged fields by client: sub-index and value, with the own tick of its last write (R368) -/
  stage : Tab (List (Nat × Nat) × Nat) := []
  /-- newest first, at most 16 -/
  shadows : List Shadow := []
  /-- the oscillator is stopped (SHIP) -/
  stopped : Bool := false
  /-- the pin PWRON -/
  pwron : Bool := true
  /-- PWRON is to be deasserted (R400 step 4), for SHIP or not -/
  offDue : Option Bool := none
  /-- retained blocks whose CRC fails -/
  retBad : List Nat := [0, 1, 2, 3, 4, 5, 6, 7]
  /-- the latched trip flag (R412) -/
  trip : Bool := false
  /-- the stop detector has recorded an oscillator stop while the device was off (R382) -/
  oscStop : Bool := false
deriving DecidableEq, Repr

/-- A mains feed's monitor (R390 to R397). Times are in ns of `nowNs`. -/
structure Feed where
  /-- voltages of the tick-pass samples, newest first, at most 200; the same of the check input -/
  xs : List Rat := []
  cs : List Rat := []
  /-- the sample of the last period stands at the head of `xs` -/
  fresh : Bool := false
  /-- since the previous accepted crossing the signal has been below −h, above +h -/
  below : Bool := false
  above : Bool := false
  /-- the last accepted crossing, the last positive-going one, and the last that R113 sees -/
  last : Option Nat := none
  lastPos : Option Nat := none
  seen : Nat := 0
  /-- accepted periods since the history was cleared, newest first, at most 4; the mean last computed -/
  periods : List Nat := []
  pbar : Option Rat := none
  /-- own tick of the next close while crossings are absent, in ns -/
  nextClose : Option Rat := none
  /-- periods in a row outside and inside the band -/
  outRun : Nat := 0
  inRun : Nat := 0
  /-- an event: start (own tick), class recorded, extreme -/
  ev : Option (Nat × Nat × Real32) := none
  /-- a close has been made -/
  closed : Bool := false
  /-- closes in a row beyond and within the check limit (R391) -/
  missRun : Nat := 0
  okRun : Nat := 0
deriving DecidableEq, Repr

/-- Supply and power states (R386 to R400). Times are own ticks. -/
structure Power where
  feeds : Tab Feed := []
  /-- ticks for which the target has stayed below the shed level (R397) -/
  shedLow : Nat := 0
  /-- PFW_n accepted; the power-fail record is due at this tick; entries that lead it (R466) -/
  recordAt : Option Nat := none
  lead : List LogEntry := []
  /-- voltages and count at step 1 of R387 -/
  pfTick : Nat := 0
  pfSecs : Nat := 0
  pfSub : Nat := 0
  /-- entry to SLEEP (false) or SHIP (true) began at this tick -/
  entry : Option (Nat × Bool) := none
  /-- the regulators are off: the backup domain alone runs -/
  off : Bool := false
deriving DecidableEq, Repr

/-- The thermal unit (R404 to R412). Temperatures are in steps of 0.25 K; times are own ticks. -/
structure Thermal where
  /-- measurements in a row at which a sensor was bad, and was good -/
  bad : Tab Nat := []
  good : Tab Nat := []
  /-- the last ten H with their times, newest first -/
  hs : List (Nat × Int) := []
  /-- add interval: its start and the H at it; remove interval: its start -/
  addAt : Nat := 0
  addH : Int := 0
  removeAt : Option Nat := none
  /-- ticks spent throttled -/
  throttled : Nat := 0
  /-- start of the orderly stop, its budget in µs -/
  stopAt : Option Nat := none
  /-- 1 thermal shutdown, 2 hardware trip -/
  hold : Nat := 0
  /-- measurements in a row below 100 °C while held -/
  cool : Nat := 0
deriving DecidableEq, Repr

/-- A frame of the building pair that may still meet its copy from the other bus (R298): time in ns. -/
structure Seen where
  bus : Nat
  id : Nat
  data : List Byte
  at_ : Nat
deriving DecidableEq, Repr

/-- An RPDO's state: the last accepted sequence number with its own tick, the own tick of the last reception, whether its
time-out has been reported, and values that wait for a SYNC (R297, R300, R302). -/
structure Rpdo where
  seq : Option (Nat × Nat) := none
  rxAt : Option Nat := none
  timed : Bool := false
  pend : Option (List (Nat × Nat × List Byte)) := none
deriving DecidableEq, Repr

/-- A TPDO's state (R301): count of its first assembly in the operational state, own tick and values of the last one, SYNCs
counted since, and whether an assembly is wanted. -/
structure Tpdo where
  k0 : Option Nat := none
  sentAt : Option Nat := none
  last : Option (List Byte) := none
  syncs : Nat := 0
  want : Bool := false
deriving DecidableEq, Repr

/-- A segmented USDO download (R308): its total length, own tick and bus of its last segment, and whether the other bus
delivered it too. -/
structure Transfer where
  item : Nat
  idx : Nat
  sub : Nat
  len : Nat
  data : List Byte
  at_ : Nat
  bus : Nat
  both : Bool
deriving DecidableEq, Repr

/-- A USDO request waiting for service (R307): client, work item, and what it asks. -/
structure UsdoReq where
  client : Nat
  item : Nat
  op : UsdoOp
deriving DecidableEq, Repr

/-- A field node (R314 to R316). Times are own ticks. Transfer step: 0 none, 1 to 3 identity, 4 configuration. -/
structure FieldNode where
  deadline : Nat := 0
  heardAt : Option Nat := none
  retryAt : Nat := 0
  xfer : Nat := 0
  item : Option Nat := none
  waiting : Bool := false
  at_ : Nat := 0
  tries : Nat := 0
  started : Bool := false
deriving DecidableEq, Repr

/-- Network services (R293 to R319). Times are own ticks. -/
structure Net where
  /-- NMT commands due at a tick, in order of acceptance -/
  nmtDue : List (Nat × Nat) := []
  /-- an NMT command has been accepted since start-up (R478) -/
  nmtSeen : Bool := false
  bootAt : Option Nat := none
  /-- requests are being served (R307) -/
  serving : Bool := false
  seen : List Seen := []
  /-- PDOs in use that are valid -/
  rValid : List Nat := []
  tValid : List Nat := []
  rpdo : Tab Rpdo := []
  tpdo : Tab Tpdo := []
  syncCtr : Option Nat := none
  syncDue : Option Nat := none
  /-- last write of each remote slot -/
  slotAt : Tab Nat := []
  hbAt : Nat := 0
  /-- consumers by entry of 0x1016: last heartbeat -/
  heard : Tab Nat := []
  xfers : Tab Transfer := []
  reqs : List UsdoReq := []
  nodes : Tab FieldNode := []
  fieldBoot : Bool := false
deriving DecidableEq, Repr

/-- A hoist (R344): the holder's state as the standby continues from it. DESIGN CHOICE, safe: log entry 139. -/
structure Hoist where
  number : Nat
  tick : Nat
  /-- the holder's own tick at capture: the model's way to carry the times of the parts below over to another device -/
  own : Nat
  epoch : Nat
  final : Bool
  format : Nat
  mirrorSeq : Nat
  version : Nat
  hash : List Byte
  /-- live sub-indices of loops, zones, decoupling, timetable, position, panels and ports -/
  live : Tab (List Byte)
  loops : Tab Loop
  zones : Tab Zone
  walker : Walker
  pos : Tab Pos
  panels : List PanelRec
  ports : Tab Port
  currents : Tab Real32
  work : Tab WorkItem
  nmt : Nat
  /-- TPDO first-assembly ticks -/
  k0 : Tab Nat
  /-- consumers by entry of 0x1016: last heartbeat, in own ticks of the holder; the entries whose producer is lost -/
  heard : Tab Nat := []
  lost : List Nat := []
deriving DecidableEq, Repr

/-- A planned swap (R353): incoming unit, window, final hoist tick h, window start h' and end e (base tick counts); the
final hoist has been acknowledged or loaded; the window runs; withdrawn. -/
structure SwapPlan where
  unit : Nat
  h : Nat
  hp : Nat
  e : Nat
  finalDone : Bool := false
  started : Bool := false
  withdrawn : Bool := false
deriving DecidableEq, Repr

/-- What the witness knows of a unit (R349): own tick in 10 µs steps of the last HEALTH_OUT edge, newest HEALTH with its own
tick, kills with their own ticks. -/
structure WitUnit where
  edgeAt : Option Nat := none
  role : Nat := 255
  epoch : Nat := 0
  heardAt : Option Nat := none
  kills : List Nat := []
  killAt : Option Nat := none
deriving DecidableEq, Repr

/-- A GRANT that waits for its REPORT (R349): unit, order number, epoch, own tick, the unit to break from and whether it is killed. -/
structure Grant where
  unit : Nat
  num : Nat
  epoch : Nat
  at_ : Nat
  old : Option Nat
  kill : Bool
deriving DecidableEq, Repr

/-- The witness (R349, R356, R358): the lines ENSIGN and KILL_n (true: asserted, killed) that it drives. DEDUCED, unsafe: log
entry 145. -/
structure Wit where
  units : Tab WitUnit := []
  grant : Option Grant := none
  num : Nat := 0
  ctr : Nat := 0
  ensign : Nat := 0
  kill : Nat := 0
  /-- latch enable FP6: the witness has adopted or granted a holder -/
  latch : Bool := false
  /-- a swap ordered: incoming unit, window, and own tick of the window end once REPORT accepted it -/
  swap : Option (Nat × Nat × Option Nat) := none
  /-- own tick at which the witness started to wait for a cold start -/
  since : Nat := 0
  epoch : Nat := 0
  sentAt : Nat := 0
deriving DecidableEq, Repr

/-- The duplex pair (R334 to R358). Times are own ticks. -/
structure Dup where
  /-- controller modes that a swap sets (R353) -/
  modes : Tab Nat := []
  /-- armed: epoch, own tick, previous role -/
  armed : Option (Nat × Nat × Nat) := none
  /-- the armed unit's units are awake and its hoist is loaded, or no hoist was to be loaded -/
  loaded : Bool := false
  heardAt : Option Nat := none
  partnerEpoch : Nat := 0
  beaconAt : Option Nat := none
  healthAt : Nat := 0
  healthCtr : Nat := 0
  /-- a swap requested by 0x2500:10 -/
  swapReq : Bool := false
  /-- newest valid hoists, newest first, at most two; hoist number; own tick of the last valid one -/
  hoists : List Hoist := []
  number : Nat := 0
  hoistAt : Option Nat := none
  /-- a segment of the hoist being received failed its CRC -/
  segBad : Bool := false
  /-- the state at the newest hoist tick, copied on write (R343) -/
  snap : Option Hoist := none
  /-- hoists captured and not yet acknowledged, newest first, each with its item and own tick -/
  sent : List (Hoist × Option Nat × Nat) := []
  /-- the output mirror: duties of the ports × 65 535, set-points of the channels -/
  mirrorOut : Option (List Nat × List Int) := none
  /-- mirror items not acknowledged: sequence number and item; own tick of the last sending of the first; its sendings -/
  mirrorQ : List (Nat × MirrorItem) := []
  mirrorAt : Nat := 0
  mirrorTries : Nat := 0
  joined : Bool := false
  /-- the next mirror item starts the count anew (R357) -/
  mirrorSync : Bool := true
  swap : Option SwapPlan := none
  wit : Wit := {}
deriving DecidableEq, Repr

/-- The payload of a store record (R423). -/
inductive Payload where
  | params (vals : Tab (List Byte))
  | coefs (vals : Tab (Real32 × Real32))
  | coupling (zones : List (Nat × List Nat × List Real32))
  | panel (r : PanelRec)
  | power (r : PowerRec)
  | hoist (h : Hoist)
  | hoistRest (number : Nat)
  | session (x : Session)
  | boot (x : Boot)
deriving DecidableEq, Repr

/-- A valid bank (R416, R419). DEDUCED, unsafe: log entry 178. -/
structure Bank where
  seq : Nat
  serial : Nat
  writeNo : Nat
  payload : Payload
deriving DecidableEq, Repr

/-- A record: its two banks and their erase counts. -/
structure Record where
  b0 : Option Bank := none
  b1 : Option Bank := none
  e0 : Nat := 0
  e1 : Nat := 0
deriving DecidableEq, Repr

/-- What a queued store item writes. -/
inductive StoreWork where
  /-- the areas 2, 3, 4 of 0x1010 -/
  | save (areas : List Nat)
  | restore (areas : List Nat)
  | coupling
  | coefs
  | panel (p : Nat) (periodic : Bool)
  | hoist (h : Hoist)
deriving DecidableEq, Repr

/-- A store item waiting or in progress: its work item, the client to answer. -/
structure StoreReq where
  item : Option Nat
  client : Option Nat
  work : StoreWork
deriving DecidableEq, Repr

/-- A journal entry (R424): the item's own object, and the object concerned. -/
structure Journal where
  id : Nat
  obj : Nat
  idx : Nat
  sub : Nat
  kind : Nat
  origin : Nat
  /-- target tags with the sequence number, or areas with the store serial, or (0, block number) -/
  targets : List (Nat × Nat)
  tick : Nat
  mark : Bool
deriving DecidableEq, Repr

/-- The persistent store (R416 to R424). -/
structure Store where
  recs : Tab Record := []
  /-- last store serial of each area -/
  serials : Tab Nat := []
  queue : List StoreReq := []
  /-- the item in progress, its bank writes still to be done (tag, serial, payload), and the attempt of the first -/
  active : Option StoreReq := none
  writes : List (Nat × Nat × Payload) := []
  attempt : Nat := 0
  journal : List Journal := []
  /-- own tick of the last periodic save of the learned coupling (R216) -/
  couplingAt : Nat := 0
  /-- banks, tag and bank 1 or not, whose payload CRC fails when they are read (R420) -/
  decayed : List (Nat × Bool) := []
  /-- own tick of the last coefficients and hoist records -/
  coefsAt : Option Nat := none
  hoistAt : Option Nat := none
  hoistsSince : Nat := 0
deriving DecidableEq, Repr

/-- A request whose answer waits for work it started: client, object, its own work item if it has one, its host-port tag. -/
structure Waiting where
  client : Nat
  idx : Nat
  item : Option Nat
  tag : Option Nat
deriving DecidableEq, Repr

end Sys2Proof.Machine
end

