-- ==== Sys2Proof/Syntax.lean ====
section
/-! DEFINITION. The commands: one constructor for each row of the operation table, with what the world gives with it. Times `off`
are in ns after the last tick; `client` is a node-ID, or 0x80 for the host port. -/
namespace Sys2Proof

/-- The commands of the block. -/
inductive Instr where
  /-- BASE_TICK. Tick k and base period k; `inp` is what the outside world gives in the period (R20). -/
  | baseTick (inp : TickIn)
  /-- PORT_FAULT_RETRY. `agrees`: the readback met the level driven for one tick (R103). -/
  | portFaultRetry (n : Nat) (agrees : Bool)
  /-- STANDSTILL_TIMEOUT. The standstill timeout of a channel (R133). -/
  | standstillTimeout (c : Nat) (off : Nat)
  /-- SSI_FRAME_COMPLETE. The bits shifted in, and the levels of PB at the start and the end of the frame (R126, R127). -/
  | ssiFrameComplete (c : Nat) (value : Nat) (startHigh : Bool) (endLow : Bool) (off : Nat)
  /-- HALF_CYCLE_CLOSE_TIMEOUT. A close falls due on a feed without crossings (R395). -/
  | halfCycleCloseTimeout (f : Nat)
  /-- CROSSING_LOSS. No accepted crossing of a feed for 25 ms (R392). -/
  | crossingLoss (f : Nat) (off : Nat)
  /-- SHED_LEVEL_FALL. The hold time of a lower target has passed (R397). -/
  | shedLevelFall
  /-- ZXO_DECISION_POINT. A decision point of a burst port (R115). -/
  | zxoDecisionPoint (n : Nat) (off : Nat)
  /-- ZXO_CROSSING_LOST. No crossing of a port's feed for 25 ms (R113). -/
  | zxoCrossingLost (n : Nat) (off : Nat)
  /-- PWM_CYCLE_START. A PWM cycle starts (R112). -/
  | pwmCycleStart (n : Nat) (off : Nat)
  /-- FIELD_PORT_EDGE. The pin changes to `level` and stays there for `held` CLK_POS cycles; `off` is when the glitch filter's time
  after the edge ends (R105). -/
  | fieldPortEdge (n : Nat) (level : Bool) (held : Nat) (off : Nat)
  /-- DEBOUNCE_EXPIRED. A level has differed for the debounce time (R105). -/
  | debounceExpired (n : Nat) (off : Nat)
  /-- PRESENCE_STRETCH_EXPIRED. The stretch timer of a presence input (R107). -/
  | presenceStretchExpired (n : Nat) (off : Nat)
  /-- ENCODER_EDGE. New levels of the inputs, how long they last, and whether the direction level was stable around the edge (R121 to R125). -/
  | encoderEdge (c : Nat) (a : Bool) (b : Bool) (z : Bool) (stable : Bool) (held : Nat) (off : Nat)
  /-- INDEX_EVENT. An edge of the index input (R130). -/
  | indexEvent (c : Nat) (edge : IndexEdge) (off : Nat)
  /-- COMPARE_PULSE_END. The compare pulse ends (R138). -/
  | comparePulseEnd (c : Nat) (off : Nat)
  /-- RAIL_VERIFY_TIMEOUT. A rail is not verified in time (R255). -/
  | railVerifyTimeout (p : Nat)
  /-- PANEL_POWER_OFF_STEP. A timed step of power-off or discharge (R256, R257). -/
  | panelPowerOffStep (p : Nat)
  /-- LIGHT_RAMP_START. 20 ms after PSU_EN2 (R255). -/
  | lightRampStart (p : Nat)
  /-- PANEL_RECORD_PERIODIC. The record of every 3 600 s (R259). -/
  | panelRecordPeriodic (p : Nat)
  /-- CALIBRATION_WINDOW_START. `spCoef`: offset and gain by range that SP's own calibration would give (R88 to R90). -/
  | calibrationWindowStart (spCoef : List (Real32 × Real32))
  /-- CALIBRATION_RECONNECT. `coef`: what the calibration of the slice gave, by range (R89). -/
  | calibrationReconnect (coef : List (Real32 × Real32))
  /-- CALIBRATION_WINDOW_END. The slice takes its inputs back, or the failure handling follows (R89, R90). -/
  | calibrationWindowEnd
  /-- SPARE_SELF_CALIBRATION. `coef`: what the calibration of SP gives, by range (R88). -/
  | spareSelfCalibration (coef : List (Real32 × Real32))
  /-- INJECTION_DETECTED. A clamp detector of a channel becomes active or inactive; `strong`: above 1 mA (R83, R84). -/
  | injectionDetected (ch : Nat) (above : Bool) (below : Bool) (strong : Bool) (on : Bool) (off : Nat)
  /-- SRAM_SCRUB. The scrubber finds an error at a location; `fatal`: uncorrectable (R36). -/
  | sramScrub (region : Region) (loc : Nat) (fatal : Bool)
  /-- SECONDS_PULSE. The prescaler wraps (R374). -/
  | secondsPulse
  /-- TIMETABLE_WALK. The walk of the current second (R229). -/
  | timetableWalk
  /-- WALK_RESULTS_DUE. A walk's results come into force at the tick to come (R228). -/
  | walkResultsDue
  /-- TRIM_PERIOD. A trim period of 32 s begins (R381). -/
  | trimPeriod
  /-- TRIM_TEMPERATURE_SAMPLE. The temperature for the trim (R381). -/
  | trimTemperatureSample
  /-- RTC_OSC_FAIL. CLK_RTC stopped or ran out of tolerance (R382). -/
  | rtcOscFail
  /-- BACKUP_RESET. The backup supply fell below its threshold (R361). -/
  | backupReset
  /-- WAKE_EVENT. WAKE has held its active level (R378). -/
  | wakeEvent
  /-- CALENDAR_FIELD_WRITE. A staged field, year to minute (R368). -/
  | calendarFieldWrite (client : Nat) (sub : Nat) (value : Nat) (off : Nat)
  /-- CALENDAR_COMMIT. The second, which sets the calendar (R369). -/
  | calendarCommit (client : Nat) (value : Nat) (off : Nat)
  /-- CALENDAR_STAGE_TIMEOUT. Ten seconds without a staged field (R368). -/
  | calendarStageTimeout (client : Nat)
  /-- CALENDAR_READ. A read of a calendar field (R366). -/
  | calendarRead (client : Nat) (sub : Nat)
  /-- CALENDAR_SHADOW_TIMEOUT. 500 ms after the freeze (R366). -/
  | calendarShadowTimeout (client : Nat)
  /-- ADJUSTMENT_REQUEST. An adjustment by `ms` (R370). -/
  | adjustmentRequest (client : Nat) (ms : Int) (off : Nat)
  /-- ALARM_WRITE. An alarm's mode or time (R375). -/
  | alarmWrite (client : Nat) (a : Nat) (sub : Nat) (data : List Byte) (off : Nat)
  /-- DICTIONARY_WRITE. A write to any sub-index (R42 to R50). -/
  | dictionaryWrite (client : Nat) (idx : Nat) (sub : Nat) (data : List Byte) (off : Nat)
  /-- STRUCTURAL_WRITE. A write to a structural sub-index (R51). -/
  | structuralWrite (client : Nat) (idx : Nat) (sub : Nat) (data : List Byte) (off : Nat)
  /-- CONFIGURATION_COMMIT. 0x2000:10 = 1 (R52). -/
  | configurationCommit (client : Nat) (off : Nat)
  /-- COMMIT_TICK. The commit tick is the one to come (R53). -/
  | commitTick
  /-- DISCARD_STAGING. 0x2000:10 = 2 (R51). -/
  | discardStaging (client : Nat) (off : Nat)
  /-- OPEN_WRITE_GROUP. 0x2000:17 = 1 (R54). -/
  | openWriteGroup (client : Nat) (off : Nat)
  /-- APPLY_WRITE_GROUP. 0x2000:17 = 2 (R56). -/
  | applyWriteGroup (client : Nat) (off : Nat)
  /-- DISCARD_WRITE_GROUP. 0x2000:17 = 3 (R56). -/
  | discardWriteGroup (client : Nat) (off : Nat)
  /-- WRITE_GROUP_TIMEOUT. Ten seconds without a write of the group (R56). -/
  | writeGroupTimeout (client : Nat)
  /-- STORE_PARAMETERS. The signature "save" (R61). -/
  | storeParameters (client : Nat) (sub : Nat) (off : Nat)
  /-- RESTORE_DEFAULTS. The signature "load" (R62). -/
  | restoreDefaults (client : Nat) (sub : Nat) (off : Nat)
  /-- BANK_WRITE_COMPLETE. The header and the payload as they are read back (R418). -/
  | bankWriteComplete (bank : BankBytes)
  /-- LOG_MIRROR. The mirror of every 10 s (R457). -/
  | logMirror
  /-- LOG_READ_ENTRY. A read of 0x2710:02 (R458). -/
  | logReadEntry (client : Nat)
  /-- LOG_READ_ENTRIES. A read of 0x2710:03 (R458). -/
  | logReadEntries (client : Nat)
  /-- CLEAR_PENNANTS. A write to 0x2700:11+j (R452). -/
  | clearPennants (client : Nat) (j : Nat) (mask : Nat) (off : Nat)
  /-- SWAP_REQUEST. A bank swap is asked for (R179). -/
  | swapRequest (client : Nat) (n : Nat) (off : Nat)
  /-- SWAP_TICK. The swap tick of a loop is the one to come (R180). -/
  | swapTick (n : Nat)
  /-- CLEAR_LANE_FAULT. A faulted loop is restarted (R171). -/
  | clearLaneFault (client : Nat) (n : Nat) (off : Nat)
  /-- LOOP_MODE_CHANGE. A mode for the loop's next boundary (R185). -/
  | loopModeChange (client : Nat) (n : Nat) (mode : Nat) (off : Nat)
  /-- TRACE_ARM. Trace command 1 (R190). -/
  | traceArm (client : Nat) (off : Nat)
  /-- TRACE_FORCE_TRIGGER. Trace command 2 (R190). -/
  | traceForceTrigger (client : Nat) (off : Nat)
  /-- TRACE_STOP. Trace command 3 (R190). -/
  | traceStop (client : Nat) (off : Nat)
  /-- COUNT_PRESET. A counter is preset at tick s + 1 (R106). -/
  | countPreset (client : Nat) (n : Nat) (value : Nat) (off : Nat)
  /-- POSITION_PRESET. A count is preset at the next latch (R129). -/
  | positionPreset (client : Nat) (c : Nat) (value : Int) (off : Nat)
  /-- RE_REFERENCE. 0x3200+c:89 = 1 (R131). -/
  | reReference (client : Nat) (c : Nat) (off : Nat)
  /-- COMPARE_ARM. 0x3210+c:84 = 1 (R137). -/
  | compareArm (client : Nat) (c : Nat) (off : Nat)
  /-- COMPARE_DISARM. 0x3210+c:84 = 2 (R137). -/
  | compareDisarm (client : Nat) (c : Nat) (off : Nat)
  /-- ESTIMATOR_REINIT_COMMAND. 0x3C00+z:86 = 1 (R206). -/
  | estimatorReinitCommand (client : Nat) (z : Nat) (off : Nat)
  /-- LEARNING_RESET. 0x3C80+i:89 = 1 (R215). -/
  | learningReset (client : Nat) (z : Nat) (off : Nat)
  /-- LEARNING_SAVE. 0x3C80+i:89 = 2 (R216). -/
  | learningSave (client : Nat) (z : Nat) (off : Nat)
  /-- LEARNED_COUPLING_PERIODIC. The save of every 3 600 s while any zone learns (R216). -/
  | learnedCouplingPeriodic
  /-- TIMETABLE_ENTRY_WRITE. An entry, profile, shape or offset (R238). -/
  | timetableEntryWrite (client : Nat) (idx : Nat) (sub : Nat) (data : List Byte) (off : Nat)
  /-- TIMETABLE_COMMIT. 0x4F00:80 = 1 (R239). -/
  | timetableCommit (client : Nat) (off : Nat)
  /-- TIMETABLE_DISCARD. 0x4F00:80 = 2 (R239). -/
  | timetableDiscard (client : Nat) (off : Nat)
  /-- PANEL_UPDATE_REQUEST. Port command 1 (R245). -/
  | panelUpdateRequest (client : Nat) (p : Nat) (off : Nat)
  /-- PANEL_CLEAR_UPDATE_REQUEST. Port command 2 (R245). -/
  | panelClearUpdateRequest (client : Nat) (p : Nat) (off : Nat)
  /-- PANEL_POWER_ON. Port command 3 (R255). -/
  | panelPowerOn (client : Nat) (p : Nat) (off : Nat)
  /-- PANEL_POWER_OFF. Port command 4 (R256). -/
  | panelPowerOff (client : Nat) (p : Nat) (off : Nat)
  /-- TARGET_IMAGE_WRITE. A target image (R245). -/
  | targetImageWrite (client : Nat) (p : Nat) (image : Nat) (off : Nat)
  /-- ACCUMULATOR_ZERO. 0x3340+p:B0 = 1 (R265). -/
  | accumulatorZero (client : Nat) (p : Nat) (off : Nat)
  /-- FRAME_RECEIVED. A frame becomes valid, with its start-of-frame edge; `opened`: the buffer's reader opens it right after (R272). -/
  | frameReceived (x : Nat) (f : Frame) (start : FrameStart) (opened : Bool)
  /-- BUFFER_RELEASE. A reader releases a buffer, or the oldest frame of the FIFO for 64 (R274). -/
  | bufferRelease (x : Nat) (n : Nat)
  /-- FILTER_TABLE_SWITCH. The new allocation takes over at bus idle (R273). -/
  | filterTableSwitch (x : Nat) (filters : List Filter)
  /-- FRAME_SUBMITTED. A frame is queued (R280). -/
  | frameSubmitted (x : Nat) (f : Frame) (pdo : Bool)
  /-- FRAME_TRANSMITTED. The frame that wins arbitration is sent (R270, R272, R277). -/
  | frameTransmitted (x : Nat) (sent : FrameSent)
  /-- CAN_ERROR. An error as transmitter or receiver, of a kind, in the data phase or not, counted by eight or by one; `delay`: the
  loop delay where the frame got past the edge at which it is measured (R270, R284). -/
  | canError (x : Nat) (tx : Bool) (kind : Nat) (dataPhase : Bool) (count : ErrorCount)
  /-- BUS_OFF_HOLDOFF_EXPIRED. The hold-off ends (R285). -/
  | busOffHoldoffExpired (x : Nat)
  /-- START_RECOVERY. 0x2800+x:11 = 1 (R285). -/
  | startRecovery (client : Nat) (x : Nat) (off : Nat)
  /-- RECOVERY_COMPLETE. 128 recessive sequences (R285). -/
  | recoveryComplete (x : Nat)
  /-- SOLITARY_RETRY. One single-shot attempt, with the loop delay and the start-of-frame edge of the frame (R270, R272, R286). -/
  | solitaryRetry (x : Nat) (attempt : Attempt)
  /-- CAN_MODE_CHANGE. The bus is idle (R283). -/
  | canModeChange (x : Nat)
  /-- CAN_MODE_REQUEST. 0x2800+x:0C (R282). -/
  | canModeRequest (client : Nat) (x : Nat) (mode : Nat) (off : Nat)
  /-- NMT_START. NMT command 0x01 for a node, or 0 for all (R296). -/
  | nmtStart (node : Nat) (off : Nat)
  /-- NMT_STOP. NMT command 0x02 for a node, or 0 for all (R296). -/
  | nmtStop (node : Nat) (off : Nat)
  /-- NMT_ENTER_PRE_OPERATIONAL. NMT command 0x80 for a node, or 0 for all (R296). -/
  | nmtEnterPreOperational (node : Nat) (off : Nat)
  /-- NMT_RESET_APPLICATION. NMT command 0x81 for a node, or 0 for all (R296). -/
  | nmtResetApplication (node : Nat) (off : Nat)
  /-- NMT_RESET_COMMUNICATION. NMT command 0x82 for a node, or 0 for all (R296). -/
  | nmtResetCommunication (node : Nat) (off : Nat)
  /-- RPDO_RECEIVED. RPDO n arrives (R302). -/
  | rpdoReceived (n : Nat) (data : List Byte) (off : Nat)
  /-- RPDO_TIMEOUT. The event timer of RPDO n (R302). -/
  | rpdoTimeout (n : Nat)
  /-- REMOTE_SLOT_TIMEOUT. The timeout of a remote signal slot (R303). -/
  | remoteSlotTimeout (n : Nat)
  /-- SYNC_RECEIVED. A SYNC with its counter, if it carries one (R312). -/
  | syncReceived (ctr : Option Nat) (off : Nat)
  /-- TIME_RECEIVED. A TIME frame, as ms since 2000-01-01 (R313). -/
  | timeReceived (ms : Int)
  /-- TPDO_ASSEMBLY. TPDO n is assembled at the present tick (R301). -/
  | tpdoAssembly (n : Nat)
  /-- HEARTBEAT_PRODUCE. The heartbeat falls due (R311). -/
  | heartbeatProduce
  /-- HEARTBEAT_RECEIVED. Node k's heartbeat, on the building pair or the field bus (R311). -/
  | heartbeatReceived (field : Bool) (k : Nat) (st : Nat)
  /-- HEARTBEAT_CONSUMER_TIMEOUT. The time of an entry of 0x1016 (R311). -/
  | heartbeatConsumerTimeout (entry : Nat)
  /-- EMCY_SEND. The oldest EMCY is sent (R309). -/
  | emcySend
  /-- USDO_REQUEST. A node's request (R306). -/
  | usdoRequest (client : Nat) (op : UsdoOp) (off : Nat)
  /-- USDO_SEGMENT_TIMEOUT. A segmented transfer is idle (R308). -/
  | usdoSegmentTimeout (client : Nat)
  /-- FIELD_NODE_BOOT. 200 ms after boot-up (R314). -/
  | fieldNodeBoot
  /-- FIELD_NODE_BOOT_UP. Node k's boot-up, and its answers to the transfers that follow (R314). -/
  | fieldNodeBootUp (k : Nat) (resp : NodeResp)
  /-- FIELD_NODE_BOOT_TIMEOUT. Node k is not checked within the boot time (R314). -/
  | fieldNodeBootTimeout (k : Nat)
  /-- FIELD_NODE_LOST. Node k's heartbeat times out, or its boot-up comes unexpectedly (R315). -/
  | fieldNodeLost (k : Nat) (bootUp : Bool)
  /-- FIELD_NODE_RETRY. The steps are repeated for a lost node (R315). -/
  | fieldNodeRetry (k : Nat) (resp : NodeResp)
  /-- CLIENT_TRANSFER_TIMEOUT. A client transfer without response (R316). -/
  | clientTransferTimeout (k : Nat) (resp : NodeResp)
  /-- FIELD_NODE_NMT_START. 0x1F82:k = 0x01 (R317). -/
  | fieldNodeNmtStart (client : Nat) (k : Nat) (off : Nat)
  /-- FIELD_NODE_NMT_STOP. 0x1F82:k = 0x02 (R317). -/
  | fieldNodeNmtStop (client : Nat) (k : Nat) (off : Nat)
  /-- FIELD_NODE_NMT_PRE_OPERATIONAL. 0x1F82:k = 0x80 (R317). -/
  | fieldNodeNmtPreOperational (client : Nat) (k : Nat) (off : Nat)
  /-- FIELD_NODE_NMT_RESET_APPLICATION. 0x1F82:k = 0x81 (R317). -/
  | fieldNodeNmtResetApplication (client : Nat) (k : Nat) (off : Nat)
  /-- FIELD_NODE_NMT_RESET_COMMUNICATION. 0x1F82:k = 0x82 (R317). -/
  | fieldNodeNmtResetCommunication (client : Nat) (k : Nat) (off : Nat)
  /-- HOST_NOP. A transaction without a frame (R324); `mode3`: the SPI mode of every transaction. -/
  | hostNop (mode3 : Bool)
  /-- HOST_READ. READ (R326). -/
  | hostRead (mode3 : Bool) (tag : Nat) (idx : Nat) (sub : Nat) (payload : List Byte) (off : Nat)
  /-- HOST_WRITE. WRITE (R326). -/
  | hostWrite (mode3 : Bool) (tag : Nat) (idx : Nat) (sub : Nat) (payload : List Byte) (off : Nat)
  /-- READ_RECORD. READ_RECORD (R327). -/
  | readRecord (mode3 : Bool) (tag : Nat) (idx : Nat) (sub : Nat) (payload : List Byte) (off : Nat)
  /-- WRITE_RECORD. WRITE_RECORD (R327). -/
  | writeRecord (mode3 : Bool) (tag : Nat) (idx : Nat) (sub : Nat) (payload : List Byte) (off : Nat)
  /-- SEG_WRITE. A segment of a long write (R328). -/
  | segWrite (mode3 : Bool) (tag : Nat) (idx : Nat) (sub : Nat) (payload : List Byte) (off : Nat)
  /-- SEG_WRITE_GAP_TIMEOUT. The gap between segments is too long (R328). -/
  | segWriteGapTimeout
  /-- BULK_READ. BULK_READ of offset and count (R328). -/
  | bulkRead (mode3 : Bool) (tag : Nat) (idx : Nat) (sub : Nat) (payload : List Byte) (off : Nat)
  /-- BULK_COPY_TIMEOUT. Ten seconds without a BULK_READ (R328). -/
  | bulkCopyTimeout
  /-- FETCH. FETCH (R326). -/
  | fetch (mode3 : Bool) (tag : Nat)
  /-- RELEASE. RELEASE (R325). -/
  | release (mode3 : Bool) (tag : Nat)
  /-- PI_READ. PI_READ; `updates`: page data that arrives while the pages are sent, by the number of pages sent before it; `ecc`: pages with an uncorrectable error (R330). -/
  | piRead (mode3 : Bool) (first : Nat) (count : Nat) (updates : List (Nat × Nat × List Byte)) (ecc : List Nat)
  /-- PROCESS_PAGE_UPDATE. The oldest page data that waits (R329). -/
  | processPageUpdate
  /-- ACK_IRQ. ACK_IRQ (R331). -/
  | ackIrq (mode3 : Bool) (mask : Nat)
  /-- HOST_FRAME_DISCARD. A frame that is discarded with a result (R323). -/
  | hostFrameDiscard (mode3 : Bool) (result : Nat) (tag : Nat)
  /-- HALYARD_LINK_UP. The receiver locks (R340). -/
  | halyardLinkUp
  /-- HALYARD_LINK_DOWN. The link goes down (R340). -/
  | halyardLinkDown
  /-- TICK_FRAME_RECEIVED. Count and output mirror; `aligned`: the own tick meets the partner's (R341). `raw` and `crc`, here and
  below: the bytes of the halyard frame and its CRC field (R340). -/
  | tickFrameReceived (count : Nat) (duties : List Nat) (sps : List Int) (aligned : Bool) (frame : HalyardFrame)
  /-- MIRROR_ITEM_RECEIVED. A mirror item with its sequence number (R342). -/
  | mirrorItemReceived (seq : Nat) (m : Machine.MirrorItem) (frame : HalyardFrame)
  /-- MIRROR_ACK_TIMEOUT. No acknowledgement within 1 ms (R342). -/
  | mirrorAckTimeout
  /-- LOG_FRAME_RECEIVED. The partner's log entry (R337). -/
  | logFrameReceived (e : Machine.LogEntry) (frame : HalyardFrame)
  /-- CONTROL_JOIN. The joining unit's configuration hash, timetable version and store serials (R357). -/
  | controlJoin (hash : List Byte) (version : Nat) (serials : List Nat)
  /-- HOIST_CAPTURE. The transfer of this tick's snapshot starts (R343). -/
  | hoistCapture
  /-- HOIST_SEGMENT_RECEIVED. A segment; with the last one the complete hoist, and its bytes put together (R344, R345). -/
  | hoistSegmentReceived (hoist : Option (Machine.Hoist × List Byte)) (frame : HalyardFrame)
  /-- HOIST_ACK_TIMEOUT. No acknowledgement by h + 20 ms (R343). -/
  | hoistAckTimeout
  /-- HEALTH_FRAME_SEND. The HEALTH frame of every 10 ms (R347). -/
  | healthFrameSend
  /-- HEALTH_FRAME_RECEIVED. A HEALTH frame (R348). -/
  | healthFrameReceived (h : Health)
  /-- BEACON_RECEIVED. A BEACON (R348). -/
  | beaconReceived
  /-- BEACON_TIMEOUT. No BEACON for the timeout (R348). -/
  | beaconTimeout
  /-- ORDER_GRANT. GRANT with order number and epoch (R348). -/
  | orderGrant (unit : Nat) (num : Nat) (e : Nat)
  /-- ORDER_REVOKE. REVOKE with order number and epoch (R348). -/
  | orderRevoke (unit : Nat) (num : Nat) (e : Nat)
  /-- ORDER_SWAP. SWAP to a unit with window w (R353). -/
  | orderSwap (unit : Nat) (num : Nat) (w : Nat) (urgent : Bool) (off : Nat)
  /-- ORDER_RESYNC. RESYNC (R357). -/
  | orderResync (unit : Nat) (num : Nat)
  /-- REPORT_RECEIVED. A REPORT (R349). -/
  | reportReceived (r : Report) (off : Nat)
  /-- ARM_TIMEOUT. ENSIGN_IN not asserted within 5 ms (R348). -/
  | armTimeout
  /-- ENSIGN_IN_ASSERTED. The pin is asserted (R348). -/
  | ensignInAsserted
  /-- ENSIGN_IN_DEASSERTED. The pin is deasserted (R339). -/
  | ensignInDeasserted
  /-- TAKEOVER_LOADED. The units are awake and the hoist is loaded (R352). -/
  | takeoverLoaded
  /-- SWALLOWTAIL_START. h' (R353). -/
  | swallowtailStart
  /-- SWALLOWTAIL_END. e (R353). -/
  | swallowtailEnd
  /-- WITHDRAWN_TIMEOUT. No REPORT withdrawn within 20 ms of e (R354). -/
  | withdrawnTimeout (off : Nat)
  /-- UNIT_FAILED. No HEALTH_OUT edge for 3.0 ms (R349). -/
  | unitFailed (u : Nat) (off : Nat)
  /-- KILL_HOLD_EXPIRED. The kill hold time has passed (R349). -/
  | killHoldExpired (u : Nat)
  /-- COLD_START_WAIT. The witness looks for a unit to grant (R356). -/
  | coldStartWait (off : Nat)
  /-- REQUEST_SWAP. 0x2500:10 = 1 (R360). -/
  | requestSwap (client : Nat) (off : Nat)
  /-- REQUEST_RESYNC. 0x2500:10 = 2 (R357). -/
  | requestResync (client : Nat) (off : Nat)
  /-- WITNESS_ORDER_SWAP. 0x2500:10 = 3 (R360). -/
  | witnessOrderSwap (client : Nat) (off : Nat)
  /-- RELEASE_KILL_LATCHES. 0x2500:10 = 4 (R349). -/
  | releaseKillLatches (client : Nat) (off : Nat)
  /-- PFW_ASSERTED. PFW_n low; `finishes`: a bank write in progress ends within 4.0 ms (R387). -/
  | pfwAsserted (finishes : Bool)
  /-- PFW_RELEASED. PFW_n high for 100 ms (R389). -/
  | pfwReleased
  /-- FEED_BROWN_OUT. A feed below its threshold for 10 µs (R386). -/
  | feedBrownOut (f : Nat)
  /-- FEED_RESTORED. A feed above its threshold for 10 ms; `prefer`: the feed with the higher voltage (R386). -/
  | feedRestored (f : Nat) (prefer : Nat)
  /-- POWER_CMD_RUN. 0x2100:10 = 0 (R399). -/
  | powerCmdRun (client : Nat) (off : Nat)
  /-- POWER_CMD_DOZE. 0x2100:10 = 1 (R399). -/
  | powerCmdDoze (client : Nat) (off : Nat)
  /-- POWER_CMD_SLEEP. 0x2100:10 = 4 (R400). -/
  | powerCmdSleep (client : Nat) (off : Nat)
  /-- POWER_CMD_SHIP. 0x2100:10 = 5 (R400). -/
  | powerCmdShip (client : Nat) (off : Nat)
  /-- PWRON_DEASSERT. The delay of 0x2300:22 has passed (R379). -/
  | pwronDeassert
  /-- THERMAL_MEASUREMENT. The trimmed readings of the twelve sensors in steps of 0.25 K (R405). -/
  | thermalMeasurement (temps : List Int) (finishes : Bool)
  /-- STAGE_ADD_INTERVAL. The add interval ends (R409). -/
  | stageAddInterval
  /-- STAGE_REMOVE_INTERVAL. The remove interval ends (R409). -/
  | stageRemoveInterval
  /-- THERMAL_SHUTDOWN. The budget has run out (R411). -/
  | thermalShutdown
  /-- THERMAL_TRIP. Two sensors at T_trip (R412). -/
  | thermalTrip
  /-- THERMAL_RELEASE. H below 100 °C for 10 s (R411, R412). -/
  | thermalRelease
  /-- IMAGE_HEADER. A firmware header (R426). -/
  | imageHeader (client : Nat) (data : List Byte) (off : Nat)
  /-- IMAGE_BLOCK. A block with its number (R427). -/
  | imageBlock (client : Nat) (data : List Byte) (off : Nat)
  /-- FIRMWARE_COMMIT. 0x2400:10 = 1 (R429). -/
  | firmwareCommit (client : Nat) (off : Nat)
  /-- FIRMWARE_CLOSE. 0x2400:10 = 2 (R429). -/
  | firmwareClose (client : Nat) (off : Nat)
  /-- FIRMWARE_CONFIRM. 0x2400:10 = 3 (R431). -/
  | firmwareConfirm (client : Nat) (off : Nat)
  /-- SELECT_OTHER_IMAGE. 0x2400:10 = 4 (R431). -/
  | selectOtherImage (client : Nat) (off : Nat)
  /-- RESTART_COMMAND. 0x2400:11 (R430). -/
  | restartCommand (client : Nat) (unit : Nat) (off : Nat)
  /-- KEY_LOAD. A customer key for slot k, written by a client, or (`entry`) as an entry of the signed image being applied (R439). -/
  | keyLoad (client : Nat) (k : Nat) (data : List Byte) (entry : Bool) (off : Nat)
  /-- KEY_REVOKE. 0x2601+k:10 = 1 (R439). -/
  | keyRevoke (client : Nat) (k : Nat) (entry : Bool) (off : Nat)
  /-- SIGNATURE_POLICY_WRITE. A signature policy is set (R440). -/
  | signaturePolicyWrite (client : Nat) (sub : Nat) (entry : Bool) (off : Nat)
  /-- SIGNED_CONFIGURATION_IMAGE. A signed image (R443). -/
  | signedConfigurationImage (client : Nat) (data : List Byte) (off : Nat)
  /-- ATTESTATION_NONCE. A nonce (R444). -/
  | attestationNonce (client : Nat) (data : List Byte) (off : Nat)
  /-- DEBUG_CHALLENGE. A read of 0x260C:01 (R445). -/
  | debugChallenge (client : Nat)
  /-- DEBUG_RESPONSE. A signed response (R446). -/
  | debugResponse (client : Nat) (data : List Byte) (off : Nat)
  /-- LOCK_COMMAND. 0x260C:03 = 1 (R446). -/
  | lockCommand (client : Nat) (off : Nat)
  /-- TAP_EXTEST. Instruction 0 is loaded (R447). -/
  | tapExtest
  /-- TAP_CLAMP. Instruction 4 is loaded (R447). -/
  | tapClamp
  /-- TAP_HIGHZ. Instruction 5 is loaded (R447). -/
  | tapHighz
  /-- TAP_IDCODE. IDCODE is loaded (R490). -/
  | tapIdcode
  /-- TAP_SAMPLE_PRELOAD. The cells captured, and preloaded (R447). -/
  | tapSamplePreload (capture : Nat) (preload : Nat)
  /-- TAP_BYPASS. BYPASS is loaded (R490). -/
  | tapBypass
  /-- TAP_PRIVATE_DEBUG. A private instruction, 0x10 + code (R490). -/
  | tapPrivateDebug (code : Nat)
  /-- TRST_RELEASE. TRST_n ends a hold (R470). -/
  | trstRelease
  /-- KILL_ASSERTED. KILL_n low (R470). -/
  | killAsserted
  /-- POWER_ON_RESET. The internal rail comes up or fell below 2.70 V (R470). -/
  | powerOnReset
  /-- WATCHDOG_EXPIRED. No watchdog write for 100 ms (R470). -/
  | watchdogExpired
  /-- RESET_RELEASE. The straps and the decayed banks, what the boot ROM finds of the images and the OTP and the time it took, and the start-up calibration (R474). -/
  | resetRelease (straps : StartStraps) (duplexId : Bool) (okA : Bool) (okB : Bool) (us : Nat) (otp : Option (Nat × Bool)) (cals : List (List (Real32 × Real32)))
  /-- BOOT_ROM_RETRY. The boot ROM verifies again (R438). -/
  | bootRomRetry (okA : Bool) (okB : Bool) (us : Nat) (otp : Option (Nat × Bool)) (cals : List (List (Real32 × Real32)))
  /-- CONFIGURATION_LOAD. The stored configuration is loaded (R60). -/
  | configurationLoad
  /-- CONTROLLERS_ENABLED. Step 7 (R289). -/
  | controllersEnabled
  /-- STARTUP_RECORD. Step 8; `selfTest`: the engine passed its test (R467, R475). -/
  | startupRecord (selfTest : Bool)
  /-- BOOT_UP. Step 9 (R319). -/
  | bootUp
  /-- AUTOSTART. The operational tick without a network command (R478). -/
  | autostart
  /-- OPERATIONAL_TICK. The operational tick is the one to come (R477). -/
  | operationalTick
  /-- CLK_REF_LOSS. No edge of CLK_REF for 2 µs (R14). -/
  | clkRefLoss
  /-- CLK_POS_LOST. CLK_POS stops (R102). -/
  | clkPosLost
  /-- CLK_PANEL_LOST. CLK_PANEL stops (R244). -/
  | clkPanelLost
  /-- ZXO_LEVEL_SWITCH. The edge of a level-mode port (R114). -/
  | zxoLevelSwitch (n : Nat) (off : Nat)
  /-- BUS_INTEGRATION_COMPLETE. 11 recessive bits (R289). -/
  | busIntegrationComplete (x : Nat)
  /-- WORK_ITEM_DEADLINE. The deadline of the item of object 0x2020 + item (R287). -/
  | workItemDeadline (item : Nat)
  /-- USDO_SERVICE_START. Requests that waited start to be served (R307). -/
  | usdoServiceStart (off : Nat)
  /-- BEACON_SEND. The BEACON of every 10 ms (R347). -/
  | beaconSend (off : Nat)
  /-- CONTROL_ACKNOWLEDGEMENT. Hoist n, or the mirror items up to n (R342, R343). -/
  | controlAcknowledgement (hoist : Bool) (n : Nat)
  /-- NO_VALID_HOIST. No valid hoist within P + 20 ms (R360). -/
  | noValidHoist
  /-- FIRMWARE_BLOCK_VERIFIED. The block is programmed and read back; `fault`: code flash failed (R427). -/
  | firmwareBlockVerified (fault : Bool)
  /-- COMMIT_VERIFICATION_DONE. Blocks whose hash differs, and whether the signature is good (R429). -/
  | commitVerificationDone (bad : List Nat) (sigOk : Bool)
  /-- REPORT_SIGNED. The signature of the report (R444). -/
  | reportSigned (sig : List Byte)
deriving DecidableEq, Repr

end Sys2Proof
end

