-- ==== Sys2Proof/Decode.lean ====
section
/-! DEFINITION. Words that spell commands: the operation table gives its rows no bits. -/
namespace Sys2Proof

/-- The command that a word of the operation table spells: none, since no row of the table has bits. DEDUCED, safe: log entry
217. -/
def decodeTableWord (nbits w : Nat) : Option Instr :=
  match nbits, w with
  | _, _ => none

end Sys2Proof
end

