-- ==== Sys2Proof/Machine/F32.lean ====
section
/-! DEFINITION. REAL32 arithmetic (R10, R145): IEEE 754 single precision, round to nearest with ties to even,
computed exactly on integers and rounded once per operation, so that Lean's kernel can evaluate it.
Subnormals, infinities and NaN follow the standard; every NaN answered is the quiet NaN 0x7FC00000. -/
namespace Sys2Proof.F32

/-- The quiet NaN every invalid operation answers. -/
def nan : Real32 := 0x7FC00000#32
/-- Plus zero. -/
def zero : Real32 := 0#32
/-- 1.0. -/
def one : Real32 := 0x3F800000#32

/-- The sign bit. -/
def sign (x : Real32) : Bool := x.getLsbD 31
/-- The biased exponent, bits 30..23. -/
def expo (x : Real32) : Nat := (x.toNat / 2 ^ 23) % 256
/-- The fraction, bits 22..0. -/
def frac (x : Real32) : Nat := x.toNat % 2 ^ 23

def isNaN (x : Real32) : Bool := expo x == 255 && frac x != 0
def isInf (x : Real32) : Bool := expo x == 255 && frac x == 0
/-- Neither NaN nor an infinity (the values R10 lets a write carry). -/
def isFinite (x : Real32) : Bool := expo x != 255
def isZero (x : Real32) : Bool := x.toNat % 2 ^ 31 == 0
/-- A non-zero number below the normal range (R42: stored as signed zero). -/
def isSubnormal (x : Real32) : Bool := expo x == 0 && frac x != 0

/-- A finite number's magnitude as `man x * 2 ^ pow x`. -/
def man (x : Real32) : Nat := if expo x == 0 then frac x else frac x + 2 ^ 23
/-- The power of two that goes with `man`. -/
def pow (x : Real32) : Int := if expo x == 0 then -149 else (expo x : Int) - 150
/-- The signed significand. -/
def sman (x : Real32) : Int := if sign x then -(man x : Int) else man x

def inf (neg : Bool) : Real32 := if neg then 0xFF800000#32 else 0x7F800000#32
def zeroOf (neg : Bool) : Real32 := if neg then 0x80000000#32 else 0#32

/-- Shift right by `k`, rounding to nearest even; `sticky` says a non-zero rest lies below bit 0 of `m`. -/
def shiftRound (m k : Nat) (sticky : Bool) : Nat :=
  match k with
  | 0 => m
  | k + 1 =>
    let q := m / 2 ^ (k + 1)
    let half := (m / 2 ^ k) % 2 == 1
    let low := sticky || m % 2 ^ k != 0
    if half && (low || q % 2 == 1) then q + 1 else q

/-- The number nearest to `±(m + rest) * 2 ^ e` with `0 ≤ rest < 1` and `rest ≠ 0` exactly when `sticky`. -/
def round (neg : Bool) (m : Nat) (e : Int) (sticky : Bool) : Real32 :=
  if m == 0 && !sticky then zeroOf neg else
  -- keep two spare bits below, so that a sticky rest is never at the rounding position
  let m2 := m * 2 ^ 26
  let e2 := e - 26
  let len := Nat.log2 m2 + 1
  -- the exponent of the last kept bit: 24 bits kept, not below 2^-149
  let t : Int := max (e2 + (len : Int) - 24) (-149)
  let k := (t - e2).toNat
  let r := shiftRound m2 k sticky
  -- rounding up may carry to 2^24
  let (r, t) := if r == 2 ^ 24 then (2 ^ 23, t + 1) else (r, t)
  if r == 0 then zeroOf neg else
  if r < 2 ^ 23 then (BitVec.ofNat 32 (r + if neg then 2 ^ 31 else 0)) else
  let ex := t + 150
  if ex ≥ 255 then inf neg else
  BitVec.ofNat 32 ((r - 2 ^ 23) + ex.toNat * 2 ^ 23 + if neg then 2 ^ 31 else 0)

/-- The nearest number to the exact dyadic `i * 2 ^ e`; an exact zero is +0. -/
def ofDyadic (i : Int) (e : Int) : Real32 := round (i < 0) i.natAbs e false

/-- The nearest number to the exact fraction `n / d`. -/
def ofFrac (n : Int) (d : Nat) : Real32 :=
  if n == 0 || d == 0 then zero else
  let k := 60 + Nat.log2 d
  let a := n.natAbs * 2 ^ k
  round (n < 0) (a / d) (-(k : Int)) (a % d != 0)

def ofInt (i : Int) : Real32 := ofDyadic i 0
def ofNat (n : Nat) : Real32 := ofDyadic n 0
def ofRat (q : Rat) : Real32 := ofFrac q.num q.den

/-- The exact value of a finite number (an infinity or a NaN answers 0). -/
def toRat (x : Real32) : Rat :=
  if !isFinite x then 0 else
  if pow x ≥ 0 then ((sman x * 2 ^ (pow x).toNat : Int) : Rat) else mkRat (sman x) (2 ^ (-(pow x)).toNat)

def neg (x : Real32) : Real32 := x ^^^ 0x80000000#32
def abs (x : Real32) : Real32 := x &&& 0x7FFFFFFF#32

def add (x y : Real32) : Real32 :=
  if isNaN x || isNaN y then nan else
  if isInf x then (if isInf y && sign x != sign y then nan else x) else
  if isInf y then y else
  let e := min (pow x) (pow y)
  let i := sman x * 2 ^ (pow x - e).toNat + sman y * 2 ^ (pow y - e).toNat
  if i == 0 then zeroOf (sign x && sign y) else ofDyadic i e

def sub (x y : Real32) : Real32 := if isNaN y then nan else add x (neg y)

def mul (x y : Real32) : Real32 :=
  if isNaN x || isNaN y then nan else
  let n := sign x != sign y
  if isInf x || isInf y then (if isZero x || isZero y then nan else inf n) else
  round n (man x * man y) (pow x + pow y) false

def div (x y : Real32) : Real32 :=
  if isNaN x || isNaN y then nan else
  let n := sign x != sign y
  if isInf x then (if isInf y then nan else inf n) else
  if isInf y then zeroOf n else
  if isZero y then (if isZero x then nan else inf n) else
  let a := man x * 2 ^ 60
  round n (a / man y) (pow x - pow y - 60) (a % man y != 0)

/-- The integer square root by bits: `r` with the bits from `k - 1` down still to be tried. -/
def isqrtFrom (n : Nat) : Nat → Nat → Nat
  | 0, r => r
  | k + 1, r => isqrtFrom n k (if (r + 2 ^ k) * (r + 2 ^ k) ≤ n then r + 2 ^ k else r)

/-- The largest `r` with `r * r ≤ n`. -/
def isqrt (n : Nat) : Nat := isqrtFrom n (Nat.log2 n / 2 + 1) 0

/-- The square root, correctly rounded. -/
def sqrt (x : Real32) : Real32 :=
  if isNaN x then nan else
  if isZero x then x else
  if sign x then nan else
  if isInf x then x else
  let (m, e) := if pow x % 2 == 0 then (man x, pow x) else (man x * 2, pow x - 1)
  let a := m * 2 ^ 60
  let r := isqrt a
  round false r (e / 2 - 30) (r * r != a)

/-- x < y; false where either is NaN. -/
def lt (x y : Real32) : Bool :=
  if isNaN x || isNaN y then false else
  if isInf x then sign x && !(isInf y && sign y) else
  if isInf y then !sign y else
  let e := min (pow x) (pow y)
  decide (sman x * 2 ^ (pow x - e).toNat < sman y * 2 ^ (pow y - e).toNat)

/-- Equal as numbers (+0 equals −0). -/
def eq (x y : Real32) : Bool := !isNaN x && !isNaN y && (x == y || (isZero x && isZero y))
def le (x y : Real32) : Bool := lt x y || eq x y
def gt (x y : Real32) : Bool := lt y x
def ge (x y : Real32) : Bool := le y x

def max (x y : Real32) : Real32 := if lt x y then y else x
def min (x y : Real32) : Real32 := if lt y x then y else x
/-- `x` held between `lo` and `hi`, the upper limit applied last. -/
def clamp (x lo hi : Real32) : Real32 := min (max x lo) hi

/-- The nearest integer, ties to even (0 for an infinity or a NaN). -/
def toIntRNE (x : Real32) : Int :=
  if !isFinite x then 0 else
  let m := if pow x ≥ 0 then man x * 2 ^ (pow x).toNat else shiftRound (man x) (-(pow x)).toNat false
  if sign x then -(m : Int) else m

/-- The nearest integer, ties away from zero. -/
def toIntHalfAway (x : Real32) : Int :=
  if !isFinite x then 0 else
  let m := if pow x ≥ 0 then man x * 2 ^ (pow x).toNat
    else (man x * 2 + 2 ^ (-(pow x)).toNat) / 2 ^ ((-(pow x)).toNat + 1)
  if sign x then -(m : Int) else m

/-- The integer part, toward zero. -/
def toIntTrunc (x : Real32) : Int :=
  if !isFinite x then 0 else
  let m := if pow x ≥ 0 then man x * 2 ^ (pow x).toNat else man x / 2 ^ (-(pow x)).toNat
  if sign x then -(m : Int) else m

end Sys2Proof.F32
end

