-- ==== Sys2Proof/Machine/Analytic.lean ====
section
/-! DEFINITION. The exponential, the logarithm, the tangent and ten to a power (R93, R151, R208, R226), computed on
integers that stand for multiples of 2^-96 and rounded once, so that Lean's kernel can evaluate them. The spec names the
functions and not their arithmetic. DEDUCED, unsafe: log entry 11. -/
namespace Sys2Proof.Analytic
open Sys2Proof

/-- One, on the grid of 2^-96. -/
def one : Int := 2 ^ 96
/-- The product of two grid numbers, rounded down. -/
def mul (a b : Int) : Int := a * b / one
/-- The grid number at or below a rational. -/
def ofRat (q : Rat) : Int := q.num * one / (q.den : Int)
/-- The rational that a grid number stands for. -/
def toRat (a : Int) : Rat := mkRat a (2 ^ 96)

/-- The series z + z^3/3 + z^5/5 + …: `t` is the next odd power, `k` its number. -/
def atanhFrom (z2 : Int) : Nat → Nat → Int → Int → Int
  | 0, _, _, acc => acc
  | n + 1, k, t, acc => atanhFrom z2 n (k + 1) (mul t z2) (acc + t / (2 * k + 1 : Nat))

/-- The inverse hyperbolic tangent of a grid number within ±1/3. -/
def atanh (z : Int) : Int := atanhFrom (mul z z) 34 0 z 0

/-- ln of a grid number between 1/2 and 2. -/
def lnNear (m : Int) : Int := 2 * atanh ((m - one) * one / (m + one))
def ln2 : Int := 2 * atanh (one / 3)
def ln10 : Int := 3 * ln2 + lnNear (one + one / 4)

/-- ln of a positive rational: the power of two apart, then the series. -/
def ln (q : Rat) : Rat :=
  let n := Nat.log2 q.num.toNat
  let d := Nat.log2 q.den
  toRat (((n : Int) - d) * ln2 + lnNear (q.num * one * 2 ^ d / ((q.den : Int) * 2 ^ n)))

/-- The logarithm of a REAL32; outside the positive numbers as IEEE 754 has it. -/
def lnF (x : Real32) : Real32 :=
  if F32.isNaN x then F32.nan else if F32.isZero x then F32.inf true else if F32.sign x then F32.nan
  else if F32.isInf x then x else F32.ofRat (ln (F32.toRat x))

/-- The series 1 + r + r^2/2 + …: `t` is the next term, `k` its number. -/
def expFrom (r : Int) : Nat → Nat → Int → Int → Int
  | 0, _, _, acc => acc
  | n + 1, k, t, acc => expFrom r n (k + 1) (mul t r / (k + 1 : Nat)) (acc + t)

/-- e to a grid number, as a REAL32: the multiple of ln 2 apart, then the series. -/
def expGrid (x : Int) : Real32 :=
  if 200 * one < x then F32.inf false else if x < -200 * one then F32.zero else
  let k := (x + ln2 / 2) / ln2
  F32.ofDyadic (expFrom (x - k * ln2) 26 0 one 0) (k - 96)

def expF (x : Real32) : Real32 :=
  if F32.isNaN x then F32.nan else if F32.isInf x then (if F32.sign x then F32.zero else x)
  else expGrid (ofRat (F32.toRat x))

/-- Ten to the power of a REAL32. -/
def pow10F (x : Real32) : Real32 :=
  if F32.isNaN x then F32.nan else if F32.isInf x then (if F32.sign x then F32.zero else x)
  else expGrid (ofRat (F32.toRat x * toRat ln10))

/-- The sine (from `t` = x) or cosine (from `t` = 1) series: `k` counts the factors divided out so far. -/
def circFrom (x2 : Int) : Nat → Nat → Int → Int → Int
  | 0, _, _, acc => acc
  | n + 1, k, t, acc => circFrom x2 n (k + 2) (-(mul t x2 / ((k + 1) * (k + 2) : Nat))) (acc + t)

/-- The tangent of a REAL32 between 0 and π (R151 uses it below π/2). -/
def tanF (x : Real32) : Real32 :=
  let a := ofRat (F32.toRat x)
  let x2 := mul a a
  let s := circFrom x2 24 1 a 0
  let c := circFrom x2 24 0 one 0
  if c == 0 then F32.nan else F32.ofFrac (if c < 0 then -s else s) c.natAbs

end Sys2Proof.Analytic
end

