-- ==== Sys2Proof/Config.lean ====
section
/-! DEFINITION. What one device or one implementation fixes, and the free values: constants without a body, so that
nothing can be proved of their value. -/
namespace Sys2Proof.Config

/-- The serial number, 0x2000:03, byte by byte. -/
opaque serial : Nat → Byte
/-- The die stepping, 0x2000:04. -/
opaque stepping : BitVec 16
/-- Factory constants of the device by object key and byte number (0x2600:01 to 05: certificates, modulus, key identifiers). -/
opaque factory : Nat → Nat → Byte
/-- The number of factory bytes of a DOMAIN object (0x2600:01 and 02). -/
opaque factoryLen : Nat → Nat
/-- The moduli of Siavel's vendor key and debug key. -/
opaque vendorKey : Nat
opaque debugKey : Nat
/-- Offset of slice and range from OTP, raw LSB (R88, R97). -/
opaque otpOffset : Nat → Nat → Real32
/-- Gain of slice and range from OTP (R88, R97). -/
opaque otpGain : Nat → Nat → Real32
/-- Reference gain coefficient of a slice, ppm/K (R97). -/
opaque otpTc : Nat → Real32
/-- The constant table of signal class 10: no object of the dictionary enters it. -/
opaque constant : Nat → Real32
/-- A free 32-bit value, for a counter the state holds (a pseudo-random or undefined value). -/
opaque freeWord : Nat → BitVec 32
/-- A free bit for a counter the state holds. -/
opaque freeBit : Nat → Bool

end Sys2Proof.Config
end

