-- ==== Sys2Proof/Machine/ODTypes.lean ====
section
/-! DEFINITION. The form of an object table's row (Object notation, R41 to R44): type, access, Persist, Effect. -/
namespace Sys2Proof.OD

/-- The data types of R42; a string or a domain carries its length, or its least and greatest length. -/
inductive Ty where
  | bool | i8 | i16 | i32 | u8 | u16 | u32 | u64 | r32
  | vstr (max : Nat) | ostr (len : Nat) | dom (min max : Nat)
deriving DecidableEq, Repr

/-- The Access column. -/
inductive Acc where
  | ro | wo | rw | rww | rwr | const
deriving DecidableEq, Repr

/-- The Persist column; `held` is the mark "—" of a value that another memory holds. -/
inductive Per where
  | p | v | f | held
deriving DecidableEq, Repr

/-- The Effect column. -/
inductive Eff where
  | imm | tick | period | restart | none
deriving DecidableEq, Repr

/-- One row of an object table: the sub-indices `lo` to `hi`. `rng` holds the integer ranges of the Type column
(empty: the full range), `frng` the REAL32 range, `dfl` the Default of each sub-index from `lo` on (the last one
stands for the rest). -/
structure Row where
  lo : Nat
  hi : Nat
  ty : Ty
  rng : List (Int × Int) := []
  frng : Option (Real32 × Real32) := none
  acc : Acc
  per : Per
  eff : Eff
  dfl : List Nat := []
deriving DecidableEq, Repr

end Sys2Proof.OD
end

