-- ==== Sys2Proof/Machine/ODTable.lean ====
section
/-! DEFINITION. The object dictionary's tables, one list of rows for each kind of object, as the chapters' object
tables give them: sub-index range, type, range, access, Persist, Effect and Default. -/
namespace Sys2Proof.OD

/-- Frame word 0 of the neutral waveform set, by kind (R249). -/
def wave0 (k : Nat) : Nat :=
  match k with
  | 0 => 0x00111222
  | 1 => 0x00222111
  | 2 => 0x00000012
  | 3 => 0x00000021
  | _ => 0x22112211

/-- Object 0x2000 (R40). -/
def rows2000 : List Row := [
  { lo := 0x00, hi := 0x00, ty := .u8, acc := .const, per := .f, eff := .none, dfl := [24] },
  { lo := 0x01, hi := 0x01, ty := .vstr 6, acc := .ro, per := .f, eff := .none, dfl := [] },
  { lo := 0x02, hi := 0x02, ty := .u32, acc := .ro, per := .f, eff := .none, dfl := [0xFFFFF] },
  { lo := 0x03, hi := 0x03, ty := .ostr 8, acc := .ro, per := .f, eff := .none, dfl := [] },
  { lo := 0x04, hi := 0x04, ty := .u16, acc := .ro, per := .f, eff := .none, dfl := [0] },
  { lo := 0x05, hi := 0x05, ty := .u32, acc := .ro, per := .v, eff := .none, dfl := [0] },
  { lo := 0x06, hi := 0x06, ty := .u8, rng := [(0, 1)], acc := .ro, per := .v, eff := .none, dfl := [0] },
  { lo := 0x07, hi := 0x07, ty := .bool, acc := .ro, per := .v, eff := .none, dfl := [0] },
  { lo := 0x10, hi := 0x10, ty := .u8, rng := [(1, 2)], acc := .wo, per := .v, eff := .imm, dfl := [0] },
  { lo := 0x11, hi := 0x11, ty := .u8, rng := [(0, 2)], acc := .ro, per := .v, eff := .none, dfl := [0] },
  { lo := 0x12, hi := 0x12, ty := .u16, acc := .ro, per := .v, eff := .none, dfl := [0] },
  { lo := 0x13, hi := 0x13, ty := .u32, acc := .ro, per := .p, eff := .none, dfl := [0] },
  { lo := 0x14, hi := 0x14, ty := .u64, acc := .ro, per := .v, eff := .none, dfl := [0] },
  { lo := 0x15, hi := 0x15, ty := .u32, acc := .ro, per := .v, eff := .none, dfl := [0] },
  { lo := 0x16, hi := 0x16, ty := .ostr 32, acc := .ro, per := .v, eff := .none, dfl := [] },
  { lo := 0x17, hi := 0x17, ty := .u8, rng := [(1, 3)], acc := .wo, per := .v, eff := .imm, dfl := [0] },
  { lo := 0x18, hi := 0x18, ty := .u8, rng := [(0, 8)], acc := .ro, per := .v, eff := .none, dfl := [0] }]

/-- Object 0x2010 (R30). -/
def rows2010 : List Row := [
  { lo := 0x00, hi := 0x00, ty := .u8, acc := .const, per := .f, eff := .none, dfl := [10] },
  { lo := 0x01, hi := 0x01, ty := .u16, acc := .ro, per := .v, eff := .none, dfl := [0] },
  { lo := 0x02, hi := 0x02, ty := .u64, acc := .ro, per := .v, eff := .none, dfl := [0] },
  { lo := 0x03, hi := 0x03, ty := .u16, rng := [(0, 666)], acc := .ro, per := .v, eff := .none, dfl := [0] },
  { lo := 0x04, hi := 0x04, ty := .u32, rng := [(0, 99999)], acc := .ro, per := .v, eff := .none, dfl := [0] },
  { lo := 0x05, hi := 0x05, ty := .u16, rng := [(0, 64)], acc := .ro, per := .v, eff := .none, dfl := [0] },
  { lo := 0x06, hi := 0x06, ty := .u16, acc := .ro, per := .v, eff := .none, dfl := [0] },
  { lo := 0x07, hi := 0x07, ty := .u32, acc := .ro, per := .v, eff := .none, dfl := [0] },
  { lo := 0x08, hi := 0x08, ty := .u8, rng := [(0, 3)], acc := .ro, per := .v, eff := .none, dfl := [0] },
  { lo := 0x09, hi := 0x09, ty := .u32, acc := .ro, per := .v, eff := .none, dfl := [0] },
  { lo := 0x0A, hi := 0x0A, ty := .u8, rng := [(0, 2)], acc := .ro, per := .v, eff := .none, dfl := [0] }]

/-- Objects 0x1010 and 0x1011 (R61). -/
def rows1010 : List Row := [
  { lo := 0x00, hi := 0x00, ty := .u8, acc := .const, per := .f, eff := .none, dfl := [4] },
  { lo := 0x01, hi := 0x01, ty := .u32, acc := .rw, per := .v, eff := .imm, dfl := [1] },
  { lo := 0x02, hi := 0x02, ty := .u32, acc := .rw, per := .v, eff := .imm, dfl := [1] },
  { lo := 0x03, hi := 0x03, ty := .u32, acc := .rw, per := .v, eff := .imm, dfl := [1] },
  { lo := 0x04, hi := 0x04, ty := .u32, acc := .rw, per := .v, eff := .imm, dfl := [1] }]

/-- Objects 0x2020 to 0x207F (R461). -/
def rows2020 : List Row := [
  { lo := 0x00, hi := 0x00, ty := .u8, acc := .const, per := .f, eff := .none, dfl := [11] },
  { lo := 0x01, hi := 0x01, ty := .u32, acc := .ro, per := .v, eff := .none, dfl := [0] },
  { lo := 0x02, hi := 0x02, ty := .u8, rng := [(1, 6)], acc := .ro, per := .v, eff := .none, dfl := [0] },
  { lo := 0x03, hi := 0x03, ty := .u16, acc := .ro, per := .v, eff := .none, dfl := [0] },
  { lo := 0x04, hi := 0x04, ty := .u8, rng := [(0, 3)], acc := .ro, per := .v, eff := .none, dfl := [0] },
  { lo := 0x05, hi := 0x05, ty := .u8, rng := [(0, 14)], acc := .ro, per := .v, eff := .none, dfl := [0] },
  { lo := 0x06, hi := 0x06, ty := .u16, acc := .ro, per := .v, eff := .none, dfl := [0] },
  { lo := 0x07, hi := 0x07, ty := .u8, acc := .ro, per := .v, eff := .none, dfl := [0] },
  { lo := 0x08, hi := 0x08, ty := .u64, acc := .ro, per := .v, eff := .none, dfl := [0] },
  { lo := 0x09, hi := 0x09, ty := .u64, acc := .ro, per := .v, eff := .none, dfl := [0] },
  { lo := 0x0A, hi := 0x0A, ty := .u32, acc := .ro, per := .v, eff := .none, dfl := [0] },
  { lo := 0x0B, hi := 0x0B, ty := .bool, acc := .ro, per := .v, eff := .none, dfl := [0] }]

/-- Object 0x2100 (R402). -/
def rows2100 : List Row := [
  { lo := 0x00, hi := 0x00, ty := .u8, acc := .const, per := .f, eff := .none, dfl := [138] },
  { lo := 0x10, hi := 0x10, ty := .u8, rng := [(0, 5)], acc := .wo, per := .v, eff := .tick, dfl := [0] },
  { lo := 0x20, hi := 0x20, ty := .u16, rng := [(10, 3600)], acc := .rw, per := .p, eff := .tick, dfl := [60] },
  { lo := 0x21, hi := 0x21, ty := .u8, rng := [(0, 3)], acc := .rww, per := .v, eff := .tick, dfl := [0] },
  { lo := 0x30, hi := 0x33, ty := .r32, frng := some (0x00000000#32, 0x3F800000#32), acc := .rw, per := .p, eff := .tick, dfl := [0x3F000000, 0x3F333333, 0x3F333333, 0x3F800000] },
  { lo := 0x34, hi := 0x37, ty := .r32, frng := some (0x00000000#32, 0x3F800000#32), acc := .rw, per := .p, eff := .tick, dfl := [0x3E800000, 0x3E99999A, 0x3ECCCCCD, 0x3F800000] },
  { lo := 0x38, hi := 0x3B, ty := .r32, frng := some (0x00000000#32, 0x3F800000#32), acc := .rw, per := .p, eff := .tick, dfl := [0, 0, 0x3DCCCCCD, 0x3F000000] },
  { lo := 0x80, hi := 0x80, ty := .u8, rng := [(0, 5)], acc := .ro, per := .v, eff := .none, dfl := [0] },
  { lo := 0x81, hi := 0x81, ty := .u8, acc := .ro, per := .v, eff := .none, dfl := [0] },
  { lo := 0x82, hi := 0x82, ty := .r32, acc := .ro, per := .v, eff := .none, dfl := [0] },
  { lo := 0x83, hi := 0x83, ty := .r32, acc := .ro, per := .v, eff := .none, dfl := [0] },
  { lo := 0x84, hi := 0x84, ty := .r32, acc := .ro, per := .v, eff := .none, dfl := [0] },
  { lo := 0x85, hi := 0x85, ty := .u8, rng := [(0, 3)], acc := .ro, per := .v, eff := .none, dfl := [0] },
  { lo := 0x86, hi := 0x86, ty := .u8, rng := [(0, 3)], acc := .ro, per := .v, eff := .none, dfl := [0] },
  { lo := 0x87, hi := 0x87, ty := .u32, acc := .ro, per := .v, eff := .none, dfl := [0] },
  { lo := 0x88, hi := 0x88, ty := .u32, acc := .ro, per := .v, eff := .none, dfl := [0] },
  { lo := 0x89, hi := 0x89, ty := .u32, acc := .ro, per := .v, eff := .none, dfl := [0] },
  { lo := 0x8A, hi := 0x8A, ty := .u32, acc := .ro, per := .v, eff := .none, dfl := [0] }]

/-- Objects 0x2110 and 0x2111 (R403). -/
def rows2110 (f : Nat) : List Row := [
  { lo := 0x00, hi := 0x00, ty := .u8, acc := .const, per := .f, eff := .none, dfl := [143] },
  { lo := 0x01, hi := 0x01, ty := .bool, acc := .rw, per := .p, eff := .restart, dfl := [0] },
  { lo := 0x02, hi := 0x02, ty := .bool, acc := .rw, per := .p, eff := .restart, dfl := [0] },
  { lo := 0x20, hi := 0x20, ty := .r32, frng := some (0x42480000#32, 0x43FA0000#32), acc := .rw, per := .p, eff := .tick, dfl := [0x43660000] },
  { lo := 0x21, hi := 0x21, ty := .r32, frng := some (0x3F800000#32, 0x44FA0000#32), acc := .rw, per := .p, eff := .tick, dfl := [0x43C80000] },
  { lo := 0x22, hi := 0x22, ty := .r32, frng := some (0x42480000#32, 0x42C60000#32), acc := .rw, per := .p, eff := .tick, dfl := [0x42B40000] },
  { lo := 0x23, hi := 0x23, ty := .r32, frng := some (0x42CA0000#32, 0x43160000#32), acc := .rw, per := .p, eff := .tick, dfl := [0x42DC0000] },
  { lo := 0x24, hi := 0x24, ty := .r32, frng := some (0x3F800000#32, 0x41A00000#32), acc := .rw, per := .p, eff := .tick, dfl := [0x40A00000] },
  { lo := 0x25, hi := 0x25, ty := .r32, frng := some (0x3F000000#32, 0x40A00000#32), acc := .rw, per := .p, eff := .tick, dfl := [0x40000000] },
  { lo := 0x26, hi := 0x26, ty := .u8, rng := [(50, 50), (60, 60)], acc := .rw, per := .p, eff := .tick, dfl := [50] },
  { lo := 0x27, hi := 0x27, ty := .r32, frng := some (0x3DCCCCCD#32, 0x40A00000#32), acc := .rw, per := .p, eff := .tick, dfl := [0x3F800000] },
  { lo := 0x28, hi := 0x28, ty := .u8, rng := [(0, 3)], acc := .rw, per := .p, eff := .tick, dfl := [if f == 0 then 1 else 2] },
  { lo := 0x29, hi := 0x29, ty := .u8, rng := [(0, 3)], acc := .rw, per := .p, eff := .tick, dfl := [if f == 0 then 2 else 3] },
  { lo := 0x2A, hi := 0x2A, ty := .u8, rng := [(0, 3)], acc := .rw, per := .p, eff := .tick, dfl := [0] },
  { lo := 0x2B, hi := 0x2B, ty := .u8, rng := [(0, 3)], acc := .rw, per := .p, eff := .tick, dfl := [if f == 0 then 0 else 2] },
  { lo := 0x2C, hi := 0x2C, ty := .r32, frng := some (0x3F800000#32, 0x41A00000#32), acc := .rw, per := .p, eff := .tick, dfl := [0x40A00000] },
  { lo := 0x80, hi := 0x80, ty := .r32, acc := .ro, per := .v, eff := .none, dfl := [0] },
  { lo := 0x81, hi := 0x81, ty := .r32, acc := .ro, per := .v, eff := .none, dfl := [0] },
  { lo := 0x82, hi := 0x82, ty := .u8, rng := [(0, 3)], acc := .ro, per := .v, eff := .none, dfl := [0] },
  { lo := 0x83, hi := 0x83, ty := .r32, acc := .ro, per := .v, eff := .none, dfl := [0] },
  { lo := 0x84, hi := 0x84, ty := .u8, acc := .ro, per := .v, eff := .none, dfl := [0] },
  { lo := 0x85, hi := 0x85, ty := .u64, acc := .ro, per := .v, eff := .none, dfl := [0] },
  { lo := 0x86, hi := 0x86, ty := .u16, rng := [(0, 19999)], acc := .ro, per := .v, eff := .none, dfl := [0] },
  { lo := 0x87, hi := 0x87, ty := .u32, acc := .ro, per := .v, eff := .none, dfl := [0] },
  { lo := 0x88, hi := 0x88, ty := .u32, acc := .ro, per := .v, eff := .none, dfl := [0] },
  { lo := 0x89, hi := 0x89, ty := .u32, acc := .ro, per := .v, eff := .none, dfl := [0] },
  { lo := 0x8A, hi := 0x8A, ty := .u32, acc := .ro, per := .v, eff := .none, dfl := [0] },
  { lo := 0x8B, hi := 0x8B, ty := .u8, rng := [(0, 3)], acc := .ro, per := .v, eff := .none, dfl := [0] },
  { lo := 0x8C, hi := 0x8C, ty := .u64, acc := .ro, per := .v, eff := .none, dfl := [0] },
  { lo := 0x8D, hi := 0x8D, ty := .u32, acc := .ro, per := .v, eff := .none, dfl := [0] },
  { lo := 0x8E, hi := 0x8E, ty := .r32, acc := .ro, per := .v, eff := .none, dfl := [0] },
  { lo := 0x8F, hi := 0x8F, ty := .u32, acc := .ro, per := .v, eff := .none, dfl := [0] }]

/-- Object 0x2200 (R415). -/
def rows2200 : List Row := [
  { lo := 0x00, hi := 0x00, ty := .u8, acc := .const, per := .f, eff := .none, dfl := [156] },
  { lo := 0x20, hi := 0x20, ty := .u16, rng := [(100, 5000)], acc := .rw, per := .p, eff := .imm, dfl := [0x1F4] },
  { lo := 0x21, hi := 0x21, ty := .u16, rng := [(500, 60000)], acc := .rw, per := .p, eff := .imm, dfl := [0x7D0] },
  { lo := 0x22, hi := 0x22, ty := .bool, acc := .rw, per := .p, eff := .imm, dfl := [1] },
  { lo := 0x80, hi := 0x80, ty := .r32, acc := .const, per := .f, eff := .none, dfl := [0x42D20000] },
  { lo := 0x81, hi := 0x81, ty := .r32, acc := .const, per := .f, eff := .none, dfl := [0x42E60000] },
  { lo := 0x82, hi := 0x82, ty := .r32, acc := .const, per := .f, eff := .none, dfl := [0x42FA0000] },
  { lo := 0x83, hi := 0x83, ty := .r32, acc := .const, per := .f, eff := .none, dfl := [0x43070000] },
  { lo := 0x84, hi := 0x8F, ty := .r32, acc := .ro, per := .v, eff := .none, dfl := [0] },
  { lo := 0x90, hi := 0x90, ty := .r32, acc := .ro, per := .v, eff := .none, dfl := [0] },
  { lo := 0x91, hi := 0x91, ty := .u8, rng := [(0, 11)], acc := .ro, per := .v, eff := .none, dfl := [0] },
  { lo := 0x92, hi := 0x92, ty := .u16, acc := .ro, per := .v, eff := .none, dfl := [0xFFF] },
  { lo := 0x93, hi := 0x93, ty := .u16, rng := [(100, 10000)], acc := .ro, per := .v, eff := .none, dfl := [0x2710] },
  { lo := 0x94, hi := 0x94, ty := .u8, rng := [(0, 5)], acc := .ro, per := .v, eff := .none, dfl := [0] },
  { lo := 0x95, hi := 0x95, ty := .u8, rng := [(0, 3)], acc := .ro, per := .v, eff := .none, dfl := [0] },
  { lo := 0x96, hi := 0x96, ty := .r32, acc := .ro, per := .v, eff := .none, dfl := [0] },
  { lo := 0x97, hi := 0x97, ty := .u32, acc := .ro, per := .v, eff := .none, dfl := [0] },
  { lo := 0x98, hi := 0x98, ty := .u32, acc := .ro, per := .v, eff := .none, dfl := [0] },
  { lo := 0x99, hi := 0x99, ty := .u32, acc := .ro, per := .v, eff := .none, dfl := [0] },
  { lo := 0x9A, hi := 0x9A, ty := .u32, acc := .ro, per := .held, eff := .none, dfl := [0] },
  { lo := 0x9B, hi := 0x9B, ty := .u32, acc := .ro, per := .held, eff := .none, dfl := [0] },
  { lo := 0x9C, hi := 0x9C, ty := .u32, acc := .ro, per := .held, eff := .none, dfl := [0] }]

/-- Object 0x2300 (R384). -/
def rows2300 : List Row := [
  { lo := 0x00, hi := 0x00, ty := .u8, acc := .const, per := .f, eff := .none, dfl := [132] },
  { lo := 0x01, hi := 0x01, ty := .u16, rng := [(2000, 2399)], acc := .rw, per := .held, eff := .imm, dfl := [0x7D0] },
  { lo := 0x02, hi := 0x02, ty := .u8, rng := [(1, 12)], acc := .rw, per := .held, eff := .imm, dfl := [1] },
  { lo := 0x03, hi := 0x03, ty := .u8, rng := [(1, 31)], acc := .rw, per := .held, eff := .imm, dfl := [1] },
  { lo := 0x04, hi := 0x04, ty := .u8, rng := [(0, 23)], acc := .rw, per := .held, eff := .imm, dfl := [0] },
  { lo := 0x05, hi := 0x05, ty := .u8, rng := [(0, 59)], acc := .rw, per := .held, eff := .imm, dfl := [0] },
  { lo := 0x06, hi := 0x06, ty := .u8, rng := [(0, 59)], acc := .rw, per := .held, eff := .imm, dfl := [0] },
  { lo := 0x07, hi := 0x07, ty := .u16, rng := [(0, 33095)], acc := .ro, per := .held, eff := .none, dfl := [0] },
  { lo := 0x08, hi := 0x08, ty := .u8, rng := [(1, 7)], acc := .ro, per := .held, eff := .none, dfl := [6] },
  { lo := 0x09, hi := 0x09, ty := .bool, acc := .ro, per := .held, eff := .none, dfl := [0] },
  { lo := 0x0A, hi := 0x0A, ty := .u64, rng := [(0, 12622780799)], acc := .ro, per := .held, eff := .none, dfl := [0] },
  { lo := 0x0B, hi := 0x0B, ty := .i32, acc := .wo, per := .v, eff := .imm, dfl := [0] },
  { lo := 0x0C, hi := 0x0C, ty := .bool, acc := .ro, per := .held, eff := .none, dfl := [0] },
  { lo := 0x0D, hi := 0x0D, ty := .i32, acc := .ro, per := .held, eff := .none, dfl := [0] },
  { lo := 0x0E, hi := 0x0E, ty := .u32, acc := .ro, per := .v, eff := .none, dfl := [0] },
  { lo := 0x0F, hi := 0x0F, ty := .u32, acc := .ro, per := .v, eff := .none, dfl := [0] },
  { lo := 0x20, hi := 0x20, ty := .u8, rng := [(0, 1)], acc := .rw, per := .p, eff := .imm, dfl := [0] },
  { lo := 0x21, hi := 0x21, ty := .u8, rng := [(0, 255)], acc := .rw, per := .p, eff := .imm, dfl := [50] },
  { lo := 0x22, hi := 0x22, ty := .u16, rng := [(10, 10000)], acc := .rw, per := .p, eff := .imm, dfl := [100] },
  { lo := 0x30, hi := 0x30, ty := .r32, frng := some (0xC2C80000#32, 0x42C80000#32), acc := .rw, per := .p, eff := .imm, dfl := [0] },
  { lo := 0x31, hi := 0x31, ty := .r32, frng := some (0x00000000#32, 0x3DCCCCCD#32), acc := .rw, per := .p, eff := .imm, dfl := [0x3D0B4396] },
  { lo := 0x32, hi := 0x32, ty := .r32, frng := some (0x00000000#32, 0x42480000#32), acc := .rw, per := .p, eff := .imm, dfl := [0x41C80000] },
  { lo := 0x33, hi := 0x33, ty := .i8, rng := [(-127, 127)], acc := .ro, per := .held, eff := .none, dfl := [0] },
  { lo := 0x34, hi := 0x34, ty := .r32, acc := .ro, per := .held, eff := .none, dfl := [0x41C80000] },
  { lo := 0x40, hi := 0x42, ty := .ostr 30, acc := .ro, per := .held, eff := .none, dfl := [] },
  { lo := 0x43, hi := 0x47, ty := .ostr 30, acc := .rw, per := .held, eff := .imm, dfl := [] },
  { lo := 0x80, hi := 0x80, ty := .r32, acc := .ro, per := .v, eff := .none, dfl := [0] },
  { lo := 0x81, hi := 0x81, ty := .bool, acc := .ro, per := .v, eff := .none, dfl := [0] },
  { lo := 0x82, hi := 0x82, ty := .u8, rng := [(0, 2)], acc := .ro, per := .held, eff := .none, dfl := [0] },
  { lo := 0x83, hi := 0x83, ty := .u32, acc := .ro, per := .held, eff := .none, dfl := [0] },
  { lo := 0x84, hi := 0x84, ty := .u8, rng := [(0, 7)], acc := .ro, per := .held, eff := .none, dfl := [0] }]

/-- Objects 0x2310 to 0x2317 (R385). -/
def rows2310 : List Row := [
  { lo := 0x00, hi := 0x00, ty := .u8, acc := .const, per := .f, eff := .none, dfl := [133] },
  { lo := 0x01, hi := 0x01, ty := .u8, rng := [(0, 3)], acc := .rw, per := .p, eff := .imm, dfl := [0] },
  { lo := 0x02, hi := 0x02, ty := .u64, acc := .rw, per := .p, eff := .imm, dfl := [0] },
  { lo := 0x03, hi := 0x03, ty := .u8, rng := [(0, 3)], acc := .rw, per := .p, eff := .imm, dfl := [2] },
  { lo := 0x80, hi := 0x80, ty := .u64, acc := .ro, per := .held, eff := .none, dfl := [0] },
  { lo := 0x81, hi := 0x81, ty := .u8, acc := .ro, per := .held, eff := .none, dfl := [0] },
  { lo := 0x82, hi := 0x82, ty := .u32, acc := .ro, per := .held, eff := .none, dfl := [0] },
  { lo := 0x83, hi := 0x83, ty := .u32, acc := .ro, per := .held, eff := .none, dfl := [0] },
  { lo := 0x84, hi := 0x84, ty := .u64, acc := .ro, per := .v, eff := .none, dfl := [0] },
  { lo := 0x85, hi := 0x85, ty := .u64, acc := .ro, per := .held, eff := .none, dfl := [0] }]

/-- Object 0x2400 (R434). -/
def rows2400 : List Row := [
  { lo := 0x00, hi := 0x00, ty := .u8, acc := .const, per := .f, eff := .none, dfl := [154] },
  { lo := 0x01, hi := 0x01, ty := .bool, acc := .rw, per := .p, eff := .imm, dfl := [1] },
  { lo := 0x10, hi := 0x10, ty := .u8, rng := [(1, 4)], acc := .wo, per := .v, eff := .imm, dfl := [0] },
  { lo := 0x11, hi := 0x11, ty := .u8, rng := [(1, 2)], acc := .wo, per := .v, eff := .tick, dfl := [0] },
  { lo := 0x20, hi := 0x20, ty := .dom 0 4096, acc := .wo, per := .v, eff := .imm, dfl := [] },
  { lo := 0x21, hi := 0x21, ty := .dom 0 65540, acc := .wo, per := .v, eff := .imm, dfl := [] },
  { lo := 0x80, hi := 0x80, ty := .u8, rng := [(0, 4)], acc := .ro, per := .held, eff := .none, dfl := [0] },
  { lo := 0x81, hi := 0x81, ty := .u8, rng := [(0, 1)], acc := .ro, per := .held, eff := .none, dfl := [0] },
  { lo := 0x82, hi := 0x82, ty := .u8, rng := [(0, 63)], acc := .ro, per := .held, eff := .none, dfl := [0] },
  { lo := 0x83, hi := 0x83, ty := .u8, rng := [(0, 63)], acc := .ro, per := .held, eff := .none, dfl := [0] },
  { lo := 0x84, hi := 0x84, ty := .u64, acc := .ro, per := .held, eff := .none, dfl := [0] },
  { lo := 0x85, hi := 0x85, ty := .u32, acc := .ro, per := .held, eff := .none, dfl := [0] },
  { lo := 0x86, hi := 0x86, ty := .u8, rng := [(0, 64)], acc := .ro, per := .held, eff := .none, dfl := [0] },
  { lo := 0x87, hi := 0x87, ty := .u16, acc := .ro, per := .held, eff := .none, dfl := [0] },
  { lo := 0x88, hi := 0x88, ty := .u8, rng := [(0, 64)], acc := .ro, per := .held, eff := .none, dfl := [0] },
  { lo := 0x89, hi := 0x8A, ty := .u8, rng := [(0, 3)], acc := .ro, per := .held, eff := .none, dfl := [0] },
  { lo := 0x8B, hi := 0x8C, ty := .u32, acc := .ro, per := .held, eff := .none, dfl := [0] },
  { lo := 0x8D, hi := 0x8E, ty := .u8, rng := [(0, 64)], acc := .ro, per := .held, eff := .none, dfl := [0] },
  { lo := 0x8F, hi := 0x8F, ty := .u8, rng := [(0, 1)], acc := .ro, per := .held, eff := .none, dfl := [0] },
  { lo := 0x90, hi := 0x90, ty := .u8, rng := [(0, 2)], acc := .ro, per := .held, eff := .none, dfl := [0] },
  { lo := 0x91, hi := 0x91, ty := .u8, rng := [(0, 3)], acc := .ro, per := .held, eff := .none, dfl := [0] },
  { lo := 0x92, hi := 0x92, ty := .u16, acc := .ro, per := .v, eff := .none, dfl := [0] },
  { lo := 0x93, hi := 0x93, ty := .u8, rng := [(0, 6)], acc := .ro, per := .v, eff := .none, dfl := [0] },
  { lo := 0x94, hi := 0x94, ty := .u64, acc := .ro, per := .held, eff := .none, dfl := [0] },
  { lo := 0x95, hi := 0x95, ty := .u32, acc := .ro, per := .v, eff := .none, dfl := [0] },
  { lo := 0x96, hi := 0x96, ty := .u32, acc := .ro, per := .v, eff := .none, dfl := [0] },
  { lo := 0x97, hi := 0x97, ty := .u32, acc := .ro, per := .v, eff := .none, dfl := [0] },
  { lo := 0x98, hi := 0x98, ty := .u32, acc := .ro, per := .held, eff := .none, dfl := [0] },
  { lo := 0x99, hi := 0x99, ty := .u16, rng := [(0, 200)], acc := .ro, per := .held, eff := .none, dfl := [0] },
  { lo := 0x9A, hi := 0x9A, ty := .u8, rng := [(0, 96)], acc := .ro, per := .v, eff := .none, dfl := [0] }]

/-- Object 0x2500 (R360). -/
def rows2500 : List Row := [
  { lo := 0x00, hi := 0x00, ty := .u8, acc := .const, per := .f, eff := .none, dfl := [147] },
  { lo := 0x01, hi := 0x01, ty := .u8, rng := [(0, 2)], acc := .rw, per := .p, eff := .restart, dfl := [0] },
  { lo := 0x02, hi := 0x02, ty := .u16, rng := [(10, 1000)], acc := .rw, per := .p, eff := .tick, dfl := [100] },
  { lo := 0x03, hi := 0x03, ty := .u16, rng := [(0, 1000)], acc := .rw, per := .p, eff := .imm, dfl := [16] },
  { lo := 0x04, hi := 0x04, ty := .u8, rng := [(1, 255)], acc := .rw, per := .p, eff := .imm, dfl := [10] },
  { lo := 0x05, hi := 0x05, ty := .u32, rng := [(3600, 86400)], acc := .rw, per := .p, eff := .imm, dfl := [0xE10] },
  { lo := 0x06, hi := 0x06, ty := .u16, rng := [(20, 1000)], acc := .rw, per := .p, eff := .imm, dfl := [100] },
  { lo := 0x10, hi := 0x10, ty := .u8, rng := [(1, 4)], acc := .wo, per := .v, eff := .imm, dfl := [0] },
  { lo := 0x20, hi := 0x20, ty := .u8, rng := [(2, 10)], acc := .rw, per := .p, eff := .imm, dfl := [2] },
  { lo := 0x21, hi := 0x21, ty := .u16, rng := [(10, 10000)], acc := .rw, per := .p, eff := .imm, dfl := [100] },
  { lo := 0x22, hi := 0x22, ty := .u8, rng := [(0, 1)], acc := .rw, per := .p, eff := .imm, dfl := [0] },
  { lo := 0x23, hi := 0x23, ty := .u8, rng := [(1, 10)], acc := .rw, per := .p, eff := .imm, dfl := [3] },
  { lo := 0x80, hi := 0x80, ty := .u8, rng := [(0, 1)], acc := .ro, per := .v, eff := .none, dfl := [0] },
  { lo := 0x81, hi := 0x81, ty := .u8, rng := [(0, 7)], acc := .ro, per := .v, eff := .none, dfl := [0] },
  { lo := 0x82, hi := 0x82, ty := .u16, acc := .ro, per := .v, eff := .none, dfl := [0] },
  { lo := 0x83, hi := 0x83, ty := .u8, rng := [(0, 7), (255, 255)], acc := .ro, per := .v, eff := .none, dfl := [255] },
  { lo := 0x84, hi := 0x84, ty := .bool, acc := .ro, per := .v, eff := .none, dfl := [0] },
  { lo := 0x85, hi := 0x85, ty := .u32, acc := .ro, per := .v, eff := .none, dfl := [0] },
  { lo := 0x86, hi := 0x86, ty := .u64, acc := .ro, per := .v, eff := .none, dfl := [0] },
  { lo := 0x87, hi := 0x87, ty := .u32, acc := .ro, per := .v, eff := .none, dfl := [0] },
  { lo := 0x88, hi := 0x88, ty := .u32, acc := .ro, per := .v, eff := .none, dfl := [0] },
  { lo := 0x89, hi := 0x89, ty := .u32, acc := .ro, per := .v, eff := .none, dfl := [0] },
  { lo := 0x8A, hi := 0x8A, ty := .u32, acc := .ro, per := .v, eff := .none, dfl := [0] },
  { lo := 0x8B, hi := 0x8B, ty := .u32, acc := .ro, per := .v, eff := .none, dfl := [0] },
  { lo := 0x8C, hi := 0x8C, ty := .u16, acc := .ro, per := .v, eff := .none, dfl := [0] },
  { lo := 0x8D, hi := 0x8D, ty := .u64, acc := .ro, per := .v, eff := .none, dfl := [0] },
  { lo := 0x8E, hi := 0x8E, ty := .u32, acc := .ro, per := .v, eff := .none, dfl := [0] },
  { lo := 0x8F, hi := 0x8F, ty := .u16, acc := .ro, per := .v, eff := .none, dfl := [0] },
  { lo := 0x90, hi := 0x90, ty := .u8, rng := [(0, 1), (255, 255)], acc := .ro, per := .v, eff := .none, dfl := [255] },
  { lo := 0x91, hi := 0x91, ty := .u32, acc := .ro, per := .v, eff := .none, dfl := [0] },
  { lo := 0x92, hi := 0x92, ty := .u8, rng := [(0, 3)], acc := .ro, per := .v, eff := .none, dfl := [0] },
  { lo := 0x93, hi := 0x93, ty := .u32, acc := .ro, per := .v, eff := .none, dfl := [0] }]

/-- Object 0x2600 (R449). -/
def rows2600 : List Row := [
  { lo := 0x00, hi := 0x00, ty := .u8, acc := .const, per := .f, eff := .none, dfl := [134] },
  { lo := 0x01, hi := 0x01, ty := .dom 0 2048, acc := .ro, per := .f, eff := .none, dfl := [] },
  { lo := 0x02, hi := 0x02, ty := .dom 0 2048, acc := .ro, per := .f, eff := .none, dfl := [] },
  { lo := 0x03, hi := 0x03, ty := .ostr 384, acc := .ro, per := .f, eff := .none, dfl := [] },
  { lo := 0x04, hi := 0x04, ty := .ostr 32, acc := .ro, per := .f, eff := .none, dfl := [] },
  { lo := 0x05, hi := 0x05, ty := .ostr 32, acc := .ro, per := .f, eff := .none, dfl := [] },
  { lo := 0x20, hi := 0x20, ty := .u8, rng := [(0, 1)], acc := .rw, per := .held, eff := .imm, dfl := [0] },
  { lo := 0x21, hi := 0x21, ty := .bool, acc := .rw, per := .p, eff := .imm, dfl := [0] },
  { lo := 0x80, hi := 0x80, ty := .u8, rng := [(1, 2)], acc := .ro, per := .v, eff := .none, dfl := [1] },
  { lo := 0x81, hi := 0x81, ty := .u32, acc := .ro, per := .v, eff := .none, dfl := [0] },
  { lo := 0x82, hi := 0x82, ty := .u8, rng := [(0, 1)], acc := .ro, per := .v, eff := .none, dfl := [0] },
  { lo := 0x83, hi := 0x83, ty := .u8, acc := .ro, per := .held, eff := .none, dfl := [0] },
  { lo := 0x84, hi := 0x84, ty := .u32, acc := .ro, per := .p, eff := .none, dfl := [0] },
  { lo := 0x85, hi := 0x85, ty := .u8, rng := [(0, 6)], acc := .ro, per := .v, eff := .none, dfl := [0] },
  { lo := 0x86, hi := 0x86, ty := .u32, acc := .ro, per := .v, eff := .none, dfl := [0] }]

/-- Object 0x2601+k (R450). -/
def rows2601 : List Row := [
  { lo := 0x00, hi := 0x00, ty := .u8, acc := .const, per := .f, eff := .none, dfl := [129] },
  { lo := 0x01, hi := 0x01, ty := .ostr 384, acc := .rw, per := .held, eff := .imm, dfl := [] },
  { lo := 0x10, hi := 0x10, ty := .u8, rng := [(1, 1)], acc := .wo, per := .v, eff := .imm, dfl := [0] },
  { lo := 0x80, hi := 0x80, ty := .u8, rng := [(0, 2)], acc := .ro, per := .held, eff := .none, dfl := [0] },
  { lo := 0x81, hi := 0x81, ty := .ostr 32, acc := .ro, per := .held, eff := .none, dfl := [] }]

/-- Object 0x2608 (R450). -/
def rows2608 : List Row := [
  { lo := 0x00, hi := 0x00, ty := .u8, acc := .const, per := .f, eff := .none, dfl := [1] },
  { lo := 0x01, hi := 0x01, ty := .dom 449 1048576, acc := .wo, per := .v, eff := .imm, dfl := [] }]

/-- Object 0x260C (R450). -/
def rows260C : List Row := [
  { lo := 0x00, hi := 0x00, ty := .u8, acc := .const, per := .f, eff := .none, dfl := [3] },
  { lo := 0x01, hi := 0x01, ty := .ostr 48, acc := .ro, per := .v, eff := .none, dfl := [] },
  { lo := 0x02, hi := 0x02, ty := .ostr 384, acc := .wo, per := .v, eff := .tick, dfl := [] },
  { lo := 0x03, hi := 0x03, ty := .u8, rng := [(1, 1)], acc := .wo, per := .v, eff := .tick, dfl := [0] }]

/-- Object 0x2610 (R450). -/
def rows2610 : List Row := [
  { lo := 0x00, hi := 0x00, ty := .u8, acc := .const, per := .f, eff := .none, dfl := [2] },
  { lo := 0x01, hi := 0x01, ty := .ostr 32, acc := .wo, per := .v, eff := .imm, dfl := [] },
  { lo := 0x02, hi := 0x02, ty := .dom 0 640, acc := .ro, per := .v, eff := .none, dfl := [] }]

/-- Object 0x2700 (R469). -/
def rows2700 : List Row := [
  { lo := 0x00, hi := 0x00, ty := .u8, acc := .const, per := .f, eff := .none, dfl := [133] },
  { lo := 0x01, hi := 0x04, ty := .u32, acc := .ro, per := .v, eff := .none, dfl := [0] },
  { lo := 0x11, hi := 0x14, ty := .u32, acc := .wo, per := .v, eff := .imm, dfl := [0] },
  { lo := 0x20, hi := 0x20, ty := .dom 16 1168, acc := .ro, per := .v, eff := .none, dfl := [] },
  { lo := 0x80, hi := 0x83, ty := .u32, acc := .ro, per := .v, eff := .none, dfl := [0] },
  { lo := 0x84, hi := 0x84, ty := .u32, acc := .ro, per := .v, eff := .none, dfl := [0] },
  { lo := 0x85, hi := 0x85, ty := .u32, acc := .ro, per := .v, eff := .none, dfl := [0] }]

/-- Object 0x2710 (R459). -/
def rows2710 : List Row := [
  { lo := 0x00, hi := 0x00, ty := .u8, acc := .const, per := .f, eff := .none, dfl := [133] },
  { lo := 0x01, hi := 0x01, ty := .u32, acc := .rw, per := .v, eff := .imm, dfl := [0] },
  { lo := 0x02, hi := 0x02, ty := .ostr 16, acc := .ro, per := .v, eff := .none, dfl := [] },
  { lo := 0x03, hi := 0x03, ty := .dom 16 4096, acc := .ro, per := .v, eff := .none, dfl := [] },
  { lo := 0x80, hi := 0x80, ty := .u32, acc := .ro, per := .v, eff := .none, dfl := [0] },
  { lo := 0x81, hi := 0x81, ty := .u32, acc := .ro, per := .v, eff := .none, dfl := [0] },
  { lo := 0x82, hi := 0x82, ty := .u32, acc := .ro, per := .v, eff := .none, dfl := [0] },
  { lo := 0x83, hi := 0x83, ty := .u32, acc := .ro, per := .v, eff := .none, dfl := [0] },
  { lo := 0x84, hi := 0x84, ty := .u32, acc := .ro, per := .v, eff := .none, dfl := [0] },
  { lo := 0x85, hi := 0x85, ty := .u32, acc := .ro, per := .v, eff := .none, dfl := [0] }]

/-- Objects 0x2800 to 0x2803 (R291). -/
def rows2800 : List Row := [
  { lo := 0x00, hi := 0x00, ty := .u8, acc := .const, per := .f, eff := .none, dfl := [161] },
  { lo := 0x01, hi := 0x01, ty := .u16, rng := [(1, 512)], acc := .rw, per := .p, eff := .restart, dfl := [2] },
  { lo := 0x02, hi := 0x02, ty := .u16, rng := [(1, 256)], acc := .rw, per := .p, eff := .restart, dfl := [63] },
  { lo := 0x03, hi := 0x03, ty := .u8, rng := [(1, 128)], acc := .rw, per := .p, eff := .restart, dfl := [16] },
  { lo := 0x04, hi := 0x04, ty := .u8, rng := [(1, 128)], acc := .rw, per := .p, eff := .restart, dfl := [16] },
  { lo := 0x05, hi := 0x05, ty := .u8, rng := [(1, 32)], acc := .rw, per := .p, eff := .restart, dfl := [1] },
  { lo := 0x06, hi := 0x06, ty := .u8, rng := [(1, 32)], acc := .rw, per := .p, eff := .restart, dfl := [29] },
  { lo := 0x07, hi := 0x07, ty := .u8, rng := [(1, 16)], acc := .rw, per := .p, eff := .restart, dfl := [10] },
  { lo := 0x08, hi := 0x08, ty := .u8, rng := [(1, 16)], acc := .rw, per := .p, eff := .restart, dfl := [10] },
  { lo := 0x09, hi := 0x09, ty := .bool, acc := .rw, per := .p, eff := .restart, dfl := [1] },
  { lo := 0x0A, hi := 0x0A, ty := .u8, rng := [(0, 1)], acc := .rw, per := .p, eff := .restart, dfl := [1] },
  { lo := 0x0B, hi := 0x0B, ty := .u8, rng := [(0, 63)], acc := .rw, per := .p, eff := .restart, dfl := [30] },
  { lo := 0x0C, hi := 0x0C, ty := .u8, rng := [(0, 3)], acc := .rw, per := .v, eff := .imm, dfl := [0] },
  { lo := 0x0D, hi := 0x0D, ty := .u8, rng := [(0, 1)], acc := .rw, per := .p, eff := .imm, dfl := [1] },
  { lo := 0x0E, hi := 0x0E, ty := .u16, rng := [(0, 10000)], acc := .rw, per := .p, eff := .imm, dfl := [0x3E8] },
  { lo := 0x0F, hi := 0x0F, ty := .u16, rng := [(10, 10000)], acc := .rw, per := .p, eff := .imm, dfl := [100] },
  { lo := 0x10, hi := 0x10, ty := .u16, rng := [(0, 2000)], acc := .rw, per := .p, eff := .imm, dfl := [0x7D0] },
  { lo := 0x11, hi := 0x11, ty := .u8, rng := [(1, 1)], acc := .wo, per := .v, eff := .imm, dfl := [0] },
  { lo := 0x80, hi := 0x80, ty := .u8, rng := [(0, 6)], acc := .ro, per := .v, eff := .none, dfl := [0] },
  { lo := 0x81, hi := 0x81, ty := .u8, rng := [(0, 3)], acc := .ro, per := .v, eff := .none, dfl := [0] },
  { lo := 0x82, hi := 0x82, ty := .bool, acc := .ro, per := .v, eff := .none, dfl := [0] },
  { lo := 0x83, hi := 0x83, ty := .u16, rng := [(0, 256)], acc := .ro, per := .v, eff := .none, dfl := [0] },
  { lo := 0x84, hi := 0x84, ty := .u16, rng := [(0, 255)], acc := .ro, per := .v, eff := .none, dfl := [0] },
  { lo := 0x85, hi := 0x85, ty := .u8, rng := [(0, 6)], acc := .ro, per := .v, eff := .none, dfl := [0] },
  { lo := 0x86, hi := 0x86, ty := .u8, rng := [(0, 6)], acc := .ro, per := .v, eff := .none, dfl := [0] },
  { lo := 0x87, hi := 0x87, ty := .u32, acc := .ro, per := .v, eff := .none, dfl := [0] },
  { lo := 0x88, hi := 0x88, ty := .u32, acc := .ro, per := .v, eff := .none, dfl := [0] },
  { lo := 0x89, hi := 0x89, ty := .u32, acc := .ro, per := .v, eff := .none, dfl := [0] },
  { lo := 0x8A, hi := 0x8A, ty := .u32, acc := .ro, per := .v, eff := .none, dfl := [0] },
  { lo := 0x8B, hi := 0x8B, ty := .u32, acc := .ro, per := .v, eff := .none, dfl := [0] },
  { lo := 0x8C, hi := 0x8C, ty := .u32, acc := .ro, per := .v, eff := .none, dfl := [0] },
  { lo := 0x8D, hi := 0x8D, ty := .u32, acc := .ro, per := .v, eff := .none, dfl := [0] },
  { lo := 0x8E, hi := 0x8E, ty := .u32, acc := .ro, per := .v, eff := .none, dfl := [0] },
  { lo := 0x8F, hi := 0x8F, ty := .u32, acc := .ro, per := .v, eff := .none, dfl := [0] },
  { lo := 0x90, hi := 0x90, ty := .u32, acc := .ro, per := .v, eff := .none, dfl := [0] },
  { lo := 0x91, hi := 0x91, ty := .u8, acc := .ro, per := .v, eff := .none, dfl := [0] },
  { lo := 0x92, hi := 0x92, ty := .u8, rng := [(0, 32)], acc := .ro, per := .v, eff := .none, dfl := [0] },
  { lo := 0x93, hi := 0x93, ty := .u16, rng := [(0, 256)], acc := .ro, per := .v, eff := .none, dfl := [0] },
  { lo := 0x94, hi := 0x94, ty := .u8, acc := .ro, per := .v, eff := .none, dfl := [0] },
  { lo := 0x95, hi := 0x95, ty := .u32, acc := .ro, per := .v, eff := .none, dfl := [0] },
  { lo := 0x96, hi := 0x96, ty := .u32, acc := .ro, per := .v, eff := .none, dfl := [0] },
  { lo := 0xA0, hi := 0xA0, ty := .dom 0 3072, acc := .ro, per := .v, eff := .none, dfl := [] },
  { lo := 0xA1, hi := 0xA1, ty := .dom 0 512, acc := .ro, per := .v, eff := .none, dfl := [] }]

/-- Object 0x2810 (R333). -/
def rows2810 : List Row := [
  { lo := 0x00, hi := 0x00, ty := .u8, acc := .const, per := .f, eff := .none, dfl := [135] },
  { lo := 0x01, hi := 0x01, ty := .u16, acc := .rw, per := .p, eff := .imm, dfl := [1] },
  { lo := 0x20, hi := 0x5E, ty := .u16, rng := [(0, 0), (1, 512), (32769, 33280)], acc := .rw, per := .p, eff := .restart, dfl := [0] },
  { lo := 0x80, hi := 0x80, ty := .u16, acc := .ro, per := .v, eff := .none, dfl := [0] },
  { lo := 0x81, hi := 0x81, ty := .u32, acc := .ro, per := .v, eff := .none, dfl := [0] },
  { lo := 0x82, hi := 0x82, ty := .u32, acc := .ro, per := .v, eff := .none, dfl := [0] },
  { lo := 0x83, hi := 0x83, ty := .u32, acc := .ro, per := .v, eff := .none, dfl := [0] },
  { lo := 0x84, hi := 0x84, ty := .u32, acc := .ro, per := .v, eff := .none, dfl := [0] },
  { lo := 0x85, hi := 0x85, ty := .u32, acc := .ro, per := .v, eff := .none, dfl := [0] },
  { lo := 0x86, hi := 0x86, ty := .u8, acc := .ro, per := .v, eff := .none, dfl := [0] },
  { lo := 0x87, hi := 0x87, ty := .u8, rng := [(0, 8)], acc := .ro, per := .v, eff := .none, dfl := [0] }]

/-- Objects 0x3000 to 0x303F (R120). -/
def rows3000 : List Row := [
  { lo := 0x00, hi := 0x00, ty := .u8, acc := .const, per := .f, eff := .none, dfl := [136] },
  { lo := 0x01, hi := 0x01, ty := .u8, rng := [(0, 10)], acc := .rw, per := .p, eff := .tick, dfl := [0] },
  { lo := 0x02, hi := 0x02, ty := .u8, rng := [(0, 3)], acc := .rw, per := .p, eff := .tick, dfl := [3] },
  { lo := 0x03, hi := 0x03, ty := .bool, acc := .rw, per := .p, eff := .tick, dfl := [0] },
  { lo := 0x04, hi := 0x04, ty := .u8, rng := [(0, 1)], acc := .rw, per := .p, eff := .tick, dfl := [0] },
  { lo := 0x05, hi := 0x05, ty := .u8, rng := [(0, 7)], acc := .rw, per := .p, eff := .tick, dfl := [0] },
  { lo := 0x06, hi := 0x06, ty := .u8, rng := [(0, 4)], acc := .rw, per := .p, eff := .tick, dfl := [0] },
  { lo := 0x07, hi := 0x07, ty := .u8, rng := [(0, 1)], acc := .rw, per := .p, eff := .tick, dfl := [1] },
  { lo := 0x08, hi := 0x08, ty := .u8, rng := [(0, 2)], acc := .rw, per := .p, eff := .tick, dfl := [0] },
  { lo := 0x20, hi := 0x20, ty := .u16, rng := [(0, 20000)], acc := .rw, per := .p, eff := .tick, dfl := [0] },
  { lo := 0x21, hi := 0x21, ty := .u8, rng := [(0, 255)], acc := .rw, per := .p, eff := .tick, dfl := [0] },
  { lo := 0x22, hi := 0x22, ty := .r32, frng := some (0x3F800000#32, 0x47C35000#32), acc := .rw, per := .p, eff := .tick, dfl := [0x447A0000] },
  { lo := 0x23, hi := 0x23, ty := .r32, frng := some (0x00000000#32, 0x3F7FBE77#32), acc := .rw, per := .p, eff := .tick, dfl := [0] },
  { lo := 0x24, hi := 0x24, ty := .u8, rng := [(0, 1)], acc := .rw, per := .p, eff := .tick, dfl := [0] },
  { lo := 0x25, hi := 0x25, ty := .r32, acc := .rw, per := .p, eff := .tick, dfl := [0] },
  { lo := 0x26, hi := 0x26, ty := .r32, acc := .rw, per := .p, eff := .tick, dfl := [0x3F800000] },
  { lo := 0x27, hi := 0x27, ty := .u16, rng := [(0, 2000)], acc := .rw, per := .p, eff := .tick, dfl := [0] },
  { lo := 0x28, hi := 0x28, ty := .u16, rng := [(1, 3600)], acc := .rw, per := .p, eff := .tick, dfl := [60] },
  { lo := 0x29, hi := 0x29, ty := .u8, rng := [(1, 64)], acc := .rw, per := .p, eff := .tick, dfl := [4] },
  { lo := 0x2A, hi := 0x2A, ty := .u16, rng := [(10, 10000)], acc := .rw, per := .p, eff := .tick, dfl := [0x7D0] },
  { lo := 0x2B, hi := 0x2B, ty := .r32, acc := .rw, per := .p, eff := .tick, dfl := [0x3F800000] },
  { lo := 0x80, hi := 0x80, ty := .r32, acc := .rww, per := .v, eff := .tick, dfl := [0] },
  { lo := 0x81, hi := 0x81, ty := .u32, acc := .rw, per := .v, eff := .tick, dfl := [0] },
  { lo := 0x82, hi := 0x82, ty := .r32, acc := .ro, per := .v, eff := .none, dfl := [0] },
  { lo := 0x83, hi := 0x83, ty := .r32, acc := .ro, per := .v, eff := .none, dfl := [0] },
  { lo := 0x84, hi := 0x84, ty := .bool, acc := .ro, per := .v, eff := .none, dfl := [0] },
  { lo := 0x85, hi := 0x85, ty := .u8, rng := [(0, 5)], acc := .ro, per := .v, eff := .none, dfl := [0] },
  { lo := 0x86, hi := 0x86, ty := .r32, frng := some (0x00000000#32, 0x3F800000#32), acc := .ro, per := .v, eff := .none, dfl := [0] },
  { lo := 0x87, hi := 0x87, ty := .u8, acc := .ro, per := .v, eff := .none, dfl := [0] },
  { lo := 0x88, hi := 0x88, ty := .u32, acc := .ro, per := .v, eff := .none, dfl := [0] }]

/-- Measurement channels with k = 4 (R96). -/
def rows3100k4 : List Row := [
  { lo := 0x00, hi := 0x00, ty := .u8, acc := .const, per := .f, eff := .none, dfl := [136] },
  { lo := 0x01, hi := 0x01, ty := .u8, rng := [(0, 6)], acc := .rw, per := .p, eff := .tick, dfl := [0] },
  { lo := 0x02, hi := 0x02, ty := .u16, rng := [(0, 480)], acc := .rw, per := .p, eff := .tick, dfl := [0] },
  { lo := 0x03, hi := 0x03, ty := .u8, rng := [(0, 4)], acc := .rw, per := .p, eff := .tick, dfl := [0] },
  { lo := 0x20, hi := 0x20, ty := .u8, rng := [(0, 4)], acc := .rw, per := .p, eff := .tick, dfl := [0] },
  { lo := 0x21, hi := 0x21, ty := .u8, rng := [(0, 8)], acc := .rw, per := .p, eff := .tick, dfl := [0] },
  { lo := 0x22, hi := 0x22, ty := .u8, rng := [(0, 3)], acc := .rw, per := .p, eff := .tick, dfl := [1] },
  { lo := 0x23, hi := 0x23, ty := .r32, frng := some (0xC2800000#32, 0x42800000#32), acc := .rw, per := .p, eff := .tick, dfl := [0] },
  { lo := 0x24, hi := 0x24, ty := .r32, frng := some (0x3F666666#32, 0x3F8CCCCD#32), acc := .rw, per := .p, eff := .tick, dfl := [0x3F800000] },
  { lo := 0x25, hi := 0x25, ty := .r32, acc := .rw, per := .p, eff := .tick, dfl := [0] },
  { lo := 0x26, hi := 0x26, ty := .r32, acc := .rw, per := .p, eff := .tick, dfl := [0x3F800000] },
  { lo := 0x27, hi := 0x27, ty := .r32, acc := .rw, per := .p, eff := .tick, dfl := [0] },
  { lo := 0x28, hi := 0x28, ty := .r32, acc := .rw, per := .p, eff := .tick, dfl := [0] },
  { lo := 0x29, hi := 0x29, ty := .r32, acc := .rw, per := .p, eff := .tick, dfl := [0] },
  { lo := 0x2A, hi := 0x2A, ty := .r32, frng := some (0x42C80000#32, 0x49742400#32), acc := .rw, per := .p, eff := .tick, dfl := [0x461C4000] },
  { lo := 0x2B, hi := 0x2B, ty := .r32, frng := some (0xBFA00000#32, 0x3FA00000#32), acc := .rw, per := .p, eff := .tick, dfl := [0] },
  { lo := 0x2C, hi := 0x2C, ty := .r32, frng := some (0x00000000#32, 0x42C80000#32), acc := .rw, per := .p, eff := .tick, dfl := [0] },
  { lo := 0x80, hi := 0x80, ty := .u32, acc := .ro, per := .v, eff := .none, dfl := [0] },
  { lo := 0x81, hi := 0x81, ty := .u8, rng := [(0, 16)], acc := .ro, per := .v, eff := .none, dfl := [0] },
  { lo := 0x82, hi := 0x82, ty := .r32, acc := .ro, per := .v, eff := .none, dfl := [0] },
  { lo := 0x83, hi := 0x83, ty := .i16, acc := .ro, per := .v, eff := .none, dfl := [0x8000] },
  { lo := 0x84, hi := 0x84, ty := .u32, acc := .ro, per := .v, eff := .none, dfl := [0] },
  { lo := 0x85, hi := 0x85, ty := .u32, acc := .ro, per := .v, eff := .none, dfl := [0] },
  { lo := 0x86, hi := 0x86, ty := .u32, acc := .ro, per := .v, eff := .none, dfl := [0] },
  { lo := 0x87, hi := 0x87, ty := .u32, acc := .ro, per := .v, eff := .none, dfl := [0] },
  { lo := 0x88, hi := 0x88, ty := .u16, acc := .ro, per := .v, eff := .none, dfl := [0] }]

/-- Measurement channels with k = 5 (R96). -/
def rows3100k5 : List Row := [
  { lo := 0x00, hi := 0x00, ty := .u8, acc := .const, per := .f, eff := .none, dfl := [136] },
  { lo := 0x01, hi := 0x01, ty := .u8, rng := [(0, 6)], acc := .const, per := .f, eff := .none, dfl := [6] },
  { lo := 0x02, hi := 0x02, ty := .u16, rng := [(0, 480)], acc := .rw, per := .p, eff := .tick, dfl := [0] },
  { lo := 0x21, hi := 0x21, ty := .u8, rng := [(0, 8)], acc := .rw, per := .p, eff := .tick, dfl := [0] },
  { lo := 0x22, hi := 0x22, ty := .u8, rng := [(0, 3)], acc := .rw, per := .p, eff := .tick, dfl := [1] },
  { lo := 0x23, hi := 0x23, ty := .r32, frng := some (0xC2800000#32, 0x42800000#32), acc := .rw, per := .p, eff := .tick, dfl := [0] },
  { lo := 0x24, hi := 0x24, ty := .r32, frng := some (0x3F666666#32, 0x3F8CCCCD#32), acc := .rw, per := .p, eff := .tick, dfl := [0x3F800000] },
  { lo := 0x80, hi := 0x80, ty := .u32, acc := .ro, per := .v, eff := .none, dfl := [0] },
  { lo := 0x81, hi := 0x81, ty := .u8, rng := [(0, 16)], acc := .ro, per := .v, eff := .none, dfl := [0] },
  { lo := 0x82, hi := 0x82, ty := .r32, acc := .ro, per := .v, eff := .none, dfl := [0] },
  { lo := 0x83, hi := 0x83, ty := .i16, acc := .ro, per := .v, eff := .none, dfl := [0x8000] },
  { lo := 0x84, hi := 0x84, ty := .u32, acc := .ro, per := .v, eff := .none, dfl := [0] },
  { lo := 0x85, hi := 0x85, ty := .u32, acc := .ro, per := .v, eff := .none, dfl := [0] },
  { lo := 0x86, hi := 0x86, ty := .u32, acc := .ro, per := .v, eff := .none, dfl := [0] },
  { lo := 0x87, hi := 0x87, ty := .u32, acc := .ro, per := .v, eff := .none, dfl := [0] },
  { lo := 0x88, hi := 0x88, ty := .u16, acc := .ro, per := .v, eff := .none, dfl := [0] }]

/-- Measurement channels with k = 0 to 3 (R96). -/
def rows3100 : List Row := [
  { lo := 0x00, hi := 0x00, ty := .u8, acc := .const, per := .f, eff := .none, dfl := [136] },
  { lo := 0x01, hi := 0x01, ty := .u8, rng := [(0, 6)], acc := .rw, per := .p, eff := .tick, dfl := [0] },
  { lo := 0x02, hi := 0x02, ty := .u16, rng := [(0, 480)], acc := .rw, per := .p, eff := .tick, dfl := [0] },
  { lo := 0x21, hi := 0x21, ty := .u8, rng := [(0, 8)], acc := .rw, per := .p, eff := .tick, dfl := [0] },
  { lo := 0x22, hi := 0x22, ty := .u8, rng := [(0, 3)], acc := .rw, per := .p, eff := .tick, dfl := [1] },
  { lo := 0x23, hi := 0x23, ty := .r32, frng := some (0xC2800000#32, 0x42800000#32), acc := .rw, per := .p, eff := .tick, dfl := [0] },
  { lo := 0x24, hi := 0x24, ty := .r32, frng := some (0x3F666666#32, 0x3F8CCCCD#32), acc := .rw, per := .p, eff := .tick, dfl := [0x3F800000] },
  { lo := 0x25, hi := 0x25, ty := .r32, acc := .rw, per := .p, eff := .tick, dfl := [0] },
  { lo := 0x26, hi := 0x26, ty := .r32, acc := .rw, per := .p, eff := .tick, dfl := [0x3F800000] },
  { lo := 0x27, hi := 0x27, ty := .r32, acc := .rw, per := .p, eff := .tick, dfl := [0] },
  { lo := 0x28, hi := 0x28, ty := .r32, acc := .rw, per := .p, eff := .tick, dfl := [0] },
  { lo := 0x29, hi := 0x29, ty := .r32, acc := .rw, per := .p, eff := .tick, dfl := [0] },
  { lo := 0x2A, hi := 0x2A, ty := .r32, frng := some (0x42C80000#32, 0x49742400#32), acc := .rw, per := .p, eff := .tick, dfl := [0x461C4000] },
  { lo := 0x80, hi := 0x80, ty := .u32, acc := .ro, per := .v, eff := .none, dfl := [0] },
  { lo := 0x81, hi := 0x81, ty := .u8, rng := [(0, 16)], acc := .ro, per := .v, eff := .none, dfl := [0] },
  { lo := 0x82, hi := 0x82, ty := .r32, acc := .ro, per := .v, eff := .none, dfl := [0] },
  { lo := 0x83, hi := 0x83, ty := .i16, acc := .ro, per := .v, eff := .none, dfl := [0x8000] },
  { lo := 0x84, hi := 0x84, ty := .u32, acc := .ro, per := .v, eff := .none, dfl := [0] },
  { lo := 0x85, hi := 0x85, ty := .u32, acc := .ro, per := .v, eff := .none, dfl := [0] },
  { lo := 0x86, hi := 0x86, ty := .u32, acc := .ro, per := .v, eff := .none, dfl := [0] },
  { lo := 0x87, hi := 0x87, ty := .u32, acc := .ro, per := .v, eff := .none, dfl := [0] },
  { lo := 0x88, hi := 0x88, ty := .u16, acc := .ro, per := .v, eff := .none, dfl := [0] }]

/-- Slices S0 to S15 (R97). -/
def rows3160 : List Row := [
  { lo := 0x00, hi := 0x00, ty := .u8, acc := .const, per := .f, eff := .none, dfl := [147] },
  { lo := 0x01, hi := 0x01, ty := .u8, rng := [(0, 16)], acc := .rw, per := .p, eff := .tick, dfl := [0] },
  { lo := 0x02, hi := 0x11, ty := .u8, rng := [(0, 5)], acc := .rw, per := .p, eff := .tick, dfl := [0] },
  { lo := 0x80, hi := 0x80, ty := .u8, rng := [(0, 8)], acc := .ro, per := .v, eff := .none, dfl := [0] },
  { lo := 0x81, hi := 0x81, ty := .u8, rng := [(0, 16)], acc := .ro, per := .v, eff := .none, dfl := [16] },
  { lo := 0x82, hi := 0x88, ty := .r32, acc := .ro, per := .v, eff := .none, dfl := [0] },
  { lo := 0x89, hi := 0x8F, ty := .r32, acc := .ro, per := .v, eff := .none, dfl := [0] },
  { lo := 0x90, hi := 0x90, ty := .r32, acc := .ro, per := .v, eff := .none, dfl := [0] },
  { lo := 0x91, hi := 0x91, ty := .u64, acc := .ro, per := .v, eff := .none, dfl := [0] },
  { lo := 0x92, hi := 0x92, ty := .u32, acc := .ro, per := .v, eff := .none, dfl := [0] },
  { lo := 0x93, hi := 0x93, ty := .r32, acc := .ro, per := .f, eff := .none, dfl := [0] }]

/-- The spare slice SP (R97). -/
def rows3170 : List Row := [
  { lo := 0x00, hi := 0x00, ty := .u8, acc := .const, per := .f, eff := .none, dfl := [147] },
  { lo := 0x01, hi := 0x01, ty := .u8, rng := [(0, 16)], acc := .const, per := .f, eff := .none, dfl := [0] },
  { lo := 0x02, hi := 0x11, ty := .u8, rng := [(0, 5)], acc := .const, per := .f, eff := .none, dfl := [0] },
  { lo := 0x80, hi := 0x80, ty := .u8, rng := [(0, 8)], acc := .ro, per := .v, eff := .none, dfl := [4] },
  { lo := 0x81, hi := 0x81, ty := .u8, rng := [(0, 16)], acc := .ro, per := .v, eff := .none, dfl := [0] },
  { lo := 0x82, hi := 0x88, ty := .r32, acc := .ro, per := .v, eff := .none, dfl := [0] },
  { lo := 0x89, hi := 0x8F, ty := .r32, acc := .ro, per := .v, eff := .none, dfl := [0] },
  { lo := 0x90, hi := 0x90, ty := .r32, acc := .ro, per := .v, eff := .none, dfl := [0] },
  { lo := 0x91, hi := 0x91, ty := .u64, acc := .ro, per := .v, eff := .none, dfl := [0] },
  { lo := 0x92, hi := 0x92, ty := .u32, acc := .ro, per := .v, eff := .none, dfl := [0] },
  { lo := 0x93, hi := 0x93, ty := .r32, acc := .ro, per := .f, eff := .none, dfl := [0] }]

/-- Object 0x3180 (R98). -/
def rows3180 : List Row := [
  { lo := 0x00, hi := 0x00, ty := .u8, acc := .const, per := .f, eff := .none, dfl := [137] },
  { lo := 0x20, hi := 0x23, ty := .u8, rng := [(0, 7)], acc := .rw, per := .p, eff := .tick, dfl := [0] },
  { lo := 0x24, hi := 0x24, ty := .bool, acc := .rw, per := .p, eff := .tick, dfl := [1] },
  { lo := 0x80, hi := 0x80, ty := .u16, acc := .ro, per := .v, eff := .none, dfl := [0] },
  { lo := 0x81, hi := 0x81, ty := .u8, rng := [(0, 15)], acc := .ro, per := .v, eff := .none, dfl := [0] },
  { lo := 0x82, hi := 0x82, ty := .u32, acc := .ro, per := .v, eff := .none, dfl := [0] },
  { lo := 0x83, hi := 0x86, ty := .r32, acc := .ro, per := .v, eff := .none, dfl := [0] },
  { lo := 0x87, hi := 0x87, ty := .r32, acc := .ro, per := .v, eff := .none, dfl := [0] },
  { lo := 0x88, hi := 0x88, ty := .u32, acc := .ro, per := .v, eff := .none, dfl := [0] },
  { lo := 0x89, hi := 0x89, ty := .u8, rng := [(1, 2)], acc := .ro, per := .v, eff := .none, dfl := [1] }]

/-- Objects 0x3200 to 0x3207 (R145). -/
def rows3200 : List Row := [
  { lo := 0x00, hi := 0x00, ty := .u8, acc := .const, per := .f, eff := .none, dfl := [137] },
  { lo := 0x01, hi := 0x01, ty := .u8, rng := [(0, 6)], acc := .rw, per := .p, eff := .tick, dfl := [0] },
  { lo := 0x02, hi := 0x02, ty := .bool, acc := .rw, per := .p, eff := .tick, dfl := [0] },
  { lo := 0x03, hi := 0x03, ty := .bool, acc := .rw, per := .p, eff := .tick, dfl := [0] },
  { lo := 0x04, hi := 0x04, ty := .u8, rng := [(0, 1)], acc := .rw, per := .p, eff := .tick, dfl := [0] },
  { lo := 0x05, hi := 0x05, ty := .u8, rng := [(0, 1)], acc := .rw, per := .p, eff := .tick, dfl := [0] },
  { lo := 0x06, hi := 0x06, ty := .u8, rng := [(0, 2)], acc := .rw, per := .p, eff := .tick, dfl := [0] },
  { lo := 0x07, hi := 0x07, ty := .bool, acc := .rw, per := .p, eff := .tick, dfl := [0] },
  { lo := 0x08, hi := 0x08, ty := .u8, rng := [(1, 32)], acc := .rw, per := .p, eff := .tick, dfl := [25] },
  { lo := 0x09, hi := 0x09, ty := .u8, rng := [(0, 1)], acc := .rw, per := .p, eff := .tick, dfl := [1] },
  { lo := 0x0A, hi := 0x0A, ty := .u32, rng := [(100000, 5000000)], acc := .rw, per := .p, eff := .tick, dfl := [0xF4240] },
  { lo := 0x0B, hi := 0x0B, ty := .u8, rng := [(1, 50)], acc := .rw, per := .p, eff := .tick, dfl := [20] },
  { lo := 0x0C, hi := 0x0C, ty := .u8, rng := [(0, 200)], acc := .rw, per := .p, eff := .tick, dfl := [0] },
  { lo := 0x20, hi := 0x20, ty := .u16, rng := [(0, 256)], acc := .rw, per := .p, eff := .tick, dfl := [0] },
  { lo := 0x21, hi := 0x21, ty := .u32, rng := [(4, 16777216)], acc := .rw, per := .p, eff := .tick, dfl := [0x1000] },
  { lo := 0x22, hi := 0x22, ty := .u16, rng := [(0, 255)], acc := .rw, per := .p, eff := .tick, dfl := [1] },
  { lo := 0x23, hi := 0x23, ty := .u32, acc := .rw, per := .p, eff := .tick, dfl := [0] },
  { lo := 0x24, hi := 0x24, ty := .u8, rng := [(1, 64)], acc := .rw, per := .p, eff := .tick, dfl := [8] },
  { lo := 0x25, hi := 0x25, ty := .u16, rng := [(1, 1000)], acc := .rw, per := .p, eff := .tick, dfl := [100] },
  { lo := 0x26, hi := 0x26, ty := .u32, acc := .rw, per := .p, eff := .tick, dfl := [10] },
  { lo := 0x80, hi := 0x80, ty := .u32, acc := .rw, per := .v, eff := .tick, dfl := [0] },
  { lo := 0x81, hi := 0x81, ty := .r32, acc := .ro, per := .v, eff := .none, dfl := [0] },
  { lo := 0x82, hi := 0x82, ty := .u32, acc := .ro, per := .v, eff := .none, dfl := [0] },
  { lo := 0x83, hi := 0x83, ty := .u16, acc := .ro, per := .v, eff := .none, dfl := [2] },
  { lo := 0x84, hi := 0x84, ty := .r32, acc := .rww, per := .v, eff := .tick, dfl := [0] },
  { lo := 0x85, hi := 0x85, ty := .u32, acc := .ro, per := .v, eff := .none, dfl := [0] },
  { lo := 0x86, hi := 0x86, ty := .u32, acc := .ro, per := .v, eff := .none, dfl := [0] },
  { lo := 0x87, hi := 0x87, ty := .u32, acc := .ro, per := .v, eff := .none, dfl := [0] },
  { lo := 0x88, hi := 0x88, ty := .u32, acc := .ro, per := .v, eff := .none, dfl := [0] },
  { lo := 0x89, hi := 0x89, ty := .u8, rng := [(1, 1)], acc := .wo, per := .v, eff := .tick, dfl := [0] }]

/-- Objects 0x3210 to 0x3217 (R146). -/
def rows3210 : List Row := [
  { lo := 0x00, hi := 0x00, ty := .u8, acc := .const, per := .f, eff := .none, dfl := [133] },
  { lo := 0x01, hi := 0x01, ty := .u8, rng := [(0, 64)], acc := .rw, per := .p, eff := .tick, dfl := [0] },
  { lo := 0x02, hi := 0x02, ty := .u8, rng := [(0, 2)], acc := .rw, per := .p, eff := .tick, dfl := [0] },
  { lo := 0x03, hi := 0x03, ty := .u8, rng := [(0, 1)], acc := .rw, per := .p, eff := .tick, dfl := [0] },
  { lo := 0x20, hi := 0x20, ty := .u16, rng := [(1, 65535)], acc := .rw, per := .p, eff := .tick, dfl := [100] },
  { lo := 0x21, hi := 0x21, ty := .i32, acc := .rw, per := .p, eff := .tick, dfl := [0] },
  { lo := 0x40, hi := 0x7F, ty := .u32, acc := .rw, per := .p, eff := .tick, dfl := [0] },
  { lo := 0x80, hi := 0x80, ty := .u8, rng := [(0, 64)], acc := .ro, per := .v, eff := .none, dfl := [64] },
  { lo := 0x81, hi := 0x81, ty := .u32, acc := .ro, per := .v, eff := .none, dfl := [0] },
  { lo := 0x82, hi := 0x82, ty := .u32, acc := .ro, per := .v, eff := .none, dfl := [0] },
  { lo := 0x83, hi := 0x83, ty := .u32, acc := .ro, per := .v, eff := .none, dfl := [0] },
  { lo := 0x84, hi := 0x84, ty := .u8, rng := [(1, 2)], acc := .wo, per := .v, eff := .tick, dfl := [0] },
  { lo := 0x85, hi := 0x85, ty := .i32, acc := .ro, per := .v, eff := .none, dfl := [0] }]

/-- Objects 0x3300 and 0x3301 (R263). -/
def rows3300 : List Row := [
  { lo := 0x00, hi := 0x00, ty := .u8, acc := .const, per := .f, eff := .none, dfl := [142] },
  { lo := 0x01, hi := 0x01, ty := .u8, rng := [(0, 2)], acc := .rw, per := .p, eff := .tick, dfl := [0] },
  { lo := 0x02, hi := 0x02, ty := .u16, acc := .rw, per := .p, eff := .tick, dfl := [0] },
  { lo := 0x03, hi := 0x03, ty := .u8, rng := [(5, 50)], acc := .rw, per := .p, eff := .tick, dfl := [20] },
  { lo := 0x04, hi := 0x04, ty := .r32, frng := some (0x41200000#32, 0x41A00000#32), acc := .rw, per := .p, eff := .tick, dfl := [0x41700000] },
  { lo := 0x05, hi := 0x05, ty := .r32, frng := some (0x41200000#32, 0x41A00000#32), acc := .rw, per := .p, eff := .tick, dfl := [0x41700000] },
  { lo := 0x06, hi := 0x0C, ty := .i16, rng := [(-4000, 8500)], acc := .rw, per := .p, eff := .tick, dfl := [0xF830, 0xFC18, 0, 0x3E8, 0x7D0, 0xBB8, 0xFA0] },
  { lo := 0x20, hi := 0x20, ty := .u8, rng := [(0, 7)], acc := .rw, per := .p, eff := .tick, dfl := [4] },
  { lo := 0x21, hi := 0x21, ty := .i32, rng := [(50, 100000)], acc := .rw, per := .p, eff := .tick, dfl := [0x1F4] },
  { lo := 0x22, hi := 0x22, ty := .u16, rng := [(0, 1000)], acc := .rw, per := .p, eff := .tick, dfl := [0] },
  { lo := 0x23, hi := 0x23, ty := .bool, acc := .rw, per := .p, eff := .tick, dfl := [1] },
  { lo := 0x24, hi := 0x24, ty := .bool, acc := .rw, per := .p, eff := .tick, dfl := [1] },
  { lo := 0x25, hi := 0x25, ty := .u16, rng := [(0, 10000)], acc := .rw, per := .p, eff := .tick, dfl := [0x1F4] },
  { lo := 0x26, hi := 0x26, ty := .u16, rng := [(20, 1000)], acc := .rw, per := .p, eff := .tick, dfl := [200] },
  { lo := 0x80, hi := 0x80, ty := .u64, acc := .rww, per := .v, eff := .tick, dfl := [0] },
  { lo := 0x81, hi := 0x81, ty := .u8, rng := [(1, 4)], acc := .wo, per := .v, eff := .tick, dfl := [0] },
  { lo := 0x82, hi := 0x82, ty := .u64, acc := .ro, per := .v, eff := .none, dfl := [0] },
  { lo := 0x83, hi := 0x83, ty := .u8, rng := [(0, 7)], acc := .ro, per := .v, eff := .none, dfl := [0] },
  { lo := 0x84, hi := 0x84, ty := .u8, rng := [(0, 7)], acc := .ro, per := .v, eff := .none, dfl := [0] },
  { lo := 0x85, hi := 0x85, ty := .u8, rng := [(0, 7)], acc := .ro, per := .v, eff := .none, dfl := [0] },
  { lo := 0x86, hi := 0x86, ty := .u8, rng := [(0, 64)], acc := .ro, per := .v, eff := .none, dfl := [0] },
  { lo := 0x87, hi := 0x87, ty := .u16, acc := .ro, per := .v, eff := .none, dfl := [0] },
  { lo := 0x88, hi := 0x88, ty := .r32, acc := .ro, per := .v, eff := .none, dfl := [0] },
  { lo := 0x89, hi := 0x89, ty := .r32, acc := .ro, per := .v, eff := .none, dfl := [0] },
  { lo := 0x8A, hi := 0x8A, ty := .u32, acc := .ro, per := .v, eff := .none, dfl := [0] },
  { lo := 0x8B, hi := 0x8B, ty := .u32, acc := .ro, per := .v, eff := .none, dfl := [0] },
  { lo := 0x8C, hi := 0x8C, ty := .u32, acc := .ro, per := .v, eff := .none, dfl := [0] },
  { lo := 0x8D, hi := 0x8D, ty := .u64, acc := .ro, per := .v, eff := .none, dfl := [0] },
  { lo := 0x8E, hi := 0x8E, ty := .r32, frng := some (0x00000000#32, 0x3F800000#32), acc := .ro, per := .v, eff := .none, dfl := [0] }]

/-- Objects 0x3310 to 0x3337: waveform kind `k` (R249, R264). -/
def rows3310 (k : Nat) : List Row := [
  { lo := 0x00, hi := 0x00, ty := .u8, acc := .const, per := .f, eff := .none, dfl := [18] },
  { lo := 0x01, hi := 0x01, ty := .u8, rng := [(0, 64)], acc := .rw, per := .p, eff := .tick, dfl := [if k == 4 then 8 else 6] },
  { lo := 0x02, hi := 0x09, ty := .u32, acc := .rw, per := .p, eff := .tick, dfl := [wave0 k, 0] },
  { lo := 0x0A, hi := 0x0A, ty := .u8, rng := [(0, 64)], acc := .rw, per := .p, eff := .tick, dfl := [if k == 4 then 8 else 6] },
  { lo := 0x0B, hi := 0x12, ty := .u32, acc := .rw, per := .p, eff := .tick, dfl := [wave0 k, 0] }]

/-- Objects 0x3340 and 0x3341 (R265). -/
def rows3340 : List Row := [
  { lo := 0x00, hi := 0x00, ty := .u8, acc := .const, per := .f, eff := .none, dfl := [176] },
  { lo := 0x80, hi := 0xAF, ty := .i32, acc := .ro, per := .v, eff := .none, dfl := [0] },
  { lo := 0xB0, hi := 0xB0, ty := .u8, rng := [(1, 1)], acc := .wo, per := .v, eff := .tick, dfl := [0] }]

/-- Objects 0x3400 to 0x37FF: loop n (R176). -/
def rows3400 : List Row := [
  { lo := 0x00, hi := 0x00, ty := .u8, acc := .const, per := .f, eff := .none, dfl := [159] },
  { lo := 0x01, hi := 0x01, ty := .bool, acc := .rw, per := .p, eff := .tick, dfl := [0] },
  { lo := 0x02, hi := 0x02, ty := .u8, rng := [(0, 7)], acc := .rw, per := .p, eff := .tick, dfl := [6] },
  { lo := 0x03, hi := 0x03, ty := .u32, rng := [(0, 99999), (65535, 65535)], acc := .rw, per := .p, eff := .tick, dfl := [0xFFFF] },
  { lo := 0x04, hi := 0x04, ty := .u16, acc := .rw, per := .p, eff := .tick, dfl := [0] },
  { lo := 0x05, hi := 0x05, ty := .u16, acc := .rw, per := .p, eff := .tick, dfl := [0] },
  { lo := 0x06, hi := 0x06, ty := .u16, acc := .rw, per := .p, eff := .tick, dfl := [0] },
  { lo := 0x07, hi := 0x07, ty := .u16, acc := .rw, per := .p, eff := .tick, dfl := [0] },
  { lo := 0x08, hi := 0x08, ty := .u16, acc := .rw, per := .p, eff := .tick, dfl := [0] },
  { lo := 0x09, hi := 0x09, ty := .u16, acc := .rw, per := .p, eff := .tick, dfl := [0] },
  { lo := 0x0A, hi := 0x0A, ty := .u8, rng := [(0, 1)], acc := .rw, per := .p, eff := .tick, dfl := [0] },
  { lo := 0x20, hi := 0x20, ty := .r32, frng := some (0xCE6E6B28#32, 0x4E6E6B28#32), acc := .rw, per := .p, eff := .imm, dfl := [0] },
  { lo := 0x21, hi := 0x21, ty := .r32, frng := some (0xCE6E6B28#32, 0x4E6E6B28#32), acc := .rw, per := .p, eff := .imm, dfl := [0] },
  { lo := 0x22, hi := 0x22, ty := .r32, frng := some (0xCE6E6B28#32, 0x4E6E6B28#32), acc := .rw, per := .p, eff := .imm, dfl := [0] },
  { lo := 0x23, hi := 0x23, ty := .r32, frng := some (0x00000000#32, 0x447A0000#32), acc := .rw, per := .p, eff := .imm, dfl := [0] },
  { lo := 0x24, hi := 0x24, ty := .r32, frng := some (0x00000000#32, 0x4E6E6B28#32), acc := .rw, per := .p, eff := .imm, dfl := [0] },
  { lo := 0x25, hi := 0x25, ty := .r32, frng := some (0x00000000#32, 0x4E6E6B28#32), acc := .rw, per := .p, eff := .imm, dfl := [0] },
  { lo := 0x26, hi := 0x26, ty := .r32, acc := .rw, per := .p, eff := .imm, dfl := [0] },
  { lo := 0x27, hi := 0x27, ty := .r32, acc := .rw, per := .p, eff := .imm, dfl := [0x3F800000] },
  { lo := 0x28, hi := 0x28, ty := .r32, frng := some (0x00000000#32, 0x4E6E6B28#32), acc := .rw, per := .p, eff := .imm, dfl := [0] },
  { lo := 0x29, hi := 0x2B, ty := .r32, acc := .rw, per := .p, eff := .imm, dfl := [0] },
  { lo := 0x2C, hi := 0x2C, ty := .u32, rng := [(0, 2)], acc := .rw, per := .p, eff := .imm, dfl := [0] },
  { lo := 0x2D, hi := 0x2D, ty := .r32, frng := some (0x3A83126F#32, 0x458CA000#32), acc := .rw, per := .p, eff := .imm, dfl := [0x3DCCCCCD] },
  { lo := 0x2E, hi := 0x2E, ty := .r32, frng := some (0x3727C5AC#32, 0x472FC800#32), acc := .rw, per := .p, eff := .imm, dfl := [0x3CA3D70A] },
  { lo := 0x2F, hi := 0x2F, ty := .r32, frng := some (0x00000000#32, 0x42C80000#32), acc := .rw, per := .p, eff := .imm, dfl := [0x42200000] },
  { lo := 0x30, hi := 0x32, ty := .r32, acc := .rw, per := .p, eff := .imm, dfl := [0x3F800000, 0, 0] },
  { lo := 0x33, hi := 0x34, ty := .r32, acc := .rw, per := .p, eff := .imm, dfl := [0, 0] },
  { lo := 0x40, hi := 0x40, ty := .r32, frng := some (0xCE6E6B28#32, 0x4E6E6B28#32), acc := .rw, per := .p, eff := .imm, dfl := [0] },
  { lo := 0x41, hi := 0x41, ty := .r32, frng := some (0xCE6E6B28#32, 0x4E6E6B28#32), acc := .rw, per := .p, eff := .imm, dfl := [0] },
  { lo := 0x42, hi := 0x42, ty := .r32, frng := some (0xCE6E6B28#32, 0x4E6E6B28#32), acc := .rw, per := .p, eff := .imm, dfl := [0] },
  { lo := 0x43, hi := 0x43, ty := .r32, frng := some (0x00000000#32, 0x447A0000#32), acc := .rw, per := .p, eff := .imm, dfl := [0] },
  { lo := 0x44, hi := 0x44, ty := .r32, frng := some (0x00000000#32, 0x4E6E6B28#32), acc := .rw, per := .p, eff := .imm, dfl := [0] },
  { lo := 0x45, hi := 0x45, ty := .r32, frng := some (0x00000000#32, 0x4E6E6B28#32), acc := .rw, per := .p, eff := .imm, dfl := [0] },
  { lo := 0x46, hi := 0x46, ty := .r32, acc := .rw, per := .p, eff := .imm, dfl := [0] },
  { lo := 0x47, hi := 0x47, ty := .r32, acc := .rw, per := .p, eff := .imm, dfl := [0x3F800000] },
  { lo := 0x48, hi := 0x48, ty := .r32, frng := some (0x00000000#32, 0x4E6E6B28#32), acc := .rw, per := .p, eff := .imm, dfl := [0] },
  { lo := 0x49, hi := 0x4B, ty := .r32, acc := .rw, per := .p, eff := .imm, dfl := [0] },
  { lo := 0x4C, hi := 0x4C, ty := .u32, rng := [(0, 2)], acc := .rw, per := .p, eff := .imm, dfl := [0] },
  { lo := 0x4D, hi := 0x4D, ty := .r32, frng := some (0x3A83126F#32, 0x458CA000#32), acc := .rw, per := .p, eff := .imm, dfl := [0x3DCCCCCD] },
  { lo := 0x4E, hi := 0x4E, ty := .r32, frng := some (0x3727C5AC#32, 0x472FC800#32), acc := .rw, per := .p, eff := .imm, dfl := [0x3CA3D70A] },
  { lo := 0x4F, hi := 0x4F, ty := .r32, frng := some (0x00000000#32, 0x42C80000#32), acc := .rw, per := .p, eff := .imm, dfl := [0x42200000] },
  { lo := 0x50, hi := 0x52, ty := .r32, acc := .rw, per := .p, eff := .imm, dfl := [0x3F800000, 0, 0] },
  { lo := 0x53, hi := 0x54, ty := .r32, acc := .rw, per := .p, eff := .imm, dfl := [0, 0] },
  { lo := 0x60, hi := 0x60, ty := .r32, acc := .rw, per := .p, eff := .period, dfl := [0] },
  { lo := 0x61, hi := 0x61, ty := .u8, rng := [(0, 1)], acc := .rw, per := .p, eff := .period, dfl := [0] },
  { lo := 0x62, hi := 0x62, ty := .u8, rng := [(0, 255)], acc := .rw, per := .p, eff := .period, dfl := [2] },
  { lo := 0x63, hi := 0x63, ty := .u8, rng := [(0, 64)], acc := .rw, per := .p, eff := .tick, dfl := [0] },
  { lo := 0x80, hi := 0x80, ty := .r32, acc := .rww, per := .v, eff := .period, dfl := [0] },
  { lo := 0x81, hi := 0x81, ty := .u8, rng := [(0, 3)], acc := .rww, per := .v, eff := .period, dfl := [0] },
  { lo := 0x82, hi := 0x82, ty := .r32, acc := .rww, per := .v, eff := .period, dfl := [0] },
  { lo := 0x83, hi := 0x83, ty := .u8, rng := [(0, 1)], acc := .ro, per := .v, eff := .none, dfl := [0] },
  { lo := 0x84, hi := 0x84, ty := .u8, rng := [(1, 1)], acc := .wo, per := .v, eff := .period, dfl := [0] },
  { lo := 0x85, hi := 0x85, ty := .u8, rng := [(1, 1)], acc := .wo, per := .v, eff := .tick, dfl := [0] },
  { lo := 0x86, hi := 0x86, ty := .u32, rng := [(0, 99999)], acc := .ro, per := .v, eff := .none, dfl := [0] },
  { lo := 0x87, hi := 0x87, ty := .u8, rng := [(0, 6)], acc := .ro, per := .v, eff := .none, dfl := [0] },
  { lo := 0x88, hi := 0x88, ty := .u32, acc := .ro, per := .v, eff := .none, dfl := [0] },
  { lo := 0x89, hi := 0x89, ty := .u32, acc := .ro, per := .v, eff := .none, dfl := [0] },
  { lo := 0x8A, hi := 0x8A, ty := .u8, rng := [(0, 15)], acc := .ro, per := .v, eff := .none, dfl := [0] },
  { lo := 0x90, hi := 0x90, ty := .r32, acc := .ro, per := .v, eff := .none, dfl := [0] },
  { lo := 0x91, hi := 0x91, ty := .r32, acc := .ro, per := .v, eff := .none, dfl := [0] },
  { lo := 0x92, hi := 0x92, ty := .r32, acc := .ro, per := .v, eff := .none, dfl := [0] },
  { lo := 0x93, hi := 0x93, ty := .r32, acc := .ro, per := .v, eff := .none, dfl := [0] },
  { lo := 0x94, hi := 0x94, ty := .r32, acc := .ro, per := .v, eff := .none, dfl := [0] },
  { lo := 0x95, hi := 0x95, ty := .r32, acc := .ro, per := .v, eff := .none, dfl := [0] },
  { lo := 0x96, hi := 0x96, ty := .r32, acc := .ro, per := .v, eff := .none, dfl := [0] },
  { lo := 0x97, hi := 0x97, ty := .r32, acc := .ro, per := .v, eff := .none, dfl := [0] },
  { lo := 0x98, hi := 0x98, ty := .r32, acc := .ro, per := .v, eff := .none, dfl := [0] },
  { lo := 0x99, hi := 0x99, ty := .r32, acc := .ro, per := .v, eff := .none, dfl := [0] },
  { lo := 0x9A, hi := 0x9A, ty := .r32, acc := .ro, per := .v, eff := .none, dfl := [0] },
  { lo := 0x9B, hi := 0x9B, ty := .r32, acc := .ro, per := .v, eff := .none, dfl := [0] },
  { lo := 0x9C, hi := 0x9C, ty := .u32, acc := .ro, per := .v, eff := .none, dfl := [0] },
  { lo := 0x9D, hi := 0x9D, ty := .u32, acc := .ro, per := .v, eff := .none, dfl := [0] },
  { lo := 0x9E, hi := 0x9E, ty := .u32, acc := .ro, per := .v, eff := .none, dfl := [0] },
  { lo := 0x9F, hi := 0x9F, ty := .u32, acc := .ro, per := .v, eff := .none, dfl := [0] }]

/-- Objects 0x3C00 to 0x3C3F (R219). -/
def rows3C00 : List Row := [
  { lo := 0x00, hi := 0x00, ty := .u8, acc := .const, per := .f, eff := .none, dfl := [162] },
  { lo := 0x01, hi := 0x01, ty := .bool, acc := .rw, per := .p, eff := .tick, dfl := [0] },
  { lo := 0x02, hi := 0x02, ty := .u8, rng := [(0, 3)], acc := .rw, per := .p, eff := .tick, dfl := [0] },
  { lo := 0x03, hi := 0x03, ty := .u8, rng := [(5, 7)], acc := .rw, per := .p, eff := .tick, dfl := [6] },
  { lo := 0x04, hi := 0x07, ty := .u16, acc := .rw, per := .p, eff := .tick, dfl := [0] },
  { lo := 0x08, hi := 0x08, ty := .u16, acc := .rw, per := .p, eff := .tick, dfl := [0] },
  { lo := 0x09, hi := 0x09, ty := .u16, acc := .rw, per := .p, eff := .tick, dfl := [0] },
  { lo := 0x0A, hi := 0x0A, ty := .u16, acc := .rw, per := .p, eff := .tick, dfl := [0] },
  { lo := 0x0B, hi := 0x0B, ty := .u16, acc := .rw, per := .p, eff := .tick, dfl := [0] },
  { lo := 0x0C, hi := 0x0F, ty := .u8, rng := [(0, 63), (255, 255)], acc := .rw, per := .p, eff := .tick, dfl := [255] },
  { lo := 0x10, hi := 0x17, ty := .u16, rng := [(0, 1023), (65535, 65535)], acc := .rw, per := .p, eff := .tick, dfl := [0xFFFF] },
  { lo := 0x18, hi := 0x1F, ty := .u16, acc := .rw, per := .p, eff := .tick, dfl := [0] },
  { lo := 0x20, hi := 0x23, ty := .r32, frng := some (0x00000000#32, 0x3F800000#32), acc := .rw, per := .p, eff := .period, dfl := [0x3F800000] },
  { lo := 0x24, hi := 0x24, ty := .r32, frng := some (0xC2700000#32, 0x42C80000#32), acc := .rw, per := .p, eff := .period, dfl := [0xC2200000] },
  { lo := 0x25, hi := 0x25, ty := .r32, frng := some (0xC2700000#32, 0x42C80000#32), acc := .rw, per := .p, eff := .period, dfl := [0x42AA0000] },
  { lo := 0x26, hi := 0x26, ty := .r32, frng := some (0x3DCCCCCD#32, 0x41A00000#32), acc := .rw, per := .p, eff := .period, dfl := [0x40000000] },
  { lo := 0x27, hi := 0x27, ty := .u16, rng := [(60, 3600)], acc := .rw, per := .p, eff := .period, dfl := [0x258] },
  { lo := 0x28, hi := 0x28, ty := .r32, frng := some (0xC2200000#32, 0x42AA0000#32), acc := .rw, per := .p, eff := .period, dfl := [0x41A00000] },
  { lo := 0x29, hi := 0x29, ty := .r32, frng := some (0xC2200000#32, 0x42AA0000#32), acc := .rw, per := .p, eff := .period, dfl := [0x41C00000] },
  { lo := 0x2A, hi := 0x2A, ty := .r32, frng := some (0x3F000000#32, 0x41200000#32), acc := .rw, per := .p, eff := .period, dfl := [0x3F800000] },
  { lo := 0x2B, hi := 0x2B, ty := .r32, frng := some (0x00000000#32, 0x41A00000#32), acc := .rw, per := .p, eff := .period, dfl := [0x40400000] },
  { lo := 0x2C, hi := 0x2C, ty := .r32, frng := some (0xC2200000#32, 0x42AA0000#32), acc := .rw, per := .p, eff := .period, dfl := [0x40A00000] },
  { lo := 0x2D, hi := 0x2D, ty := .r32, frng := some (0xC2200000#32, 0x42AA0000#32), acc := .rw, per := .p, eff := .period, dfl := [0x420C0000] },
  { lo := 0x2E, hi := 0x2E, ty := .u16, rng := [(0, 3600)], acc := .rw, per := .p, eff := .tick, dfl := [0x12C] },
  { lo := 0x2F, hi := 0x2F, ty := .r32, frng := some (0xC2200000#32, 0x42AA0000#32), acc := .rw, per := .p, eff := .period, dfl := [0] },
  { lo := 0x30, hi := 0x30, ty := .r32, frng := some (0xC2200000#32, 0x42AA0000#32), acc := .rw, per := .p, eff := .period, dfl := [0x42480000] },
  { lo := 0x31, hi := 0x31, ty := .r32, frng := some (0x3F000000#32, 0x41200000#32), acc := .rw, per := .p, eff := .period, dfl := [0x40000000] },
  { lo := 0x32, hi := 0x32, ty := .r32, frng := some (0x00000000#32, 0x41200000#32), acc := .rw, per := .p, eff := .period, dfl := [0x3F000000] },
  { lo := 0x33, hi := 0x33, ty := .r32, frng := some (0x41200000#32, 0x42B40000#32), acc := .rw, per := .p, eff := .period, dfl := [0x42480000] },
  { lo := 0x34, hi := 0x34, ty := .r32, frng := some (0x43C80000#32, 0x459C4000#32), acc := .rw, per := .p, eff := .period, dfl := [0x447A0000] },
  { lo := 0x35, hi := 0x35, ty := .r32, acc := .rw, per := .p, eff := .tick, dfl := [0] },
  { lo := 0x36, hi := 0x36, ty := .r32, acc := .rw, per := .p, eff := .tick, dfl := [0] },
  { lo := 0x37, hi := 0x37, ty := .r32, frng := some (0x3F800000#32, 0x47C35000#32), acc := .rw, per := .p, eff := .period, dfl := [0x43FA0000] },
  { lo := 0x38, hi := 0x38, ty := .r32, frng := some (0x43960000#32, 0x447A0000#32), acc := .rw, per := .p, eff := .period, dfl := [0x43D20000] },
  { lo := 0x39, hi := 0x39, ty := .r32, frng := some (0x358637BD#32, 0x37A7C5AC#32), acc := .rw, per := .p, eff := .period, dfl := [0x36A7C5AC] },
  { lo := 0x3A, hi := 0x3A, ty := .r32, frng := some (0x00000000#32, 0x42C80000#32), acc := .rw, per := .p, eff := .period, dfl := [0x3F000000] },
  { lo := 0x3B, hi := 0x3B, ty := .r32, frng := some (0x00000000#32, 0x45610000#32), acc := .rw, per := .p, eff := .period, dfl := [0x43960000] },
  { lo := 0x3C, hi := 0x3C, ty := .r32, frng := some (0x00000000#32, 0x49742400#32), acc := .rw, per := .p, eff := .period, dfl := [0] },
  { lo := 0x3D, hi := 0x3D, ty := .r32, frng := some (0x00000000#32, 0x43FA0000#32), acc := .rw, per := .p, eff := .period, dfl := [0x42C80000] },
  { lo := 0x3E, hi := 0x3E, ty := .r32, frng := some (0x447A0000#32, 0x501502F9#32), acc := .rw, per := .p, eff := .period, dfl := [0x49F42400] },
  { lo := 0x3F, hi := 0x3F, ty := .r32, frng := some (0x447A0000#32, 0x501502F9#32), acc := .rw, per := .p, eff := .period, dfl := [0x4C3EBC20] },
  { lo := 0x40, hi := 0x40, ty := .r32, frng := some (0x00000000#32, 0x49742400#32), acc := .rw, per := .p, eff := .period, dfl := [0x43FA0000] },
  { lo := 0x41, hi := 0x41, ty := .r32, frng := some (0x00000000#32, 0x49742400#32), acc := .rw, per := .p, eff := .period, dfl := [0x43480000] },
  { lo := 0x42, hi := 0x42, ty := .r32, frng := some (0x00000000#32, 0x49742400#32), acc := .rw, per := .p, eff := .period, dfl := [0x42480000] },
  { lo := 0x43, hi := 0x43, ty := .r32, frng := some (0x41200000#32, 0x47A8C000#32), acc := .rw, per := .p, eff := .period, dfl := [0x44E10000] },
  { lo := 0x44, hi := 0x47, ty := .r32, frng := some (0x00000000#32, 0x4E6E6B28#32), acc := .rw, per := .p, eff := .period, dfl := [0x38D1B717, 0x358637BD, 0x42C80000, 0x322BCC77] },
  { lo := 0x48, hi := 0x49, ty := .r32, frng := some (0x358637BD#32, 0x42C80000#32), acc := .rw, per := .p, eff := .period, dfl := [0x3C23D70A, 0x3D23D70A] },
  { lo := 0x4A, hi := 0x51, ty := .r32, frng := some (0xC9742400#32, 0x49742400#32), acc := .rw, per := .p, eff := .period, dfl := [0] },
  { lo := 0x52, hi := 0x59, ty := .r32, acc := .rw, per := .p, eff := .tick, dfl := [0] },
  { lo := 0x80, hi := 0x80, ty := .u8, rng := [(0, 5), (255, 255)], acc := .rww, per := .v, eff := .period, dfl := [255] },
  { lo := 0x81, hi := 0x81, ty := .r32, frng := some (0xC2200000#32, 0x42AA0000#32), acc := .rww, per := .v, eff := .period, dfl := [0x41A00000] },
  { lo := 0x82, hi := 0x82, ty := .r32, frng := some (0xC2200000#32, 0x42AA0000#32), acc := .rww, per := .v, eff := .period, dfl := [0x41C00000] },
  { lo := 0x83, hi := 0x83, ty := .u8, rng := [(0, 5)], acc := .ro, per := .v, eff := .none, dfl := [2] },
  { lo := 0x84, hi := 0x84, ty := .u8, rng := [(0, 3)], acc := .ro, per := .v, eff := .none, dfl := [2] },
  { lo := 0x85, hi := 0x85, ty := .u32, acc := .ro, per := .v, eff := .none, dfl := [0] },
  { lo := 0x86, hi := 0x86, ty := .u8, rng := [(1, 1)], acc := .wo, per := .v, eff := .period, dfl := [0] },
  { lo := 0x87, hi := 0x96, ty := .r32, acc := .ro, per := .v, eff := .none, dfl := [0] },
  { lo := 0x97, hi := 0x97, ty := .u8, rng := [(0, 2)], acc := .ro, per := .v, eff := .none, dfl := [0] },
  { lo := 0x98, hi := 0x98, ty := .u8, acc := .ro, per := .v, eff := .none, dfl := [0] },
  { lo := 0x99, hi := 0x99, ty := .r32, acc := .ro, per := .v, eff := .none, dfl := [0] },
  { lo := 0x9A, hi := 0x9A, ty := .u32, rng := [(0, 99999)], acc := .ro, per := .v, eff := .none, dfl := [0] },
  { lo := 0x9B, hi := 0xA2, ty := .r32, acc := .ro, per := .v, eff := .none, dfl := [0] }]

/-- Objects 0x3C40 to 0x3C7F: surfaces of zone z (R220). -/
def rows3C40 (z : Nat) : List Row := [
  { lo := 0x00, hi := 0x00, ty := .u8, acc := .const, per := .f, eff := .none, dfl := [140] },
  { lo := 0x01, hi := 0x04, ty := .u16, acc := .rw, per := .p, eff := .tick, dfl := [0] },
  { lo := 0x05, hi := 0x08, ty := .u8, rng := [(0, 64)], acc := .rw, per := .p, eff := .tick, dfl := [z] },
  { lo := 0x20, hi := 0x23, ty := .bool, acc := .rw, per := .p, eff := .period, dfl := [0] },
  { lo := 0x80, hi := 0x83, ty := .r32, acc := .ro, per := .v, eff := .none, dfl := [0] },
  { lo := 0x84, hi := 0x87, ty := .r32, acc := .ro, per := .v, eff := .none, dfl := [0] },
  { lo := 0x88, hi := 0x8B, ty := .r32, acc := .ro, per := .v, eff := .none, dfl := [0] },
  { lo := 0x8C, hi := 0x8C, ty := .u8, acc := .ro, per := .v, eff := .none, dfl := [0] }]

/-- Objects 0x3C80 to 0x3CBF (R221). -/
def rows3C80 : List Row := [
  { lo := 0x00, hi := 0x00, ty := .u8, acc := .const, per := .f, eff := .none, dfl := [142] },
  { lo := 0x01, hi := 0x08, ty := .u8, rng := [(0, 63), (255, 255)], acc := .rw, per := .p, eff := .tick, dfl := [255] },
  { lo := 0x20, hi := 0x27, ty := .r32, frng := some (0xC61C4000#32, 0x461C4000#32), acc := .rw, per := .p, eff := .period, dfl := [0] },
  { lo := 0x28, hi := 0x28, ty := .r32, frng := some (0xC61C4000#32, 0x461C4000#32), acc := .rw, per := .p, eff := .period, dfl := [0] },
  { lo := 0x29, hi := 0x29, ty := .r32, frng := some (0xC61C4000#32, 0x461C4000#32), acc := .rw, per := .p, eff := .period, dfl := [0x44FA0000] },
  { lo := 0x2A, hi := 0x2A, ty := .r32, frng := some (0x3F666666#32, 0x3F800000#32), acc := .rw, per := .p, eff := .period, dfl := [0x3F7FBE77] },
  { lo := 0x2B, hi := 0x2B, ty := .r32, frng := some (0x3F800000#32, 0x4CBEBC20#32), acc := .rw, per := .p, eff := .period, dfl := [0x461C4000] },
  { lo := 0x2C, hi := 0x2C, ty := .r32, frng := some (0x3F800000#32, 0x501502F9#32), acc := .rw, per := .p, eff := .period, dfl := [0x49742400] },
  { lo := 0x2D, hi := 0x2D, ty := .r32, frng := some (0x3D4CCCCD#32, 0x41200000#32), acc := .rw, per := .p, eff := .period, dfl := [0x3F000000] },
  { lo := 0x2E, hi := 0x2E, ty := .bool, acc := .rw, per := .p, eff := .period, dfl := [0] },
  { lo := 0x2F, hi := 0x2F, ty := .u8, rng := [(0, 1)], acc := .rw, per := .p, eff := .period, dfl := [0] },
  { lo := 0x80, hi := 0x87, ty := .r32, acc := .ro, per := .v, eff := .none, dfl := [0] },
  { lo := 0x88, hi := 0x88, ty := .r32, acc := .ro, per := .v, eff := .none, dfl := [0x43480000] },
  { lo := 0x89, hi := 0x89, ty := .u8, rng := [(1, 2)], acc := .wo, per := .v, eff := .tick, dfl := [0] },
  { lo := 0x8A, hi := 0x8A, ty := .r32, acc := .ro, per := .v, eff := .none, dfl := [0] },
  { lo := 0x8B, hi := 0x8B, ty := .u32, acc := .ro, per := .v, eff := .none, dfl := [0] },
  { lo := 0x8C, hi := 0x8C, ty := .u32, acc := .ro, per := .v, eff := .none, dfl := [0] },
  { lo := 0x8D, hi := 0x8D, ty := .r32, acc := .ro, per := .v, eff := .none, dfl := [0] },
  { lo := 0x8E, hi := 0x8E, ty := .u8, rng := [(0, 2)], acc := .ro, per := .v, eff := .none, dfl := [0] }]

/-- Object 0x3CC0 (R222). -/
def rows3CC0 : List Row := [
  { lo := 0x00, hi := 0x00, ty := .u8, acc := .const, per := .f, eff := .none, dfl := [136] },
  { lo := 0x01, hi := 0x01, ty := .u16, acc := .rw, per := .p, eff := .tick, dfl := [0] },
  { lo := 0x02, hi := 0x02, ty := .u16, acc := .rw, per := .p, eff := .tick, dfl := [0] },
  { lo := 0x20, hi := 0x20, ty := .r32, frng := some (0x47435000#32, 0x47D6D800#32), acc := .rww, per := .p, eff := .tick, dfl := [0x47C5E680] },
  { lo := 0x80, hi := 0x80, ty := .r32, acc := .const, per := .f, eff := .none, dfl := [0x4418CCCD] },
  { lo := 0x81, hi := 0x81, ty := .r32, acc := .const, per := .f, eff := .none, dfl := [0x418CF5C3] },
  { lo := 0x82, hi := 0x82, ty := .r32, acc := .const, per := .f, eff := .none, dfl := [0x43731EB8] },
  { lo := 0x83, hi := 0x83, ty := .r32, acc := .const, per := .f, eff := .none, dfl := [0x41B3AE14] },
  { lo := 0x84, hi := 0x84, ty := .r32, acc := .const, per := .f, eff := .none, dfl := [0x43884F5C] },
  { lo := 0x85, hi := 0x85, ty := .r32, acc := .const, per := .f, eff := .none, dfl := [0x441B7EB8] },
  { lo := 0x86, hi := 0x86, ty := .r32, acc := .const, per := .f, eff := .none, dfl := [0x3F80C49C] },
  { lo := 0x87, hi := 0x87, ty := .r32, acc := .const, per := .f, eff := .none, dfl := [0x451C5000] },
  { lo := 0x88, hi := 0x88, ty := .r32, acc := .const, per := .f, eff := .none, dfl := [0x3FEE147B] }]

/-- Object 0x3E00 (R192). -/
def rows3E00 : List Row := [
  { lo := 0x00, hi := 0x00, ty := .u8, acc := .const, per := .f, eff := .none, dfl := [134] },
  { lo := 0x01, hi := 0x01, ty := .u16, rng := [(1, 1024)], acc := .rw, per := .p, eff := .tick, dfl := [1] },
  { lo := 0x02, hi := 0x02, ty := .u8, rng := [(0, 100)], acc := .rw, per := .p, eff := .tick, dfl := [10] },
  { lo := 0x03, hi := 0x03, ty := .u8, rng := [(0, 3)], acc := .rw, per := .p, eff := .tick, dfl := [1] },
  { lo := 0x04, hi := 0x04, ty := .u8, rng := [(0, 7)], acc := .rw, per := .p, eff := .tick, dfl := [0] },
  { lo := 0x05, hi := 0x05, ty := .r32, acc := .rw, per := .p, eff := .tick, dfl := [0] },
  { lo := 0x06, hi := 0x06, ty := .u8, acc := .rw, per := .p, eff := .tick, dfl := [1] },
  { lo := 0x10, hi := 0x10, ty := .u8, rng := [(1, 3)], acc := .wo, per := .v, eff := .tick, dfl := [0] },
  { lo := 0x80, hi := 0x80, ty := .u8, rng := [(0, 3)], acc := .ro, per := .v, eff := .none, dfl := [0] },
  { lo := 0x81, hi := 0x81, ty := .u64, acc := .ro, per := .v, eff := .none, dfl := [0] },
  { lo := 0x82, hi := 0x82, ty := .u64, acc := .ro, per := .v, eff := .none, dfl := [0] },
  { lo := 0x83, hi := 0x83, ty := .u64, acc := .ro, per := .v, eff := .none, dfl := [0] },
  { lo := 0x84, hi := 0x84, ty := .u16, rng := [(0, 16384)], acc := .ro, per := .v, eff := .none, dfl := [0] },
  { lo := 0x85, hi := 0x85, ty := .u16, rng := [(0, 16384)], acc := .ro, per := .v, eff := .none, dfl := [0] },
  { lo := 0x86, hi := 0x86, ty := .u32, acc := .ro, per := .v, eff := .none, dfl := [0] }]

/-- Objects 0x3E01 to 0x3E08 (R193). -/
def rows3E01 : List Row := [
  { lo := 0x00, hi := 0x00, ty := .u8, acc := .const, per := .f, eff := .none, dfl := [128] },
  { lo := 0x01, hi := 0x01, ty := .u16, rng := [(0, 1023)], acc := .rw, per := .p, eff := .tick, dfl := [0] },
  { lo := 0x02, hi := 0x02, ty := .u8, rng := [(0, 10)], acc := .rw, per := .p, eff := .tick, dfl := [9] },
  { lo := 0x80, hi := 0x80, ty := .dom 0 65536, acc := .ro, per := .v, eff := .none, dfl := [] }]

/-- Objects 0x4000 to 0x43FF (R305). -/
def rows4000 : List Row := [
  { lo := 0x00, hi := 0x00, ty := .u8, acc := .const, per := .f, eff := .none, dfl := [145] },
  { lo := 0x01, hi := 0x01, ty := .u16, acc := .rw, per := .p, eff := .tick, dfl := [0] },
  { lo := 0x20, hi := 0x20, ty := .r32, acc := .rw, per := .p, eff := .tick, dfl := [0] },
  { lo := 0x21, hi := 0x21, ty := .r32, acc := .rw, per := .p, eff := .tick, dfl := [0x3F800000] },
  { lo := 0x22, hi := 0x22, ty := .u16, rng := [(0, 60000)], acc := .rw, per := .p, eff := .tick, dfl := [0] },
  { lo := 0x28, hi := 0x28, ty := .r32, acc := .rw, per := .p, eff := .tick, dfl := [0] },
  { lo := 0x29, hi := 0x29, ty := .r32, acc := .rw, per := .p, eff := .tick, dfl := [0x3F800000] },
  { lo := 0x80, hi := 0x80, ty := .r32, acc := .rww, per := .v, eff := .tick, dfl := [0] },
  { lo := 0x81, hi := 0x81, ty := .i16, acc := .rww, per := .v, eff := .tick, dfl := [0] },
  { lo := 0x82, hi := 0x82, ty := .r32, acc := .ro, per := .v, eff := .none, dfl := [0] },
  { lo := 0x83, hi := 0x83, ty := .u32, acc := .ro, per := .v, eff := .none, dfl := [0] },
  { lo := 0x84, hi := 0x84, ty := .u32, acc := .ro, per := .v, eff := .none, dfl := [0] },
  { lo := 0x90, hi := 0x90, ty := .r32, acc := .rwr, per := .v, eff := .tick, dfl := [0] },
  { lo := 0x91, hi := 0x91, ty := .i16, acc := .rwr, per := .v, eff := .tick, dfl := [0] }]

/-- Object 0x4F00 (R240). -/
def rows4F00 : List Row := [
  { lo := 0x00, hi := 0x00, ty := .u8, acc := .const, per := .f, eff := .none, dfl := [255] },
  { lo := 0x01, hi := 0x40, ty := .u32, acc := .rw, per := .p, eff := .tick, dfl := [0x80008000] },
  { lo := 0x41, hi := 0x60, ty := .u32, acc := .rw, per := .p, eff := .tick, dfl := [0x101003C] },
  { lo := 0x61, hi := 0x61, ty := .bool, acc := .rw, per := .p, eff := .tick, dfl := [1] },
  { lo := 0x80, hi := 0x80, ty := .u8, rng := [(1, 2)], acc := .wo, per := .v, eff := .imm, dfl := [0] },
  { lo := 0x81, hi := 0x81, ty := .u32, acc := .ro, per := .p, eff := .none, dfl := [0] },
  { lo := 0x82, hi := 0x82, ty := .u8, rng := [(0, 2)], acc := .ro, per := .v, eff := .none, dfl := [0] },
  { lo := 0x83, hi := 0x83, ty := .u8, rng := [(0, 2)], acc := .ro, per := .v, eff := .none, dfl := [0] },
  { lo := 0x84, hi := 0x84, ty := .u16, acc := .ro, per := .v, eff := .none, dfl := [0] },
  { lo := 0x85, hi := 0x85, ty := .u32, acc := .ro, per := .v, eff := .none, dfl := [0] },
  { lo := 0x86, hi := 0x86, ty := .u32, acc := .ro, per := .v, eff := .none, dfl := [0] },
  { lo := 0x87, hi := 0x87, ty := .u32, acc := .ro, per := .v, eff := .none, dfl := [0] },
  { lo := 0x88, hi := 0x88, ty := .i16, acc := .ro, per := .v, eff := .none, dfl := [0] },
  { lo := 0x89, hi := 0x89, ty := .u32, acc := .ro, per := .v, eff := .none, dfl := [0] },
  { lo := 0x8A, hi := 0x8A, ty := .u32, acc := .ro, per := .v, eff := .none, dfl := [0] },
  { lo := 0x8B, hi := 0x8B, ty := .u32, acc := .ro, per := .v, eff := .none, dfl := [0] },
  { lo := 0x8C, hi := 0x8C, ty := .u32, acc := .ro, per := .v, eff := .none, dfl := [0] },
  { lo := 0x8D, hi := 0x8D, ty := .u16, rng := [(0, 1024)], acc := .ro, per := .v, eff := .none, dfl := [0] },
  { lo := 0x8E, hi := 0x8E, ty := .dom 0 256, acc := .ro, per := .v, eff := .none, dfl := [] },
  { lo := 0xC0, hi := 0xFF, ty := .u32, acc := .ro, per := .v, eff := .none, dfl := [0x2FF] }]

/-- Object 0x4F10 (R241). -/
def rows4F10 : List Row := [
  { lo := 0x00, hi := 0x00, ty := .u8, acc := .const, per := .f, eff := .none, dfl := [33] },
  { lo := 0x01, hi := 0x20, ty := .u64, acc := .rw, per := .p, eff := .tick, dfl := [0xFFFFFFFF] },
  { lo := 0x21, hi := 0x21, ty := .i16, rng := [(-840, 840)], acc := .rw, per := .p, eff := .tick, dfl := [0] }]

/-- Object 0x1F81. -/
def rows1F81 : List Row := [
  { lo := 0x00, hi := 0x00, ty := .u8, acc := .const, per := .f, eff := .none, dfl := [127] },
  { lo := 0x01, hi := 0x7F, ty := .u32, acc := .rw, per := .p, eff := .restart, dfl := [0] }]

/-- Objects 0x1F84 to 0x1F86. -/
def rows1F84 : List Row := [
  { lo := 0x00, hi := 0x00, ty := .u8, acc := .const, per := .f, eff := .none, dfl := [127] },
  { lo := 0x01, hi := 0x7F, ty := .u32, acc := .rw, per := .p, eff := .restart, dfl := [0] }]

/-- Object 0x1F22. -/
def rows1F22 : List Row := [
  { lo := 0x00, hi := 0x00, ty := .u8, acc := .const, per := .f, eff := .none, dfl := [127] },
  { lo := 0x01, hi := 0x7F, ty := .dom 0 4096, acc := .rw, per := .p, eff := .restart, dfl := [] }]

/-- Object 0x1F82. -/
def rows1F82 : List Row := [
  { lo := 0x00, hi := 0x00, ty := .u8, acc := .const, per := .f, eff := .none, dfl := [127] },
  { lo := 0x01, hi := 0x7F, ty := .u8, acc := .rw, per := .v, eff := .imm, dfl := [0] }]

/-- Object 0x1F83. -/
def rows1F83 : List Row := [
  { lo := 0x00, hi := 0x00, ty := .u8, acc := .const, per := .f, eff := .none, dfl := [127] },
  { lo := 0x01, hi := 0x7F, ty := .u8, rng := [(0, 7)], acc := .ro, per := .v, eff := .none, dfl := [0] }]

/-- Object 0x1FF0 (R318). -/
def rows1FF0 : List Row := [
  { lo := 0x00, hi := 0x00, ty := .u8, acc := .const, per := .f, eff := .none, dfl := [140] },
  { lo := 0x01, hi := 0x01, ty := .u8, rng := [(1, 127)], acc := .rw, per := .p, eff := .restart, dfl := [1] },
  { lo := 0x02, hi := 0x02, ty := .u8, rng := [(1, 127)], acc := .rw, per := .p, eff := .restart, dfl := [127] },
  { lo := 0x03, hi := 0x03, ty := .u8, rng := [(1, 20)], acc := .rw, per := .p, eff := .imm, dfl := [5] },
  { lo := 0x04, hi := 0x04, ty := .u16, rng := [(100, 10000)], acc := .rw, per := .p, eff := .imm, dfl := [0x3E8] },
  { lo := 0x05, hi := 0x05, ty := .u16, rng := [(1000, 60000)], acc := .rw, per := .p, eff := .restart, dfl := [0x2710] },
  { lo := 0x06, hi := 0x06, ty := .u16, rng := [(100, 5000)], acc := .rw, per := .p, eff := .imm, dfl := [0x1F4] },
  { lo := 0x80, hi := 0x80, ty := .u8, acc := .ro, per := .v, eff := .none, dfl := [0] },
  { lo := 0x81, hi := 0x81, ty := .u32, acc := .ro, per := .v, eff := .none, dfl := [0] },
  { lo := 0x82, hi := 0x82, ty := .u32, acc := .ro, per := .v, eff := .none, dfl := [0] },
  { lo := 0x83, hi := 0x83, ty := .u32, acc := .ro, per := .v, eff := .none, dfl := [0] },
  { lo := 0x84, hi := 0x84, ty := .u32, acc := .ro, per := .v, eff := .none, dfl := [0] },
  { lo := 0x85, hi := 0x85, ty := .u32, acc := .ro, per := .v, eff := .none, dfl := [0] },
  { lo := 0x86, hi := 0x86, ty := .u32, acc := .ro, per := .v, eff := .none, dfl := [0] },
  { lo := 0x87, hi := 0x87, ty := .u8, rng := [(0, 96)], acc := .ro, per := .v, eff := .none, dfl := [0] },
  { lo := 0x88, hi := 0x88, ty := .u8, rng := [(0, 100)], acc := .ro, per := .v, eff := .none, dfl := [0] },
  { lo := 0x89, hi := 0x89, ty := .u8, rng := [(0, 128)], acc := .ro, per := .v, eff := .none, dfl := [0] },
  { lo := 0x8A, hi := 0x8A, ty := .u8, rng := [(0, 100)], acc := .ro, per := .v, eff := .none, dfl := [0] },
  { lo := 0x8B, hi := 0x8B, ty := .u8, rng := [(0, 128)], acc := .ro, per := .v, eff := .none, dfl := [0] },
  { lo := 0x8C, hi := 0x8C, ty := .u8, rng := [(0, 64)], acc := .ro, per := .v, eff := .none, dfl := [0] }]

/-- Object 0x1000 and the other single communication objects (R294). PRESUMED, unsafe: log entry 7. -/
def rowsComm (idx : Nat) : List Row :=
  match idx with
  | 0x1000 => [{ lo := 0, hi := 0, ty := .u32, acc := .const, per := .f, eff := .none, dfl := [0] }]
  | 0x1001 => [{ lo := 0, hi := 0, ty := .u8, acc := .ro, per := .v, eff := .none, dfl := [0] }]
  | 0x1003 => [{ lo := 0, hi := 0, ty := .u8, rng := [(0, 0)], acc := .rw, per := .v, eff := .imm, dfl := [0] },
               { lo := 1, hi := 16, ty := .u32, acc := .ro, per := .v, eff := .none, dfl := [0] }]
  | 0x1005 => [{ lo := 0, hi := 0, ty := .u32, acc := .rw, per := .p, eff := .restart, dfl := [0x80] }]
  | 0x1012 => [{ lo := 0, hi := 0, ty := .u32, acc := .rw, per := .p, eff := .restart, dfl := [0x80000100] }]
  | 0x1015 => [{ lo := 0, hi := 0, ty := .u16, acc := .rw, per := .p, eff := .imm, dfl := [100] }]
  | 0x1016 => [{ lo := 0, hi := 0, ty := .u8, acc := .const, per := .f, eff := .none, dfl := [8] },
               { lo := 1, hi := 8, ty := .u32, acc := .rw, per := .p, eff := .imm, dfl := [0] }]
  | 0x1017 => [{ lo := 0, hi := 0, ty := .u16, acc := .rw, per := .p, eff := .imm, dfl := [1000] }]
  | 0x1018 => [{ lo := 0, hi := 0, ty := .u8, acc := .const, per := .f, eff := .none, dfl := [4] },
               { lo := 1, hi := 4, ty := .u32, acc := .const, per := .f, eff := .none, dfl := [0x005A1E7C, 0x6480, 0, 0] }]
  | 0x1019 => [{ lo := 0, hi := 0, ty := .u8, rng := [(0, 0), (2, 240)], acc := .rw, per := .p, eff := .restart, dfl := [0] }]
  | _ => []

/-- RPDO and TPDO communication parameters (R299, R300). PRESUMED, unsafe: log entry 7. -/
def rowsPdoComm : List Row :=
  [{ lo := 0, hi := 0, ty := .u8, acc := .const, per := .f, eff := .none, dfl := [5] },
   { lo := 1, hi := 1, ty := .u32, acc := .rw, per := .p, eff := .restart, dfl := [0x80000000] },
   { lo := 2, hi := 2, ty := .u8, rng := [(0, 0xF0), (0xFE, 0xFF)], acc := .rw, per := .p, eff := .restart, dfl := [0xFF] },
   { lo := 3, hi := 3, ty := .u16, acc := .rw, per := .p, eff := .restart, dfl := [0] },
   { lo := 5, hi := 5, ty := .u16, acc := .rw, per := .p, eff := .restart, dfl := [0] }]

/-- RPDO mapping (R299): at most 64 one-byte entries. -/
def rowsRpdoMap : List Row :=
  [{ lo := 0, hi := 0, ty := .u8, rng := [(0, 64)], acc := .rw, per := .p, eff := .restart, dfl := [0] },
   { lo := 1, hi := 64, ty := .u32, acc := .rw, per := .p, eff := .restart, dfl := [0] }]

/-- TPDO mapping (R299): entry 1 is fixed at the sample sequence number. -/
def rowsTpdoMap : List Row :=
  [{ lo := 0, hi := 0, ty := .u8, rng := [(1, 64)], acc := .rw, per := .p, eff := .restart, dfl := [1] },
   { lo := 1, hi := 1, ty := .u32, acc := .const, per := .f, eff := .none, dfl := [0x20100110] },
   { lo := 2, hi := 64, ty := .u32, acc := .rw, per := .p, eff := .restart, dfl := [0] }]

/-- Timetable entries 0x5000 to 0x507F (R223): 128 entries of 16 bytes each. -/
def rows5000 : List Row :=
  [{ lo := 0, hi := 0, ty := .u8, acc := .const, per := .f, eff := .none, dfl := [0x80] },
   { lo := 1, hi := 0x80, ty := .ostr 16, acc := .rw, per := .p, eff := .tick, dfl := [] }]

def within (x lo hi : Nat) : Bool := lo ≤ x && x ≤ hi

/-- The rows of object `idx` on the ZH6480; none where R40 gives no such index. -/
def rowsFull (idx : Nat) : List Row :=
  if idx < 0x2000 then
    if idx == 0x1010 || idx == 0x1011 then rows1010
    else if within idx 0x1400 0x15FF then rowsPdoComm
    else if within idx 0x1600 0x17FF then rowsRpdoMap
    else if within idx 0x1800 0x19FF then rowsPdoComm
    else if within idx 0x1A00 0x1BFF then rowsTpdoMap
    else if idx == 0x1F22 then rows1F22
    else if idx == 0x1F81 then rows1F81
    else if idx == 0x1F82 then rows1F82
    else if idx == 0x1F83 then rows1F83
    else if within idx 0x1F84 0x1F86 then rows1F84
    else if idx == 0x1FF0 then rows1FF0
    else rowsComm idx
  else if idx < 0x3000 then
    if idx == 0x2000 then rows2000
    else if idx == 0x2010 then rows2010
    else if within idx 0x2020 0x207F then rows2020
    else if idx == 0x2100 then rows2100
    else if within idx 0x2110 0x2111 then rows2110 (idx - 0x2110)
    else if idx == 0x2200 then rows2200
    else if idx == 0x2300 then rows2300
    else if within idx 0x2310 0x2317 then rows2310
    else if idx == 0x2400 then rows2400
    else if idx == 0x2500 then rows2500
    else if idx == 0x2600 then rows2600
    else if within idx 0x2601 0x2604 then rows2601
    else if idx == 0x2608 then rows2608
    else if idx == 0x260C then rows260C
    else if idx == 0x2610 then rows2610
    else if idx == 0x2700 then rows2700
    else if idx == 0x2710 then rows2710
    else if within idx 0x2800 0x2803 then rows2800
    else if idx == 0x2810 then rows2810
    else []
  else if idx < 0x3400 then
    if idx < 0x3040 then rows3000
    else if within idx 0x3100 0x315F then
      (if (idx - 0x3100) % 6 == 4 then rows3100k4 else if (idx - 0x3100) % 6 == 5 then rows3100k5 else rows3100)
    else if within idx 0x3160 0x316F then rows3160
    else if idx == 0x3170 then rows3170
    else if idx == 0x3180 then rows3180
    else if within idx 0x3200 0x3207 then rows3200
    else if within idx 0x3210 0x3217 then rows3210
    else if within idx 0x3300 0x3301 then rows3300
    else if within idx 0x3310 0x3337 then rows3310 ((idx - 0x3310) % 5)
    else if within idx 0x3340 0x3341 then rows3340
    else []
  else if idx < 0x3800 then rows3400
  else if idx < 0x4000 then
    if within idx 0x3C00 0x3C3F then rows3C00
    else if within idx 0x3C40 0x3C7F then rows3C40 (idx - 0x3C40)
    else if within idx 0x3C80 0x3CBF then rows3C80
    else if idx == 0x3CC0 then rows3CC0
    else if idx == 0x3E00 then rows3E00
    else if within idx 0x3E01 0x3E08 then rows3E01
    else []
  else if idx < 0x4400 then rows4000
  else if idx == 0x4F00 then rows4F00
  else if idx == 0x4F10 then rows4F10
  else if within idx 0x5000 0x507F then rows5000
  else []

/-- Objects that belong wholly to a unit fused off on the ZH6432 (R2). -/
def fusedOff (idx : Nat) : Bool :=
  within idx 0x3C20 0x3C3F || within idx 0x3C60 0x3C7F || within idx 0x3CA0 0x3CBF || within idx 0x3600 0x37FF ||
  within idx 0x3204 0x3207 || within idx 0x3214 0x3217 || within idx 0x3300 0x3301 || within idx 0x3310 0x3337 ||
  within idx 0x3340 0x3341 || idx == 0x2500 || idx == 0x2803

/-- The row of sub-index `sub` of object `idx`, or none. -/
def rowOf (idx sub : Nat) : Option Row := (rowsFull idx).find? fun r => r.lo ≤ sub && sub ≤ r.hi

/-- Bytes of a fixed-length type. -/
def Ty.width : Ty → Nat
  | .bool | .i8 | .u8 => 1
  | .i16 | .u16 => 2
  | .i32 | .u32 | .r32 => 4
  | .u64 => 8
  | .ostr n => n
  | .vstr _ => 0
  | .dom _ _ => 0

/-- `n` bytes of `v`, least significant first (R10). -/
def leBytes : Nat → Nat → List Byte
  | 0, _ => []
  | n + 1, v => BitVec.ofNat 8 v :: leBytes n (v / 256)

/-- The number the bytes spell, least significant first (R10). -/
def leNat : List Byte → Nat
  | [] => 0
  | b :: bs => b.toNat + 256 * leNat bs

/-- The Default of a row at a sub-index of it. -/
def Row.default (r : Row) (sub : Nat) : List Byte :=
  leBytes r.ty.width ((r.dfl[sub - r.lo]?).getD (r.dfl.getLast?.getD 0))

/-- The key of a sub-index in the dictionary's tables. -/
def key (idx sub : Nat) : Nat := idx * 256 + sub

/-- What a sub-index that no table lists reads as: its Default, and nothing where there is no such sub-index. -/
def defaultAt (k : Nat) : List Byte :=
  match rowOf (k / 256) (k % 256) with
  | some r => r.default (k % 256)
  | none => []

/-- The structural sub-indices (R41), staged until a commit. -/
def structural (idx sub : Nat) : Bool :=
  within sub 1 0x1F &&
  (within idx 0x3000 0x303F || within idx 0x3100 0x315F || within idx 0x3160 0x3170 || idx == 0x3180 ||
   within idx 0x3200 0x3207 || within idx 0x3210 0x3217 || within idx 0x3300 0x3301 || within idx 0x3310 0x3337 ||
   within idx 0x3340 0x3341 || within idx 0x3400 0x37FF || within idx 0x3C00 0x3C3F || within idx 0x3C40 0x3C7F ||
   within idx 0x3C80 0x3CBF || idx == 0x3CC0 || within idx 0x4000 0x43FF)

/-- The sub-indices with the timetable's own staging copy (R55, R238). -/
def ttStaged (idx sub : Nat) : Bool :=
  (idx == 0x4F00 && within sub 1 0x61) || (idx == 0x4F10 && within sub 1 0x21) || (within idx 0x5000 0x507F && 1 ≤ sub)

/-- The store area of an object (0x1010): 2 communication, 3 application, 4 timetable. -/
def areaOf (idx : Nat) : Nat := if idx < 0x2000 then 2 else if idx < 0x4F00 then 3 else 4

end Sys2Proof.OD
end

