-- ==== Sys2Proof/Machine/State.lean ====
section
/-! DEFINITION. The state of the block as plain data: the object dictionary's values, the hidden registers of each unit,
the queue of waiting commands, and the state after reset. -/
namespace Sys2Proof.Machine
open Sys2Proof

/-- The ways a step can stop in a fault. No command of this block faults: every one the spec lists has an effect. -/
inductive Fault where
  /-- Raised by nobody; kept so that the type is inhabited. Safe. -/
  | none
deriving DecidableEq, Repr

/-- The ways a step can be refused. -/
inductive Refusal where
  /-- Raised by exec for a command that has no meaning yet. Safe. -/
  | notModelled (mnemonic : String)
deriving DecidableEq, Repr

/-- The state of the block. DESIGN CHOICE, unsafe: log entry 1. DESIGN CHOICE, unsafe: log entry 2. -/
structure State where
  pending : List Instr := []
  zh6432 : Bool := false
  /-- base ticks of the tick generator since it first started -/
  now : Nat := 0
  /-- 0x2010:02 (R30) -/
  tick : Nat := 0
  /-- the tick generator runs (R477) -/
  tickRun : Bool := false
  /-- the operational tick has been reached (R477), so 0x2010:02 counts -/
  counting : Bool := false
  /-- the values in use; unlisted sub-indices read their Defaults -/
  dict : Tab (List Byte) := []
  /-- RESTART values written and not in use (R50) -/
  written : Tab (List Byte) := []
  /-- the configuration staging copy (R51) -/
  staged : Tab (List Byte) := []
  /-- the timetable staging copy (R238) -/
  ttStaged : Tab (List Byte) := []
  pendingWrites : List PendingWrite := []
  /-- a commit whose checks passed: own tick at which it is due, and the client to answer (R52) -/
  commitDue : Option (Nat × Nat) := none
  /-- the class-P values that the configuration hash was last computed over (R59) -/
  hashed : Tab (List Byte) := []
  answers : Tab Answer := []
  waiting : List Waiting := []
  groups : List Group := []
  /-- clients whose group lapsed, whose next group write is refused (R56) -/
  lapsed : List Nat := []
  /-- causes for which a C pennant's condition stands: (pennant, cause) (R451) -/
  conds : List (Nat × Nat) := []
  /-- own tick at which a pennant's event or condition last stood (R452) -/
  penTick : Tab Nat := []
  /-- pennants announced by an EMCY whose condition has not ended (R453) -/
  announced : List Nat := []
  emcyQ : List Emcy := []
  /-- own tick of the last EMCY sent -/
  emcyAt : Option Nat := none
  /-- the SRAM ring, newest first -/
  log : List LogEntry := []
  /-- the store ring, newest first (R423) -/
  logStore : List LogEntry := []
  /-- read positions of the log by client, newest first, at most 16 (R458) -/
  logPos : List (Nat × Nat) := []
  work : Tab WorkItem := []
  nextId : Nat := 0
  /-- identifier floor of the reset record (R480) -/
  idFloor : Nat := 0
  cal : Cal := {}
  meas : Meas := {}
  /-- the device holds the ensign (R335, R348) -/
  ensign : Bool := false
  ports : Tab Port := []
  pos : Tab Pos := []
  loops : Tab Loop := []
  /-- the loop engine has stopped (R173); its recent lane faults (loop, tick); recomputations used in this tick -/
  engineStop : Bool := false
  laneFaults : List (Nat × Nat) := []
  reserveUsed : Nat := 0
  trace : Trace := {}
  zones : Tab Zone := []
  tt : Walker := {}
  panels : Tab Panel := []
  store : Store := {}
  cans : Tab Can := []
  pw : Power := {}
  net : Net := {}
  dup : Dup := {}
  fw : Fw := {}
  sec : Sec := {}
  host : HostPort := {}
  rst : Rst := {}
  tap : Tap := {}
  th : Thermal := {}
  /-- class 11 quantities in force with their validity, and those due next (R196) -/
  outside : List (Real32 × Bool) := []
  outsideNext : List (Real32 × Bool) := []
  /-- remote signal slots that are valid (R303) -/
  remoteValid : List Nat := []
  /-- TPDO slots that hold a valid value (R304) -/
  tpdoValid : List Nat := []
  /-- timetable channel values, W (class 9) -/
  ttChan : Tab Real32 := []
  /-- mains quantities with a valid value: feed * 8 + quantity (class 12) -/
  mainsValid : List Nat := []
  /-- uses of free values so far: the model's own counter, no register of the device -/
  freeCount : Nat := 0
  /-- the pin ENSIGN_IN (asserted high) -/
  ensignIn : Bool := true
  /-- PFW_n is asserted (low) -/
  pfw : Bool := false
  /-- the pull-downs of DUPLEX_ID and START_MODE are in place (R485) -/
  strapPulls : Bool := true
  /-- reset is asserted, or start-up has not loaded the configuration (R100 line 1) -/
  inReset : Bool := true
  cfgLoaded : Bool := false
  /-- CLK_POS, CLK_PANEL lost (R102, R244) -/
  clkPosLost : Bool := false
  clkPanelLost : Bool := false
  /-- an uncorrectable error stands in the field-port configuration memory (R102) -/
  portEcc : Bool := false
  /-- single-bit errors that the scrubber has corrected since reset (R36) -/
  eccCount : Nat := 0
  /-- sub-indices whose memory holds an uncorrectable error, each with the value that stood there; entries of the log ring by
  number (R58) -/
  eccBad : Tab (List Byte) := []
  eccLog : List Nat := []
deriving DecidableEq, Repr

/-- The block as it leaves the factory, right after a power-on reset was asserted: every sub-index at its Default, the backup
domain as after its own reset, an erased store, and one valid image (log entry 2). DESIGN CHOICE, unsafe: log entry 1. -/
def State.reset : State := { fw := { imgA := { state := 1, applic := 3 } } }

end Sys2Proof.Machine
end

