-- ==== Sys2Proof/Machine/Table.lean ====
section
/-! DEFINITION. Sparse tables: lists of (key, value) pairs with strictly rising keys. -/
namespace Sys2Proof.Tab

/-- The value listed for a key. -/
def find {α : Type} : Tab α → Nat → Option α
  | [], _ => none
  | (k, v) :: t, x => if k == x then some v else find t x

/-- The value listed for a key, or `d`. -/
def get {α : Type} (t : Tab α) (x : Nat) (d : α) : α := (find t x).getD d

/-- List `v` under `x`, in its place among the keys. -/
def put {α : Type} : Tab α → Nat → α → Tab α
  | [], x, v => [(x, v)]
  | (k, w) :: t, x, v => if x == k then (x, v) :: t else if x < k then (x, v) :: (k, w) :: t else (k, w) :: put t x v

/-- Take every entry of `x` out. -/
def del {α : Type} (t : Tab α) (x : Nat) : Tab α := t.filter fun p => p.1 != x

/-- Change the value under `x` (`d` where none is listed). -/
def upd {α : Type} (t : Tab α) (x : Nat) (d : α) (f : α → α) : Tab α := put t x (f (get t x d))

/-- Keys strictly rising. -/
def sorted {α : Type} : Tab α → Bool
  | [] => true
  | [_] => true
  | (a, _) :: (b, w) :: t => decide (a < b) && sorted ((b, w) :: t)

end Sys2Proof.Tab
end

