-- ==== Sys2Proof/Machine/Ops.lean ====
section
/-! DEFINITION. The shared operations: reading and writing the dictionary's values, the acceptance stamp, pennants, the
bunting log, EMCYs, work items and answers. -/
namespace Sys2Proof.Machine
open Sys2Proof Sys2Proof.OD

-- The dictionary --------------------------------------------------------------------------------------------------

/-- The value under a key: the one listed, else the Default (R60). DESIGN CHOICE, safe: log entry 4. -/
def dictGet (d : Tab (List Byte)) (k : Nat) : List Byte := Tab.get d k (defaultAt k)

/-- Put a value under a key in the canonical form: a value equal to the Default is not listed. DESIGN CHOICE, safe: log entry 4.
-/
def dictPut (d : Tab (List Byte)) (k : Nat) (v : List Byte) : Tab (List Byte) :=
  if v == defaultAt k then Tab.del d k else Tab.put d k v

/-- The canonical form of any table: every value put in its place, the first entry of a key standing. -/
def dictCanon (d : Tab (List Byte)) : Tab (List Byte) := d.foldr (fun p a => dictPut a p.1 p.2) []

/-- The canonical form: keys strictly rising, and no entry equal to its Default. -/
abbrev dictWf (d : Tab (List Byte)) : Prop := Tab.sorted d = true ∧ d.all (fun p => p.2 != defaultAt p.1) = true

/-- The bytes of sub-index `sub` of object `idx` in use. -/
def rdB (s : State) (idx sub : Nat) : List Byte := dictGet s.dict (key idx sub)
/-- The same as an unsigned number (R10). -/
def rdN (s : State) (idx sub : Nat) : Nat := leNat (rdB s idx sub)
/-- The same as a REAL32. -/
def rdR (s : State) (idx sub : Nat) : Real32 := BitVec.ofNat 32 (rdN s idx sub)
/-- The same as a BOOLEAN. -/
def rdF (s : State) (idx sub : Nat) : Bool := rdN s idx sub != 0
/-- `v` as a signed number of `w` bytes. -/
def signed (w v : Nat) : Int := if v < 2 ^ (8 * w - 1) then (v : Int) else (v : Int) - 2 ^ (8 * w)
/-- An integer as an unsigned number of `w` bytes, in two's complement (R42). -/
def unsignedOf (w : Nat) (i : Int) : Nat := (i % (2 ^ (8 * w) : Int)).toNat
/-- A sub-index read as a two's complement number of its type. -/
def rdI (s : State) (idx sub : Nat) : Int :=
  match rowOf idx sub with
  | some r => signed r.ty.width (rdN s idx sub)
  | none => 0

/-- Hold `v` in sub-index `sub` of object `idx`. -/
def wrB (s : State) (idx sub : Nat) (v : List Byte) : State := { s with dict := dictPut s.dict (key idx sub) v }
/-- The same for a number, taken modulo the width of the sub-index's type. DESIGN CHOICE, unsafe: log entry 23. -/
def wrN (s : State) (idx sub v : Nat) : State :=
  match rowOf idx sub with
  | some r => wrB s idx sub (leBytes r.ty.width v)
  | none => s
def wrR (s : State) (idx sub : Nat) (v : Real32) : State := wrN s idx sub v.toNat
def wrF (s : State) (idx sub : Nat) (v : Bool) : State := wrN s idx sub (if v then 1 else 0)
def wrI (s : State) (idx sub : Nat) (v : Int) : State :=
  match rowOf idx sub with
  | some r => wrB s idx sub (leBytes r.ty.width (unsignedOf r.ty.width v))
  | none => s
/-- Count one more in a counter, wrapping at the width of its type. DESIGN CHOICE, unsafe: log entry 23. -/
def inc (s : State) (idx sub : Nat) : State := wrN s idx sub (rdN s idx sub + 1)
def incBy (s : State) (idx sub n : Nat) : State := wrN s idx sub (rdN s idx sub + n)

/-- A BOOLEAN bit of a number. -/
def bit (n i : Nat) : Bool := (n / 2 ^ i) % 2 == 1
/-- `n` with bit `i` as given. -/
def setBit (n i : Nat) (b : Bool) : Nat :=
  if b then (if bit n i then n else n + 2 ^ i) else (if bit n i then n - 2 ^ i else n)
/-- Set or clear a bit of a status value. -/
def wrBit (s : State) (idx sub i : Nat) (b : Bool) : State := wrN s idx sub (setBit (rdN s idx sub) i b)
def rdBit (s : State) (idx sub i : Nat) : Bool := bit (rdN s idx sub) i
/-- Bits `hi` to `lo` of a number. -/
def bits (n hi lo : Nat) : Nat := (n / 2 ^ lo) % 2 ^ (hi + 1 - lo)

/-- Persist P of a sub-index. -/
def persistent (idx sub : Nat) : Bool := match rowOf idx sub with | some r => r.per == .p | none => false

/-- The digest 0x2000:16 is taken afresh (R59): the values a read would return, staged ones aside. DEDUCED, unsafe: log entry
27. -/
def rehash (s : State) : State :=
  let l := s.dict.filter fun p => persistent (p.1 / 256) (p.1 % 256)
  { s with hashed := s.written.foldl (fun t p => Tab.put t p.1 p.2) l }

/-- A word that is written whole is good again (R58). -/
def eccMended (s : State) (keys : List Nat) : State := { s with eccBad := s.eccBad.filter fun p => !keys.contains p.1 }

-- Every meaning ends here -----------------------------------------------------------------------------------------

/-- What stands after a command whose effect is `t` on `s`: the queue, the fuses and the own time are no command's to change
(BASE_TICK's own time: `ticked`), and the dictionary is held in its canonical form. -/
def settled (s t : State) : State :=
  { t with pending := s.pending, zh6432 := s.zh6432, now := s.now, dict := dictCanon t.dict }

/-- The outcome of a command whose effect is `t` on `s`. -/
def done (s t : State) : Host.Outcome State Fault Refusal := .next (settled s t)

-- Time ------------------------------------------------------------------------------------------------------------

/-- The acceptance stamp (R48): `off` is the time of acceptance within the period, in ns. DEDUCED, unsafe: log entry 12. -/
def stamp (s : State) (off : Nat) : Nat := s.now + (if off ≥ 99000 then 1 else 0)
/-- Nanoseconds since the tick generator first started. DESIGN CHOICE, unsafe: log entry 8. -/
def nowNs (s : State) (off : Nat) : Nat := s.now * 100000 + off
/-- `ms` milliseconds in base ticks. -/
def msT (ms : Nat) : Nat := ms * 10
/-- The count that a tick's schedule goes by: 0x2010:02, and the device's own count before it starts (R477). -/
def tickNo (s : State) : Nat := if s.counting then s.tick else s.now
/-- The base tick count of R30 for an own tick: 0 at the operational tick. DESIGN CHOICE, unsafe: log entry 8. -/
def tickAt (s : State) (own : Nat) : Nat :=
  if !s.counting then 0 else
  match s.rst.opAt with
  | some o => if s.now < o then own - o else s.tick + (own - s.now)
  | none => s.tick + (own - s.now)
/-- What comes about at own tick `own`, when the command that brings it stands just before that tick's base period. -/
def atTick (s : State) (own : Nat) (f : State → State) : State :=
  let t := f { s with now := own, tick := tickAt s own }
  { t with now := s.now, tick := s.tick }

/-- Base ticks per period of a rate group (rate-group table). -/
def groupN (g : Nat) : Nat :=
  match g with
  | 0 => 1
  | 1 => 5
  | 2 => 10
  | 3 => 50
  | 4 => 100
  | 5 => 1000
  | 6 => 10000
  | _ => 100000

-- NMT and ensign --------------------------------------------------------------------------------------------------

/-- The NMT state 0x1FF0:80 (R296): 0 initialising, 4 stopped, 5 operational, 0x7F pre-operational. -/
def nmt (s : State) : Nat := rdN s 0x1FF0 0x80
def operational (s : State) : Bool := nmt s == 5

-- The bunting log -------------------------------------------------------------------------------------------------

/-- Counts of CLK_RTC in the running second: a slewed second i is shorter by c_i counts (R371). -/
def secondCounts (s : State) : Int :=
  match s.cal.slew with
  | some w => if w.begun then 32768 - ((w.i + 1 : Int) * w.c / 200 - (w.i : Int) * w.c / 200) else 32768
  | none => 32768

/-- Sub-second counts of CLK_RTC since the last seconds pulse (0x2300:07). DEDUCED, unsafe: log entry 150. -/
def subSecond (s : State) : Nat :=
  Nat.min (secondCounts s - 1).toNat (s.cal.sub0 + (s.now - s.cal.pulseAt) * 32768 / 10000)

/-- Enter an event into the ring (R455 to R457): the oldest of 4 096 entries goes, and counts in 0x2710:82 when it had not been
mirrored. IRQ source 2 is set (R331). DEDUCED, unsafe: log entry 203. -/
def logAdd (s : State) (code loc qual data : Nat) : State :=
  let valid := rdF s 0x2300 0x09
  let e : LogEntry :=
    { num := rdN s 0x2710 0x80, time := (if valid then s.cal.secs else s.tick) % 2 ^ 40,
      subSec := if valid then subSecond s else 0, code := code, calInvalid := !valid, loc := loc, qual := qual, data := data % 65536 }
  let lost := (e.num + 2 ^ 32 - 4096) % 2 ^ 32
  let s := if s.log.length ≥ 4096 && (s.logStore.isEmpty || within ((lost + 2 ^ 32 - rdN s 0x2710 0x84) % 2 ^ 32) 1 (2 ^ 31 - 1))
    then inc s 0x2710 0x82 else s
  wrBit (wrN { s with log := (e :: s.log).take 4096 } 0x2710 0x80 (e.num + 1)) 0x2810 0x80 2 true

-- IRQ sources and EMCYs -------------------------------------------------------------------------------------------

/-- Set source `n` of the pending IRQ sources 0x2810:80 (R331). -/
def irq (s : State) (n : Nat) : State := wrBit s 0x2810 0x80 n true

/-- Queue an EMCY (R309): at most 32 wait, and the rest count in 0x1FF0:83. -/
def emcy (s : State) (e : Emcy) : State :=
  if s.emcyQ.length ≥ 32 then inc s 0x1FF0 0x83 else { s with emcyQ := s.emcyQ ++ [e] }

-- Pennants --------------------------------------------------------------------------------------------------------

/-- The EMCY code of a pennant (R454); 0 where the table has none. -/
def pennantCode (p : Nat) : Nat :=
  if p == 1 then 0x5000 else if p == 2 || p == 3 then 0x6300
  else if p == 8 || p == 9 || p == 13 || p == 14 then 0x5000
  else if p == 16 || p == 17 then 0xFF08
  else if p == 18 || p == 19 then 0xFF07
  else if within p 20 22 then 0x5000
  else if p == 24 || p == 25 then 0xFF05
  else if within p 26 28 then 0xFF04
  else if p == 29 || p == 30 then 0xFF06
  else if within p 32 35 then 0x8120
  else if within p 36 43 then 0x8100
  else if within p 44 47 then 0x8110
  else if p == 48 then 0x8130
  else if p == 49 then 0xFF02
  else if within p 56 58 then 0x3200
  else if within p 59 61 then 0x3100
  else if within p 68 70 then 0x4200
  else 0

/-- Pennants of units absent on the ZH6432, which never set (R451). -/
def pennantAbsent (s : State) (p : Nat) : Bool :=
  s.zh6432 && (p == 29 || p == 30 || p == 35 || p == 39 || p == 43 || p == 47 || within p 52 54)

def pennantSet (s : State) (p : Nat) : Bool := rdBit s 0x2700 (1 + p / 32) (p % 32)
def condHolds (s : State) (p : Nat) : Bool := rdBit s 0x2700 (0x80 + p / 32) (p % 32)

/-- The error register 0x1001 (R453), from the announced conditions that stand. -/
def errorRegister (s : State) : State :=
  let has (f : Nat → Bool) : Bool := s.announced.any fun p => f (pennantCode p)
  let v := setBit (setBit (setBit (setBit 0
    2 (has fun c => c / 256 == 0x31 || c / 256 == 0x32))
    3 (has fun c => c / 256 == 0x42))
    4 (has fun c => c / 256 == 0x81 || c / 256 == 0x82))
    7 (has fun c => c == 0x5000 || c == 0x6300 || c / 256 == 0xFF)
  wrN s 0x1001 0 (if v == 0 then 0 else v + 1)

/-- The end of an announced condition (R309, R453): EMCY 0x0000 when the last of them has ended. -/
def unannounce (s : State) (p : Nat) : State :=
  if s.announced.contains p then
    let s := errorRegister { s with announced := s.announced.filter (· != p) }
    if s.announced.isEmpty then emcy s { code := 0, loc := 0, pennant := 0xFF, source := 0xFF, obj := 0 } else s
  else s

/-- Announce a pennant that has a code (R453). `src` is byte 5 of the EMCY. -/
def announce (s : State) (p loc src : Nat) : State :=
  if pennantCode p == 0 then s else
  let s := errorRegister { s with announced := if s.announced.contains p then s.announced else p :: s.announced }
  emcy s { code := pennantCode p, loc := loc, pennant := p, source := src, obj := 0 }

/-- Raise a pennant's bit; IRQ source 3 and the set-event counter follow (R331, R469). -/
def raiseBit (s : State) (p : Nat) : State :=
  let s := inc (wrBit s 0x2700 (1 + p / 32) (p % 32) true) 0x2700 0x84
  irq { s with penTick := Tab.put s.penTick p s.now } 3

/-- An E event (R451, R453) with a log code and data of its own (R456). DEDUCED, unsafe: log entry 165. -/
def eventWith (s : State) (p loc code data src : Nat) : State :=
  if pennantAbsent s p then s else
  let fresh := !pennantSet s p
  let s := logAdd (raiseBit s p) code loc p data
  if fresh then announce s p loc src else s

/-- An E event entered under code 0x0001. DESIGN CHOICE, unsafe: log entry 201. -/
def event (s : State) (p loc : Nat) : State := eventWith s p loc 0x0001 0 0xFF

/-- Cause `c` of C pennant `p` starts to hold: the condition starts with its first cause (R451, R456). DEDUCED, unsafe: log
entry 200. DESIGN CHOICE, unsafe: log entry 201. -/
def condStart (s : State) (p c loc src : Nat) : State :=
  if pennantAbsent s p then s else
  if s.conds.contains (p, c) then s else
  let first := !(s.conds.any fun q => q.1 == p)
  let s := { s with conds := (p, c) :: s.conds }
  if first then
    announce (logAdd (raiseBit (wrBit s 0x2700 (0x80 + p / 32) (p % 32) true) p) 0x0002 loc p 0) p loc src
  else s

/-- Cause `c` of C pennant `p` holds no longer: the condition ends with its last cause. DEDUCED, unsafe: log entry 200. -/
def condEnd (s : State) (p c loc : Nat) : State :=
  if s.conds.contains (p, c) then
    let s := { s with conds := s.conds.filter (· != (p, c)), penTick := Tab.put s.penTick p s.now }
    if s.conds.any fun q => q.1 == p then s else
    unannounce (logAdd (wrBit s 0x2700 (0x80 + p / 32) (p % 32) false) 0x0003 loc p 0) p
  else s

/-- Cause `c` of C pennant `p` holds or not, as `b` says. -/
def cond (s : State) (b : Bool) (p c loc src : Nat) : State :=
  if b then condStart s p c loc src else condEnd s p c loc

-- Answers ---------------------------------------------------------------------------------------------------------

/-- Answer a client (R46: a node-ID, or 0x80 the host port); work of another origin has no one to answer. -/
def answer (s : State) (client code : Nat) (data : List Byte) : State :=
  if client > 0x80 then s else { s with answers := Tab.put s.answers client { code := code, data := data } }
def success (s : State) (client : Nat) : State := answer s client 0 []
def abort (s : State) (client code : Nat) : State := answer s client code []

-- Work items (R461 to R465) ---------------------------------------------------------------------------------------

/-- The object whose item ended earliest, among ended items. -/
def earliest : Tab WorkItem → Option Nat
  | [] => none
  | (i, w) :: t =>
    match t.find? (fun p => p.2.ended < w.ended) with
    | some _ => earliest t
    | none => some i

/-- A free object for a new item: one that never held an item, else the one whose item ended earliest (R463). -/
def freeItem (s : State) : Option Nat :=
  match (List.range 96).find? fun i => (Tab.find s.work i).isNone with
  | some i => some i
  | none =>
    earliest (s.work.filter fun p => p.2.state ≥ 2)

/-- POWER_FAIL or an orderly stop: no new work item is made (R387, R411). -/
def quiescing (s : State) : Bool := rdN s 0x2100 0x80 == 3 || rdN s 0x2200 0x95 == 3

/-- Make a new item, QUEUED, with its object if one is free. The reset record's identifier floor rises by 256 when the
identifier equal to it is issued (R480). -/
def newItem (s : State) (kind origin idx sub : Nat) : State × Option Nat :=
  match if quiescing s then none else freeItem s with
  | none => (s, none)
  | some i =>
    let w : WorkItem := { id := s.nextId, kind := kind, origin := origin, state := 0, reason := 0, idx := idx, sub := sub,
                          accepted := s.tick, ended := 0, abort := 0, journalled := false }
    ({ s with work := Tab.put s.work i w, nextId := (s.nextId + 1) % 2 ^ 32,
              idFloor := if s.nextId == s.idFloor then s.idFloor + 256 else s.idFloor }, some i)

def itemSet (s : State) (i : Nat) (f : WorkItem → WorkItem) : State :=
  match Tab.find s.work i with
  | some w => { s with work := Tab.put s.work i (f w) }
  | none => s

/-- The item of a request that is work of a kind of its own (R61, R426, R427): the request's item takes that kind; a request
without one gets a new item. -/
def ownItem (s : State) (item : Option Nat) (kind origin idx sub : Nat) : State × Option Nat :=
  match item with
  | some i => (itemSet s i fun w => { w with kind := kind }, some i)
  | none => newItem s kind origin idx sub

/-- An item becomes ACTIVE. -/
def itemActive (s : State) (i : Nat) : State := itemSet s i fun w => if w.state == 0 then { w with state := 1 } else w

/-- An item ends DONE; an item that has ended never leaves its state (R38). A client's item sets IRQ source 7 (R331). -/
def itemDone (s : State) (i : Nat) : State :=
  match Tab.find s.work i with
  | some w =>
    if w.state < 2 then
      let s := itemSet s i fun w => { w with state := 2, ended := s.tick }
      if w.origin ≤ 0x80 then irq s 7 else s
    else s
  | none => s

/-- An item ends FAILED with a reason and the abort answered (R465): one log entry 0x0020 and IRQ source 7. DEDUCED, unsafe: log
entry 202. DEDUCED, unsafe: log entry 206. -/
def itemFail (s : State) (i reason code : Nat) : State :=
  match Tab.find s.work i with
  | some w =>
    if w.state < 2 then
      let s := itemSet s i fun w => { w with state := 3, reason := reason, ended := s.tick, abort := code }
      irq (logAdd s 0x0020 0 reason (0x2020 + i)) 7
    else s
  | none => s

/-- The items in flight that a test picks. -/
def itemsWhere (s : State) (f : WorkItem → Bool) : List Nat :=
  (s.work.filter fun p => p.2.state < 2 && f p.2).map (·.1)

/-- Fold a state change over a list. -/
def foldS {α : Type} (s : State) (l : List α) (f : State → α → State) : State := l.foldl f s

/-- A response is ready for a tag of the host port (R326): IRQ source 0 stays set while any is. -/
def hostReady (s : State) (tag : Nat) (ok : Bool) (data : List Byte) : State :=
  let tags := match Tab.find s.host.tags tag with
    | some t => Tab.put s.host.tags tag { t with resp := some (ok, data) }
    | none => s.host.tags
  let n := (tags.filter fun p => p.2.resp.isSome).length
  wrBit (wrN { s with host := { s.host with tags := tags } } 0x2810 0x87 n) 0x2810 0x80 0 (n != 0)

/-- The answer of a request that waited for the work it started on object `idx`: its item ends with it, and a host-port request
gets its response. -/
def later (s : State) (client idx code : Nat) (data : List Byte) : State :=
  let s := answer s client code data
  match s.waiting.find? fun w => w.client == client && w.idx == idx with
  | none => s
  | some w =>
    let s := { s with waiting := s.waiting.filter (· != w) }
    let s := match w.item with
      | some i => if code == 0 then itemDone s i else itemFail s i 14 code
      | none => s
    match w.tag with
    | some t => hostReady s t (code == 0) (if code == 0 then data else leBytes 4 code)
    | none => s

/-- The holder sends an item to the standby that has joined it (R342). DEDUCED, unsafe: log entry 135. -/
def mirrorPut (s : State) (m : MirrorItem) : State :=
  if !(s.dup.joined && s.ensign) then s else
  let s := inc s 0x2500 0x8E
  { s with dup := { s.dup with mirrorQ := s.dup.mirrorQ ++ [(rdN s 0x2500 0x8E, m)],
                               mirrorAt := if s.dup.mirrorQ.isEmpty then s.now else s.dup.mirrorAt } }

/-- Internal work that waited or was skipped (R463). -/
def waited (s : State) : State := inc s 0x2700 0x85

end Sys2Proof.Machine
end

