-- ==== Sys2Proof/Machine/Flags.lean ====
section
/-! DEFINITION. Pennant bits and interrupt flags as a client reads and clears them (R323, R331, R452). -/
namespace Sys2Proof.Machine
open Sys2Proof Sys2Proof.OD

/-- A pennant that a clear in tick `st` leaves set: its event occurred, or its condition held, within that tick (R452). -/
def pennantCurrent (s : State) (p st : Nat) : Bool := condHolds s p || Tab.find s.penTick p == some st

/-- One pennant bit clears: its log entry, and the end of an announced E event (R452, R453). -/
def pennantClear (s : State) (p client st : Nat) : State :=
  if pennantSet s p && !pennantCurrent s p st then
    unannounce (logAdd (wrBit s 0x2700 (1 + p / 32) (p % 32) false) 0x0004 0 p client) p
  else s

/-- A write of `v` to 0x2700:11 + j (R452). -/
def clearPennants (s : State) (j v client st : Nat) : State :=
  foldS s ((List.range 32).filter fun b => bit v b) fun s b => pennantClear s (32 * j + b) client st

/-- IRQ_n is low (R331); it is released until the controllers are enabled, and while the port is off (R332). -/
def irqLow (s : State) : Bool := s.rst.phase ≥ 3 && !s.pw.off && rdN s 0x2810 0x80 &&& rdN s 0x2810 1 != 0

/-- Byte 1 of the status prefix (R323, R331, R332). -/
def prefixFlags (s : State) (holds ready : Bool) : Nat :=
  let m := rdN s 0x2810 0x80 &&& rdN s 0x2810 1
  setBit (setBit (setBit (setBit (setBit (setBit 0 0 (rdN s 0x2810 0x87 != 0)) 1 (rdBit s 0x2810 0x80 1)) 2 (bits m 10 1 != 0)) 3 holds)
    4 (operational s)) 7 (!ready)

end Sys2Proof.Machine
end

