-- ==== Sys2Proof/Machine/Measure.lean ====
section
/-! DEFINITION. Measurement: channel lists and the tick pass, correction, oversampling, flags, linearisation, and the
background calibration (R65 to R98). -/
namespace Sys2Proof.Machine
open Sys2Proof Sys2Proof.OD

/-- The device holds the ensign: always when operational on the ZH6432 (R6). -/
def holdsEnsign (s : State) : Bool := if s.zh6432 || rdN s 0x2500 1 == 0 then operational s else s.ensign

-- Correction ------------------------------------------------------------------------------------------------------

def chObj (ch : Nat) : Nat := 0x3100 + ch
def slObj (sl : Nat) : Nat := 0x3160 + sl
def chan (s : State) (ch : Nat) : Chan := Tab.get s.meas.chans ch {}
def setChan (s : State) (ch : Nat) (c : Chan) : State := { s with meas := { s.meas with chans := Tab.put s.meas.chans ch c } }

/-- The calibration coefficients of a slice for a range (R68, R91). -/
def coefOf (s : State) (sl rg : Nat) : Real32 × Real32 :=
  (Tab.find s.meas.coef (sl * 8 + rg)).getD (Config.otpOffset sl rg, Config.otpGain sl rg)

/-- The coefficients of all seven ranges of a slice. -/
def coefsOf (s : State) (sl : Nat) : List (Real32 × Real32) := (List.range 7).map (coefOf s sl)
def setCoefs (s : State) (sl : Nat) (c : List (Real32 × Real32)) : State :=
  let t := (List.range 7).foldl (fun t rg => match c.drop rg with | v :: _ => Tab.put t (sl * 8 + rg) v | [] => t) s.meas.coef
  { s with meas := { s.meas with coef := t } }

/-- The range code of channel k (R67): 0 for AI, 1 to 5 by the PGA gain code, 6 for the internal channels. -/
def rangeOf (s : State) (ch : Nat) : Nat :=
  if ch % 6 < 4 then 0 else if ch % 6 == 4 then 1 + rdN s (chObj ch) 0x20 else 6

/-- The corrected value c of R68, unrounded. DEDUCED, unsafe: log entry 35. -/
def corrected (s : State) (sl ch raw : Nat) : Rat :=
  let (o, g) := coefOf s sl (rangeOf s ch)
  let off := F32.toRat o + F32.toRat (rdR s (chObj ch) 0x23)
  let drift := 1 + F32.toRat (Config.otpTc sl) / 1000000 *
    (F32.toRat (rdR s 0x3180 0x87) - F32.toRat (rdR s (slObj sl) 0x90))
  let c := ((raw : Rat) - off) * (F32.toRat g * drift * F32.toRat (rdR s (chObj ch) 0x24)) * 32767 / 4095
  if c < 0 then 0 else if (32767 : Rat) < c then 32767 else c

-- Lists and timing ------------------------------------------------------------------------------------------------

/-- The channel list of slice `sl` (R69): entries beyond the length are ignored. -/
def listOf (s : State) (sl : Nat) : List Nat :=
  (List.range (rdN s (slObj sl) 1)).map fun i => rdN s (slObj sl) (2 + i)

/-- The acquisition extension of an entry, in CLK_ADC cycles (R72). -/
def extOf (s : State) (sl k : Nat) : Nat := rdN s (chObj (6 * sl + k)) 2

/-- The extension of the common slot at list position `i` (R70). -/
def slotExt (s : State) (i : Nat) : Nat :=
  (List.range 16).foldl (fun m sl => match (listOf s sl)[i]? with | some k => Nat.max m (extOf s sl k) | none => m) 0

/-- The longest list of any slice: all 16 are active while measurement runs. -/
def lMax (s : State) : Nat := (List.range 16).foldl (fun m sl => Nat.max m (rdN s (slObj sl) 1)) 0

/-- The tick-pass end time from time 0 in CLK_ADC cycles (R71): 1.0 µs is 32 cycles and 0.25 µs is 8. -/
def passCycles (s : State) : Nat :=
  if lMax s == 0 then 0 else (List.range (lMax s)).foldl (fun a i => a + 32 + slotExt s i) 0 - 8 - slotExt s 0

/-- The end time in units of 0.01 µs, rounded up (R71): one cycle is 3.125 of them. -/
def passEnd (s : State) : Nat := (passCycles s * 25 + 7) / 8

/-- Free-running slots of one slice after the tick pass (R72): `t` is the running time in cycles, `lim` the last end
allowed, `i` the slot number. Every second slot stays idle, its entry unconverted, when the divisor is 2 (R78; DEDUCED, log entry
33). Answers entries k with their starts. -/
def freeRun (exts : List (Nat × Nat)) (div lim : Nat) : Nat → Nat → Nat → List (Nat × Nat)
  | 0, _, _ => []
  | fuel + 1, t, i =>
    match exts[i % exts.length]? with
    | none => []
    | some (k, e) =>
      if t + 32 + e ≤ lim then
        (if div == 2 && i % 2 == 1 then [] else [(k, t)]) ++ freeRun exts div lim fuel (t + 32 + e) (i + 1)
      else []

/-- The free-running conversions of slice `sl` in a period, as entries k and their starts in cycles. DEDUCED, unsafe: log entry
33. -/
def freeSlots (s : State) (sl : Nat) : List (Nat × Nat) :=
  let l := (listOf s sl).map fun k => (k, extOf s sl k)
  freeRun l (rdN s 0x3180 0x89) (3200 - 8 - slotExt s 0) 100 (passCycles s) 0

/-- The tick-pass conversions of slice `sl`, as entries k and their starts in cycles from time 0 (R70). -/
def passSlots (s : State) (sl : Nat) : List (Nat × Int) :=
  let start (i : Nat) : Int := ((List.range i).foldl (fun a j => a + 32 + slotExt s j) 0 : Nat) - 8 - (slotExt s 0 : Int)
  (listOf s sl).zipIdx.map fun p => (p.1, start p.2)

/-- All conversions of slice `sl` in a period, in their order. -/
def periodSlots (s : State) (sl : Nat) : List (Nat × Int) := passSlots s sl ++ (freeSlots s sl).map fun p => (p.1, (p.2 : Int))

/-- A start `t`, in cycles, is not before `off` ns into the period. DESIGN CHOICE, unsafe: log entry 22. -/
def startsFrom (off : Nat) (t : Int) : Bool := (off : Int) * 32 ≤ t * 1000

/-- The number of conversions of slice `sl` that start at or after `off` ns into the period. -/
def convsAfter (s : State) (sl off : Nat) : Nat := ((periodSlots s sl).filter fun p => startsFrom off p.2).length

-- Flags and the filter --------------------------------------------------------------------------------------------

/-- Conversions of the window: N = 2^n (R78). -/
def winLen (s : State) (ch : Nat) : Nat := 2 ^ rdN s (chObj ch) 0x21

/-- Detectors active on an input of slice `sl`. -/
def injOn (s : State) (sl : Nat) : Bool := s.meas.inj.any fun p => p.1 / 6 == sl && p.2 != 0

/-- An injection above 1 mA stands at some input (R84). -/
def injStrong (s : State) : Bool := s.meas.inj.any fun p => bit p.2 2

/-- The injection marks of a conversion of channel `ch` on slice `sl`, `tail` conversions of which are still to carry SUSPECT:
(OVR, UNR, SUSPECT) (R83, R84, R90). -/
def injMarks (s : State) (sl ch tail : Nat) : Bool × Bool × Bool :=
  let d := Tab.get s.meas.inj ch 0
  let others := s.meas.inj.any fun p => p.1 / 6 == sl && p.1 != ch && p.2 != 0
  (bit d 0, bit d 1, others || injStrong s || (!injOn s sl && tail > 0) || rdN s (slObj sl) 0x80 == 3)

/-- The SUSPECT tail after one more conversion of slice `sl` (R83). -/
def stepTail (s : State) (sl : Nat) : State :=
  let t := Tab.get s.meas.suspTail sl 0
  let t' := if injOn s sl || injStrong s then 20 else t - 1
  if t' == t then s else { s with meas := { s.meas with suspTail := Tab.put s.meas.suspTail sl t' } }

/-- One conversion: its corrected value, its raw code and its flags (R80 to R83). `phys` is the converting slice, `start` the
conversion's start, `tail` the slice's conversions still to carry SUSPECT. DEDUCED, safe: log entry 38. -/
def convert (s : State) (sl phys ch : Nat) (x : AdcSample) (start : Int) (tail : Nat) : Conv × Nat :=
  let (io, iu, su) := injMarks s sl ch tail
  let ovr := x.above || io
  let unr := x.below || iu
  let raw := if ovr && !unr then 0xFFF else if unr && !ovr then 0 else x.raw % 4096
  let c := if ovr && !unr then 32767 else if unr && !ovr then 0 else corrected s phys ch raw
  ({ c := c, ovr := ovr, unr := unr, susp := su, phys := phys, start := start, sample := x }, raw)

/-- The round of R80, to the nearest integer, a half upward. DEDUCED, unsafe: log entry 36. -/
def roundRat (q : Rat) : Int := (q + mkRat 1 2).floor

/-- The filters after the detectors have changed `off` ns into the period: the conversions of the slices `sls` that start from then
on carry the marks that the detectors now give, the first 20 after an end SUSPECT (R83, R84). DESIGN CHOICE, unsafe: log entry
22. -/
def remarked (s : State) (sls : List Nat) (off : Nat) : Tab Chan :=
  let t0 : Int := s.now * 3200
  s.meas.chans.map fun p =>
    let sl := p.1 / 6
    if !sls.contains sl then p else
    let starts := (periodSlots s sl).map fun q => t0 + q.2
    let anew (x : Conv) : Conv :=
      let before := starts.filter fun t => startsFrom off (t - t0) && decide (t < x.start)
      (convert s sl x.phys p.1 x.sample x.start (20 - before.length)).1
    (p.1, { p.2 with win := p.2.win.map fun x => if startsFrom off (x.start - t0) then anew x else x })

/-- The mean of a window (0 for an empty one). DEDUCED, unsafe: log entry 35. -/
def mean (w : List Conv) : Rat := if w.isEmpty then 0 else (w.foldl (fun a x => a + x.c) 0) / (w.length : Rat)

/-- Enter a conversion into a channel's filter, or count down its settling conversions (R85). The Bool says that the
conversion carried SETTLING and was not entered. -/
def enter (s : State) (ch : Nat) (x : Conv) : State × Bool :=
  let c := chan s ch
  if c.settle > 0 then (setChan s ch { c with settle := c.settle - 1, win := [] }, true)
  else
    let w := (x :: c.win).take (winLen s ch)
    (setChan s ch { c with win := w, refill := c.refill && w.length < winLen s ch }, false)

/-- What a period's tick pass delivers for a channel before linearisation: the record of R82 and the filter mean. -/
structure Delivered where
  ch : Nat
  phys : Nat
  raw : Nat
  m : Rat
  ovr : Bool
  unr : Bool
  susp : Bool
  settling : Bool
deriving DecidableEq, Repr

/-- What a tick-pass conversion `x` delivers (R82). `settled`: it was not entered, and the window stands empty; then its own
value and flags stand in the record (DESIGN CHOICE, unsafe: log entry 224). `marked`: a tick-pass conversion of this period
carried SETTLING (R86). -/
def deliver (s : State) (phys ch raw : Nat) (x : Conv) (settled marked : Bool) : Delivered :=
  let c := chan s ch
  if settled then { ch, phys, raw, m := x.c, ovr := x.ovr, unr := x.unr, susp := x.susp, settling := true }
  else
    { ch, phys, raw, m := mean c.win, ovr := c.win.any (·.ovr), unr := c.win.any (·.unr), susp := c.win.any (·.susp),
      settling := c.refill || marked }

/-- The 32-bit record (R80, R82). DEDUCED, unsafe: log entry 36. -/
def recordOf (d : Delivered) : Nat :=
  (roundRat d.m).toNat * 65536 + (if d.ovr then 32768 else 0) + (if d.unr then 16384 else 0) +
  (if d.settling then 8192 else 0) + (if d.susp then 4096 else 0) + d.raw

/-- Run the slots `ks` of slice `sl` with the codes `xs`; the deliveries of the newest conversion of each channel. A conversion
whose code the operand does not carry is not made. DESIGN CHOICE, unsafe: log entry 37. -/
def runSlots (s : State) (sl phys : Nat) : List (Nat × Int) → List AdcSample → List Delivered →
    State × List Delivered × List AdcSample
  | [], xs, acc => (s, acc, xs)
  | _, [], acc => (s, acc, [])
  | k :: ks, x :: xs, acc =>
    let ch := 6 * sl + k.1
    let (cv, raw) := convert s sl phys ch x (s.now * 3200 + k.2) (Tab.get s.meas.suspTail sl 0)
    let s := inc (stepTail s sl) (chObj ch) 0x88
    let (s, settled) := enter s ch cv
    let marked := acc.any fun d => d.ch == ch && d.settling
    runSlots s sl phys ks xs (deliver s phys ch raw cv settled marked :: acc.filter (·.ch != ch))

/-- The slice whose conversions are delivered for the inputs of `sl` (R89). -/
def servedBy (s : State) (sl : Nat) : Nat :=
  let m := s.meas
  if rdN s (slObj sl) 0x80 == 2 then (if rdN s 0x3170 0x81 == sl && rdN s 0x3170 0x80 == 5 then 16 else sl)
  else if m.calSlice == sl && (m.calPhase == 2 || m.calPhase == 3 || m.calPhase == 4) then 16 else sl

/-- The tick pass and the free-running conversions of one working slice. 0x3100+CH:88 shows the conversions of the period that
has just begun. DESIGN CHOICE, unsafe: log entries 37 and 224. -/
def runSlice (s : State) (adc : List (List AdcSample)) (sl : Nat) : State × List Delivered :=
  let s := foldS s (List.range 6) fun s k =>
    if rdN s (chObj (6 * sl + k)) 0x88 == 0 then s else wrN s (chObj (6 * sl + k)) 0x88 0
  let phys := servedBy s sl
  let free := (freeSlots s sl).map fun p => (p.1, (p.2 : Int))
  let (s, d, xs) := runSlots s sl phys (passSlots s sl) ((adc[phys]?).getD []) []
  let (s, _, _) := runSlots s sl phys free xs []
  (s, d)

-- Comparison of two slices in parallel (R90) ----------------------------------------------------------------------

/-- The mean of a slice's unflagged conversions of channel `ch` in the period, from the marks that stood before it. -/
def parMean (s : State) (sl phys ch : Nat) (ks : List Nat) (xs : List AdcSample) : Option Rat :=
  let tail := Tab.get s.meas.suspTail sl 0
  let cs := ((ks.zip xs).zipIdx.filter fun p => 6 * sl + p.1.1 == ch).map fun p => (convert s sl phys ch p.1.2 0 (tail - p.2)).1
  let cs := cs.filter fun c => !c.ovr && !c.unr && !c.susp
  if cs.isEmpty then none else some (mean cs)

/-- The comparison of a period fails when a channel differs by more than 6 LSB of 12 bits; `s` is the state before its
conversions. -/
def compareFails (s : State) (adc : List (List AdcSample)) (sl : Nat) : Bool :=
  let ks := (periodSlots s sl).map (·.1)
  (List.range 6).any fun k =>
    match parMean s sl sl (6 * sl + k) ks ((adc[sl]?).getD []), parMean s sl 16 (6 * sl + k) ks ((adc[16]?).getD []) with
    | some a, some b => decide ((6 : Rat) < (if a < b then b - a else a - b) * 4095 / 32767)
    | _, _ => false

-- Linearisation (R92 to R94) --------------------------------------------------------------------------------------

/-- The grid on which square roots and Newton steps are kept: 2^-64. -/
def grid (q : Rat) : Rat := mkRat ((q * (2 ^ 64 : Nat)).floor) (2 ^ 64)

/-- The square root of a rational on the grid. -/
def sqrtRat (q : Rat) : Rat := mkRat (F32.isqrt ((q * (2 ^ 128 : Nat)).floor.toNat)) (2 ^ 64)

/-- Callendar-Van Dusen temperature of a resistance (R93); none where the root's argument is negative. -/
def platinum (res rnom : Rat) : Option Rat :=
  let a : Rat := mkRat 39083 10000000
  let b : Rat := mkRat (-5775) 10000000000
  let c : Rat := mkRat (-4183) 1000000000000000
  let disc := a * a - 4 * b * (1 - res / rnom)
  if disc < 0 then none else
  let t := (-a + sqrtRat disc) / (2 * b)
  let newton (t : Rat) : Rat :=
    let f := rnom * (1 + a * t + b * (t * t) + c * (t - 100) * (t * t * t)) - res
    let df := rnom * (a + 2 * b * t + c * (4 * (t * t * t) - 300 * (t * t)))
    grid (t - f / df)
  some (if res < rnom then newton (newton (newton (grid t))) else t)

/-- Steinhart-Hart temperature of a resistance (R93); none where the denominator is not above 0. -/
def steinhart (s : State) (ch : Nat) (res : Rat) : Option Rat :=
  let l := Analytic.ln res
  let q (sub : Nat) : Rat := F32.toRat (rdR s (chObj ch) sub)
  let d := q 0x27 + q 0x28 * l + q 0x29 * (l * l * l)
  if d ≤ 0 then none else some (1 / d - mkRat 27315 100)

/-- The voltage of a filter mean (R93). -/
def volts (s : State) (ch : Nat) (m : Rat) : Rat :=
  let x := m / 32767
  if ch % 6 < 4 then mkRat 5 2 * x
  else if ch % 6 == 4 then
    (2 * x - 1) * mkRat 5 4 / ((2 ^ rdN s (chObj ch) 0x20 : Nat) : Rat) + F32.toRat (rdR s (chObj ch) 0x2B)
  else
    let n := ch / 6
    let div : Rat := if n == 1 || n == 2 || n == 6 then mkRat 1 2 else if n == 4 || n == 5 then mkRat 1 8 else 1
    (2 * x - 1) * 3 / div

/-- A temperature within −200.00 to +327.66 °C (R94). -/
def tempOk (t : Option Rat) : Option Rat :=
  match t with
  | some q => if q < -200 || (mkRat 32766 100) < q then none else some q
  | none => none

/-- The physical value of a delivery, or none (R93, R94): a channel of any type that names a source has none while that source
is open or off or its monitor gives no current (R74, R75). `cur j` is the monitor current of source j for this period in
amperes, `vref` the INT0 reading of this period. DEDUCED, unsafe: log entry 39. -/
def physOf (s : State) (d : Delivered) (cur : Nat → Option Rat) (vref : Option Rat) : Option Rat :=
  let ch := d.ch
  let v := volts s ch d.m
  let i : Option Rat := match rdN s (chObj ch) 3 with | 0 => none | j + 1 => cur j
  let ohms : Option Rat := match i with | some a => if a ≤ 0 then none else some (v / a) | none => none
  if rdN s (chObj ch) 3 != 0 && i.isNone then none else
  match rdN s (chObj ch) 1 with
  | 0 => some v
  | 1 => some (F32.toRat (rdR s (chObj ch) 0x25) + F32.toRat (rdR s (chObj ch) 0x26) * v)
  | 2 => match ohms with
    | some r => let r := r - F32.toRat (rdR s (chObj ch) 0x2C); if r ≤ 0 then none else tempOk (platinum r 100)
    | none => none
  | 3 => match ohms with
    | some r => let r := r - F32.toRat (rdR s (chObj ch) 0x2C); if r ≤ 0 then none else tempOk (platinum r 1000)
    | none => none
  | 4 => match ohms with
    | some r => if r ≤ 0 then none else tempOk (steinhart s ch r)
    | none => none
  | 5 => match vref with
    | some vr =>
      if vr ≤ v then none else
      let r := F32.toRat (rdR s (chObj ch) 0x2A) * v / (vr - v)
      if r ≤ 0 then none else tempOk (steinhart s ch r)
    | none => none
  | _ => some (if within (ch / 6) 8 11 then v * 1000 else v)

/-- The record is valid for consumers, the linearisation apart (R87). -/
def recordValid (s : State) (d : Delivered) : Bool :=
  let pol := rdN s (chObj d.ch) 0x22
  !d.settling && (!d.susp || !bit pol 0) &&
  (!(d.ovr || d.unr) || (rdN s (chObj d.ch) 1 ≤ 1 && bit pol 1))

/-- The set current of source j, µA (R74). -/
def setCurrent (s : State) (j : Nat) : Nat :=
  match rdN s 0x3180 (0x20 + j) with
  | 1 => 10 | 2 => 25 | 3 => 50 | 4 => 100 | 5 => 250 | 6 => 500 | 7 => 1000
  | _ => 0

/-- The excitation sources are driven: with the ensign, and not gated off by ENSIGN_IN (R76, R476). -/
def excDriven (s : State) : Bool := operational s && holdsEnsign s && (s.ensignIn || s.zh6432)

/-- Hand a delivery to its objects: record, tag, value, temperature, age and counters (R82, R87, R96). -/
def publish (s : State) (d : Delivered) (phys : Option Rat) : State :=
  let o := chObj d.ch
  let s := wrN (wrN s o 0x80 (recordOf d)) o 0x81 d.phys
  let s := if d.ovr || d.unr then inc s o 0x85 else s
  let s := if d.susp then inc s o 0x86 else s
  let s := if d.settling then inc s o 0x87 else s
  let isTemp := within (rdN s o 1) 2 5
  match phys with
  | some q =>
    let s := wrR s o 0x82 (F32.ofRat q)
    let s := wrI s o 0x83 (if isTemp then roundRat (q * 100) else -32768)
    setChan (wrN s o 0x84 0) d.ch { chan s d.ch with valid := true, pin := volts s d.ch d.m }
  | none =>
    let s := wrI s o 0x83 (-32768)
    setChan (wrN s o 0x84 (Nat.min (rdN s o 0x84 + 1) (2 ^ 32 - 1))) d.ch { chan s d.ch with valid := false }

/-- Channels in no list deliver no valid value, and ages grow (R69, R94). -/
def ageUnlisted (s : State) (ds : List Delivered) : State :=
  foldS s (s.meas.chans.filter fun p => !(ds.any (·.ch == p.1))) fun s p =>
    let o := chObj p.1
    let s := wrI (setChan s p.1 { p.2 with valid := false }) o 0x83 (-32768)
    wrN s o 0x84 (Nat.min (rdN s o 0x84 + 1) (2 ^ 32 - 1))

/-- The pennants that the internal channels feed, and the supply voltages they report (R66, R362, R386). A condition stands on
while its channel is in no list. DEDUCED, unsafe: log entry 40. DESIGN CHOICE, unsafe: log entry 224. -/
def refPennants (s : State) (ds : List Delivered) : State :=
  let s := match ds.find? (·.ch == 5) with
    | some d => let v := volts s 5 d.m; cond s (v < mkRat 2475 1000 || (mkRat 2525 1000) < v) 8 0 0x0640C000 0xFF
    | none => s
  let s := match ds.find? (·.ch == 47) with
    | some d => let v := volts s 47 d.m; cond s (v < mkRat (-5) 1000 || (mkRat 5 1000) < v) 9 0 0x0640402F 0xFF
    | none => s
  let s := match ds.find? (·.ch == 41) with
    | some d => cond s (volts s 41 d.m < mkRat 22 10) 66 0 0x01300000 0xFF
    | none => s
  foldS s [(11, 0x2100, 0x82), (17, 0x2100, 0x83), (23, 0x2100, 0x84), (41, 0x2300, 0x80)] fun s q =>
    wrR s q.2.1 q.2.2 (match ds.find? (·.ch == q.1) with | some d => F32.ofRat (volts s q.1 d.m) | none => F32.zero)

/-- Test the driven sources against 95 % of their setting (R75); without a valid monitor record the marks and the pennant stay.
DESIGN CHOICE, unsafe: log entry 224. -/
def excTest (s : State) (ds : List Delivered) : State :=
  foldS s (List.range 4) fun s j =>
    let set := setCurrent s j
    let opened :=
      if set == 0 || !excDriven s then some false else
      match ds.find? (·.ch == 53 + 6 * j) with
      | some d => if recordValid s d then some (decide (volts s d.ch d.m * 1000 < (set : Rat) * mkRat 95 100)) else none
      | none => none
    match opened with
    | none => s
    | some b =>
      let rest := s.meas.excOpen.filter (· != j)
      let s := { s with meas := { s.meas with excOpen := if b then j :: rest else rest } }
      cond s b 10 j (0x06408000 + j) 0xFF

/-- The monitor current of source j for this period, in amperes (R74 to R76). DEDUCED, unsafe: log entry 39. -/
def monitorCurrent (s : State) (ds : List Delivered) (j : Nat) : Option Rat :=
  if setCurrent s j == 0 then none
  else if !excDriven s then
    (match s.dup.hoists with
     | h :: _ => (match Tab.find h.currents j with | some c => some (F32.toRat c / 1000000) | none => none)
     | [] => none)
  else if s.meas.excOpen.contains j then none
  else match ds.find? (·.ch == 53 + 6 * j) with
    | some d => if recordValid s d then some (volts s d.ch d.m / 1000) else none
    | none => none

/-- The phase-1 comparison of the window that opens at the next tick, if one does (R88, R89). -/
def windowSlice (s : State) : Option Nat :=
  let t := s.tick + 1
  if s.counting && rdF s 0x3180 0x24 && !s.meas.calStopped && t % 17000 == 0 && s.meas.calPhase == 0 then
    some ((s.meas.calRetry).getD ((t / 17000 + 15) % 16))
  else none

/-- The slice that R88 calibrates next (R98): that of the first window to come whose slice is not faulty. -/
def nextCal (s : State) : Nat :=
  let n := s.tick / 17000
  match s.meas.calRetry with
  | some sl => sl
  | none => (((List.range 16).map fun i => (n + i) % 16).find? fun sl => !within (rdN s (slObj sl) 0x80) 2 3).getD (n % 16)

/-- The next 2 conversions of a channel carry SETTLING and its window restarts (R79, R85). -/
def settleChan (s : State) (ch : Nat) : State := setChan s ch { chan s ch with settle := 2, win := [] }

/-- The current of source j changes, or it is switched on or off (R85): its channels and its monitor settle. -/
def settleSource (s : State) (j : Nat) : State :=
  let s := foldS s ((List.range 16).map fun sl => 6 * sl + 4) fun s ch =>
    if rdN s (chObj ch) 3 == j + 1 then settleChan s ch else s
  settleChan s (53 + 6 * j)

/-- The sources are switched on or off with the ensign and the operational tick (R76, R85, R476). -/
def switchSources (s : State) : State :=
  if excDriven s == s.meas.driven then s
  else
    let s := { s with meas := { s.meas with driven := excDriven s } }
    foldS s ((List.range 4).filter fun j => setCurrent s j != 0) settleSource

/-- The tick pass of the period that has just begun, with its correction, filtering and linearisation (R19, R20 steps
1 to 6), the free-running conversions, and the comparison of slices in parallel. -/
def tickPass (s : State) (adc : List (List AdcSample)) : State :=
  let s0 := switchSources s
  let s := if rdN s0 0x3180 0x81 == nextCal s0 then s0 else wrN s0 0x3180 0x81 (nextCal s0)
  let (s, ds) := (List.range 16).foldl (init := (s, ([] : List Delivered))) fun a sl =>
    let (s, d) := runSlice a.1 adc sl
    (s, d ++ a.2)
  let s := wrN s 0x3180 0x80 (passEnd s)
  let s := refPennants s ds
  let s := excTest s ds
  let vref := match ds.find? (·.ch == 5) with
    | some d => if recordValid s d then some (volts s 5 d.m) else none
    | none => none
  let cur := monitorCurrent s ds
  let s := foldS s ds fun s d => publish s d (if recordValid s d then physOf s d cur vref else none)
  let s := foldS s (List.range 4) fun s j =>
    match ds.find? (·.ch == 53 + 6 * j) with
    | some _ => wrR s 0x3180 (0x83 + j) (rdR s (chObj (53 + 6 * j)) 0x82)
    | none => s
  let s := ageUnlisted s ds
  -- slices in parallel (R89 steps 1 and 4, R90)
  match windowSlice s with
  | some sl =>
    if rdN s (slObj sl) 0x80 == 2 || rdN s (slObj sl) 0x80 == 3 || rdN s (slObj sl) 0x80 == 8 then s else
    let s := wrN (wrN (wrN s (slObj sl) 0x80 7) 0x3170 0x80 7) 0x3170 0x81 sl
    { s with meas := { s.meas with calSlice := sl, calT := s.tick + 1, calPhase := 1, cmpFail := compareFails s0 adc sl } }
  | none =>
    if s.meas.calPhase == 3 || s.meas.calPhase == 4 then
      { s with meas := { s.meas with cmpFail := compareFails s0 adc s.meas.calSlice } }
    else s

-- Changes of settings ---------------------------------------------------------------------------------------------

/-- What a write that changes a measurement parameter does to the filters (R85, R86): gain and zero offset settle the channel, a
change of N refills its window, a change of a source's current settles its channels and its monitor. -/
def measChanged (s : State) (idx sub : Nat) : State :=
  if within idx 0x3100 0x315F then
    let ch := idx - 0x3100
    if (sub == 0x20 || sub == 0x2B) && ch % 6 == 4 then settleChan s ch
    else if sub == 0x21 then setChan s ch { chan s ch with win := [], refill := true }
    else s
  else if idx == 0x3180 && within sub 0x20 0x23 then settleSource s (sub - 0x20)
  else s

-- Background calibration (R88 to R91) -----------------------------------------------------------------------------

/-- A calibration result out of bounds (R90): an offset beyond ±32 LSB or a gain outside 0.98 to 1.02. -/
def coefOob (c : List (Real32 × Real32)) : Bool :=
  c.any fun p => decide (32 < F32.toRat p.1) || decide (F32.toRat p.1 < -32) ||
    decide (F32.toRat p.2 < mkRat 98 100) || decide (mkRat 102 100 < F32.toRat p.2)

/-- Coefficients come into use at tick `t` (R97: 90, 91 and 92). -/
def takeCoefs (s : State) (sl t : Nat) : State :=
  inc (wrN (wrR s (slObj sl) 0x90 (rdR s 0x3180 0x87)) (slObj sl) 0x91 t) (slObj sl) 0x92

/-- A failed comparison (R90): the pennant and the counter. -/
def calMismatch (s : State) (sl : Nat) : State := inc (event s 12 (0x06400000 + sl * 256)) 0x3180 0x88

/-- Background calibration stops (R90). DEDUCED, unsafe: log entry 34. -/
def calStop (s : State) : State :=
  condStart { s with meas := { s.meas with calStopped := true } } 14 0 0x06400000 0xFF

def calDone (s : State) : State :=
  match s.meas.calItem with
  | some i => { itemDone s i with meas := { (itemDone s i).meas with calItem := none } }
  | none => s
def calFail (s : State) : State :=
  match s.meas.calItem with
  | some i => { itemFail s i 12 0 with meas := { (itemFail s i 12 0).meas with calItem := none } }
  | none => s

/-- The window opens at the next tick: SP is substituted, or the substitution is abandoned after a failed comparison (R89 step
2, R90). `spCoef` is what SP's calibration would give. DESIGN CHOICE, unsafe: log entry 41. -/
def calWindowStart (s : State) (spCoef : List (Real32 × Real32)) : State :=
  let m := s.meas
  if m.calPhase != 1 || m.calT != s.tick + 1 then s else
  let sl := m.calSlice
  match newItem s 5 0x0100 (slObj sl) 0 with
  | (_, none) =>
    let s := wrN (wrN (wrN s (slObj sl) 0x80 0) 0x3170 0x80 4) 0x3170 0x81 0
    waited { s with meas := { s.meas with calPhase := 0 } }
  | (s, some i) =>
    let s := itemActive { s with meas := { s.meas with calItem := some i } } i
    if m.cmpFail then
      let s := calFail (calMismatch s sl)
      let s := wrN (wrN s (slObj sl) 0x80 0) 0x3170 0x81 0
      if m.calFails ≥ 1 then
        calStop (condStart (wrN { s with meas := { s.meas with calPhase := 0, calFails := 2 } } 0x3170 0x80 3) 13 16 0x06401000 0xFF)
      else
        wrN { s with meas := { s.meas with calPhase := 0, calFails := 1, calRetry := some sl,
                                           spCal := some (m.calT + 200, spCoef) } } 0x3170 0x80 6
    else
      let s := wrN (wrN (wrN s (slObj sl) 0x80 1) 0x3170 0x80 5) (slObj sl) 0x81 16
      { s with meas := { s.meas with calPhase := 2, calFails := 0, calRetry := none, calPrev := coefsOf s sl } }

/-- The calibrated slice is reconnected in parallel at T + 199 with its new coefficients (R89 step 4). DESIGN CHOICE, unsafe:
log entry 41. -/
def calReconnect (s : State) (coef : List (Real32 × Real32)) : State :=
  let m := s.meas
  if m.calPhase != 2 || m.calT + 198 != s.tick then s else
  let s := wrN (setCoefs s m.calSlice coef) (slObj m.calSlice) 0x80 7
  { s with meas := { s.meas with calPhase := 3, calOob := coefOob coef } }

/-- The slice takes its inputs back: SP goes idle and the window ends. -/
def calReturn (s : State) : State :=
  let s := wrN (wrN (wrN s (slObj s.meas.calSlice) 0x80 0) 0x3170 0x80 4) 0x3170 0x81 0
  let s := wrN s 0x3180 0x81 ((s.meas.calSlice + 1) % 16)
  let s := if s.meas.calSlice == 15 then inc s 0x3180 0x82 else s
  calDone { s with meas := { s.meas with calPhase := 0 } }

/-- The end of the window at T + 200, or at T + 201 after a repeated comparison (R89 step 5, R90). -/
def calWindowEnd (s : State) : State :=
  let m := s.meas
  let sl := m.calSlice
  if m.calPhase == 3 && m.calT + 199 == s.tick then
    if m.cmpFail || m.calOob then
      let s := setCoefs (calMismatch s sl) sl m.calPrev
      { s with meas := { s.meas with calPhase := 4 } }
    else calReturn (takeCoefs s sl (m.calT + 200))
  else if m.calPhase == 4 && m.calT + 200 == s.tick then
    if m.cmpFail then
      let s := calFail (calMismatch s sl)
      let s := wrN (wrN (wrN s (slObj sl) 0x80 2) 0x3170 0x80 5) 0x3170 0x81 sl
      calStop (condStart { s with meas := { s.meas with calPhase := 0 } } 13 sl (0x06400000 + sl * 256) 0xFF)
    else calReturn s
  else s

/-- SP calibrates itself from t + 8 500 (R88). -/
def spareCal (s : State) (coef : List (Real32 × Real32)) : State :=
  if s.counting && rdF s 0x3180 0x24 && !s.meas.calStopped && s.tick + 1 > 17000 && (s.tick + 1) % 17000 == 8500 &&
     rdN s 0x3170 0x80 == 4 then
    wrN { s with meas := { s.meas with spCal := some (s.tick + 201, coef) } } 0x3170 0x80 6
  else s

/-- SP's self-calibration ends at its tick (R97). -/
def spareCalDue (s : State) : State :=
  match s.meas.spCal with
  | some (t, c) =>
    if s.counting && s.tick ≥ t then
      let s := { s with meas := { s.meas with spCal := none } }
      let s := if coefOob c then s else takeCoefs (setCoefs s 16 c) 16 t
      wrN s 0x3170 0x80 4
    else s
  | none => s

/-- The start-up calibration of all 17 slices (R91): `res` gives each slice's coefficients, and a slice out of bounds
fails. The lowest failed working slice is covered by SP, the others are not, and none is when SP has failed (DESIGN CHOICE, log
entry 225). With SP committed or failed, background calibration has stopped (R90; DEDUCED, log entry 34). Sub-index 92 does not
count it (DESIGN CHOICE, log entry 225). The temperature that it records is the next one read at the reference (DEDUCED, log entry
225). -/
def startupCal (s : State) (res : List (List (Real32 × Real32))) : State :=
  let s := { s with meas := { s.meas with coef := [], calPhase := 0, calStopped := false, calFails := 0, calRetry := none,
                                          spCal := none, calItem := none, cmpFail := false, calTemp := true } }
  let s := foldS s (List.range 17) fun s sl =>
    let c := (res[sl]?).getD []
    let s := if coefOob c then s else setCoefs s sl c
    let s := wrN (wrR s (slObj sl) 0x90 (rdR s 0x3180 0x87)) (slObj sl) 0x91 0
    wrN s (slObj sl) 0x80 (if sl == 16 then (if coefOob c then 3 else 4) else 0)
  let failed := (List.range 17).filter fun sl => coefOob ((res[sl]?).getD [])
  let s := if failed.isEmpty then s else calStop s
  foldS s failed fun s sl =>
    let s := condStart s 13 sl (0x06400000 + sl * 256) 0xFF
    if sl == 16 then s
    else if failed.head? == some sl && rdN s 0x3170 0x80 == 4 then
      wrN (wrN (wrN s (slObj sl) 0x80 2) 0x3170 0x80 5) 0x3170 0x81 sl
    else wrN s (slObj sl) 0x80 3

/-- The die temperature at the reference is read (R68): after a start-up calibration it is also the one recorded at it. DEDUCED,
unsafe: log entry 225. -/
def refTemperature (s : State) (t : Real32) : State :=
  let s := wrR s 0x3180 0x87 t
  if s.meas.calTemp then
    foldS { s with meas := { s.meas with calTemp := false } } (List.range 17) fun s sl => wrR s (slObj sl) 0x90 t
  else s

/-- Measurement stops (R76): a window that runs is abandoned and its slice and SP are as before it, with the item failed for the
reason `why`; SP's self-calibration is dropped; the filters will start empty (R79). DEDUCED, unsafe: log entry 225. -/
def measStop (s : State) (why : Nat) : State :=
  let m := s.meas
  let s := match m.calItem with | some i => itemFail s i why 0 | none => s
  let s := if m.calPhase == 3 then setCoefs s m.calSlice m.calPrev else s
  let s := if m.calPhase == 0 then s else wrN (wrN (wrN (wrN s (slObj m.calSlice) 0x80 0) (slObj m.calSlice) 0x81 16) 0x3170 0x80 4) 0x3170 0x81 0
  let s := if m.spCal.isSome then wrN s 0x3170 0x80 4 else s
  { s with meas := { s.meas with calItem := none, calSlice := 0, calPhase := 0, spCal := none, suspTail := [],
                                 chans := s.meas.chans.map fun p => (p.1, { p.2 with win := [], valid := false }) } }

/-- A detector sees an injection begin (`on`) or end at a channel's input, `off` ns into the period (R83, R84). The conversions
of this period that start from then on are marked anew in their filters, and those after the end count among the next 20; a
record that BASE_TICK has delivered stays. DESIGN CHOICE, unsafe: log entry 22. -/
def injection (s : State) (ch : Nat) (above below strong on : Bool) (off : Nat) : State :=
  let m := s.meas
  let v := (if above then 1 else 0) + (if below then 2 else 0) + (if strong then 4 else 0)
  let was := injStrong s
  let s := { s with meas := { m with inj := if on then Tab.put m.inj ch v else Tab.del m.inj ch,
                                     suspTail := if on then Tab.put m.suspTail (ch / 6) 20 else m.suspTail } }
  let s := foldS s ((List.range 16).filter fun sl => ((!on && sl == ch / 6) || was) && !injOn s sl && !injStrong s) fun s sl =>
    { s with meas := { s.meas with suspTail := Tab.put s.meas.suspTail sl (20 - convsAfter s sl off) } }
  let chans := remarked s (if was || injStrong s then List.range 16 else [ch / 6]) off
  let s := { s with meas := { s.meas with chans := chans } }
  if injStrong s then
    condStart { s with meas := { s.meas with suspTail := (List.range 16).map fun i => (i, 20) } } 11 0 (0x06404000 + ch) 0xFF
  else condEnd s 11 0 (0x06404000 + ch)

end Sys2Proof.Machine
end

