-- ==== Sys2Proof/Machine/Ports.lean ====
section
/-! DEFINITION. Field ports: what the pin does, safe states, readback, input filters, counters, frequency, and the
switched and pulse-width outputs (R99 to R118). -/
namespace Sys2Proof.Machine
open Sys2Proof Sys2Proof.OD

def fpObj (n : Nat) : Nat := 0x3000 + n
def port (s : State) (n : Nat) : Port := Tab.get s.ports n {}
def setPort (s : State) (n : Nat) (p : Port) : State := { s with ports := Tab.put s.ports n p }
def pos (s : State) (c : Nat) : Pos := Tab.get s.pos c {}
def setPos (s : State) (c : Nat) (p : Pos) : State := { s with pos := Tab.put s.pos c p }
/-- The CLK_POS cycle of an instant `off` ns into the period, in ns: events of the ports and channels are stamped at 5 ns (R108,
R122). -/
def cycleNs (s : State) (off : Nat) : Nat := nowNs s off / 5 * 5
/-- The function of a port (R99). -/
def fpFun (s : State) (n : Nat) : Nat := rdN s (fpObj n) 1
/-- DO, PWM, ZXO, LIGHT_PWM take a value; CMPO drives too. -/
def isValueOut (f : Nat) : Bool := f == 5 || f == 6 || f == 7 || f == 10
def isOut (f : Nat) : Bool := isValueOut f || f == 9
/-- A free bit, and the state after using it. -/
def freeBit (s : State) : State × Bool := ({ s with freeCount := s.freeCount + 1 }, Config.freeBit s.freeCount)

-- Writers (R34) ---------------------------------------------------------------------------------------------------

/-- Enabled loops, in ascending order (0x3400+n:01). -/
def enabledLoops (s : State) : List Nat :=
  (s.dict.filter fun p => p.1 % 256 == 1 && within (p.1 / 256) 0x3400 0x37FF && leNat p.2 != 0).map fun p => p.1 / 256 - 0x3400

/-- Enabled zones, in ascending order (0x3C00+z:01). -/
def enabledZones (s : State) : List Nat :=
  (s.dict.filter fun p => p.1 % 256 == 1 && within (p.1 / 256) 0x3C00 0x3C3F && leNat p.2 != 0).map fun p => p.1 / 256 - 0x3C00

/-- Output references in use: those of the enabled loops and of the enabled zones' channels, and the set-points that enabled
zones supply to the loops bound in slots 0 to 4 (R197). -/
def outputRefs (s : State) : List Nat :=
  (enabledLoops s).map (fun n => rdN s (0x3400 + n) 9) ++
  (enabledZones s).flatMap (fun z =>
    ((List.range 8).map fun c => rdN s (0x3C00 + z) (0x18 + c)) ++
    (((List.range 5).map fun c => rdN s (0x3C00 + z) (0x10 + c)).filter (· ≤ 1023)).map (· + 0x3000))

/-- Destination (class, index) has a writer. -/
def hasWriter (s : State) (cls idx : Nat) : Bool := (outputRefs s).contains (cls * 4096 + idx)

-- What the pin does -----------------------------------------------------------------------------------------------

/-- The device is in a state that leaves every paralleled output high-Z: reset or start-up before the configuration is
loaded, roles 1 to 3, SLEEP and SHIP (R100, R102, R337). The two are in force once the regulators are off: while they are being
entered the safe states hold (R400 step 1). DEDUCED, unsafe: log entry 226. -/
def outputsOff (s : State) : Bool := s.inReset || !s.cfgLoaded || within (rdN s 0x2500 0x81) 1 3 || s.pw.off

/-- A safe-state condition of R102 holds, or SLEEP or SHIP is being entered (R400). -/
def safeCond (s : State) : Bool :=
  !operational s || !holdsEnsign s || s.pfw || rdN s 0x2100 0x80 ≥ 3 || rdN s 0x2200 0x95 == 3 || rdN s 0x2600 0x82 == 1 || s.portEcc

/-- The ensign pin gates the outputs off (R100 line 2; ignored on the ZH6432, R6). -/
def ensignGated (s : State) : Bool := !s.ensignIn && !s.zh6432

/-- The PWM counter within the running cycle at time `t` (ns). DEDUCED, unsafe: log entry 46. -/
def pwmCount (p : Port) (t : Nat) : Nat := (((t / 5 : Nat) : Int) - p.pwmStart).toNat

/-- The level the function output drives at time `t`: the active level, inverted if 03 = 1 (R110 to R117). -/
def functionLevel (s : State) (n t : Nat) : Bool :=
  let p := port s n
  let a := match fpFun s n with
    | 5 => F32.ge p.duty 0x3F000000#32
    | 6 => decide (pwmCount p t < p.pwmH) || p.pwmC ≤ p.pwmH && 0 < p.pwmC
    | 10 => decide (pwmCount p t < p.pwmH) || p.pwmC ≤ p.pwmH && 0 < p.pwmC
    | 7 => p.zxOn && !p.zxLost
    | 9 => (pos s (rdN s (fpObj n) 5)).pulseEnd.isSome
    | _ => false
  a != rdF s (fpObj n) 3

/-- The level that HOLD keeps: a CMPO drives its inactive level, also one that has fired nothing yet (R101; DESIGN CHOICE,
unsafe: log entry 226). -/
def holdLevel (s : State) (n t : Nat) : Option Bool :=
  if fpFun s n == 9 then some (rdF s (fpObj n) 3)
  else if (port s n).applied then some (functionLevel s n t) else none

/-- The device is a member of a duplex pair (R334). -/
def inPair (s : State) : Bool := !s.zh6432 && rdN s 0x2500 1 == 1

/-- The device is a witness in service (R358). -/
def witness (s : State) : Bool := !s.zh6432 && rdN s 0x2500 1 == 2 && s.cfgLoaded && !s.inReset

/-- What a witness drives at FP0 to FP6: the ENSIGN levels, KILL_n low to kill, the latch enable (R358). DEDUCED, unsafe: log
entry 145. -/
def witnessPin (s : State) (n : Nat) : Option Bool :=
  match n with
  | 0 => some (bit s.dup.wit.ensign 0)
  | 1 => some (bit s.dup.wit.ensign 1)
  | 2 => some (!bit s.dup.wit.kill 0)
  | 3 => some (!bit s.dup.wit.kill 1)
  | 6 => some s.dup.wit.latch
  | _ => none

/-- What the boundary register drives at scanned ball `k` under EXTEST or CLAMP (R447, R491): none, high-Z. -/
def cellDrive (s : State) (k : Nat) : Option Bool :=
  if s.tap.ir == 5 || !bit s.tap.cells (3 * k) then none else some (bit s.tap.cells (3 * k + 1))

/-- Scanned balls of the units that the ZH6432 lacks: PC4A to PC7Z, PC4PA to PC7PZ, CAN3 and PSU_EN0 to PSU_EN2 (R488, R491). DEDUCED,
unsafe: log entry 237. -/
def fusedBall (k : Nat) : Bool := within k 76 87 || within k 100 111 || within k 118 119 || within k 128 130

/-- Scanned balls that are inputs only, whose control and output cells have no effect (R491). -/
def inputBall (k : Nat) : Bool :=
  within k 64 87 || (within k 112 119 && k % 2 == 1) || k == 120 || (within k 122 124) || k == 126 || within k 131 133

/-- Scanned balls of outputs that a pair drives in parallel (R338). -/
def pairedBall (k : Nat) : Bool := within k 0 63 || within k 88 111 || within k 128 130

/-- What scanned ball `k` drives while EXTEST, CLAMP or HIGHZ holds the device: the boundary register's level under EXTEST and
CLAMP, but on an input-only ball, a fused-off one, and a paralleled output that ENSIGN_IN gates (R17, R447, R491). -/
def scanDrive (s : State) (k : Nat) : Option Bool :=
  if !(s.tap.ir == 0 || s.tap.ir == 4) || inputBall k || (s.zh6432 && fusedBall k) || (pairedBall k && ensignGated s) then none
  else cellDrive s k

/-- What SAMPLE/PRELOAD captures: the cells of fused-off balls capture 0 (R491). -/
def scanCapture (s : State) (capture : Nat) : Nat :=
  if s.zh6432 then (List.range 402).foldl (fun v n => if fusedBall (n / 3) then setBit v n false else v) (capture % 2 ^ 402)
  else capture % 2 ^ 402

/-- The tick of a retry of a faulted port: every 10 s it drives its output for one tick (R103). -/
def retryTick (s : State) (p : Port) : Bool := s.now ≥ p.retryAt && (s.now - p.retryAt) % 100000 == 0

/-- The port is held in its safe state (R102). -/
def safeHeld (s : State) (n : Nat) : Bool := safeCond s || ((port s n).waiting && fpFun s n != 9)

/-- The level driven at the pin at time `t`, or none for high-Z (R100, R101; under a boundary-scan hold R447). DEDUCED, unsafe:
log entry 220. -/
def pinDrive (s : State) (n t : Nat) : Option Bool :=
  if s.tap.hold then (if ensignGated s || !(s.tap.ir == 0 || s.tap.ir == 4) then none else cellDrive s n)
  else if witness s && n ≤ 6 then witnessPin s n
  else if outputsOff s || ensignGated s || s.clkPosLost then none
  else if !isOut (fpFun s n) then none
  else if (port s n).faulted && !retryTick s (port s n) then none
  else if safeHeld s n then
    match rdN s (fpObj n) 2 with
    | 0 => some false
    | 1 => some true
    | 2 => holdLevel s n t
    | _ => none
  else some (functionLevel s n t)

/-- 0x3000+n:85. -/
def portState (s : State) (n : Nat) : Nat :=
  if witness s && n ≤ 6 then 0
  else if !isOut (fpFun s n) || outputsOff s then 0
  else if ensignGated s then 3
  else if (port s n).faulted then 4
  else if safeHeld s n then 2
  else if (port s n).zxLost && fpFun s n == 7 then 5
  else 1

-- Values and duties -----------------------------------------------------------------------------------------------

/-- The duty of a value (R109); none where the pair in use has high not above low. -/
def scaleDuty (s : State) (n : Nat) (v : Real32) : Option Real32 :=
  let lo := rdR s (fpObj n) 0x25
  let hi := rdR s (fpObj n) 0x26
  if F32.lt lo hi then some (F32.clamp (F32.div (F32.sub v lo) (F32.sub hi lo)) F32.zero F32.one) else none

/-- The shed cap of a class at the level in force (R116, R398); none without a class or at level 0. -/
def shedCap (s : State) (cls : Nat) : Option Real32 :=
  let l := rdN s 0x2100 0x85
  if cls == 0 || l == 0 then none else some (rdR s 0x2100 (0x30 + 4 * (l - 1) + (cls - 1)))

/-- The duty after the shed cap, and whether the cap lowers it. -/
def cappedDuty (s : State) (n : Nat) : Real32 × Bool :=
  let d := (port s n).duty
  match shedCap s (rdN s (fpObj n) 6) with
  | some c => if F32.lt c d then (c, true) else (d, false)
  | none => (d, false)

/-- The duty with a front light's ramp factor (R118). -/
def rampedDuty (s : State) (n : Nat) : Real32 :=
  if fpFun s n == 10 then F32.mul (cappedDuty s n).1 (rdR s (0x3300 + rdN s (fpObj n) 5) 0x8E) else (cappedDuty s n).1

/-- Counts of a PWM cycle (R111). -/
def pwmCycle (s : State) (n : Nat) : Nat :=
  let f := F32.toRat (rdR s (fpObj n) 0x22)
  if f ≤ 0 then 0 else (roundRat (200000000 / f)).toNat

/-- Active counts for duty `d` in a cycle of `c` (R111). -/
def pwmActive (d : Real32) (c : Nat) : Nat :=
  let q := F32.toRat d
  if c ≤ 65536 then (roundRat (q * (c : Rat))).toNat
  else (roundRat ((roundRat (q * 65536) : Rat) * (c : Rat) / 65536)).toNat

/-- Full cycles on per 50 (R115). -/
def burstK (d : Real32) : Nat := (roundRat (F32.toRat d * 50)).toNat

/-- The effective duty 0x3000+n:86, after quantisation and cap (R109). DEDUCED, unsafe: log entry 49. -/
def effectiveDuty (s : State) (n : Nat) : Real32 :=
  let p := port s n
  match fpFun s n with
  | 5 => if F32.ge p.duty 0x3F000000#32 then F32.one else F32.zero
  | 6 => let c := pwmCycle s n; if c == 0 then F32.zero else F32.ofFrac (pwmActive (rampedDuty s n) c) c
  | 10 => let c := pwmCycle s n; if c == 0 then F32.zero else F32.ofFrac (pwmActive (rampedDuty s n) c) c
  | 7 =>
    if rdN s (fpObj n) 7 == 1 then F32.ofFrac (burstK (cappedDuty s n).1) 50
    else if F32.ge (cappedDuty s n).1 0x3F000000#32 then F32.one else F32.zero
  | _ => F32.zero

/-- A duty reaches a running PWM cycle (R112): mode 0 waits for the next cycle; in mode 1 an active pulse is cut or lengthened at
once, by the count that the duty has in the running cycle, and an inactive level stays until the cycle ends. -/
def pwmTake (s : State) (n t : Nat) (d : Real32) : State :=
  let p := port s n
  let p := { p with pwmDuty := d }
  if rdN s (fpObj n) 0x24 == 1 && pwmCount p t < p.pwmH then
    setPort s n { p with pwmH := Nat.max (pwmActive d p.pwmC) (Nat.min p.pwmH (pwmCount p t)) }
  else setPort s n p

/-- Value `v` becomes due at a port (R109): an invalid value, or a pair without duty, leaves the applied duty, and under a safe-state
condition nothing is applied (R101, R102; DEDUCED, log entry 43). 0x3000+n:80 reads the value in use, which the port keeps when a
commit takes its writer away (R53); DEDUCED, log entry 21. -/
def portApply (s : State) (n : Nat) (v : Real32) (valid : Bool) : State :=
  if !valid || !isValueOut (fpFun s n) then s else
  let s := wrR s (fpObj n) 0x80 v
  if safeCond s then s else
  match scaleDuty s n v with
  | some d =>
    let t := setPort s n { port s n with duty := d, applied := true, waiting := false }
    if fpFun s n == 5 && pinDrive s n (nowNs s 0) != pinDrive t n (nowNs s 0) then setPort t n { port t n with edgeAt := nowNs s 0 } else t
  | none => s

/-- Each tick: the safe state's end for ports without a writer, the shed cap and the quantised duty (R102, R109, R116). A PWM in
its safe state keeps its duty and frequency (R101). DEDUCED, unsafe: log entry 42. DEDUCED, unsafe: log entry 43. -/
def portTick (s : State) (n : Nat) : State :=
  let f := fpFun s n
  if !isOut f then s else
  let s := if safeCond s then setPort s n { port s n with waiting := true } else s
  let s := if isValueOut f && !safeCond s && !hasWriter s 1 n then portApply s n (rdR s (fpObj n) 0x80) true else s
  if (f == 6 || f == 10) && (port s n).waiting && (port s n).applied then s else
  let s := if f == 6 || f == 10 then pwmTake s n (nowNs s 0) (rampedDuty s n) else s
  let s := if f == 7 then
      let p := port s n
      let want := F32.le (0x3F000000 : Real32) (cappedDuty s n).1
      setPort s n { p with zxK := burstK (cappedDuty s n).1,
                           zxDue := if rdN s (fpObj n) 7 == 1 || want == p.zxOn then none else some (p.zxDue.getD (nowNs s 0)) }
    else s
  let s := if f == 6 || f == 7 || f == 10 then wrBit s (fpObj n) 0x87 3 (cappedDuty s n).2 else s
  wrR s (fpObj n) 0x86 (effectiveDuty s n)

/-- A PWM cycle starts (R111, R112): the new cycle takes up the duty and frequency due; in the safe state it keeps its own (R101). -/
def pwmCycleStart (s : State) (n off : Nat) : State :=
  let p := port s n
  if (fpFun s n == 6 || fpFun s n == 10) && p.pwmC > 0 && p.pwmC ≤ pwmCount p (nowNs s off) then
    let c := if safeCond s || p.waiting then p.pwmC else pwmCycle s n
    let p' := { p with pwmStart := p.pwmStart + p.pwmC, pwmC := c, pwmH := pwmActive p.pwmDuty c }
    -- H = 0 and H = C give no edge
    setPort s n { p' with edgeAt := if (p.pwmC ≤ p.pwmH) == decide (0 < p'.pwmH) then p.edgeAt else nowNs s off }
  else s

/-- A commit gives a port its function (R99, R101, R103, R106, R108, R111, R115): counters, measurement, last output and fault
start afresh, and with them 0x3000+n:81, 83 and 85 to 87; a PWM cycle starts at the commit tick, offset by round(φ C) counts. DEDUCED, unsafe: log entry 42. DEDUCED,
unsafe: log entry 46. -/
def portFunctionSet (s : State) (n : Nat) : State :=
  let old := port s n
  let c := pwmCycle s n
  let o := (roundRat (F32.toRat (rdR s (fpObj n) 0x23) * (c : Rat))).toNat
  let start := ((nowNs s 0 / 5 + o : Nat) : Int) - (if o == 0 then 0 else c)
  let s := setPort s n { lvl := old.lvl, deb := old.lvl, pwmC := c, pwmStart := start, preset := old.preset }
  let s := wrN s (fpObj n) 0x81 0
  let s := wrR (wrR (wrN s (fpObj n) 0x87 0) (fpObj n) 0x83 F32.zero) (fpObj n) 0x86 F32.zero
  let s := wrN s (fpObj n) 0x85 (portState s n)
  condEnd (condEnd s 16 n (0x0A500000 + n)) 17 n (0x0A500000 + n)

-- Inputs ----------------------------------------------------------------------------------------------------------

/-- The level of a port after inversion. DEDUCED, unsafe: log entry 45. -/
def logical (s : State) (n : Nat) (b : Bool) : Bool := b != rdF s (fpObj n) 3

/-- A filtered edge reaches a port's function (R105 to R108): `t` is its time in ns. DEDUCED, unsafe: log entry 44. DEDUCED,
unsafe: log entry 45. -/
def portEdge (s : State) (n : Nat) (level : Bool) (t : Nat) : State :=
  let p := port s n
  if p.lvl == level then s else
  let p := { p with lvl := level }
  let rising := logical s n level
  match fpFun s n with
  | 2 =>
    if rdN s (fpObj n) 0x21 == 0 then setPort s n { p with deb := level, debSince := none }
    else setPort s n { p with debSince := if level == p.deb then none else some t }
  | 3 =>
    let sel := rdN s (fpObj n) 8
    setPort s n (if sel == 2 || (sel == 0 && rising) || (sel == 1 && !rising) then { p with count := (p.count + 1) % 2 ^ 32 } else p)
  | 4 =>
    if rising then
      wrBit (setPort s n { p with count := (p.count + 1) % 2 ^ 32, stretched := true,
                                  stretchEnd := t + rdN s (fpObj n) 0x28 * 1000000000 }) (fpObj n) 0x87 1 true
    else setPort s n p
  | 8 =>
    setPort s n (if rising then { p with edgeCount := p.edgeCount + 1, stamps := (t :: p.stamps).take 65 } else p)
  | _ => setPort s n p

/-- An edge: the glitch filter's time after it, at `off`, the pin has held the new level for `held` CLK_POS cycles or will. A
pulse shorter than the filter is dropped; one below 250 ns that the filter would pass is passed or dropped, which of the two is
undefined (R105). DEDUCED, unsafe: log entry 44. -/
def fieldPortEdge (s : State) (n : Nat) (level : Bool) (held off : Nat) : State :=
  if fpFun s n ≤ 1 || held < rdN s (fpObj n) 0x20 then s
  else if held < 50 then
    let (s, b) := freeBit s
    if b then portEdge s n level (cycleNs s off) else s
  else portEdge s n level (cycleNs s off)

/-- The debounce time has run out (R105). -/
def debounceExpired (s : State) (n off : Nat) : State :=
  let p := port s n
  match p.debSince with
  | some t =>
    if fpFun s n == 2 && nowNs s off ≥ t + rdN s (fpObj n) 0x21 * 1000000 then setPort s n { p with deb := p.lvl, debSince := none } else s
  | none => s

/-- The stretch timer has run out (R107). -/
def stretchExpired (s : State) (n off : Nat) : State :=
  let p := port s n
  if fpFun s n == 4 && p.stretched && nowNs s off ≥ p.stretchEnd then
    wrBit (setPort s n { p with stretched := false }) (fpObj n) 0x87 1 false
  else s

/-- FREQ at a tick (R108): the mean period in ns of the newest periods, or none while stopped. -/
def freqPeriod (s : State) (n t : Nat) : Option Rat :=
  let p := port s n
  match p.stamps with
  | [] => none
  | last :: _ =>
    if p.edgeCount < 2 || t - last > rdN s (fpObj n) 0x2A * 1000000 then none else
    let w := Nat.min (rdN s (fpObj n) 0x29) (p.edgeCount - 1)
    let m := mkRat ((last - p.stamps.getD w last : Nat) : Int) w
    let gap : Rat := ((t - last : Nat) : Rat)
    some (if m < gap then gap else m)

/-- What class 2 delivers for the period (R99, R104), with its validity; `pins` are the levels that the input buffers read.
DEDUCED, unsafe: log entry 17. DEDUCED, unsafe: log entry 49. -/
def portValue (s : State) (pins n : Nat) : Real32 × Bool :=
  let p := port s n
  let b (x : Bool) : Real32 := if x then F32.one else F32.zero
  match fpFun s n with
  | 2 => (b (logical s n p.deb), true)
  | 3 => (F32.ofNat (p.count % 2 ^ 24), true)
  | 4 => (b p.stretched, true)
  | 5 => (effectiveDuty s n, true)
  | 6 => (rdR s (fpObj n) 0x86, true)
  | 7 => (rdR s (fpObj n) 0x86, true)
  | 8 =>
    match freqPeriod s n (nowNs s 0) with
    | some q => if q ≤ 0 then (F32.zero, true) else (F32.ofRat (1000000000 / q * F32.toRat (rdR s (fpObj n) 0x2B)), true)
    | none => (F32.zero, true)
  | 9 => (b (bit pins n), true)
  | 10 => (rdR s (fpObj n) 0x86, true)
  | _ => (p.value, false)

/-- Latch port `n` at the tick (R20 step 3, R104): the counter with its preset, the value, the pin and the status. At the first
tick after the input buffer came on (R99) both filters take the pin's level; DESIGN CHOICE, log entry 20. -/
def portLatch (s : State) (pins n : Nat) : State :=
  let f := fpFun s n
  if f == 0 && (Tab.find s.ports n).isNone then s else
  let p := port s n
  let due := p.preset.filter fun q => q.1 ≤ s.now
  let p := match due.getLast? with
    | some (_, v) => { p with count := v, preset := p.preset.filter fun q => s.now < q.1 }
    | none => p
  let p := if f ≥ 2 && !p.sync then { p with lvl := bit pins n, deb := bit pins n, debSince := none, sync := true } else p
  let s := setPort s n p
  let (v, ok) := portValue s pins n
  let s := setPort s n { port s n with value := v, valid := ok }
  let s := if ok then wrR s (fpObj n) 0x82 v else s
  let s := if f == 3 || f == 4 then wrN s (fpObj n) 0x81 p.count else s
  let s := if f == 8 then
      let q := freqPeriod s n (nowNs s 0)
      wrBit (wrR s (fpObj n) 0x83 (match q with | some q => F32.ofRat (q / 1000) | none => F32.zero)) (fpObj n) 0x87 0 q.isNone
    else s
  let s := if f ≥ 2 then wrF s (fpObj n) 0x84 (bit pins n) else s
  wrN s (fpObj n) 0x85 (portState s n)

/-- A port drove an edge within the 100 ns before time `t` (R103): the end of an active PWM pulse, or an edge stamped. A port
held LOW or HIGH drives none. DEDUCED, unsafe: log entry 47. -/
def edgeRecent (s : State) (n t : Nat) : Bool :=
  let p := port s n
  let c := pwmCount p t
  !(safeHeld s n && rdN s (fpObj n) 2 ≤ 1) &&
  (((fpFun s n == 6 || fpFun s n == 10) && 0 < p.pwmH && p.pwmH < p.pwmC && c ≥ p.pwmH && c - p.pwmH < 20) || t < p.edgeAt + 100)

/-- A port fault begins (R103). -/
def portFault (s : State) (n : Nat) : State :=
  let s := setPort s n { port s n with faulted := true, mismatch := 0, retryAt := s.now + 100000 }
  let s := wrBit (inc s (fpObj n) 0x88) (fpObj n) 0x87 4 true
  condStart s 16 n (0x0A500000 + n) 0xFF

/-- The readback check of port `n` at a tick (R103): three consecutive mismatches are a port fault. DEDUCED, unsafe: log entry
47. -/
def portReadback (s : State) (pins n : Nat) : State :=
  if (port s n).faulted then s else
  match pinDrive s n (nowNs s 0) with
  | some l =>
    if edgeRecent s n (nowNs s 0) then s
    else if l == bit pins n then (if (port s n).mismatch == 0 then s else setPort s n { port s n with mismatch := 0 })
    else if (port s n).mismatch ≥ 2 then portFault s n
    else setPort s n { port s n with mismatch := (port s n).mismatch + 1 }
  | none => if (port s n).mismatch == 0 then s else setPort s n { port s n with mismatch := 0 }

/-- The retry of a faulted port (R103): `agrees` says that the readback met the level driven for the one tick. DEDUCED, unsafe:
log entry 48. -/
def portRetry (s : State) (n : Nat) (agrees : Bool) : State :=
  let p := port s n
  if p.faulted && s.now ≥ p.retryAt then
    if agrees then
      condEnd (wrBit (setPort s n { p with faulted := false, mismatch := 0 }) (fpObj n) 0x87 4 false) 16 n (0x0A500000 + n)
    else setPort s n { p with retryAt := s.now + 100000 }
  else s

/-- A write to 0x3000+n:81 presets the counter at tick s + 1 (R106). -/
def countPreset (s : State) (n v off : Nat) : State :=
  setPort s n { port s n with preset := (port s n).preset ++ [(stamp s off + 1, v % 2 ^ 32)] }

end Sys2Proof.Machine
end

