-- ==== Sys2Proof/Machine/Position.lean ====
section
/-! DEFINITION. Position and speed channels: counting, index checking, speed, compare lists and SSI (R121 to R142). -/
namespace Sys2Proof.Machine
open Sys2Proof Sys2Proof.OD

def pcObj (c : Nat) : Nat := 0x3200 + c
def cmpObj (c : Nat) : Nat := 0x3210 + c
def pcMode (s : State) (c : Nat) : Nat := rdN s (pcObj c) 1
/-- `a − b` modulo 2^32 as a signed number. -/
def diff32 (a b : Nat) : Int := signed 4 ((a + 2 ^ 32 - b % 2 ^ 32) % 2 ^ 32)
/-- `a + i` modulo 2^32. -/
def add32 (a : Nat) (i : Int) : Nat := unsignedOf 4 ((a : Int) + i)
/-- The position block runs: not in STANDBY, SLEEP or SHIP, nor without CLK_POS (R140, R143). DEDUCED, unsafe: log entry 58. -/
def posRuns (s : State) : Bool := !outputsOff s && rdN s 0x2100 0x80 < 4 && !s.clkPosLost
/-- It counts, in RUN and DOZE (R143). -/
def posCounts (s : State) : Bool := posRuns s && rdN s 0x2100 0x80 ≤ 1

-- Compare lists (R137 to R139) ------------------------------------------------------------------------------------

/-- The port that serves the channel's compare output (R117). -/
def cmpPort (s : State) (c : Nat) : Option Nat := (List.range 64).find? fun n => fpFun s n == 9 && rdN s (fpObj n) 5 == c

/-- The compared position of entry `k`, or none when disarmed. -/
def armedAt (s : State) (c : Nat) : Option Nat :=
  let k := rdN s (cmpObj c) 0x80
  if k < rdN s (cmpObj c) 1 then some ((rdN s (cmpObj c) (0x40 + k) + rdN s (cmpObj c) 0x85) % 2 ^ 32) else none

/-- The list advances to its next entry; a cyclic list wraps and gains the pass increment. -/
def advanceList (s : State) (c : Nat) : State :=
  let k := rdN s (cmpObj c) 0x80
  if k + 1 < rdN s (cmpObj c) 1 then wrN s (cmpObj c) 0x80 (k + 1)
  else if rdN s (cmpObj c) 3 == 1 then
    wrN (wrN s (cmpObj c) 0x80 0) (cmpObj c) 0x85 ((rdN s (cmpObj c) 0x85 + rdN s (cmpObj c) 0x21) % 2 ^ 32)
  else wrN s (cmpObj c) 0x80 64

/-- A pulse fires at time `t` (R138): it starts, or restarts the width timer of one that is active. -/
def firePulse (s : State) (c t : Nat) : State :=
  let p := pos s c
  let s := inc s (cmpObj c) 0x81
  let s := if p.pulseEnd.isSome then inc s (cmpObj c) 0x82 else s
  let s := setPos s c { p with pulseEnd := some (t + rdN s (cmpObj c) 0x20 * 10) }
  match cmpPort s c with
  | some n => setPort s n { port s n with edgeAt := t }
  | none => s

/-- The jump from `c0` to `c1` crosses `p` in the configured direction. DEDUCED, unsafe: log entry 50. -/
def crosses (dir c0 c1 p : Nat) : Bool :=
  let d := diff32 c1 c0
  let e := diff32 p c0
  (dir != 1 && decide (0 < e) && decide (e ≤ d)) || (dir != 0 && decide (d < e) && decide (e ≤ 0))

/-- Pass every following entry that the same jump crosses (R139). DEDUCED, unsafe: log entry 51. -/
def passEntries (c c0 c1 : Nat) : Nat → State → State
  | 0, s => s
  | fuel + 1, s =>
    match armedAt s c with
    | some p =>
      if crosses (rdN s (cmpObj c) 2) c0 c1 p then passEntries c c0 c1 fuel (inc (advanceList s c) (cmpObj c) 0x83) else s
    | none => s

/-- The count moves from `c0` to `c1` at time `t`: fire and advance (R138, R139). A cyclic list without a pass increment is
passed once at most; another ends after 64 entries at each of 2^32 offsets. DEDUCED, unsafe: log entry 51. -/
def compareMove (s : State) (c c0 c1 t : Nat) : State :=
  match armedAt s c with
  | some p =>
    if crosses (rdN s (cmpObj c) 2) c0 c1 p then
      let s := advanceList (firePulse s c t) c
      passEntries c c0 c1 (if rdN s (cmpObj c) 0x21 == 0 then rdN s (cmpObj c) 1 - 1 else 64 * 2 ^ 32) s
    else s
  | none => s

/-- The pulse width has run out. -/
def pulseEnd (s : State) (c off : Nat) : State :=
  match (pos s c).pulseEnd with
  | some e =>
    if nowNs s off ≥ e then
      let s := setPos s c { pos s c with pulseEnd := none }
      match cmpPort s c with
      | some n => setPort s n { port s n with edgeAt := e }
      | none => s
    else s
  | none => s

/-- The list is armed at entry 0 with offset 0, or disarmed (R137). -/
def armList (s : State) (c : Nat) (on : Bool) : State :=
  wrN (wrN s (cmpObj c) 0x80 (if on && rdN s (cmpObj c) 1 > 0 then 0 else 64)) (cmpObj c) 0x85 0

-- Counting (R121 to R125) -----------------------------------------------------------------------------------------

/-- A signal fault (R123, R125, R127). -/
def signalFault (s : State) (c : Nat) : State :=
  event (inc (setPos s c { pos s c with sigFault := true }) (pcObj c) 0x88) 18 (0x0A600000 + c)

/-- A counted edge at time `t`: the count, the compare list and the speed history (R132 to R135). DEDUCED, unsafe: log entry 50.
-/
def countEdge (s : State) (c : Nat) (down : Bool) (t : Nat) : State :=
  let p := pos s c
  let c1 := add32 p.count (if down then -1 else 1)
  let fresh := p.stamps.isEmpty
  let rev := !fresh && down != p.down
  let p' := { p with count := c1, down := down, stopped := false,
                     stamps := if fresh || rev then [t] else (t :: p.stamps).take 65,
                     edges := if fresh || rev then 1 else p.edges + 1,
                     starting := fresh, reversal := rev }
  let s := setPos s c p'
  -- crossing upward is from p - 1 to p, downward from p to p - 1 (R138)
  match armedAt s c with
  | some q =>
    let dir := rdN s (cmpObj c) 2
    if (!down && dir != 1 && c1 == q) || (down && dir != 0 && p.count == q) then advanceList (firePulse s c t) c else s
  | none => s

/-- An illegal transition also restarts the speed history, without STOPPED (R123, R134). DEDUCED, unsafe: log entry 54. -/
def illegal (s : State) (c : Nat) : State :=
  signalFault (setPos s c { pos s c with stamps := [], edges := 0, stopped := false, starting := false, reversal := false }) c

/-- A counted edge may be reversed by 0x3200+c:02. -/
def dirOf (s : State) (c : Nat) (down : Bool) : Bool := down != rdF s (pcObj c) 2

/-- Quadrature (R121, R123): `a b` are the levels after the edge. -/
def quadEdge (s : State) (c : Nat) (a b : Bool) (t : Nat) : State :=
  let p := pos s c
  if a != p.a && b != p.b then illegal (setPos s c { p with a := a, b := b }) c
  else if a == p.a && b == p.b then s
  else
    let s := setPos s c { p with a := a, b := b }
    let aEdge := a != p.a
    -- A leads B: after an A edge, up when A differs from B; after a B edge, up when A equals B
    let down := if aEdge then a == b else a != b
    let counted := match pcMode s c with
      | 1 => aEdge && !b
      | 2 => aEdge
      | _ => true
    if counted then countEdge s c (dirOf s c down) t else s

/-- The place of a Hall state U V W in the forward sequence (R125). -/
def hallPlace (u v w : Bool) : Option Nat :=
  match u, v, w with
  | true, false, false => some 0
  | true, true, false => some 1
  | false, true, false => some 2
  | false, true, true => some 3
  | false, false, true => some 4
  | true, false, true => some 5
  | _, _, _ => none

/-- Hall steps (R125). DEDUCED, unsafe: log entry 54. -/
def hallEdge (s : State) (c : Nat) (u v w : Bool) (t : Nat) : State :=
  let p := pos s c
  if u == p.a && v == p.b && w == p.z then s else
  let s := setPos s c { p with a := u, b := v, z := w }
  match hallPlace p.a p.b p.z, hallPlace u v w with
  | some i, some j =>
    if j == (i + 1) % 6 then countEdge s c (dirOf s c false) t
    else if i == (j + 1) % 6 then countEdge s c (dirOf s c true) t
    else illegal s c
  | _, _ => illegal s c

/-- Pulse and direction (R124): `stable` says that B was held long enough around the edge; else the direction of the step is
undefined, a free bit. DEDUCED, safe: log entry 55. -/
def pulseEdge (s : State) (c : Nat) (a b stable : Bool) (t : Nat) : State :=
  let p := pos s c
  let s := setPos s c { p with a := a, b := b }
  if a && !p.a then
    if stable then countEdge s c (dirOf s c (!b)) t
    else
      let (s, f) := freeBit s
      countEdge s c f t
  else s

/-- A filtered edge of A, B or a Hall input (R121, R122): `held` cycles the new level lasts. A channel that does not count, in
mode 0 or while the block stands, still follows the levels, and starts from them (R140; DEDUCED, unsafe: log entry 227). DEDUCED,
unsafe: log entry 57. -/
def encoderEdge (s : State) (c : Nat) (a b z stable : Bool) (held off : Nat) : State :=
  if held < rdN s (pcObj c) 0x20 then s else
  let follow := setPos s c { pos s c with a := a, b := b, z := if pcMode s c == 5 || pcMode s c == 0 then z else (pos s c).z }
  if !posCounts s then follow else
  match pcMode s c with
  | 1 => quadEdge s c a b (cycleNs s off)
  | 2 => quadEdge s c a b (cycleNs s off)
  | 3 => quadEdge s c a b (cycleNs s off)
  | 4 => pulseEdge s c a b stable (cycleNs s off)
  | 5 => hallEdge s c a b z (cycleNs s off)
  | _ => follow

-- Index (R130, R131) ----------------------------------------------------------------------------------------------

/-- An index event at the current count. -/
def indexEvent (s : State) (c t : Nat) : State :=
  let p := { pos s c with indexCount := (pos s c).indexCount + 1 }
  if !p.referenced then
    let cnt := if rdN s (pcObj c) 5 == 1 then rdN s (pcObj c) 0x23 else p.count
    setPos s c { p with count := cnt, idxRef := cnt, referenced := true }
  else
    let cpr := rdN s (pcObj c) 0x21
    let m := (diff32 p.count p.idxRef % (cpr : Int)).toNat
    let e : Int := if m > cpr / 2 then (m : Int) - cpr else m
    if e.natAbs ≤ rdN s (pcObj c) 0x22 then
      if e == 0 then setPos s c { p with idxRef := p.count }
      else
        let c1 := add32 p.count (-e)
        let s := inc (setPos s c { p with count := c1, idxRef := c1, corrected := true }) (pcObj c) 0x86
        compareMove s c p.count c1 t
    else
      let s := inc (wrN (setPos s c { p with mismatch := true }) (pcObj c) 0x85 p.count) (pcObj c) 0x87
      condStart s 19 c (0x0A604000 + c) 0xFF

/-- An edge of Z to `level` (R130): an index event where it is the active level, index checking is on and the mode is 1 to 4.
`held` cycles the new level lasts (R122). DEDUCED, unsafe: log entry 57. -/
def indexEdge (s : State) (c : Nat) (level : Bool) (held off : Nat) : State :=
  let p := pos s c
  if p.z == level || held < rdN s (pcObj c) 0x20 || pcMode s c == 5 then s else
  let s := setPos s c { p with z := level }
  if posCounts s && within (pcMode s c) 1 4 && rdF s (pcObj c) 3 && level == (rdN s (pcObj c) 4 == 0) then
    indexEvent s c (cycleNs s off)
  else s

-- SSI (R126, R127) ------------------------------------------------------------------------------------------------

/-- Half periods of the SSI clock in CLK_POS cycles: round(100 MHz / f_set). -/
def ssiHalf (s : State) (c : Nat) : Nat :=
  let f := rdN s (pcObj c) 0x0A
  if f == 0 then 0 else (roundRat (mkRat 100000000 f)).toNat

/-- The Gray code `g` of `w` bits as a number. -/
def grayDecode (g : Nat) : Nat → Nat
  | 0 => g
  | k + 1 => grayDecode g k ^^^ (g >>> (k + 1))

/-- Length of a frame from its start in ns (R126): the clock falls after half a period, and `b + 1` rising edges sample A, the
last of them delayed by 0x3200+c:0C cycles. -/
def ssiLength (s : State) (c : Nat) : Nat := 10 * ssiHalf s c * (rdN s (pcObj c) 8 + 1) + 5 * rdN s (pcObj c) 0x0C

/-- The SSI clock at time `t`: idle high; within a frame low in every second half period, until the last rising edge. -/
def ssiClock (s : State) (c t : Nat) : Bool :=
  let p := pos s c
  let k := if ssiHalf s c == 0 then 0 else (t - p.frameAt) / (5 * ssiHalf s c)
  !(p.frameBusy && k % 2 == 1 && k ≤ 2 * rdN s (pcObj c) 8 + 1)

/-- A frame starts at the tick (R126). -/
def ssiStart (s : State) (c : Nat) : State :=
  let p := pos s c
  if pcMode s c == 6 && !p.frameBusy && nowNs s 0 ≥ p.frameFree then
    setPos s c { p with frameBusy := true, frameAt := nowNs s 0 }
  else s

/-- A frame is complete: `v` its bits, `startHigh` and `endLow` the level of A at its start and after the last bit. -/
def ssiComplete (s : State) (c v : Nat) (startHigh endLow : Bool) (off : Nat) : State :=
  let p := pos s c
  if pcMode s c != 6 || !p.frameBusy || nowNs s off < p.frameAt + ssiLength s c then s else
  let t := nowNs s off
  let b := rdN s (pcObj c) 8
  let p := { p with frameBusy := false, frameFree := t + rdN s (pcObj c) 0x0B * 1000 }
  if !startHigh || !endLow then
    signalFault (setPos s c { p with ssiErrors := p.ssiErrors + 1 }) c
  else
    let v := v % 2 ^ b
    let v := if rdN s (pcObj c) 9 == 1 then grayDecode v b else v
    match p.vPrev with
    | none => setPos s c { p with count := v, vPrev := some v, ssiErrors := 0, frames := [v],
                                  changedAt := if v == p.count then p.changedAt else some t }
    | some w =>
      let m := (v + 2 ^ b - w % 2 ^ b) % 2 ^ b
      let d : Int := if m ≥ 2 ^ (b - 1) then (m : Int) - 2 ^ b else m
      let c1 := add32 p.count d
      let p' := { p with count := c1, vPrev := some v, ssiErrors := 0, frames := (c1 :: p.frames).take 65,
                         down := if d == 0 then p.down else decide (d < 0), changedAt := if d == 0 then p.changedAt else some t }
      let s := setPos s c p'
      if d == 0 then s else compareMove s c p.count c1 t

-- Speed and the latch (R128, R132 to R136, R141, R142) ------------------------------------------------------------

/-- Speed of an incremental channel at time `t`: (value, decaying). DEDUCED, unsafe: log entry 56. -/
def edgeSpeed (s : State) (c t : Nat) : Real32 × Bool :=
  let p := pos s c
  let sg (q : Rat) : Real32 := F32.ofRat (if p.down then -q else q)
  match p.stamps with
  | [] => (F32.zero, false)
  | last :: _ =>
    if p.edges ≤ 1 then (F32.zeroOf p.down, false) else
    let w := Nat.min (rdN s (pcObj c) 0x24) (p.edges - 1)
    let m := mkRat ((last - p.stamps.getD w last : Nat) : Int) w
    let gap : Rat := ((t - last : Nat) : Rat)
    if m < gap then (sg (1000000000 / gap), true)
    else if m ≤ 0 then (F32.zeroOf p.down, false)
    else (sg (1000000000 / m), false)

/-- Speed of an SSI channel (R136). DEDUCED, unsafe: log entry 56. -/
def ssiSpeed (s : State) (c : Nat) : Real32 :=
  let p := pos s c
  let w := Nat.min (rdN s (pcObj c) 0x24) (p.frames.length - 1)
  if w == 0 then F32.zero else
  match p.frames with
  | [] => F32.zero
  | k :: _ => F32.ofRat (mkRat (diff32 k (p.frames.getD w k) * 10000) w)

/-- Position and speed are delivered invalid (R127, R131). DEDUCED, unsafe: log entry 52. -/
def posInvalid (s : State) (c : Nat) : Bool :=
  let p := pos s c
  let pol := rdN s (pcObj c) 6
  (pcMode s c == 6 && (p.ssiErrors ≥ 3 || p.vPrev.isNone)) || (pol ≥ 1 && p.mismatch) || (pol == 2 && !p.referenced)

/-- Commands due at this tick: preset before the latch, re-reference, arm and disarm (R129, R131, R137). -/
def posDue (s : State) (c : Nat) : State :=
  let p := pos s c
  let p' := { p with preset := p.preset.filter fun q => s.now < q.1, reRef := p.reRef.filter fun d => s.now < d,
                     arm := p.arm.filter fun q => s.now < q.1 }
  if p' == p then s else
  let s := setPos s c p'
  let s := foldS s (p.preset.filter fun q => q.1 ≤ s.now) fun s q =>
    setPos s c { pos s c with count := q.2, idxRef := add32 (pos s c).idxRef (diff32 q.2 (pos s c).count) }
  let s := foldS s (p.reRef.filter fun d => d ≤ s.now) fun s _ =>
    condEnd (setPos s c { pos s c with referenced := false, mismatch := false }) 19 c (0x0A604000 + c)
  foldS s (p.arm.filter fun q => q.1 ≤ s.now) fun s q => armList s c (q.2 == 1)

/-- The standstill timeout (R133). -/
def standstill (s : State) (c off : Nat) : State :=
  let p := pos s c
  match p.stamps with
  | last :: _ =>
    if within (pcMode s c) 1 5 && nowNs s off ≥ last + rdN s (pcObj c) 0x25 * 1000000 then
      setPos s c { p with stamps := [], edges := 0, stopped := true, starting := false, reversal := false }
    else s
  | [] => s

/-- The latch of channel `c` at the tick: count, speed, index count and status in one entry (R128), after the standstill timeout
if it has been reached (R133). -/
def posLatch (s : State) (c : Nat) : State :=
  let s := standstill (posDue s c) c 0
  let t := nowNs s 0
  let p := pos s c
  let ssi := pcMode s c == 6
  let (v, decay) := if ssi then (ssiSpeed s c, false) else edgeSpeed s c t
  let stopped := if ssi then (match p.changedAt with | some u => t - u ≥ rdN s (pcObj c) 0x25 * 1000000 | none => true) else p.stopped
  let atSp := p.spValid &&
    decide ((diff32 (unsignedOf 4 (F32.toIntHalfAway (rdR s (pcObj c) 0x84))) p.count).natAbs ≤ rdN s (pcObj c) 0x26)
  let st := [p.down, stopped, !ssi && p.starting, !ssi && p.reversal, decay, p.referenced, p.mismatch, p.corrected, p.sigFault,
    posInvalid s c, atSp, p.spValid, (armedAt s c).isSome]
  let s := wrN s (pcObj c) 0x83 (((List.range 13).zip st).foldl (fun n q => setBit n q.1 q.2) 0)
  let s := wrN (wrR (wrN s (pcObj c) 0x80 p.count) (pcObj c) 0x81 v) (pcObj c) 0x82 (p.indexCount % 2 ^ 32)
  ssiStart (setPos s c { p with corrected := false, sigFault := false }) c

/-- Class 3 quantity `q` of channel `c`, with its validity (R128). -/
def posQuantity (s : State) (c q : Nat) : Real32 × Bool :=
  let ok := pcMode s c != 0
  match q with
  | 0 => (F32.ofInt (rdN s (pcObj c) 0x80 |> signed 4), ok && !rdBit s (pcObj c) 0x83 9)
  | 1 => (rdR s (pcObj c) 0x81, ok && !rdBit s (pcObj c) 0x83 9)
  | 2 => (F32.ofNat (rdN s (pcObj c) 0x82 % 2 ^ 24), ok)
  | _ => (F32.ofNat (rdN s (pcObj c) 0x83), ok)

/-- A commit changes the mode or the direction: the channel restarts (R144). INDEX_MISMATCH stays until a re-reference command
(R130), and an SSI channel reads STOPPED until its count changes (R133, R136). DEDUCED, unsafe: log entry 53. -/
def posRestart (s : State) (c : Nat) : State :=
  let p := pos s c
  let s := setPos s c { p with count := 0, referenced := false, stamps := [], edges := 0, stopped := true, starting := false,
                               reversal := false, vPrev := none, frames := [], ssiErrors := 0, changedAt := none,
                               frameBusy := false }
  let s := wrN (wrR (wrN s (pcObj c) 0x80 0) (pcObj c) 0x81 F32.zero) (pcObj c) 0x83 (if p.mismatch then 0x42 else 2)
  armList s c true

/-- The block stops in STANDBY and does not keep its counts (R143). -/
def posStop (s : State) : State :=
  foldS s ((List.range 8).filter fun c => pcMode s c != 0) fun s c =>
    posRestart (setPos s c { pos s c with pulseEnd := none, preset := [], reRef := [], arm := [] }) c

/-- The set-point takes a value (R141). -/
def posSetPoint (s : State) (c : Nat) (v : Real32) (valid : Bool) : State :=
  if valid then wrR (setPos s c { pos s c with spValid := true }) (pcObj c) 0x84 v
  else setPos s c { pos s c with spValid := false }

/-- The pass-through outputs PA, PB, PZ at time `t`, none for high-Z (R140); in SSI mode PA carries the clock. Under a boundary-scan
hold they are scanned balls 88 + 3c to 90 + 3c (R447, R491). -/
def passThrough (s : State) (c t : Nat) : Option Bool × Option Bool × Option Bool :=
  let p := pos s c
  if s.tap.hold then (scanDrive s (88 + 3 * c), scanDrive s (89 + 3 * c), scanDrive s (90 + 3 * c))
  else if !posRuns s || ensignGated s then (none, none, none)
  else if pcMode s c == 6 then (some (ssiClock s c t), none, none)
  else if rdF s (pcObj c) 7 then (some p.a, some p.b, some p.z)
  else (none, none, none)

end Sys2Proof.Machine
end

