-- ==== Sys2Proof/Machine/Operands.lean ====
section
/-! DEFINITION. The operand forms of the configuration: 16-bit signal references and output references (R31 to R35), and
what each delivers or reaches. -/
namespace Sys2Proof.Machine
open Sys2Proof Sys2Proof.OD

/-- Class of a reference, bits [15:12]. -/
def refClass (r : Nat) : Nat := r / 4096 % 16
/-- Index of a reference, bits [11:0]. -/
def refIndex (r : Nat) : Nat := r % 4096

/-- A signal reference names a class and an index that exist (R31); else the write is refused. -/
def signalRefOk (r : Nat) : Bool :=
  let i := refIndex r
  match refClass r with
  | 0 => i == 0
  | 1 => i ≤ 95
  | 2 => i ≤ 63
  | 3 => i ≤ 31
  | 4 => i ≤ 1023
  | 5 => i ≤ 1023
  | 6 => i ≤ 1023
  | 7 => i ≤ 255
  | 8 => i ≤ 1023
  | 9 => i ≤ 63
  | 10 => i ≤ 255
  | 11 => i ≤ 4
  | 12 => i ≤ 3 || within i 8 11 || i == 16
  | _ => false

/-- An output reference names a class and an index that exist (R33). -/
def outputRefOk (r : Nat) : Bool :=
  let i := refIndex r
  match refClass r with
  | 0 => i == 0
  | 1 => i ≤ 63
  | 2 => i ≤ 7
  | 3 => i ≤ 1023
  | 4 => i ≤ 1023
  | 5 => i ≤ 511
  | _ => false

/-- A signal reference that names a unit fused off on the ZH6432 (R3). -/
def signalRefAbsent (r : Nat) : Bool :=
  let i := refIndex r
  match refClass r with
  | 3 => i / 4 ≥ 4
  | 4 => i ≥ 512
  | 5 => i ≥ 512
  | 6 => i / 16 ≥ 32
  | 7 => i / 4 ≥ 32
  | 9 => i ≥ 32
  | _ => false

/-- An output reference that names a unit fused off on the ZH6432 (R3). -/
def outputRefAbsent (r : Nat) : Bool :=
  let i := refIndex r
  match refClass r with
  | 2 => i ≥ 4
  | 3 => i ≥ 512
  | 5 => i / 8 ≥ 32
  | _ => false

def loopOf (s : State) (n : Nat) : Loop := Tab.get s.loops n {}
def setLoop (s : State) (n : Nat) (l : Loop) : State := { s with loops := Tab.put s.loops n l }
def zoneOf (s : State) (z : Nat) : Zone := Tab.get s.zones z {}
def setZone (s : State) (z : Nat) (x : Zone) : State := { s with zones := Tab.put s.zones z x }

/-- What a signal reference delivers for the period, with its validity (R31, R32). DEDUCED, unsafe: log entry 17. -/
def signal (s : State) (r : Nat) : Real32 × Bool :=
  let i := refIndex r
  let opt (x : Option Real32) : Real32 × Bool := match x with | some v => (v, true) | none => (F32.zero, false)
  match refClass r with
  | 0 => (F32.zero, true)
  | 1 => (rdR s (chObj i) 0x82, (chan s i).valid)
  | 2 => ((port s i).value, (port s i).valid)
  | 3 => posQuantity s (i / 4) (i % 4)
  | 4 => opt (loopOf s i).u
  | 5 => opt (loopOf s i).r
  | 6 => (rdR s (0x3C00 + i / 16) (0x87 + i % 16), bit (zoneOf s (i / 16)).qValid (i % 16))
  | 7 => (rdR s (0x3C40 + i / 4) (0x84 + i % 4), rdBit s (0x3C40 + i / 4) 0x8C (i % 4))
  | 8 => (rdR s (0x4000 + i) 0x82, s.remoteValid.contains i)
  | 9 => (Tab.get s.ttChan i F32.zero, true)
  | 10 => (Config.constant i, true)
  | 11 => (s.outside.getD i (F32.zero, false))
  | 12 =>
    if i == 16 then (F32.ofNat (rdN s 0x2100 0x85), true)
    else
      let f := i / 8
      let v := match i % 8 with
        | 2 => F32.ofNat (rdN s (0x2110 + f) 0x82)
        | 3 => rdR s (0x2110 + f) 0x83
        | q => rdR s (0x2110 + f) (0x80 + q)
      (v, s.mainsValid.contains i)
  | _ => (F32.zero, false)

end Sys2Proof.Machine
end

