-- ==== Sys2Proof/Machine/Loops.lean ====
section
/-! DEFINITION. The loop engine: the block's stages, inputs that fail, modes, start and restart, lanes, banks and swaps,
and the trace (R147 to R193). -/
namespace Sys2Proof.Machine
open Sys2Proof Sys2Proof.OD

def lpObj (n : Nat) : Nat := 0x3400 + n
/-- Base ticks per period of loop `n`. -/
def loopN (s : State) (n : Nat) : Nat := groupN (rdN s (lpObj n) 2)
/-- T of a number of ticks, as a REAL32 (R148). -/
def periodT (n : Nat) : Real32 := F32.ofFrac n 10000
/-- Tick `t` is a period boundary of loop `n` (R22). -/
def loopBoundary (s : State) (n t : Nat) : Bool := t % loopN s n == rdN s (lpObj n) 0x86 % loopN s n
def loopState (s : State) (n : Nat) : Nat := rdN s (lpObj n) 0x87
def activeBank (s : State) (n : Nat) : Nat := rdN s (lpObj n) 0x83
/-- Sub-index of word `w` of a bank (R176). -/
def bankSub (bank w : Nat) : Nat := (if bank == 0 then 0x20 else 0x40) + w
def bankR (s : State) (n bank w : Nat) : Real32 := rdR s (lpObj n) (bankSub bank w)
def bankMode (s : State) (n bank : Nat) : Nat := rdN s (lpObj n) (bankSub bank 12)
/-- Live-state word `w`. -/
def live (s : State) (n w : Nat) : Real32 := rdR s (lpObj n) (0x90 + w)
def setLive (s : State) (n w : Nat) (v : Real32) : State := wrR s (lpObj n) (0x90 + w) v

-- Notch (R150 to R154) --------------------------------------------------------------------------------------------

/-- Bank `bank`'s design is consistent for period `T` (R152). -/
def designOk (s : State) (n bank : Nat) : Bool :=
  let f := F32.toRat (bankR s n bank 13)
  let b := F32.toRat (bankR s n bank 14)
  decide (f * ((loopN s n : Nat) : Rat) < 4500) && decide (f ≤ b * 100) && decide (b ≤ 10 * f)

/-- The five coefficients of a mode 1 design (R151). -/
def design (s : State) (n bank : Nat) : List Real32 :=
  let f0 := bankR s n bank 13
  let t := periodT (loopN s n)
  let w := Analytic.tanF (F32.mul (F32.mul 0x40490FDB#32 f0) t)
  let q := F32.div f0 (bankR s n bank 14)
  let g := Analytic.pow10F (F32.div (F32.neg (bankR s n bank 15)) (F32.ofNat 20))
  let ww := F32.mul w w
  let wq := F32.div w q
  let gwq := F32.div (F32.mul g w) q
  let a0 := F32.add (F32.add F32.one wq) ww
  let b1 := F32.div (F32.mul (F32.ofNat 2) (F32.sub ww F32.one)) a0
  [F32.div (F32.add (F32.add F32.one gwq) ww) a0, b1, F32.div (F32.add (F32.sub F32.one gwq) ww) a0, b1,
   F32.div (F32.add (F32.sub F32.one wq) ww) a0]

/-- Recompute a bank in mode 1 (R152): an inconsistent design reads 0.0 and sets its bit of 0x3400+n:8A. -/
def redesign (s : State) (n bank : Nat) : State :=
  if bankMode s n bank != 1 then wrBit s (lpObj n) 0x8A bank false else
  let ok := designOk s n bank
  let cs := if ok then design s n bank else List.replicate 5 F32.zero
  wrBit (foldS s ((List.range 5).zip cs) fun s p => wrR s (lpObj n) (bankSub bank (16 + p.1)) p.2) (lpObj n) 0x8A bank (!ok)

/-- The denominator of G in R154. -/
def gainBase (s : State) (n bank : Nat) : Real32 := F32.add (F32.add F32.one (bankR s n bank 19)) (bankR s n bank 20)

/-- A bank in mode 2 is stable (R153): |a2| < 1, |a1| < 1 + a2, and 1 + a1 + a2 is not 0, neither exactly nor as R154 forms it. -/
def stable (s : State) (n bank : Nat) : Bool :=
  let a1 := F32.toRat (bankR s n bank 19)
  let a2 := F32.toRat (bankR s n bank 20)
  let ab (x : Rat) : Rat := if x < 0 then -x else x
  decide (ab a2 < 1) && decide (ab a1 < 1 + a2) && decide (1 + a1 + a2 ≠ 0) && !F32.isZero (gainBase s n bank)

/-- The steady state (w1, w2) of the notch for a first input (R154). -/
def notchInit (s : State) (n bank : Nat) (x0 : Real32) : Real32 × Real32 :=
  let b0 := bankR s n bank 16; let b1 := bankR s n bank 17; let b2 := bankR s n bank 18
  let a1 := bankR s n bank 19; let a2 := bankR s n bank 20
  let g := F32.div (F32.add (F32.add b0 b1) b2) (gainBase s n bank)
  let w2 := F32.mul (F32.sub b2 (F32.mul a2 g)) x0
  (F32.add (F32.mul (F32.sub b1 (F32.mul a1 g)) x0) w2, w2)

/-- One step of the biquad (R150): output, w1, w2. -/
def notchStep (s : State) (n bank : Nat) (x w1 w2 : Real32) : Real32 × Real32 × Real32 :=
  let out := F32.add (F32.mul (bankR s n bank 16) x) w1
  (out,
   F32.add (F32.sub (F32.mul (bankR s n bank 17) x) (F32.mul (bankR s n bank 19) out)) w2,
   F32.sub (F32.mul (bankR s n bank 18) x) (F32.mul (bankR s n bank 20) out))

/-- The notch on a path: off it passes its input and holds w1, w2 at 0.0; `restart` starts it from the input's steady
state. -/
def notchRun (s : State) (n bank : Nat) (x w1 w2 : Real32) (restart : Bool) : Real32 × Real32 × Real32 :=
  if bankMode s n bank == 0 then (x, F32.zero, F32.zero)
  else
    let (v1, v2) := if restart then notchInit s n bank x else (w1, w2)
    notchStep s n bank x v1 v2

-- Shaper and limits (R155, R159) ----------------------------------------------------------------------------------

/-- The set-point shaper (R155). -/
def shape (s : State) (n bank : Nat) (r target : Real32) : Real32 :=
  let t := periodT (loopN s n)
  if F32.lt r target then
    let up := bankR s n bank 4
    if F32.isZero up then target else F32.min target (F32.add r (F32.mul up t))
  else if F32.lt target r then
    let dn := bankR s n bank 5
    if F32.isZero dn then target else F32.max target (F32.sub r (F32.mul dn t))
  else r

/-- The output limits (R159): u, and the status bits LIMITED_HIGH, LIMITED_LOW and RATE_LIMITED as bits 0 to 2. -/
def limit (s : State) (n bank : Nat) (v uPrev : Real32) : Real32 × Nat :=
  let lo := bankR s n bank 6
  let hi := bankR s n bank 7
  let rate := bankR s n bank 8
  let step := F32.mul rate (periodT (loopN s n))
  let u1 := if F32.lt F32.zero rate then F32.min (F32.max v (F32.sub uPrev step)) (F32.add uPrev step) else v
  let u := F32.min (F32.max u1 lo) hi
  (u, (if F32.eq u hi && F32.lt hi v then 1 else 0) + (if F32.eq u lo && F32.lt v lo then 2 else 0) +
      (if !F32.eq u1 v && F32.eq u u1 then 4 else 0))

-- Inputs (R149, R161) ---------------------------------------------------------------------------------------------

/-- Take an input's delivery at a boundary: the new record, the value to use, stale, failed. -/
def takeInput (x : LoopInput) (v : Real32 × Bool) (lim : Nat) : LoopInput × Real32 × Bool × Bool :=
  if v.2 then ({ held := some v.1, age := 0 }, v.1, false, false)
  else
    let x := { x with age := Nat.min 256 (x.age + 1) }
    match x.held with
    | some h => (x, h, x.age ≤ lim, lim < x.age)
    | none => (x, F32.zero, false, true)

/-- The block's inputs of one period. -/
structure LoopIn where
  l : Loop
  y : Real32
  isPos : Bool
  count : Nat
  target : Real32
  xs : List Real32
  pvStale : Bool
  pvFailed : Bool
  spInvalid : Bool
  ffInvalid : Bool
deriving DecidableEq, Repr

/-- The process value is a position, class 3 quantity 0 (R149). -/
def positionPv (s : State) (n : Nat) : Bool :=
  let r := rdN s (lpObj n) 4
  refClass r == 3 && refIndex r % 4 == 0

/-- The loop is the destination of a class 3 output reference or of a zone's set-point (R35, R197); a disabled outer loop stays
its source, with an invalid target (R168). DEDUCED, unsafe: log entry 228. -/
def cascaded (s : State) (n : Nat) : Bool :=
  hasWriter s 3 n || s.dict.any fun p => within (p.1 / 256) 0x3400 0x37FF && p.1 % 256 == 9 && leNat p.2 == 0x3000 + n

/-- Latch the inputs of loop `n` at its boundary (R149, R155, R158, R161). DEDUCED, unsafe: log entry 63. -/
def latchInputs (s : State) (n : Nat) (l : Loop) : LoopIn :=
  let a := rdN s (lpObj n) 0x62
  let (pv, y, st, fl) := takeInput l.pv (signal s (rdN s (lpObj n) 4)) a
  let spRef := rdN s (lpObj n) 5
  let sp : Real32 × Bool :=
    if cascaded s n then (match l.casc with | some v => (v, true) | none => (F32.zero, false))
    else if refClass spRef != 0 then signal s spRef
    else (rdR s (lpObj n) 0x80, true)
  let (spI, t, spSt, spFl) := takeInput l.sp sp a
  let target := if spI.held.isNone then rdR s (lpObj n) 0x80 else spI.held.getD t
  let ffs := (List.range 3).map fun k => takeInput ((l.ff[k]?).getD {}) (signal s (rdN s (lpObj n) (6 + k))) a
  { l := { l with pv := pv, sp := spI, ff := ffs.map (·.1) }, y := y, isPos := positionPv s n,
    count := if fl || st then rdN s (lpObj n) 0x9D else rdN s (pcObj (refIndex (rdN s (lpObj n) 4) / 4)) 0x80,
    target := target, xs := ffs.map (fun x => if x.2.2.2 then F32.zero else x.2.1),
    pvStale := st, pvFailed := fl, spInvalid := spSt || spFl, ffInvalid := ffs.any fun x => x.2.2.1 || x.2.2.2 }

/-- Feed-forward sum (R158). -/
def feedForward (s : State) (n bank : Nat) (xs : List Real32) : Real32 :=
  let g (k : Nat) : Real32 := F32.mul (bankR s n bank (9 + k)) (xs.getD k F32.zero)
  F32.add (F32.add (g 0) (g 1)) (g 2)

-- The evaluation (R160, R162 to R165, R183) -----------------------------------------------------------------------

/-- Write the words and hidden values of an evaluation whose output is `u`; it is due at the next boundary (R23). -/
def finishEval (s : State) (n t : Nat) (x : LoopIn) (l : Loop) (r target u : Real32) (st : Nat) (retry : Bool) : State :=
  let age (i : LoopInput) : Nat := Nat.min 255 i.age
  let ffAge := x.l.ff.foldl (fun m i => Nat.max m (age i)) 0
  let st := st + (if F32.eq r target then 0 else 16) + (if x.pvStale then 32 else 0) + (if x.pvFailed then 64 else 0) +
    (if x.spInvalid then 128 else 0) + (if x.ffInvalid then 256 else 0) + (if retry then 512 else 0) +
    (if l.swap.isSome then 32768 else 0) + (if x.isPos then 65536 else 0)
  let s := setLive (setLive (setLive s n 5 r) n 6 target) n 7 u
  let s := wrN (wrN s (lpObj n) 0x9C st) (lpObj n) 0x9E (age x.l.pv + 256 * age x.l.sp + 65536 * ffAge)
  let s := wrN (inc s (lpObj n) 0x9F) (lpObj n) 0x87 (if x.pvFailed then 3 else 2)
  setLoop s n { l with pv := x.l.pv, sp := x.l.sp, ff := x.l.ff, out := some (t + loopN s n, u, r), evaluated := true,
                       fresh := false, swapEval := none }

/-- Mode HOLD, or a failed process value in AUTO (R162, R164 lines 4 and 5). -/
def evalHeld (s : State) (n t : Nat) (x : LoopIn) (l : Loop) (r target uPrev : Real32) (safe retry : Bool) : State :=
  let u := if safe then rdR s (lpObj n) 0x60 else uPrev
  finishEval (setLive s n 2 F32.zero) n t x { l with resume := true, node0 := x.y } r target u (if safe then 16384 else 8192) retry

/-- The change of the measurement and the error: (y after the notch, dy, e, w1, w2). DEDUCED, unsafe: log entry 63. -/
def measure (s : State) (n bank : Nat) (x : LoopIn) (r : Real32) (fresh restart : Bool) :
    Real32 × Real32 × Real32 × Real32 × Real32 :=
  if x.isPos then
    let y := F32.ofInt (signed 4 x.count)
    let dy := if fresh then F32.zero else F32.ofInt (diff32 x.count (rdN s (lpObj n) 0x9D))
    (y, dy, F32.ofInt (diff32 (unsignedOf 4 (F32.toIntHalfAway r)) x.count), live s n 3, live s n 4)
  else
    let (y, w1, w2) :=
      if rdN s (lpObj n) 0x0A == 0 then notchRun s n bank x.y (live s n 3) (live s n 4) restart
      else (x.y, live s n 3, live s n 4)
    (y, if fresh then F32.zero else F32.sub y (live s n 1), F32.sub r y, w1, w2)

/-- Modes MANUAL and SAFE: the block tracks its output (R164). DEDUCED, unsafe: log entry 64. DEDUCED, unsafe: log entry 65. -/
def evalTracking (s : State) (n bank t : Nat) (x : LoopIn) (l : Loop) (r target uPrev : Real32) (start safe retry : Bool) : State :=
  let fresh := start || l.fresh
  let restart := fresh || l.swapEval.isSome
  let x' := if x.pvFailed then { x with y := live s n 1, count := rdN s (lpObj n) 0x9D } else x
  let (y, dy, e, w1, w2) := measure s n bank x' r (fresh || x.pvFailed) restart
  let tf := bankR s n bank 3
  let d := F32.div (F32.sub (F32.mul tf (if fresh then F32.zero else live s n 2)) (F32.mul (bankR s n bank 2) dy))
    (F32.add tf (periodT (loopN s n)))
  let p := F32.mul (bankR s n bank 0) e
  let f := feedForward s n bank x.xs
  let (u, lim) := if safe then (rdR s (lpObj n) 0x60, 0) else limit s n bank (rdR s (lpObj n) 0x82) uPrev
  let i0 := if start then F32.zero else live s n 0
  let track := !F32.isZero (bankR s n bank 1) && !x.pvFailed
  let i := if track then F32.sub (F32.sub (F32.sub u p) d) f else i0
  let v := if track then u else F32.add (F32.add (F32.add p i) d) f
  let path1 := rdN s (lpObj n) 0x0A == 1 && bankMode s n bank != 0
  let (w1, w2) := if path1 then notchInit s n bank u
    else if rdN s (lpObj n) 0x0A == 1 then (F32.zero, F32.zero) else (w1, w2)
  let s := setLive (setLive (setLive (setLive (setLive s n 0 i) n 1 y) n 2 d) n 3 w1) n 4 w2
  let s := setLive (setLive (setLive (setLive s n 8 v) n 9 e) n 10 p) n 11 f
  let s := if x.isPos then wrN s (lpObj n) 0x9D x'.count else s
  finishEval s n t x { l with resume := l.resume || x.pvFailed, node0 := if x.isPos then y else x.y,
                              node6 := if rdN s (lpObj n) 0x0A == 1 then v else y } r target u
    (lim + (if safe then 16384 else 4096)) retry

/-- Mode AUTO with a valid or stale process value: R160, the resumption of R163, the start of R165 or the swap evaluation
of R183. -/
def evalAuto (s : State) (n bank t : Nat) (x : LoopIn) (l : Loop) (r target uPrev : Real32) (start retry : Bool) : State :=
  let resume := start || l.resume
  let fresh := resume || l.fresh
  let restart := fresh || l.swapEval.isSome
  let (y, dy, e, w1, w2) := measure s n bank x r fresh restart
  let kd := bankR s n bank 2
  let tf := bankR s n bank 3
  let ki := bankR s n bank 1
  let per := periodT (loopN s n)
  let dIn := if fresh then F32.zero else
    match l.swapEval with
    | some kdOld => if F32.isZero kdOld then F32.zero else F32.div (F32.mul (live s n 2) kd) kdOld
    | none => live s n 2
  let d := F32.div (F32.sub (F32.mul tf dIn) (F32.mul kd dy)) (F32.add tf per)
  let p := F32.mul (bankR s n bank 0) e
  let f := feedForward s n bank x.xs
  let i0 := if start then F32.zero else live s n 0
  let sum (i : Real32) : Real32 := F32.add (F32.add (F32.add p i) d) f
  let back (w : Real32) : Real32 := F32.sub (F32.sub (F32.sub w p) d) f
  let lo := bankR s n bank 6
  let hi := bankR s n bank 7
  -- integrator and v before the output-path notch; `step` says that i is a candidate of R157
  let (i, v, step) :=
    if resume then (if F32.isZero ki then (i0, sum i0, false) else (back uPrev, uPrev, false))
    else if l.swapEval.isSome then
      (if F32.isZero ki then (i0, sum i0, false)
       else
         let vLast := live s n 8
         if !F32.eq (limit s n bank vLast uPrev).1 vLast then (back vLast, vLast, false)
         else
           let w := F32.min (F32.max uPrev lo) hi
           (back w, w, false))
    else
      let ic := F32.add i0 (F32.mul (F32.mul ki per) e)
      (ic, F32.add (F32.add (F32.add p ic) d) f, true)
  let path1 := rdN s (lpObj n) 0x0A == 1
  let (v, w1, w2) := if path1 then notchRun s n bank v (live s n 3) (live s n 4) restart else (v, w1, w2)
  let (u, lim) := limit s n bank v uPrev
  let frozen := !F32.eq u v
  let i := if step && frozen then i0 else i
  let s := setLive (setLive (setLive (setLive (setLive s n 0 i) n 1 y) n 2 d) n 3 w1) n 4 w2
  let s := setLive (setLive (setLive (setLive s n 8 v) n 9 e) n 10 p) n 11 f
  let s := if x.isPos then wrN s (lpObj n) 0x9D x.count else s
  finishEval s n t x { l with resume := false, node0 := if x.isPos then y else x.y, node6 := if path1 then v else y } r target u
    (lim + (if frozen then 8 else 0)) retry

/-- One evaluation of loop `n` at its boundary tick `t`, in state 1, 2 or 3. -/
def evaluate (s : State) (n t : Nat) (retry : Bool) : State :=
  let start := loopState s n == 1
  let bank := activeBank s n
  let l0 := loopOf s n
  let l := if start then { l0 with pv := {}, sp := {}, ff := [{}, {}, {}], resume := false, fresh := false, swapEval := none } else l0
  let x := latchInputs s n l
  let mode := rdN s (lpObj n) 0x81
  let uPrev := if start then rdR s (lpObj n) 0x60 else live s n 7
  let held := mode == 2 || (mode == 0 && x.pvFailed)
  let target := if held && !start then live s n 6 else x.target
  let r := if start then target else shape s n bank (live s n 5) target
  if mode == 3 then evalTracking s n bank t x l r target uPrev start true retry
  else if mode == 1 then evalTracking s n bank t x l r target uPrev start false retry
  else if mode == 2 then evalHeld s n t x l r target uPrev false retry
  else if x.pvFailed then evalHeld s n t x l r target uPrev (rdN s (lpObj n) 0x61 == 1) retry
  else evalAuto s n bank t x l r target uPrev start retry

-- Destinations (R24, R33, R304) -----------------------------------------------------------------------------------

/-- A TPDO slot takes a value (R304). -/
def tpdoSet (s : State) (n : Nat) (v : Real32) (valid : Bool) : State :=
  let o := 0x4000 + n
  let rest := s.tpdoValid.filter (· != n)
  if valid then
    let a := F32.toRat (rdR s o 0x28)
    let b := F32.toRat (rdR s o 0x29)
    let i := if b == 0 then 0 else roundRat ((F32.toRat v - a) / b)
    let i := if i > 32767 then 32767 else if i < -32767 then -32767 else i
    wrI (wrR { s with tpdoValid := n :: rest } o 0x90 v) o 0x91 i
  else wrI (wrR { s with tpdoValid := rest } o 0x90 F32.nan) o 0x91 (-32768)

/-- A value reaches the destination of an output reference (R24, R33). -/
def deliverTo (s : State) (ref : Nat) (v : Real32) (valid : Bool) : State :=
  let i := refIndex ref
  match refClass ref with
  | 1 => portApply s i v valid
  | 2 => posSetPoint s i v valid
  | 3 => if loopState s i == 0 then s else setLoop s i { loopOf s i with casc := if valid then some v else none }
  | 4 => tpdoSet s i v valid
  | 5 =>
    let z := zoneOf s (i / 8)
    if valid then setZone s (i / 8) { z with chan := Tab.put z.chan (i % 8) v, gate := setBit z.gate (i % 8) true } else s
  | _ => s

/-- The delivered output and set-point of loop `n` take their values, and its destination follows. -/
def deliverLoop (s : State) (n : Nat) (u r : Real32) : State :=
  deliverTo (setLoop s n { loopOf s n with u := some u, r := some r, out := none }) (rdN s (lpObj n) 9) u true

/-- The outputs due at tick `t` reach their destinations (R20 step 3, R23). DEDUCED, unsafe: log entry 62. -/
def outputsDue (s : State) (t : Nat) : State :=
  foldS s s.loops fun s p =>
    match p.2.out with
    | some (due, u, r) => if due == t then deliverLoop s p.1 u r else s
    | none => s

-- Lanes (R169 to R173) --------------------------------------------------------------------------------------------

/-- The engine stops (R173): every enabled loop goes to state 5. `entry`: the queue entry in error; 0 where lane faults stop the
engine (DESIGN CHOICE, unsafe: log entry 67). -/
def engineStop (s : State) (entry : Nat) : State :=
  if s.engineStop then s else
  let s := foldS { s with engineStop := true } (enabledLoops s) fun s n =>
    setLoop (wrN s (lpObj n) 0x87 5) n { loopOf s n with out := none }
  condStart s 22 0 (0x02108000 + entry) 0xFF

/-- A lane fault of loop `n` (R171), its location `loc` and whether ECC caused it; four distinct loops within 10 000 ticks
stop the engine. -/
def laneFault (s : State) (n loc : Nat) (ecc : Bool) : State :=
  let s := wrN s (lpObj n) 0x87 4
  let s := wrBit s (lpObj n) 0x9C 10 true
  let s := if ecc then wrBit s (lpObj n) 0x9C 11 true else s
  let s := inc s (lpObj n) 0x89
  let s := setLoop s n { loopOf s n with out := none }
  let s := condStart s 20 n loc 0xFF
  let recent := (n, s.tick) :: s.laneFaults.filter fun p => p.1 != n && s.tick < p.2 + 10000
  let s := { s with laneFaults := recent }
  if recent.length ≥ 4 then engineStop s 0 else s

/-- The location of a lane mismatch (R174). -/
def mismatchLoc (n : Nat) : Nat := 0x02120000 + n / 16 * 256 + n % 16
/-- The location of an uncorrectable error in bank 0 or 1 or, for 2, in the live state (R174). -/
def eccLoc (n bank w : Nat) : Nat :=
  if bank == 2 then 0x0210C000 + n / 16 * 256 + n % 16 * 16 + w
  else 0x02100000 + (4 + n / 256) * 0x4000 + n % 256 / 4 * 256 + n % 4 * 64 + 32 * bank + w

/-- A word of loop memory has an uncorrectable error; its bank is usable again once all of it has been written (R172). -/
def eccMark (s : State) (n bank w : Nat) : State :=
  let l := loopOf s n
  let owed := (if bank == 2 then [] else (List.range 21).map fun k => (bank, k)) ++ l.owed.filter fun p => p.1 != bank
  setLoop s n { l with bad := if l.bad.contains (bank, w) then l.bad else (bank, w) :: l.bad, owed := owed }

/-- An uncorrectable error in a word of loop memory: a lane fault in the live state or the active bank (R171), else the inactive
bank is marked and unusable (R172). A disabled loop has no active bank in use: its banks are marked, and its first evaluation
finds the error. DEDUCED, unsafe: log entry 67. -/
def loopEccError (s : State) (n bank w : Nat) : State :=
  let s := eccMark s n bank w
  if within (loopState s n) 1 3 || loopState s n == 6 then
    if bank == 2 || bank == activeBank s n then laneFault s n (eccLoc n bank w) true
    else event (wrBit s (lpObj n) 0x8A (2 + bank) true) 21 (eccLoc n bank w)
  else if bank != 2 && (loopState s n == 0 || bank != activeBank s n) then event (wrBit s (lpObj n) 0x8A (2 + bank) true) 21 (eccLoc n bank w)
  else s

/-- A loop in state 4 or 5 delivers its safe value at each of its boundaries (R171, R173, R186). -/
def safeDue (s : State) : State :=
  foldS s ((enabledLoops s).filter fun n => within (loopState s n) 4 5 && loopBoundary s n s.tick) fun s n =>
    deliverLoop s n (rdR s (lpObj n) 0x60) (live s n 5)

/-- The boundary of a loop: one in state 1 to 3 is evaluated in both lanes, recomputed once on a mismatch while the reserve of
16 lasts (R170, R171). DEDUCED, unsafe: log entry 67. -/
def loopAtBoundary (s : State) (inp : TickIn) (n : Nat) : State :=
  if !within (loopState s n) 1 3 then s
  else
    let errs := ((inp.loopEcc.filter (·.1 == n)).map (·.2) ++ (loopOf s n).bad).filter fun e => e.1 == 2 || e.1 == activeBank s n
    let words (bank : Nat) : List Nat := (errs.filter (·.1 == bank)).map (·.2)
    match errs with
    | e :: _ =>
      -- the entry names the live state before the coefficients, and the lowest-numbered word (R174)
      let bank := if (words 2).isEmpty then e.1 else 2
      let s := foldS s errs fun s e => eccMark s n e.1 e.2
      laneFault s n (eccLoc n bank ((words bank).foldl Nat.min 64)) true
    | [] =>
      match inp.lanes.find? fun p => p.1 == n with
      | none => evaluate s n s.tick false
      | some (_, again) =>
        if s.reserveUsed ≥ 16 then laneFault s n (mismatchLoc n) false
        else
          let s := inc (inc { s with reserveUsed := s.reserveUsed + 1 } 0x2010 0x09) (lpObj n) 0x88
          if again then laneFault s n (mismatchLoc n) false else evaluate s n s.tick true

/-- The engine evaluates in this power state: in DOZE only RG5 to RG7 (R175). -/
def loopRunsIn (s : State) (n : Nat) : Bool := rdN s 0x2100 0x80 == 0 || rdN s (lpObj n) 2 ≥ 5

-- Banks and swaps (R152, R176 to R184) ----------------------------------------------------------------------------

/-- The swap bank checks of R179 below the state checks, in the precedence of R63; 0 when the bank may be used. DEDUCED, unsafe:
log entry 59. -/
def bankFault (s : State) (n bank : Nat) : Nat :=
  if bankMode s n bank == 1 && !designOk s n bank then 0x06090030
  else if bankMode s n bank == 2 && !stable s n bank then 0x06090030
  else if F32.lt (bankR s n bank 7) (bankR s n bank 6) then 0x06090036
  else if (loopOf s n).owed.any fun p => p.1 == bank then 0x06060000
  else 0

/-- Loop `n` may not take part in a swap (R181). -/
def swapSkipped (s : State) (n : Nat) : Bool := loopState s n == 0 || loopState s n == 4 || loopState s n == 5

/-- All checks of R179 for one loop. DEDUCED, unsafe: log entry 59. -/
def swapCheck (s : State) (n : Nat) : Nat :=
  if swapSkipped s n then 0x08000022
  else if (loopOf s n).swap.isSome || rdBit s (lpObj n) 0x9C 15 then 0x08000022
  else bankFault s n (1 - activeBank s n)

/-- The loops a request on loop `n` names (R181). -/
def swapMembers (s : State) (n : Nat) : List Nat :=
  let m := rdN s (lpObj n) 0x63
  if m == 0 then [n] else (enabledLoops s).filter fun k => rdN s (lpObj k) 0x63 == m && !swapSkipped s k

/-- The abort code of a swap request, 0 when it is accepted. -/
def swapRefusal (s : State) (n : Nat) : Nat :=
  match swapMembers s n with
  | [] => 0x08000022
  | ms => ((ms.map (swapCheck s)).find? (· != 0)).getD 0

/-- The abort code of a request written to a loop: a swap (R179), or the restart command of R171, whose active bank is checked
as a bank of R179. -/
def loopRequestRefusal (s : State) (n sub : Nat) : Nat :=
  if sub == 0x84 then swapRefusal s n else if sub == 0x85 then bankFault s n (activeBank s n) else 0

/-- Mark the swap of every loop the request names (R179 to R181); `st` is the acceptance stamp. -/
def swapAccept (s : State) (n st : Nat) : State :=
  let inSet := rdN s (lpObj n) 0x63 != 0
  foldS s (swapMembers s n) fun s k =>
    let old := activeBank s k
    wrBit (setLoop s k { loopOf s k with swap := some { bank := 1 - old, kdOld := bankR s k old 2, due := st + 1, inSet := inSet } })
      (lpObj k) 0x9C 15 true

/-- The bank change of loop `n`'s pending swap, at own tick `own` and count `t` (R180, R181): a set changes at its tick, a
single loop at its first boundary at or after it, a suspended loop at its resumption; in states 4 and 5 the request waits, and
the bank stays (R171; DEDUCED, log entry 61). DEDUCED, unsafe: log entry 65. -/
def swapAt (s : State) (n own t : Nat) : State :=
  match (loopOf s n).swap with
  | some w =>
    if w.due ≤ own && !within (loopState s n) 4 5 && (w.inSet || (loopBoundary s n t && loopState s n != 6)) then
      setLoop (wrN s (lpObj n) 0x83 w.bank) n { loopOf s n with swap := none, swapEval := some w.kdOld }
    else s
  | none => s

/-- Bank changes due (R9 item 3, R182 step 2). -/
def swapsDue (s : State) : State :=
  if !s.counting then s else foldS s s.loops fun s p => if p.2.swap.isSome then swapAt s p.1 s.now s.tick else s

/-- A pending swap is cancelled, with its log entry (R182). -/
def swapCancel (s : State) (n : Nat) : State :=
  if (loopOf s n).swap.isSome then
    logAdd (wrBit (setLoop s n { loopOf s n with swap := none }) (lpObj n) 0x9C 15 false) 0x0082 0 0xFF n
  else s

/-- The refusal of a write to a bank word (R152, R176, R178), 0 when it is allowed. A disabled loop's active bank is A (R166);
DEDUCED, log entry 60. -/
def bankWriteRefusal (s : State) (n bank w : Nat) : Nat :=
  let pend := match (loopOf s n).swap with | some x => x.bank == bank | none => false
  if pend then 0x08000022
  else if bank == activeBank s n && loopState s n != 4 then 0x08000022
  else if w ≥ 16 && bankMode s n bank == 1 then 0x08000022
  else 0

/-- A bank word holds a new value: an error in it is gone, and the bank is usable when every word has been written (R172). -/
def wordWritten (s : State) (n bank w : Nat) : State :=
  let l := loopOf s n
  if l.bad.isEmpty && l.owed.isEmpty then s else
  let s := setLoop s n { l with bad := l.bad.filter (· != (bank, w)), owed := l.owed.filter (· != (bank, w)) }
  if (loopOf s n).owed.any fun p => p.1 == bank then s else wrBit s (lpObj n) 0x8A (2 + bank) false

/-- A bank word takes its value (R152, R172, R176); a design recomputed writes words 16 to 20. -/
def bankWrite (s : State) (n bank w : Nat) (data : List Byte) : State :=
  let s := wordWritten (wrB s (lpObj n) (bankSub bank w) data) n bank w
  if !within w 12 15 then s
  else
    let s := redesign s n bank
    if bankMode s n bank != 1 then s else foldS s (List.range 5) fun s k => wordWritten s n bank (16 + k)

/-- The loop that loop `n` supplies has no valid target until `n` delivers one (R168). -/
def cascadeInvalid (s : State) (n : Nat) : State :=
  let ref := rdN s (lpObj n) 9
  if refClass ref == 3 then deliverTo s ref F32.zero false else s

/-- The live state of R165: all words are written, no output has been delivered yet, and the inputs have no held value. -/
def loopFresh (s : State) (n : Nat) : State :=
  let s := foldS (cascadeInvalid s n) (List.range 16) fun s w => wrN s (lpObj n) (0x90 + w) 0
  let old := loopOf s n
  setLoop s n { bad := old.bad.filter fun p => p.1 != 2, owed := old.owed, casc := old.casc }

/-- A restart after a lane fault (R171): the loop starts under R165 from the safe value, with the bank it had and a swap that
waits for it. DEDUCED, unsafe: log entry 61. -/
def loopRestart (s : State) (n : Nat) : State :=
  if loopState s n != 4 then s else
  let sw := (loopOf s n).swap
  let s := wrN (loopFresh s n) (lpObj n) 0x87 1
  let s := wrBit (setLoop s n { loopOf s n with swap := sw }) (lpObj n) 0x9C 15 sw.isSome
  condEnd s 20 n (mismatchLoc n)

/-- A loop starts afresh: enabled by a commit, or at the operational tick (R165, R173). -/
def loopStart (s : State) (n : Nat) : State :=
  wrN (wrN (loopFresh s n) (lpObj n) 0x83 0) (lpObj n) 0x87 (if s.engineStop then 5 else 1)

/-- A loop ends with the commit that disables it (R166, R168). DEDUCED, unsafe: log entry 60. -/
def loopEnd (s : State) (n : Nat) : State :=
  let s := condEnd (cascadeInvalid (swapCancel s n) n) 20 n (mismatchLoc n)
  setLoop (wrN (wrN s (lpObj n) 0x87 0) (lpObj n) 0x83 0) n { bad := (loopOf s n).bad, owed := (loopOf s n).owed }

/-- DOZE suspends the loops of RG0 to RG4; at the return to RUN, or in a group that runs, they resume under R163 (R175). DEDUCED,
unsafe: log entry 62. -/
def loopsSuspend (s : State) (doze : Bool) : State :=
  foldS s (enabledLoops s) fun s n =>
    let stop := doze && rdN s (lpObj n) 2 < 5
    if stop && within (loopState s n) 1 3 then setLoop (wrN s (lpObj n) 0x87 6) n { loopOf s n with resume := true }
    else if !stop && loopState s n == 6 then wrN s (lpObj n) 0x87 (if (loopOf s n).evaluated then 2 else 1)
    else s

/-- After loops have started or moved: in DOZE those of RG0 to RG4 are suspended at once (R175). -/
def dozeSettle (s : State) : State := if rdN s 0x2100 0x80 == 1 then loopsSuspend s true else s

/-- Restart commands due at this tick. -/
def restartsDue (s : State) : State :=
  let due := s.loops.filter fun p => match p.2.restart with | some d => d ≤ s.now | none => false
  if due.isEmpty then s else
  dozeSettle (foldS s due fun s p => loopRestart (setLoop s p.1 { loopOf s p.1 with restart := none }) p.1)

-- Trace (R187 to R191) --------------------------------------------------------------------------------------------

def traceSamples : Nat := 16384
/-- A node of a loop as its latest evaluation wrote it (R187, R188). -/
def traceNode (s : State) (n node : Nat) : Real32 :=
  let l := loopOf s n
  let st := loopState s n
  if node == 9 && (st == 4 || st == 5) then rdR s (lpObj n) 0x60
  else if !l.evaluated then F32.nan
  else match node with
    | 0 => l.node0
    | 1 => live s n 5
    | 2 => live s n 9
    | 3 => live s n 10
    | 4 => live s n 0
    | 5 => live s n 2
    | 6 => l.node6
    | 7 => live s n 11
    | 8 => live s n 8
    | 9 => live s n 7
    | _ => F32.ofNat (rdN s (lpObj n) 0x9C % 16)

/-- One row of samples of the eight channels; a channel that is not enabled stores nothing of use. -/
def traceRow (s : State) : List Real32 :=
  (List.range 8).map fun c =>
    if bit s.trace.mask c then traceNode s (rdN s (0x3E01 + c) 1) (rdN s (0x3E01 + c) 2) else F32.zero

/-- The sample meets the trigger condition against the one before it (R189). -/
def traceHit (mode : Nat) (level : Real32) (prev : Option Real32) (x : Real32) : Bool :=
  match prev with
  | none => false
  | some p =>
    let up := F32.lt p level && F32.le level x
    let dn := F32.lt level p && F32.le x level
    match mode with
    | 1 => up
    | 2 => dn
    | 3 => up || dn
    | _ => false

/-- The capture ends (R189). -/
def traceDone (s : State) : State :=
  let s := irq (inc (wrN s 0x3E00 0x80 3) 0x3E00 0x86) 10
  wrN s 0x3E00 0x84 s.trace.rows.length

/-- One sample at the tick, if it is a sample tick of an armed capture (R188, R189). DEDUCED, unsafe: log entry 68. -/
def traceSample (s : State) : State :=
  let st := rdN s 0x3E00 0x80
  let d := rdN s 0x3E00 1
  let arm := rdN s 0x3E00 0x81
  if (st != 1 && st != 2) || s.tick < arm || (s.tick - arm) % d != 0 then s else
  let row := traceRow s
  let tr := s.trace
  if st == 1 then
    let pre := traceSamples * rdN s 0x3E00 2 / 100
    let ch := rdN s 0x3E00 4
    let mode := rdN s 0x3E00 3
    let hit := tr.forced || (tr.count ≥ pre &&
      (mode == 0 || traceHit mode (rdR s 0x3E00 5) (tr.rows.head?.map fun r => r.getD ch F32.nan) (row.getD ch F32.nan)))
    if hit then
      let keep := tr.rows.take pre
      let left := traceSamples - pre - 1
      -- with P = 100 the whole capture lies before the trigger
      let rows := if pre < traceSamples then row :: keep else keep
      let s := { s with trace := { tr with rows := rows, count := tr.count + 1, left := left, forced := false } }
      let s := wrN (wrN (wrN s 0x3E00 0x80 2) 0x3E00 0x82 s.tick) 0x3E00 0x85 keep.length
      let s := wrN (wrN s 0x3E00 0x83 (s.tick - keep.length * d)) 0x3E00 0x84 rows.length
      if left == 0 then traceDone s else s
    else
      let rows := (row :: tr.rows).take (Nat.max pre 1)
      wrN { s with trace := { tr with rows := rows, count := tr.count + 1 } } 0x3E00 0x84 (Nat.min (tr.count + 1) (Nat.max pre 1))
  else
    let s := { s with trace := { tr with rows := row :: tr.rows, count := tr.count + 1, left := tr.left - 1 } }
    let s := wrN s 0x3E00 0x84 s.trace.rows.length
    if s.trace.left == 0 then traceDone s else s

/-- The trace returns to state 0 and its data is lost (R188). -/
def traceClear (s : State) : State :=
  let s := { s with trace := { cmds := s.trace.cmds } }
  foldS s [0x80, 0x81, 0x82, 0x83, 0x84, 0x85] fun s sub => wrN s 0x3E00 sub 0

/-- A trace command takes effect (R190): 1 arm, 2 force the trigger, 3 stop. -/
def traceCommand (s : State) (c : Nat) : State :=
  let st := rdN s 0x3E00 0x80
  match c with
  | 1 =>
    let s := traceClear s
    wrN (wrN { s with trace := { s.trace with mask := rdN s 0x3E00 6 } } 0x3E00 0x80 1) 0x3E00 0x81 s.tick
  | 2 => if st == 1 then { s with trace := { s.trace with forced := true } } else s
  | 3 => if st == 1 then traceClear s else if st == 2 then traceDone s else s
  | _ => s

/-- Commands due at this tick; outside RUN and DOZE they find no trace (R188). -/
def traceDue (s : State) : State :=
  let due := s.trace.cmds.filter fun q => q.1 ≤ s.now
  if due.isEmpty then s else
  let s := { s with trace := { s.trace with cmds := s.trace.cmds.filter fun q => s.now < q.1 } }
  if rdN s 0x2100 0x80 > 1 then s else foldS s due fun s q => traceCommand s q.2

/-- The data of trace channel `c`, samples in time order (R191). -/
def traceData (s : State) (c : Nat) : List Byte := (s.trace.rows.reverse.map fun r => leBytes 4 (r.getD c F32.zero).toNat).flatten

end Sys2Proof.Machine
end

