-- ==== Sys2Proof/Machine/Zones.lean ====
section
/-! DEFINITION. The zone unit: gating of the actuator channels, modes and set-points, sensor fusion, the estimator,
occupancy, psychrometrics, surfaces and the decoupling step (R194 to R222, R514). -/
namespace Sys2Proof.Machine
open Sys2Proof Sys2Proof.OD

def zObj (z : Nat) : Nat := 0x3C00 + z
def sfObj (z : Nat) : Nat := 0x3C40 + z
def dcObj (z : Nat) : Nat := 0x3C80 + z
def zR (s : State) (z sub : Nat) : Real32 := rdR s (zObj z) sub
/-- Base ticks per period of zone `z`. -/
def zoneN (s : State) (z : Nat) : Nat := groupN (rdN s (zObj z) 3)
/-- The fixed phase of a zone (R195). -/
def zonePhase (s : State) (z : Nat) : Nat := z * zoneN s z / 64
/-- Count `t` is a boundary of zone `z`. -/
def zoneBoundary (s : State) (z t : Nat) : Bool := t % zoneN s z == rdN s (zObj z) 0x9A % zoneN s z
def zoneLoc (z : Nat) : Nat := 0x02200000 + z
def noSig : Sig := (F32.zero, false)
/-- A zone-unit input: class 0 names none and delivers no valid value (R514). -/
def zoneInput (s : State) (ref : Nat) : Sig := if refClass ref == 0 then noSig else signal s ref

-- Gating (R198, R199) ---------------------------------------------------------------------------------------------

def idleOf (s : State) (z k : Nat) : Real32 := zR s z (0x52 + k)
def forwarded (s : State) (z k : Nat) : Real32 := zR s z (0x9B + k)
/-- A forwarded value is active when it differs from its slot's idle value. -/
def slotActive (s : State) (z k : Nat) : Bool := !F32.eq (forwarded s z k) (idleOf s z k)

/-- The interlock on slot 0 or 1 for the value `a` (R199): the forwarded value, held, held by the changeover time. -/
def interlock (s : State) (z k : Nat) (a : Real32) : Real32 × Bool × Bool :=
  let idle := idleOf s z k
  let zn := zoneOf s z
  if F32.eq a idle then (a, false, false)
  else if slotActive s z (1 - k) then (idle, true, false)
  else
    match (if k == 0 then zn.stopCool else zn.stopHeat) with
    | some t => if s.now < t + rdN s (zObj z) 0x2E * 10000 then (idle, true, true) else (a, false, false)
    | none => (a, false, false)

/-- Gate channel `k` of zone `z` with its last value; the result goes to its output reference (R198). DEDUCED, unsafe: log entry
73. -/
def gateChannel (s : State) (z k : Nat) : State :=
  let zn := zoneOf s z
  let mode := rdN s (zObj z) 0x83
  let idle := idleOf s z k
  let (o, held, wait) : Option Real32 × Bool × Bool :=
    if !rdF s (zObj z) 1 || mode == 0 || !hasWriter s 5 (z * 8 + k) then (some idle, false, false)
    else match Tab.find zn.chan k with
      | none => (none, false, false)
      | some a =>
        if k ≤ 1 then
          let (o, h, w) := interlock s z k a
          (some o, h, w)
        else if k == 2 then
          let base := zR s z 0x35
          let floor := if within mode 3 5 then
              F32.add base (F32.mul (zR s z 0x36) (if bit zn.qValid 7 then zR s z (0x87 + 7) else F32.zero))
            else base
          (some (F32.max a floor), false, false)
        else (some a, false, false)
  match o with
  | none => s
  | some o =>
    -- what was active is what the interlock state says: an idle value written since does not change it
    let was := rdN s (zObj z) 0x97 == k + 1
    let s := wrR s (zObj z) (0x9B + k) o
    let stopped := was && !slotActive s z k
    let zn := { zn with waitMask := setBit zn.waitMask k wait,
                        stopHeat := if k == 0 && stopped then some s.now else zn.stopHeat,
                        stopCool := if k == 1 && stopped then some s.now else zn.stopCool }
    let s := setZone s z zn
    let s := if k ≤ 1 then wrBit (wrBit s (zObj z) 0x85 (8 + k) held) (zObj z) 0x85 10 (zn.waitMask != 0) else s
    let dest := rdN s (zObj z) (0x18 + k)
    if !rdF s (zObj z) 1 && hasWriter s (refClass dest) (refIndex dest) then s else deliverTo s dest o true

/-- The interlock state 0x3C00+z:97. -/
def interlockState (s : State) (z : Nat) : Nat :=
  if slotActive s z 0 then 1 else if slotActive s z 1 then 2 else 0

/-- Gate the channels due, and all of them again while the interlock state changes. -/
def gateZone (s : State) (z : Nat) : Nat → State
  | 0 => s
  | fuel + 1 =>
    let zn := zoneOf s z
    if zn.gate == 0 then s else
    let m := zn.gate
    let s := setZone s z { zn with gate := 0 }
    let s := foldS s (List.range 8) fun s k => if bit m k then gateChannel s z k else s
    let i := interlockState s z
    if i == rdN s (zObj z) 0x97 then s
    else gateZone (setZone (wrN s (zObj z) 0x97 i) z { zoneOf s z with gate := 255 }) z fuel

/-- Every channel of a zone is gated again at this tick. -/
def regate (s : State) (z : Nat) : State := setZone s z { zoneOf s z with gate := 255 }

/-- Every channel is gated again. -/
def regateAll (s : State) : State := foldS s (List.range 64) regate

/-- The channels of a configuration that has just been loaded forward their idle values until they are gated (R194, R198). -/
def channelsIdle (s : State) : State :=
  regateAll (foldS s (List.range 64) fun s z => foldS s (List.range 8) fun s k => wrR s (zObj z) (0x9B + k) (idleOf s z k))

/-- Gate what is due in every zone at this tick. -/
def gateZones (s : State) : State := foldS s s.zones fun s p => gateZone s p.1 4

-- Modes and set-points (R200 to R202) -----------------------------------------------------------------------------

/-- The mode in force and its source at a boundary (R201). -/
def zoneMode (s : State) (z : Nat) : Nat × Nat :=
  let req := rdN s (zObj z) 0x80
  let zn := zoneOf s z
  let (m, src) := if req != 255 then (req, 0) else (zn.ttMode, if zn.ttEntry then 1 else 2)
  if m == 0 && rdN s (zObj z) 2 == 3 then (1, 3) else (m, src)

/-- Take the mode at a zone's boundary; the gating changes at that boundary itself. -/
def zoneModeTake (s : State) (z : Nat) : State :=
  let (m, src) := zoneMode s z
  let old := rdN s (zObj z) 0x83
  let s := wrN (wrN s (zObj z) 0x83 m) (zObj z) 0x84 src
  if m == old then s else regate s z

/-- A half of a set-point profile, or the zone's own value (R225). -/
def profileHalf (s : State) (z q sub : Nat) (high : Bool) : Real32 :=
  if q > 63 then zR s z sub else
  let w := rdN s 0x4F00 (1 + q)
  let h := if high then w / 65536 else w % 65536
  if h == 0x8000 then zR s z sub else F32.ofFrac (signed 2 h) 100

/-- The profile that supplies the comfort values: of a zone in automatic the one the walker says is used (R230), under every
other mode source the profile in force (R225). -/
def profileUsed (s : State) (z : Nat) : Nat :=
  let zn := zoneOf s z
  if within (rdN s (zObj z) 0x84) 1 2 then zn.ttProfile else zn.ttInForce

/-- The effective set-points (R200, R202): heating, cooling, DEADBAND_ADJUSTED, ENCLOSURE_CLAMPED. -/
def setPoints (s : State) (z : Nat) : Real32 × Real32 × Bool × Bool :=
  let q := profileUsed s z
  let ch := profileHalf s z q 0x28 false
  let cc := profileHalf s z q 0x29 true
  let sb := zR s z 0x2B
  let (h, c) := match rdN s (zObj z) 0x83 with
    | 0 => (zR s z 0x2C, zR s z 0x2D)
    | 1 => (zR s z 0x2C, zR s z 0x2D)
    | 2 => (F32.sub ch sb, F32.add cc sb)
    | 5 => (zR s z 0x81, zR s z 0x82)
    | _ => (ch, cc)
  let encl := rdN s (zObj z) 2 == 3
  let h1 := if encl then F32.max h (zR s z 0x2F) else h
  let c1 := if encl then F32.min c (zR s z 0x30) else c
  let c2 := F32.max c1 (F32.add h1 (zR s z 0x2A))
  (h1, c2, !F32.eq c2 c1, !(F32.eq h1 h && F32.eq c1 c))

-- Sensors (R203, R204) --------------------------------------------------------------------------------------------

/-- What fusion gives: quantity 4, the two measurements, the masks of kept and rejected sensors, SENSOR_DISAGREE. -/
structure Fused where
  q4 : Sig
  z1 : Option Real32
  z2 : Option Real32
  kept : Nat
  rejected : Nat
  disagree : Bool
deriving DecidableEq, Repr

/-- Insert into a list in ascending order. -/
def insertAsc (x : Real32) : List Real32 → List Real32
  | [] => [x]
  | y :: t => if F32.le x y then x :: y :: t else y :: insertAsc x t

/-- The median; of an even number of values, the mean of the middle two. DEDUCED, unsafe: log entry 69. -/
def median (l : List Real32) : Real32 :=
  let a := l.foldl (fun t x => insertAsc x t) []
  let n := a.length
  if n % 2 == 1 then a.getD (n / 2) F32.zero
  else F32.div (F32.add (a.getD (n / 2 - 1) F32.zero) (a.getD (n / 2) F32.zero)) (F32.ofNat 2)

def sumF (l : List Real32) : Real32 :=
  match l with
  | [] => F32.zero
  | x :: t => t.foldl F32.add x

/-- The weighted mean of the sensors `ks`, none where their weights sum to 0. -/
def weightedMean (s : State) (z : Nat) (v : Nat → Real32) (ks : List Nat) : Option Real32 :=
  let w (k : Nat) : Real32 := zR s z (0x20 + k)
  let tot := sumF (ks.map w)
  if F32.gt tot F32.zero then some (F32.div (sumF (ks.map fun k => F32.mul (w k) (v k))) tot) else none

/-- Fuse the temperature sensors (R203); `pred` is the prediction Ta' and b', none before initialisation. DEDUCED, unsafe: log
entry 69. -/
def fuse (s : State) (z : Nat) (pred : Option (Real32 × Real32)) : Fused :=
  let sg := (List.range 4).map fun k => zoneInput s (rdN s (zObj z) (4 + k))
  let v (k : Nat) : Real32 := (sg.getD k noSig).1
  let ok (k : Nat) : Bool := (sg.getD k noSig).2
  let cand := (List.range 4).filter fun k => ok k && F32.le (zR s z 0x24) (v k) && F32.le (v k) (zR s z 0x25)
  let dev := zR s z 0x26
  let (kept, dis) : List Nat × Bool :=
    match cand with
    | [a, b] =>
      if F32.gt (F32.abs (F32.sub (v a) (v b))) dev then
        match pred with
        | some (ta, bi) =>
          let e (k : Nat) : Real32 := F32.abs (F32.sub (v k) (if k == 0 then F32.add ta bi else ta))
          ([if F32.le (e a) (e b) then a else b], true)
        | none => ([a], true)
      else ([a, b], false)
    | _ =>
      if cand.length ≥ 3 then
        let m := median (cand.map v)
        (cand.filter fun k => !F32.gt (F32.abs (F32.sub (v k) m)) dev, false)
      else (cand, false)
  let mask (f : Nat → Bool) : Nat := (List.range 4).foldl (fun m k => if f k then m + 2 ^ k else m) 0
  { q4 := match weightedMean s z v kept with | some t => (t, true) | none => noSig
    z1 := if kept.contains 0 then some (v 0) else none
    z2 := weightedMean s z v (kept.filter (· != 0))
    kept := mask fun k => kept.contains k
    rejected := mask fun k => ok k && !kept.contains k
    disagree := dis }

/-- Relative humidity from its input (R204). DEDUCED, unsafe: log entry 77. -/
def humidity (x : Sig) : Sig :=
  if !x.2 || F32.lt x.1 F32.zero || F32.gt x.1 (F32.ofNat 105) then noSig
  else (F32.min x.1 (F32.ofNat 100), true)

-- The estimator (R205, R206) --------------------------------------------------------------------------------------

def dot (a b : List Real32) : Real32 := sumF ((a.zip b).map fun p => F32.mul p.1 p.2)
def column (m : List (List Real32)) (j : Nat) : List Real32 := m.map fun r => r.getD j F32.zero
def matVec (m : List (List Real32)) (v : List Real32) : List Real32 := m.map fun r => dot r v
/-- `a · b'`. -/
def mulT (a b : List (List Real32)) : List (List Real32) := a.map fun r => b.map fun q => dot r q
def matMul (a b : List (List Real32)) (n : Nat) : List (List Real32) :=
  a.map fun r => (List.range n).map fun j => dot r (column b j)
def diag (d : List Real32) : List (List Real32) :=
  (List.range d.length).map fun i => (List.range d.length).map fun j => if i == j then d.getD i F32.zero else F32.zero
def matAdd (a b : List (List Real32)) : List (List Real32) :=
  (a.zip b).map fun p => (p.1.zip p.2).map fun q => F32.add q.1 q.2

/-- The predict step (R205): `qgp` is qg_prior, `qd` the decoupling term, `bias` whether the bias keeps its process noise.
DEDUCED, unsafe: log entry 72. -/
def predict (s : State) (z : Nat) (qgp qd : Real32) (bias : Bool) : List Real32 × List (List Real32) :=
  let zn := zoneOf s z
  let t := periodT (zoneN s z)
  let g (i : Nat) : Real32 := zn.x.getD i F32.zero
  let ta := g 0; let ts := g 1; let qg := g 2; let b := g 3
  let ca := zR s z 0x3E; let cs := zR s z 0x3F; let hs := zR s z 0x40; let tg := zR s z 0x43
  let toS := s.outside.getD 0 noSig
  let to_ := toS.1
  let ho := if toS.2 then rdR s (dcObj z) 0x88 else F32.zero
  let hso := if toS.2 then zR s z 0x42 else F32.zero
  let tca := F32.div t ca; let tcs := F32.div t cs; let ttg := F32.div t tg
  let flow := F32.add (F32.add (F32.add (F32.add (F32.mul hs (F32.sub ts ta)) (F32.mul ho (F32.sub to_ ta))) zn.heat) qg) qd
  let ta' := F32.add ta (F32.mul tca flow)
  let ts' := F32.add ts (F32.mul tcs (F32.add (F32.mul hs (F32.sub ta ts)) (F32.mul hso (F32.sub to_ ts))))
  let qg' := F32.add qg (F32.mul ttg (F32.sub qgp qg))
  let z0 := F32.zero
  let a : List (List Real32) :=
    [[F32.sub F32.one (F32.div (F32.mul t (F32.add hs ho)) ca), F32.div (F32.mul t hs) ca, tca, z0],
     [F32.div (F32.mul t hs) cs, F32.sub F32.one (F32.div (F32.mul t (F32.add hs hso)) cs), z0, z0],
     [z0, z0, F32.sub F32.one ttg, z0], [z0, z0, z0, F32.one]]
  let q := diag ([zR s z 0x44, zR s z 0x45, zR s z 0x46, if bias then zR s z 0x47 else z0].map (F32.mul t))
  ([ta', ts', qg', b], matAdd (mulT (matMul a zn.p 4) a) q)

/-- `h P h' + r`. -/
def innovation (p : List (List Real32)) (h : List Real32) (r : Real32) : Real32 := F32.add (dot h (matVec p h)) r

/-- One measurement update (R205). -/
def updateWith (m : List Real32 × List (List Real32)) (z : Real32) (h : List Real32) (r : Real32) :
    List Real32 × List (List Real32) :=
  let (x, p) := m
  let ph := matVec p h
  let sv := F32.add (dot h ph) r
  let k := ph.map fun v => F32.div v sv
  let e := F32.sub z (dot h x)
  let x' := (x.zip k).map fun q => F32.add q.1 (F32.mul q.2 e)
  let ikh := (List.range x.length).map fun i => (List.range x.length).map fun j =>
    F32.sub (if i == j then F32.one else F32.zero) (F32.mul (k.getD i F32.zero) (h.getD j F32.zero))
  (x', matMul ikh p x.length)

def hPrimary : List Real32 := [F32.one, F32.zero, F32.zero, F32.one]
def hOther : List Real32 := [F32.one, F32.zero, F32.zero, F32.zero]

/-- The initial state and covariance (R206). -/
def initEst (z1 z2 : Option Real32) (qgp : Real32) : Option (List Real32 × List (List Real32)) :=
  match z1.orElse fun _ => z2 with
  | some t => some ([t, t, qgp, F32.zero], diag [F32.one, F32.one, F32.ofNat 250000, 0x3E800000#32])
  | none => none

/-- The estimator at a boundary (R205, R206). DEDUCED, unsafe: log entry 10. DEDUCED, unsafe: log entry 74. -/
def estimate (s : State) (z : Nat) (f : Fused) (qgp qd : Real32) : State :=
  let zn := zoneOf s z
  let t := periodT (zoneN s z)
  let s := wrBit (wrBit (wrBit s (zObj z) 0x85 4 (zn.init && f.z2.isNone)) (zObj z) 0x85 0 false) (zObj z) 0x85 15 false
  let restart (s : State) (zn : Zone) (m : List Real32 × List (List Real32)) : State :=
    let s := setZone s z { zn with init := true, x := m.1, p := m.2, coasted := false, prev := none }
    condEnd (wrR (wrBit s (zObj z) 0x85 1 false) (zObj z) 0x99 F32.zero) 24 z (zoneLoc z)
  if !zn.init then
    match initEst f.z1 f.z2 qgp with
    | some m => restart s zn m
    | none => s
  else
    let m := predict s z qgp qd f.z2.isSome
    let rp := zR s z 0x48
    let rs := zR s z 0x49
    if f.z1.isNone && f.z2.isNone then
      let since := F32.add (zR s z 0x99) t
      let s := wrR (wrBit s (zObj z) 0x85 0 true) (zObj z) 0x99 since
      let lost := zn.coasted || F32.ge since (F32.ofNat (rdN s (zObj z) 0x27))
      let s := setZone s z { zn with x := m.1, p := m.2, coasted := lost }
      if lost then condStart (wrBit s (zObj z) 0x85 1 true) 24 z (zoneLoc z) 0xFF else s
    else
      let far : Bool := match f.z1, f.z2 with
        | some v, _ => F32.gt (F32.abs (F32.sub v (dot hPrimary m.1))) (F32.mul (F32.ofNat 3) (F32.sqrt (innovation m.2 hPrimary rp)))
        | none, some v => F32.gt (F32.abs (F32.sub v (dot hOther m.1))) (F32.mul (F32.ofNat 3) (F32.sqrt (innovation m.2 hOther rs)))
        | none, none => false
      if zn.coasted && far then
        match initEst f.z1 f.z2 qgp with
        | some m => restart (wrBit s (zObj z) 0x85 15 true) zn m
        | none => s
      else
        let m := match f.z1 with | some v => updateWith m v hPrimary rp | none => m
        let m := match f.z2 with | some v => updateWith m v hOther rs | none => m
        let s := setZone s z { zn with x := m.1, p := m.2, coasted := false }
        condEnd (wrR (wrBit s (zObj z) 0x85 1 false) (zObj z) 0x99 F32.zero) 24 z (zoneLoc z)

-- Occupancy (R207) ------------------------------------------------------------------------------------------------

/-- New activations per minute over the presence ports, none where no port has a previous count. DEDUCED, unsafe: log entry 70.
-/
def activations (s : State) (z : Nat) : Option Real32 :=
  let d := (List.range 4).filterMap fun k =>
    let n := rdN s (zObj z) (0x0C + k)
    if n > 63 then none else
    match (zoneOf s z).pir.getD k none with
    | some c => some ((rdN s (fpObj n) 0x81 + 2 ^ 32 - c) % 2 ^ 32)
    | none => none
  if d.isEmpty then none
  else some (F32.div (F32.mul (F32.ofNat (d.foldl (· + ·) 0)) (F32.ofNat 60)) (periodT (zoneN s z)))

/-- The raw occupancy estimate. -/
def rawOccupancy (s : State) (z : Nat) (co2 : Sig) : Option Real32 :=
  let cnt := zoneInput s (rdN s (zObj z) 0x0A)
  let t := periodT (zoneN s z)
  let fl := zoneInput s (rdN s (zObj z) 0x0B)
  let qv := if fl.2 then fl.1 else F32.zero
  let nCo2 : Option Real32 :=
    match co2.2, (zoneOf s z).co2 with
    | true, some prev =>
      let a := F32.div (F32.mul (zR s z 0x37) (F32.sub co2.1 prev)) t
      let b := F32.mul qv (F32.sub co2.1 (zR s z 0x38))
      some (F32.max F32.zero (F32.div (F32.mul (F32.add a b) 0x358637BD#32) (zR s z 0x39)))
    | _, _ => none
  let nPir := (activations s z).map fun r => F32.mul r (zR s z 0x3A)
  if cnt.2 then some cnt.1
  else match nCo2, nPir with
    | some a, some b => some (F32.div (F32.add a b) (F32.ofNat 2))
    | some a, none => some a
    | none, some b => some b
    | none, none => none

/-- Smooth the occupancy and remember the previous values; the occupancy of this boundary is answered beside the state, none
while no raw value is valid. N itself is held for the smoothing. DEDUCED, unsafe: log entry 229. -/
def occupancy (s : State) (z : Nat) (co2 : Sig) : State × Option Real32 :=
  let raw := rawOccupancy s z co2
  let zn := zoneOf s z
  let t := periodT (zoneN s z)
  let tau := zR s z 0x3B
  let n : Option Real32 := match raw, zn.occ with
    | some r, some n => some (if F32.lt t tau then F32.add n (F32.mul (F32.div t tau) (F32.sub r n)) else r)
    | some r, none => some r
    | none, n => n
  let counts := (List.range 4).map fun k =>
    let p := rdN s (zObj z) (0x0C + k)
    if p > 63 then none else some (rdN s (fpObj p) 0x81)
  let s := setZone s z { zn with occ := n, co2 := if co2.2 then some co2.1 else none, pir := counts }
  (wrBit s (zObj z) 0x85 7 raw.isNone, if raw.isNone then none else n)

/-- qg_prior for the occupancy of this boundary (R207). -/
def gainPrior (s : State) (z : Nat) (occ : Option Real32) : Real32 :=
  match occ with
  | some n => F32.add (zR s z 0x3C) (F32.mul n (zR s z 0x3D))
  | none => zR s z 0x3C

-- Psychrometrics (R208, R209) -------------------------------------------------------------------------------------

/-- Dew or frost point, humidity ratio and enthalpy. DEDUCED, unsafe: log entry 10. -/
def psychro (s : State) (t rh : Sig) : Sig × Sig × Sig :=
  if !t.2 || !rh.2 then (noSig, noSig, noSig) else
  let k (sub : Nat) : Real32 := rdR s 0x3CC0 sub
  let a := k 0x80; let b := k 0x81; let c := k 0x82
  let es := F32.mul a (Analytic.expF (F32.div (F32.mul b t.1) (F32.add c t.1)))
  let e := F32.mul (F32.div rh.1 (F32.ofNat 100)) es
  let g := Analytic.lnF (F32.div e a)
  let td := F32.div (F32.mul c g) (F32.sub b g)
  let td := if F32.lt td F32.zero then F32.div (F32.mul (k 0x84) g) (F32.sub (k 0x83) g) else td
  let p := rdR s 0x3CC0 0x20
  let w := F32.div (F32.mul (k 0x85) e) (F32.sub p e)
  let h := F32.add (F32.mul (k 0x86) t.1) (F32.mul (F32.div w (F32.ofNat 1000)) (F32.add (k 0x87) (F32.mul (k 0x88) t.1)))
  (if F32.lt rh.1 F32.one then noSig else (td, true),
   if F32.ge e p then noSig else (w, true),
   if F32.ge e p then noSig else (h, true))

/-- The results for outside air that were computed at the tick with t mod 1 000 = 0 before this one are due (R196). DEDUCED,
unsafe: log entry 77. -/
def outsideDue (s : State) : State := if s.tick % 1000 == 0 then { s with outside := s.outsideNext } else s

/-- Outside air at a tick with t mod 1 000 = 0 (R196). -/
def outsideAir (s : State) : State :=
  let t := zoneInput s (rdN s 0x3CC0 1)
  let rh := humidity (zoneInput s (rdN s 0x3CC0 2))
  let (td, w, h) := psychro s t rh
  { s with outsideNext := [t, rh, w, td, h] }

-- Decoupling (R213 to R215) ---------------------------------------------------------------------------------------

/-- Quantity `q` of zone `z` in force. -/
def zoneQ (s : State) (z q : Nat) : Sig := (zR s z (0x87 + q), bit (zoneOf s z).qValid q)
/-- The links of zone `z` that name a neighbour, in order. -/
def linksOf (s : State) (z : Nat) : List Nat := (List.range 8).filter fun l => rdN s (dcObj z) (1 + l) ≤ 63
def neighbour (s : State) (z l : Nat) : Nat := rdN s (dcObj z) (1 + l)

/-- The decoupling term, and whether a link was omitted (R213). -/
def decouple (s : State) (z : Nat) : Real32 × Bool :=
  let ti := zoneQ s z 0
  let ls := linksOf s z
  let use := ls.filter fun l => ti.2 && (zoneQ s (neighbour s z l) 0).2
  (sumF (use.map fun l => F32.mul (rdR s (dcObj z) (0x80 + l)) (F32.sub (zoneQ s (neighbour s z l) 0).1 ti.1)),
   !ti.2 || use.length < ls.length)

/-- The initial coefficients and covariance are shown (R215). -/
def learnInit (s : State) (z : Nat) : State :=
  let s := foldS s (List.range 8) fun s l => wrR s (dcObj z) (0x80 + l) (rdR s (dcObj z) (0x20 + l))
  let s := wrR s (dcObj z) 0x88 (zR s z 0x41)
  let p0 := rdR s (dcObj z) 0x2B
  let n := (linksOf s z).length + (if rdF s (dcObj z) 0x2E then 1 else 0)
  wrR (wrN s (dcObj z) 0x8E 0) (dcObj z) 0x8D (F32.mul p0 (F32.ofNat n))

/-- The learning step starts afresh from the initial coefficients (R215). -/
def learnReset (s : State) (z : Nat) : State :=
  let s := learnInit s z
  let p0 := rdR s (dcObj z) 0x2B
  let zn := zoneOf s z
  setZone s z { zn with rls := diag (List.replicate 9 p0), prev := none, due := zn.due.map fun d => { d with coef := [] } }

/-- The covariance of the decoupling step: P0 × I until it has been set (R215). -/
def learnP (s : State) (z : Nat) : List (List Real32) :=
  let p := (zoneOf s z).rls
  if p.isEmpty then diag (List.replicate 9 (rdR s (dcObj z) 0x2B)) else p

/-- One recursive least-squares step at a boundary of zone `z` (R214), after the estimator's; `qgp` is qg_prior and `valid` says
that the zone's own estimate is valid. The new coefficients, by link with Ho as 8, are answered beside the state: they are in
use from the next boundary. DEDUCED, unsafe: log entry 78. -/
def learnStep (s : State) (z : Nat) (qgp : Real32) (valid : Bool) : State × List (Nat × Real32) :=
  let zn := zoneOf s z
  let g (l : List Real32) (i : Nat) : Real32 := l.getD i F32.zero
  let now := [g zn.x 0, g zn.x 1, zn.heat, qgp]
  let keep (s : State) : State := setZone s z { zoneOf s z with prev := if valid then some now else none }
  match zn.prev with
  | none => (keep s, [])
  | some pv =>
    if rdN s (dcObj z) 0x2F != 1 then (keep s, []) else
    let o := dcObj z
    let t := periodT (zoneN s z)
    let ls := linksOf s z
    let refine := rdF s o 0x2E
    let ix := ls ++ (if refine then [8] else [])
    let toS := s.outside.getD 0 noSig
    let ok := valid && toS.2 && ls.all fun l => (zoneQ s (neighbour s z l) 0).2
    let phi := ix.map fun l => F32.sub (if l == 8 then toS.1 else (zoneQ s (neighbour s z l) 0).1) (g pv 0)
    let ho := rdR s o 0x88
    let y := F32.sub (F32.sub (F32.sub (F32.div (F32.mul (zR s z 0x3E) (F32.sub (g zn.x 0) (g pv 0))) t)
      (F32.mul (zR s z 0x40) (F32.sub (g pv 1) (g pv 0)))) (g pv 2)) (g pv 3)
    let y := if refine then y else F32.sub y (F32.mul ho (F32.sub toS.1 (g pv 0)))
    if !ok then (keep s, [])
    else if F32.lt (phi.foldl (fun m v => F32.max m (F32.abs v)) F32.zero) (rdR s o 0x2D) then (keep (inc s o 0x8C), [])
    else
      let theta := ix.map fun l => rdR s o (0x80 + l)
      let lam := rdR s o 0x2A
      let p := ix.map fun i => ix.map fun j => ((learnP s z).getD i []).getD j F32.zero
      let err := F32.sub y (dot phi theta)
      let pphi := matVec p phi
      let den := F32.add lam (dot phi pphi)
      let k := pphi.map fun v => F32.div v den
      let theta' := (theta.zip k).map fun q => F32.add q.1 (F32.mul q.2 err)
      let coef := (ix.zip theta').map fun q =>
        (q.1, if q.1 == 8 then F32.clamp q.2 F32.zero (F32.ofNat 1000000) else F32.clamp q.2 (rdR s o 0x28) (rdR s o 0x29))
      let row := (List.range ix.length).map fun j => dot phi (column p j)
      let p' := (p.zip k).map fun q => (q.1.zip row).map fun r => F32.div (F32.sub r.1 (F32.mul q.2 r.2)) lam
      let tr := sumF ((List.range ix.length).map fun i => (p'.getD i []).getD i F32.zero)
      let pmax := rdR s o 0x2C
      let big := F32.gt tr pmax
      let p' := if big then p'.map fun r => r.map fun v => F32.div (F32.mul v pmax) tr else p'
      let place (i j : Nat) : Real32 :=
        match ix.findIdx? (· == i), ix.findIdx? (· == j) with
        | some a, some b => (p'.getD a []).getD b F32.zero
        | _, _ => ((learnP s z).getD i []).getD j F32.zero
      let full := (List.range 9).map fun i => (List.range 9).map fun j => place i j
      let errs := (err :: zn.errs).take 100
      let rms := F32.sqrt (F32.div (sumF (errs.map fun e => F32.mul e e)) (F32.ofNat errs.length))
      let s := wrR (wrR (inc s o 0x8B) o 0x8A rms) o 0x8D (if big then pmax else tr)
      (keep (setZone s z { zoneOf s z with rls := full, errs := errs }), coef)

-- The evaluation (R195, R205 to R214) -----------------------------------------------------------------------------

/-- The actuator heat qa (R205). DEDUCED, unsafe: log entry 72. -/
def actuatorHeat (s : State) (z : Nat) : Real32 :=
  sumF ((List.range 8).map fun k =>
    let n := rdN s (zObj z) (0x10 + k)
    if n > 1023 then F32.zero else
    let own := rdF s (lpObj n) 1 && rdN s (lpObj n) 9 == 0x5000 + z * 8 + k
    let v := if own then some (forwarded s z k) else (loopOf s n).u
    match v with
    | some a => F32.mul (zR s z (0x4A + k)) a
    | none => F32.zero)

/-- The results due take force (R195, R197): quantities, margins and supplied set-points. DEDUCED, unsafe: log entry 71. -/
def zoneResultsDue (s : State) (z : Nat) : State :=
  match (zoneOf s z).due with
  | some d =>
    if d.at_ != s.now then s else
    let val (x : Sig) : Real32 := if x.2 then x.1 else F32.zero
    let mask (l : List Sig) : Nat := (List.range l.length).foldl (fun m i => if (l.getD i noSig).2 then m + 2 ^ i else m) 0
    let old := zoneQ s z 7
    let s := setZone s z { zoneOf s z with due := none, qValid := mask d.qs }
    let s := foldS s (List.range 16) fun s q => wrR s (zObj z) (0x87 + q) (val (d.qs.getD q noSig))
    let s := foldS s (List.range 4) fun s j =>
      wrR (wrR (wrR s (sfObj z) (0x80 + j) (val (d.temps.getD j noSig))) (sfObj z) (0x84 + j) (val (d.margins.getD j noSig)))
        (sfObj z) (0x88 + j) (val (d.dews.getD j noSig))
    let s := wrN s (sfObj z) 0x8C (mask d.margins + 16 * d.alarm)
    let s := foldS s d.coef fun s q => wrR s (dcObj z) (0x80 + q.1) q.2
    let s := foldS s (List.range 5) fun s k =>
      let n := rdN s (zObj z) (0x10 + k)
      if n ≤ 1023 then deliverTo s (0x3000 + n) (d.sp.getD k F32.zero) true else s
    if zoneQ s z 7 == old then s else regate s z
  | none => s

/-- The margin alarm (R211). DEDUCED, unsafe: log entry 75. -/
def marginAlarm (s : State) (z : Nat) (q13 : Sig) : State :=
  let zn := zoneOf s z
  let low := q13.2 && F32.lt q13.1 (zR s z 0x32)
  if low then
    let t0 := zn.lowSince.getD s.now
    let s := setZone s z { zn with lowSince := some t0 }
    if s.now ≥ t0 + 600000 then condStart (wrBit s (zObj z) 0x85 13 true) 25 z (zoneLoc z) 0xFF else s
  else
    let s := setZone s z { zn with lowSince := none }
    if q13.2 then condEnd (wrBit s (zObj z) 0x85 13 false) 25 z (zoneLoc z) else s

/-- The evaluation of zone `z` at its boundary. DEDUCED, unsafe: log entry 71. -/
def zoneEvaluate (s : State) (z : Nat) : State :=
  let rh := humidity (zoneInput s (rdN s (zObj z) 8))
  let co2 := zoneInput s (rdN s (zObj z) 9)
  let co2 : Sig := if co2.2 && F32.le F32.zero co2.1 && F32.le co2.1 (F32.ofNat 10000) then co2 else noSig
  let s := wrBit (wrBit s (zObj z) 0x85 5 (!rh.2)) (zObj z) 0x85 6 (!co2.2)
  let (s, persons) := occupancy s z co2
  let qgp := gainPrior s z persons
  let (d, omitted) := decouple s z
  let s := wrBit s (zObj z) 0x85 14 omitted
  let wasInit := (zoneOf s z).init
  let pred := if wasInit then
      let m := predict s z qgp d true
      some (m.1.getD 0 F32.zero, m.1.getD 3 F32.zero)
    else none
  let f := fuse s z pred
  let s := wrBit (wrBit s (zObj z) 0x85 2 (f.rejected != 0)) (zObj z) 0x85 3 f.disagree
  let s := wrN s (zObj z) 0x98 (f.kept + 16 * f.rejected)
  let s := estimate s z f qgp d
  let s := setZone s z { zoneOf s z with heat := actuatorHeat s z }
  let zn := zoneOf s z
  let ok := zn.init && !zn.coasted
  let (s, coef) := if wasInit && !rdBit s (zObj z) 0x85 15 then learnStep s z qgp ok else (s, [])
  let est (i : Nat) : Sig := if ok then (zn.x.getD i F32.zero, true) else noSig
  let (td, w, h) := psychro s (if f.q4.2 then f.q4 else est 0) rh
  let (hsp, csp, adj, clamped) := setPoints s z
  let s := wrBit (wrBit s (zObj z) 0x85 11 adj) (zObj z) 0x85 12 clamped
  let temps := (List.range 4).map fun j => zoneInput s (rdN s (sfObj z) (1 + j))
  let dews := (List.range 4).map fun j =>
    let a := rdN s (sfObj z) (5 + j)
    if a == 64 then s.outside.getD 3 noSig else zoneQ s a 8
  let margins := (List.range 4).map fun j =>
    let a := temps.getD j noSig
    let b := dews.getD j noSig
    if a.2 && b.2 then (F32.sub a.1 b.1, true) else noSig
  let alarm := (List.range 4).foldl (fun m j =>
    let x := margins.getD j noSig
    if x.2 && F32.lt x.1 (zR s z 0x32) then m + 2 ^ j else m) 0
  let ctl := ((List.range 4).filter fun j => rdF s (sfObj z) (0x20 + j) && (margins.getD j noSig).2).map fun j => (margins.getD j noSig).1
  let q13 : Sig := match ctl with
    | [] => noSig
    | m :: t => (t.foldl F32.min m, true)
  let s := marginAlarm s z q13
  let occ : Sig := match persons with | some n => (n, true) | none => noSig
  let qs := [est 0, est 1, est 2, est 3, f.q4, rh, co2, occ, td, w, h, (hsp, true), (csp, true), q13, (d, true),
             (F32.ofNat (rdN s (zObj z) 0x83), true)]
  let sp := [hsp, csp, zR s z 0x34, zR s z 0x33, zR s z 0x31]
  setZone s z { zoneOf s z with due := some { at_ := s.now + zoneN s z, qs := qs, temps := temps, margins := margins, dews := dews, alarm := alarm, sp := sp, coef := coef } }

-- Enabling, disabling, starting -----------------------------------------------------------------------------------

/-- A zone starts afresh (R206, R216, R217): enabled by a commit, or at the operational tick. The changeover timers of its
interlock run on (R199). DEDUCED, unsafe: log entry 80. -/
def zoneStart (s : State) (z : Nat) : State :=
  let old := zoneOf s z
  let s := wrN (wrN s (zObj z) 0x85 0) (zObj z) 0x9A (zonePhase s z)
  setZone s z { chan := old.chan, gate := 255, stopHeat := old.stopHeat, stopCool := old.stopCool, rls := old.rls, ttMode := old.ttMode, ttEntry := old.ttEntry, ttProfile := old.ttProfile, ttInForce := old.ttInForce }

/-- A zone disabled by a commit (R194). DEDUCED, unsafe: log entry 80. -/
def zoneEnd (s : State) (z : Nat) : State :=
  let old := zoneOf s z
  let s := setZone s z { gate := 255, stopHeat := old.stopHeat, stopCool := old.stopCool, rls := old.rls, ttMode := old.ttMode, ttEntry := old.ttEntry, ttProfile := old.ttProfile, ttInForce := old.ttInForce }
  let s := foldS s (List.range 16) fun s q => wrN s (zObj z) (0x87 + q) 0
  let s := foldS s (List.range 13) fun s q => wrN s (sfObj z) (0x80 + q) 0
  let s := wrN s (zObj z) 0x85 0
  condEnd (condEnd s 24 z (zoneLoc z)) 25 z (zoneLoc z)

/-- A bound loop no longer gets a set-point. -/
def unsupply (s : State) (z k : Nat) : State :=
  let n := rdN s (zObj z) (0x10 + k)
  if k ≤ 4 && n ≤ 1023 then deliverTo s (0x3000 + n) F32.zero false else s

/-- A write of 1 to 0x3C00+z:86 takes effect at a boundary (R206). -/
def zoneReinit (s : State) (z : Nat) : State := setZone s z { zoneOf s z with init := false }

-- Refusals of writes (R202, R205) ---------------------------------------------------------------------------------

/-- The time constants of a zone's estimator stay within the bounds of R205: `v` reads a sub-index of the zone's object. -/
def estimatorOk (n : Nat) (v : Nat → Real32) : Bool :=
  let q (k : Nat) : Rat := F32.toRat (v k)
  let t : Rat := mkRat (n : Int) 10000
  decide (t * (q 0x40 + q 0x41) * 2 < q 0x3E) && decide (t * (q 0x40 + q 0x42) * 2 < q 0x3F) && decide (t * 2 < q 0x43)

/-- An enclosure's panel band is at least the deadband wide (R202). -/
def bandOk (cls : Nat) (v : Nat → Real32) : Bool := cls != 3 || !F32.lt (F32.sub (v 0x30) (v 0x2F)) (v 0x2A)

end Sys2Proof.Machine
end

