-- ==== Sys2Proof/Machine/Timetable.lean ====
section
/-! DEFINITION. The timetable: entries, profiles and pulse shapes, local time, the walk, clock steps, and staged editing
(R223 to R241). -/
namespace Sys2Proof.Machine
open Sys2Proof Sys2Proof.OD

-- Checks of written values (R223, R225, R226, R241) ---------------------------------------------------------------

def byteOf (b : List Byte) (i : Nat) : Nat := (b.getD i 0#8).toNat

/-- An entry of 16 bytes is acceptable (R223). -/
def entryOk (b : List Byte) : Bool :=
  let k := byteOf b 12 % 8
  let t := leNat (b.take 4)
  let p0 := byteOf b 14
  let p1 := byteOf b 15
  let prof := p0 ≤ 63 || p0 == 255
  byteOf b 12 < 32 && k ≤ 4 && (k == 0 ||
    ((t ≥ 2 ^ 31 || t ≤ 604799) &&
      match k with
      | 1 => prof && p1 == 0
      | 2 => (p0 == 1 || p0 == 2 || p0 == 4) && p1 == 0
      | 3 => prof && p1 ≥ 1
      | _ => p0 ≤ 31))

/-- A half of a profile (R225). -/
def halfOk (h : Nat) : Bool := h == 0x8000 || (decide (-4000 ≤ signed 2 h) && decide (signed 2 h ≤ 8500))
def profileOk (v : Nat) : Bool := halfOk (v % 65536) && halfOk (v / 65536)
/-- A pulse shape's τ and k are not 0 (R226). -/
def shapeOk (v : Nat) : Bool := v / 65536 % 256 != 0 && v / 2 ^ 24 != 0
/-- A UTC offset in minutes (R241). -/
def offsetOk (m : Int) : Bool := decide (-840 ≤ m) && decide (m ≤ 840) && m % 15 == 0
/-- A transition (R241); its offset is checked also where it is unused. -/
def transitionOk (v : Nat) : Bool := v / 2 ^ 48 == 0 && offsetOk (signed 2 (v / 2 ^ 32 % 65536))

/-- The abort code of a write of `b` to a staged sub-index, 0 when its value is acceptable. -/
def ttValueRefusal (idx sub : Nat) (b : List Byte) : Nat :=
  let v := leNat b
  let ok :=
    if idx == 0x4F00 then (if sub ≤ 0x40 then profileOk v else if sub ≤ 0x60 then shapeOk v else true)
    else if idx == 0x4F10 then (if sub ≤ 0x20 then transitionOk v else offsetOk (signed 2 v))
    else entryOk b
  if ok then 0 else 0x06090030

-- Local time (R231, R232) -----------------------------------------------------------------------------------------

/-- Used transitions: UTC second and offset in minutes. -/
def transitions (get : Nat → Nat) : List (Nat × Int) :=
  (List.range 32).filterMap fun i =>
    let v := get (i + 1)
    if v % 2 ^ 32 == 0xFFFFFFFF then none else some (v % 2 ^ 32, signed 2 (v / 2 ^ 32 % 65536))

/-- The transitions may be committed (R231): consecutive from the first slot, ascending, 86 400 s apart. -/
def transitionsOk (get : Nat → Nat) : Bool :=
  let used (i : Nat) : Bool := get (i + 1) % 2 ^ 32 != 0xFFFFFFFF
  (List.range 31).all fun i => !used (i + 1) || (used i && get (i + 1) % 2 ^ 32 + 86400 ≤ get (i + 2) % 2 ^ 32)

/-- The stretches of one offset: first UTC second, end, offset in seconds. -/
def stretches (base : Int) : List (Nat × Int) → Nat → List (Nat × Nat × Int)
  | [], s => [(s, 2 ^ 40, base * 60)]
  | (t, o) :: r, s => (s, t, base * 60) :: stretches o r t

def offsetStretches (s : State) : List (Nat × Nat × Int) :=
  stretches (rdI s 0x4F10 0x21) (transitions fun i => rdN s 0x4F10 i) 0

/-- The offset in force at a UTC second, minutes (0x4F00:88). -/
def offsetAt (s : State) (u : Nat) : Int :=
  match (offsetStretches s).find? fun x => x.1 ≤ u && u < x.2.1 with
  | some x => x.2.2 / 60
  | none => 0

/-- UTC seconds from `a` on, below `e`, a week apart. -/
def weeksFrom (a e : Nat) : List Nat := (List.range ((e - a + 604799) / 604800)).map fun i => a + 604800 * i

/-- The occurrences of a weekly entry with local week second `w` in [u0, u1] (R232). -/
def weekly (sts : List (Nat × Nat × Int)) (w u0 u1 : Nat) : List Nat :=
  sts.flatMap fun st =>
    let (a, e, o) := st
    let lo := Nat.max a u0
    let hi := Nat.min e (u1 + 1)
    if lo ≥ hi then [] else
    -- the first UTC second from lo on whose local week second is w
    let ws := ((lo : Int) + o - 172800) % 604800
    let first := lo + (((w : Int) - ws) % 604800).toNat
    let regular : List Nat := (weeksFrom first hi).filter fun (u : Nat) =>
      -- a local second that occurs twice counts at its first only
      !(sts.any fun p => p.1 < a &&
        (let v : Int := (u : Int) + o - p.2.2
         decide ((p.1 : Int) ≤ v) && decide (v < (p.2.1 : Int))))
    -- local seconds that this stretch's transition skipped
    let skipped : List Nat := match sts.find? fun p => p.2.1 == a with
      | some p =>
        let gap := (((w : Int) - ((a : Int) + p.2.2 - 172800)) % 604800)
        if lo == a && a ≥ u0 && p.2.2 < o && gap < o - p.2.2 then [a] else []
      | none => []
    (skipped : List Nat) ++ regular

-- Actions (R224) --------------------------------------------------------------------------------------------------

/-- The entries of the active table that can yield actions: number and bytes. -/
def ttEntries (s : State) : List (Nat × List Byte) :=
  (s.dict.filter fun p => within (p.1 / 256) 0x5000 0x507F && p.1 % 256 ≥ 1 && byteOf p.2 12 % 8 != 0 && byteOf p.2 12 / 8 % 2 == 0).map
    fun p => ((p.1 / 256 - 0x5000) * 128 + p.1 % 256 - 1, p.2)

/-- The actions of one entry with instants in [u0, u1], looking back no further than `wk` for weekly entries. -/
def entryActions (sts : List (Nat × Nat × Int)) (e : Nat) (b : List Byte) (u0 wk u1 : Nat) : List Action :=
  let t := leNat (b.take 4)
  let k := byteOf b 12 % 8
  let lead := 60 * byteOf b 13
  let wkly := t < 2 ^ 31
  let lo := if wkly then Nat.max u0 wk else u0
  let occ := if wkly then weekly sts t lo (u1 + lead) else [t - 2 ^ 31]
  let mk (kind te i : Nat) : Action :=
    { instant := i, weekly := wkly, entry := e, kind := kind, te := te, mask := leNat ((b.drop 4).take 8),
      p0 := byteOf b 14, p1 := byteOf b 15, log := byteOf b 12 / 16 % 2 == 1 }
  let early (kind te : Nat) : List Action := if te ≥ lead then [mk kind te (te - lead)] else []
  (occ.flatMap fun te =>
    match k with
    | 1 => early 0 te
    | 2 => (if byteOf b 14 == 4 && lead > 0 then early 2 te else []) ++ [mk 1 te te]
    | 3 => (if lead > 0 then early 3 te else []) ++ [mk 4 te te]
    | _ => early 6 te).filter fun a => lo ≤ a.instant && a.instant ≤ u1

/-- The order of R229. -/
def actionLe (a b : Action) : Bool :=
  if a.instant != b.instant then a.instant < b.instant
  else if a.weekly != b.weekly then a.weekly
  else if a.entry != b.entry then a.entry < b.entry
  else a.kind ≤ b.kind

def insertAction (a : Action) : List Action → List Action
  | [] => [a]
  | b :: t => if actionLe b a then b :: insertAction a t else a :: b :: t

/-- The zones an action applies to: those of its mask that are enabled (R224). -/
def actionZones (s : State) (a : Action) : List Nat := (enabledZones s).filter fun z => bit a.mask z

/-- All actions with instants in [u0, u1] and a zone to act on, in order. -/
def actionsIn (s : State) (u0 wk u1 : Nat) : List Action :=
  let sts := offsetStretches s
  let l := (ttEntries s).flatMap fun p => entryActions sts p.1 p.2 u0 wk u1
  (l.filter fun a => !(actionZones s a).isEmpty).foldl (fun t a => insertAction a t) []

-- Applying actions ------------------------------------------------------------------------------------------------

def setTT (s : State) (w : Walker) : State := { s with tt := w }

/-- A pulse instance starts, if a slot is free (R226, R227). -/
def startInst (s : State) (z shape mag secs : Nat) : State :=
  let w := s.tt
  if w.insts.length ≥ 1024 then event (setTT s { w with noSlot := w.noSlot + 1 }) 28 0
  else setTT s { w with insts := w.insts ++ [{ zone := z, shape := rdN s 0x4F00 (0x41 + shape), mag := mag, secs := secs }] }

/-- The end of an instance's pulse, seconds (R226). -/
def instEnd (shape : Nat) : Nat := shape % 256 + shape / 256 % 256 + 5 * (shape / 65536 % 256)

/-- The value of an instance, W (R226). -/
def instValue (i : Inst) : Real32 :=
  let r := i.shape % 256
  let h := i.shape / 256 % 256
  let tau := i.shape / 65536 % 256
  let peak := F32.ofNat (i.mag * (i.shape / 2 ^ 24) * 10)
  let x :=
    if i.secs < r then F32.ofFrac i.secs r
    else if i.secs < r + h then F32.one
    else Analytic.expF (F32.neg (F32.ofFrac (i.secs - r - h : Nat) tau))
  F32.mul peak x

/-- A window or lead of a zone begins (R224, R230). -/
def putWin (w : Walker) (a : Action) (z : Nat) (isOpen : Bool) (rank : Int) (secs : Nat) : Walker :=
  let rest := w.wins.filter fun x => !(x.zone == z && x.entry == a.entry && x.te == a.te)
  { w with wins := { zone := z, entry := a.entry, te := a.te, isOpen := isOpen, profile := a.p0, rank := rank, secs := secs,
                     dur := 60 * a.p1, weekly := a.weekly, log := a.log } :: rest }

/-- What an action does to one zone (R224). -/
def actOn (s : State) (a : Action) (z : Nat) : State :=
  let w := s.tt
  let isOpen := w.wins.any fun x => x.zone == z && x.entry == a.entry && x.te == a.te && x.isOpen
  match a.kind with
  | 0 => setTT s { w with prof := Tab.put w.prof z a.p0 }
  | 1 => setTT s { w with mode := Tab.put w.mode z a.p0 }
  | 2 => setTT s { w with lead := Tab.upd w.lead z 0 (Nat.max a.te) }
  | 3 => if isOpen then s else setTT s (putWin w a z false w.seq 0)
  | 4 => setTT s (putWin w a z true w.seq 0)
  | 5 => setTT s { w with wins := w.wins.filter fun x => !(x.zone == z && x.entry == a.entry && x.te == a.te && x.isOpen) }
  | _ => startInst s z a.p0 a.p1 0

/-- An action is counted and, for an entry with LOG, entered in the log (R223). -/
def countAction (s : State) (a : Action) : State :=
  let s := setTT s { s.tt with applied := s.tt.applied + 1, seq := s.tt.seq + 1 }
  if a.log then logAdd s 0x0060 0 0xFF a.entry else s

/-- Apply an action to its zones; a close ends its window also in a zone disabled since it was due (R224). -/
def applyAction (s : State) (a : Action) : State :=
  foldS (countAction s a) (if a.kind == 5 then (List.range 64).filter (bit a.mask) else actionZones s a) fun s z => actOn s a z

/-- Apply up to 256 actions; the rest are deferred in order (R229). -/
def applyActions (s : State) (l : List Action) : State :=
  let s := foldS s (l.take 256) applyAction
  let rest := l.drop 256
  let s := setTT s { s.tt with deferred := rest, nDeferred := s.tt.nDeferred + rest.length }
  if rest.isEmpty then s else event s 27 0

/-- An action discarded by a step (R234 step 4). DEDUCED, unsafe: log entry 85. -/
def discardAction (s : State) (a : Action) : State :=
  let w := s.tt
  eventWith (setTT s { w with discarded := w.discarded + 1,
                              wins := w.wins.filter fun x => !(x.entry == a.entry && x.te == a.te) }) 26 0 0x0061 a.entry 0xFF

/-- Running instances and open windows advance by `k` walks; the closes that fall due at N are answered (R224, R226, R234). The
window of a zone disabled meanwhile ends without an action (R224). DEDUCED, unsafe: log entry 88. -/
def advanceWalk (s : State) (k n : Nat) : State × List Action :=
  let w := s.tt
  let insts := (w.insts.map fun i => { i with secs := i.secs + k }).filter fun i => i.secs < instEnd i.shape
  let wins := w.wins.map fun x => if x.isOpen then { x with secs := x.secs + k } else x
  let runOut (x : Win) : Bool := x.isOpen && x.dur ≤ x.secs && x.secs < x.dur + k
  let here (x : Win) : Bool := rdF s (zObj x.zone) 1
  let ended := wins.filter fun x => runOut x && here x
  let closes := ended.foldl (fun (l : List Action) x =>
    match l.find? fun a => a.entry == x.entry && a.te == x.te with
    | some _ => l.map fun a => if a.entry == x.entry && a.te == x.te then { a with mask := setBit a.mask x.zone true } else a
    | none => { instant := n, weekly := x.weekly, entry := x.entry, kind := 5, te := x.te, mask := 2 ^ x.zone, p0 := x.profile,
                p1 := x.dur / 60, log := x.log } :: l) []
  (setTT s { w with insts := insts, wins := wins.filter fun x => here x || !runOut x }, closes)

/-- How far back a weekly action can lie that still decides a state: a week, the widest change of offset and the longest
lead. -/
def weeklyBack (n : Nat) : Nat := n - (604800 + 2 * 50400 + 60 * 255)

/-- The STATE, MODE and lead state for second N (R235, R236, R239); `fresh` also opens the windows that contain N. DEDUCED,
unsafe: log entry 82. -/
def reevaluate (s : State) (n : Nat) (fresh : Bool) : State :=
  let w := s.tt
  let s := setTT s { w with prof := [], mode := [], lead := [], wins := if fresh then [] else w.wins.filter (·.isOpen) }
  let acts := actionsIn s 0 (weeklyBack n) n
  let base : Int := -(acts.length : Int) - 1
  let r := acts.foldl (init := (s, base)) fun p a =>
    let (s, rank) := p
    let s := foldS s (actionZones s a) fun s z =>
      let w := s.tt
      let known := w.wins.any fun x => x.zone == z && x.entry == a.entry && x.te == a.te
      match a.kind with
      | 0 => setTT s { w with prof := Tab.put w.prof z a.p0 }
      | 1 => setTT s { w with mode := Tab.put w.mode z a.p0 }
      | 2 => if n < a.te then setTT s { w with lead := Tab.upd w.lead z 0 (Nat.max a.te) } else s
      | 3 => if n < a.te && !known then setTT s (putWin w a z false rank 0) else s
      | 4 => if fresh && n < a.te + 60 * a.p1 then setTT s (putWin w a z true rank (n - a.te)) else s
      | _ => s
    (s, rank + 1)
  r.1

/-- Apply an action by `f` while the walk has room for it (R229); without room it is deferred. -/
def spend (p : State × Nat × List Action) (a : Action) (f : State → State) : State × Nat × List Action :=
  if p.2.1 == 0 then (p.1, 0, p.2.2 ++ [a]) else (f p.1, p.2.1 - 1, p.2.2)

/-- The skipped interval of a forward step (R234 steps 1, 3 and 4), with `room` actions left in the walk; the room that remains
and the actions deferred are answered beside the state. DEDUCED, unsafe: log entry 85. -/
def skipInterval (s : State) (a b n room : Nat) : State × Nat × List Action :=
  let acts := actionsIn s a (weeklyBack a) b
  let lastOf (kind z : Nat) : Option Action := (acts.filter fun x => x.kind == kind && (actionZones s x).contains z).getLast?
  let p := (acts.filter fun x => x.kind ≤ 1).foldl (init := (s, room, [])) fun p x =>
    let zs := (actionZones s x).filter fun z => lastOf x.kind z == some x
    if zs.isEmpty then p
    else spend p { x with mask := zs.foldl (fun m z => setBit m z true) 0 } fun s => foldS (countAction s x) zs fun s z => actOn s x z
  acts.foldl (init := p) fun p x =>
    let fires := s.tt.high < x.instant
    let drop : State × Nat × List Action := (discardAction p.1 x, p.2)
    match x.kind with
    | 2 => if n < x.te then spend p x fun s => applyAction s x else p
    | 3 => if !fires then p else if n ≤ x.te then spend p x fun s => applyAction s x else drop
    | 4 => if fires then drop else p
    | 6 =>
      if !fires then p
      else if n - x.instant < instEnd (rdN s 0x4F00 (0x41 + x.p0)) then
        spend p x fun s => foldS (countAction s x) (actionZones s x) fun s z => startInst s z x.p0 x.p1 (n - x.instant)
      else drop
    | _ => p

/-- The walk of second N (R229, R233 to R236); `taken` says that it takes a committed table (R239). DEDUCED, unsafe: log entry
82. DEDUCED, unsafe: log entry 88. -/
def walkSecond (s : State) (n : Nat) (taken : Bool) : State :=
  let w := s.tt
  if w.nothing then
    let s := setTT s { w with insts := [], deferred := [], wins := [], nothing := false }
    let s := reevaluate s n true
    setTT s { s.tt with last := n, high := n - 1 }
  else
    let l := w.last
    let old := w.deferred
    let (s, closes) := advanceWalk s (if l < n then n - l else 1) n
    let s := setTT s { s.tt with deferred := [] }
    let s := foldS s (old.take 256) applyAction
    let kept := old.drop 256
    let s := if n ≤ l || taken then reevaluate s n false else s
    let (s, room, late) := if l + 1 < n then skipInterval s (l + 1) (n - 1) n (256 - old.length) else (s, 256 - old.length, [])
    let fire (a : Action) : Bool := if a.kind ≤ 2 then l < n else s.tt.high < a.instant
    let now := ((actionsIn s n (weeklyBack n) n).filter fire)
    let all := closes.foldl (fun t a => insertAction a t) now
    let s := foldS s (all.take room) applyAction
    let rest := kept ++ late ++ all.drop room
    let s := setTT s { s.tt with deferred := rest, nDeferred := s.tt.nDeferred + rest.length, last := n, high := Nat.max s.tt.high n }
    if rest.isEmpty then s else event s 27 0

-- What the walk supplies (R226, R230) -----------------------------------------------------------------------------

/-- The window of a list applied last. -/
def lastWin (l : List Win) : Option Win :=
  l.foldl (fun b x => match b with | some y => if y.rank < x.rank then some x else b | none => some x) none

/-- Mode supplied, whether an entry applies, profile used, profile in force, for zone `z` at second N. DEDUCED, unsafe: log
entry 87. -/
def supplyOf (s : State) (z n : Nat) : Nat × Bool × Nat × Nat :=
  let w := s.tt
  let p := Tab.get w.prof z 255
  let mine := w.wins.filter (·.zone == z)
  match lastWin (mine.filter (·.isOpen)), lastWin (mine.filter fun x => !x.isOpen && n < x.te) with
  | some x, _ => (4, true, x.profile, p)
  | none, some x => (3, true, x.profile, p)
  | none, none =>
    let m := Tab.find w.mode z
    if n < Tab.get w.lead z 0 && m != some 4 then (3, true, p, p)
    else match m with
      | some m => (m, true, p, p)
      | none => (2, false, p, p)

/-- The results of the walk just made, due at an own tick. -/
def walkResults (s : State) (n due : Nat) (commits : Bool) : WalkDue :=
  let w := s.tt
  let zs := List.range 64
  { at_ := due, supply := zs.map fun z => supplyOf s z n
    chan := zs.map fun z => sumF ((w.insts.filter (·.zone == z)).map instValue)
    words := [w.last, w.high, unsignedOf 2 (offsetAt s n), w.applied, w.nDeferred, w.discarded, w.noSlot, w.insts.length]
    commits := commits }

/-- The walker walks (R236). -/
def walks (s : State) : Bool := s.counting && rdF s 0x2300 0x09 && rdF s 0x4F00 0x61

/-- The walker holds something that it clears when it stops walking (R236). -/
def walkerBusy (s : State) : Bool :=
  !s.tt.nothing || !s.tt.due.isEmpty || !s.tt.insts.isEmpty || !s.tt.wins.isEmpty

/-- Supply mode, profile and channels to the zones (R228, R236). DEDUCED, unsafe: log entry 87. -/
def supplyZones (s : State) (sup : List (Nat × Bool × Nat × Nat)) (insts : List Nat) (ch : List Real32) : State :=
  let s := foldS s (List.range 64) fun s z =>
    let (m, e, u, p) := sup.getD z (2, false, 255, 255)
    let x := zoneOf s z
    let y : Zone := { x with ttMode := m, ttEntry := e, ttProfile := u, ttInForce := p }
    let s := if x == y then s else setZone s z y
    wrN s 0x4F00 (0xC0 + z) (p + 256 * m + 4096 * Nat.min 15 (insts.getD z 0))
  let t := (List.range 64).foldl (fun t z => if F32.isZero (ch.getD z F32.zero) then t else Tab.put t z (ch.getD z F32.zero)) []
  wrB { s with ttChan := t } 0x4F00 0x8E ((List.range 64).map fun z => leBytes 4 (ch.getD z F32.zero).toNat).flatten

/-- The walker stops walking (R236); a commit that a walk took is still answered at that walk's due tick (R239). DEDUCED,
unsafe: log entry 83. -/
def walkerStop (s : State) : State :=
  let w := s.tt
  let owed := (w.due.filter (·.commits)).map fun d => { d with supply := [], chan := [], words := d.words.take 7 }
  let s := setTT s { w with nothing := true, prof := [], mode := [], lead := [], wins := [], insts := [], deferred := [], due := owed }
  wrN (supplyZones s [] [] []) 0x4F00 0x8D 0

-- Staged editing (R238, R239) -------------------------------------------------------------------------------------

/-- A value of the table that a commit of the staging copy would give. -/
def ttWould (s : State) (idx sub : Nat) : List Byte := Tab.get s.ttStaged (key idx sub) (rdB s idx sub)

/-- The abort code of the checks of a commit (R3, R231, R239 step 2), 0 when they pass. -/
def ttCommitRefusal (s : State) : Nat :=
  if !transitionsOk (fun i => leNat (ttWould s 0x4F10 i)) then 0x06040043
  else if s.zh6432 && (
      (s.dict.any fun p => within (p.1 / 256) 0x5000 0x507F && (Tab.find s.ttStaged p.1).isNone &&
        byteOf p.2 12 % 8 != 0 && leNat ((p.2.drop 8).take 4) != 0) ||
      (s.ttStaged.any fun p => within (p.1 / 256) 0x5000 0x507F && byteOf p.2 12 % 8 != 0 && leNat ((p.2.drop 8).take 4) != 0))
    then 0x06040043
  else 0

/-- The staging copy becomes the active table. -/
def ttActivate (s : State) : State :=
  let s := foldS (eccMended s (s.ttStaged.map (·.1))) s.ttStaged fun s p => { s with dict := dictPut s.dict p.1 p.2 }
  { s with ttStaged := [] }

/-- Step 4 of a commit (R239): the answer, the version, the digest (R59) and the log entry. -/
def ttCommitDone (s : State) : State :=
  let s := rehash (inc s 0x4F00 0x81)
  let s := wrN (wrN (wrN s 0x4F00 0x85 0) 0x4F00 0x83 0) 0x4F00 0x84 0
  let s := logAdd s 0x0081 0 0xFF (rdN s 0x4F00 0x81)
  match s.tt.answerTo with
  | some c => later (setTT s { s.tt with answerTo := none }) c 0x4F00 0 []
  | none => s

/-- 0x4F00:80 = 1 (R239 steps 1 and 2). -/
def ttCommit (s : State) (client : Nat) : State :=
  if rdN s 0x4F00 0x83 == 2 then abort s client 0x08000022
  else if s.ttStaged.isEmpty then success s client
  else
    let c := ttCommitRefusal s
    if c != 0 then abort (wrN (wrN s 0x4F00 0x85 c) 0x4F00 0x83 1) client c
    else setTT (wrN s 0x4F00 0x83 2) { s.tt with commit := some client }

/-- 0x4F00:80 = 2. -/
def ttDiscard (s : State) (client : Nat) : State :=
  if rdN s 0x4F00 0x83 == 2 then abort s client 0x08000022
  else success (wrN (wrN { s with ttStaged := [] } 0x4F00 0x83 0) 0x4F00 0x84 0) client

/-- A checked write enters the timetable staging copy (R238). -/
def ttStage (s : State) (idx sub : Nat) (b : List Byte) : State :=
  let t := Tab.put s.ttStaged (key idx sub) b
  wrN (wrN { s with ttStaged := t } 0x4F00 0x83 1) 0x4F00 0x84 t.length

/-- A commit that no walk can take: made at the tick after its checks (R239). -/
def ttCommitIdle (s : State) : State :=
  match s.tt.commit with
  | some c =>
    if walks s then s else
    let s := ttActivate (setTT s { s.tt with commit := none, answerTo := some c })
    ttCommitDone s
  | none => s

/-- The walk of the current second at tick t_S (R228): the results are due at t_S + 200. DEDUCED, unsafe: log entry 83. -/
def timetableWalk (s : State) : State :=
  if !s.tt.pulse then s else
  let s := setTT s { s.tt with pulse := false }
  if !walks s then walkerStop s else
  let n := s.cal.secs
  let taken := s.tt.commit.isSome
  let s := if taken then ttActivate (setTT s { s.tt with answerTo := s.tt.commit, commit := none }) else s
  -- a new table may have disabled the walker
  if !walks s then
    walkerStop (ttCommitDone s)
  else
    let s := walkSecond s n taken
    setTT s { s.tt with due := s.tt.due ++ [walkResults s n (s.now + 200) taken] }

/-- The results of a walk come into force at own tick `own` (R228). -/
def walkDue (s : State) (own : Nat) : State :=
  match s.tt.due with
  | d :: rest =>
    if own < d.at_ then s else
    let s := setTT s { s.tt with due := rest }
    let counts := (List.range 64).map fun z => (s.tt.insts.filter (·.zone == z)).length
    let s := supplyZones s d.supply counts d.chan
    let s := foldS s (List.range 8) fun s i => wrN s 0x4F00 (0x86 + i) (d.words.getD i 0)
    if d.commits then ttCommitDone s else s
  | [] => s

end Sys2Proof.Machine
end

