-- ==== Sys2Proof/Machine/Store.lean ====
section
/-! DEFINITION. The persistent store: records and banks, the areas, queued store items, the journal and the bunting-log
mirror (R59 to R62, R416 to R424, R457). -/
namespace Sys2Proof.Machine
open Sys2Proof Sys2Proof.OD

-- Records (R416 to R420) ------------------------------------------------------------------------------------------

def storeRecord (s : State) (tag : Nat) : Record := Tab.get s.store.recs tag {}
def setRecord (s : State) (tag : Nat) (r : Record) : State := { s with store := { s.store with recs := Tab.put s.store.recs tag r } }

/-- Bank 1 holds the newest valid copy (R419). -/
def newestIs1 (r : Record) : Bool :=
  match r.b0, r.b1 with
  | some a, some b => within ((b.seq + 2 ^ 32 - a.seq) % 2 ^ 32) 1 (2 ^ 31 - 1)
  | none, some _ => true
  | _, _ => false

/-- The newest valid bank. DEDUCED, unsafe: log entry 178. -/
def newest (r : Record) : Option Bank := if newestIs1 r then r.b1 else r.b0

/-- KB of a record's bank (R423). -/
def bankKB (tag : Nat) : Nat :=
  if tag == 0x100 then 48
  else if within tag 0x200 0x205 then 64
  else if within tag 0x300 0x303 then 68
  else if tag == 0x800 then 68
  else if tag == 0x801 then 48
  else 4

/-- The records' number in ascending tag order (R433). -/
def recordNo (tag : Nat) : Nat :=
  ([0x100, 0x200, 0x201, 0x202, 0x203, 0x204, 0x205, 0x300, 0x301, 0x302, 0x303, 0x304, 0x400, 0x500, 0x600, 0x601, 0x700, 0x800, 0x801,
    0x900, 0x901] : List Nat).findIdx (· == tag)

/-- The target of a write is bank 1: the bank without the newest valid copy, bank 0 where neither is valid (R418). -/
def targetIs1 (r : Record) : Bool := match newest r with | some _ => !newestIs1 r | none => false

/-- The fault location of a bank (R433). -/
def bankLoc (tag : Nat) (one : Bool) : Nat := 0x04D00000 + (if one then 256 else 0) + recordNo tag

/-- A read of a bank whose payload CRC fails (R420): STORE_CRC, and the bank is no valid copy any more. DEDUCED, unsafe: log entry
178. -/
def bankFails (s : State) (tag : Nat) (one : Bool) : State :=
  let r := storeRecord s tag
  if !(if one then r.b1.isSome else r.b0.isSome) || !s.store.decayed.contains (tag, one) then s
  else inc (event (setRecord s tag (if one then { r with b1 := none } else { r with b0 := none })) 72 (bankLoc tag one)) 0x2400 0x97

/-- A record is read (R420): its newest valid bank, or the other one where that fails. -/
def recordRead (s : State) (tag : Nat) : State :=
  let once (s : State) : State := bankFails s tag (newestIs1 (storeRecord s tag))
  once (once s)

/-- A bank that has been erased or written anew has no decay. -/
def undecayed (s : State) (tag : Nat) (one : Bool) : State :=
  if s.store.decayed.isEmpty then s else { s with store := { s.store with decayed := s.store.decayed.filter (· != (tag, one)) } }

/-- A bank write begins with the erasure of its target: what that bank held is gone, whatever becomes of the write (R418).
DEDUCED, unsafe: log entry 179. -/
def bankErased (s : State) (tag : Nat) : State :=
  let r := storeRecord s tag
  let s := undecayed s tag (targetIs1 r)
  if targetIs1 r then (if r.b1.isSome then setRecord s tag { r with b1 := none } else s)
  else if r.b0.isSome then setRecord s tag { r with b0 := none } else s

/-- The next bank write of the item in progress begins. DEDUCED, unsafe: log entry 179. -/
def bankBegin (s : State) (l : List (Nat × Nat × Payload)) : State := match l with | (tag, _, _) :: _ => bankErased s tag | [] => s

/-- A completed bank write (R418): the target is the bank without the newest valid copy; sequence, store write number, erase
count and wear follow (R422). DEDUCED, unsafe: log entry 190. -/
def bankWritten (s : State) (tag serial : Nat) (p : Payload) : State :=
  let r := storeRecord s tag
  let seq := match newest r with | some b => (b.seq + 1) % 2 ^ 32 | none => 1
  let wn := rdN s 0x2400 0x94 + 1
  let b : Bank := { seq := seq, serial := serial, writeNo := wn, payload := p }
  let to1 := targetIs1 r
  let r := if to1 then { r with b1 := some b, e1 := r.e1 + 1 } else { r with b0 := some b, e0 := r.e0 + 1 }
  let e := Nat.max r.e0 r.e1
  let s := inc (wrN (setRecord (undecayed s tag to1) tag r) 0x2400 0x94 wn) 0x2400 0x95
  let s := if rdN s 0x2400 0x98 < e then wrN s 0x2400 0x98 e else s
  if e ≥ 90000 then condStart s 74 tag (bankLoc tag to1) 0xFF else s

-- Areas (R60 to R62) ----------------------------------------------------------------------------------------------

/-- Tags of an area's records. DESIGN CHOICE, unsafe: log entry 180. -/
def areaTags (a : Nat) : List Nat :=
  match a with
  | 2 => [0x100]
  | 3 => [0x200, 0x201, 0x202, 0x203, 0x204, 0x205]
  | _ => [0x300, 0x301, 0x302, 0x303, 0x304]

/-- The record of its area that carries a key. DESIGN CHOICE, unsafe: log entry 180. -/
def tagOf (k : Nat) : Nat :=
  let idx := k / 256
  match areaOf idx with
  | 2 => 0x100
  | 3 => 0x200 + k % 6
  | _ => if idx ≥ 0x5000 then 0x300 + (idx - 0x5000) / 32 else 0x304

/-- The P values of the areas as they stand, by record: a RESTART value written goes in place of the one in use. -/
def areaPayloads (s : State) (areas : List Nat) : List (Nat × Payload) :=
  let l := s.dict.filter fun p => persistent (p.1 / 256) (p.1 % 256)
  let w := s.written
  let vals := w.foldl (fun t p => Tab.put t p.1 p.2) l
  areas.flatMap fun a => (areaTags a).map fun tag => (tag, .params (vals.filter fun p => tagOf p.1 == tag))

/-- The bank of a record that carries a serial. -/
def bankWith (r : Record) (serial : Nat) : Option Bank :=
  match r.b0, r.b1 with
  | some a, b => if a.serial == serial then some a else (match b with | some c => if c.serial == serial then some c else none | none => none)
  | none, some b => if b.serial == serial then some b else none
  | none, none => none

/-- The serials that an area's first record holds. -/
def serialsOf (r : Record) : List Nat := (r.b0.toList ++ r.b1.toList).map (·.serial)

/-- The serial of an area that start-up selects: the highest that every record carries (R62). -/
def selectSerial (s : State) (a : Nat) : Option Nat :=
  let tags := areaTags a
  let cands := (serialsOf (storeRecord s (tags.headD 0))).filter fun n => tags.all fun t => (bankWith (storeRecord s t) n).isSome
  cands.foldl (fun b n => match b with | some m => some (Nat.max m n) | none => some n) none

/-- The records of an area are read under the selected serial; where a bank fails, the area falls back to the serial that every
record still carries (R62, R420). DEDUCED, unsafe: log entry 178. -/
def areaRead (s : State) (a : Nat) : State :=
  let once (s : State) : State := match selectSerial s a with
    | some n => foldS s (areaTags a) fun s tag => bankFails s tag (!((storeRecord s tag).b0.any fun b => b.serial == n))
    | none => s
  once (once s)

/-- The stored values of an area, or none where no serial qualifies. -/
def storedArea (s : State) (a : Nat) : Option (Tab (List Byte)) :=
  match selectSerial s a with
  | none => none
  | some n => some <| (areaTags a).foldl (init := []) fun t tag =>
      match bankWith (storeRecord s tag) n with
      | some b => (match b.payload with | .params v => v.foldl (fun t p => Tab.put t p.1 p.2) t | _ => t)
      | none => t

-- Store items (R61, R418, R421) -----------------------------------------------------------------------------------

def setStore (s : State) (x : Store) : State := { s with store := x }

/-- The zones of the part. -/
def zonesOfPart (s : State) : List Nat := List.range (if s.zh6432 then 32 else 64)

/-- The learned coefficients of all zones, with their neighbours (R216). -/
def couplingRecord (s : State) : List (Nat × List Nat × List Real32) :=
  (zonesOfPart s).map fun z =>
    (z, (List.range 8).map fun l => neighbour s z l, (List.range 9).map fun l => rdR s (dcObj z) (0x80 + l))

/-- A panel port's account (R258, R259). -/
def panelRec (s : State) (p : Nat) (periodic : Bool) : PanelRec :=
  let x := Tab.get s.panels p {}
  { acc := (List.range 48).map fun g => rdI s (0x3340 + p) (0x80 + g), displayed := rdN s (0x3300 + p) 0x82,
    target := rdN s (0x3300 + p) 0x80, pending := x.pend, flagged := x.comp ||| x.redrive ||| x.recover, band := rdN s (0x3300 + p) 0x84,
    busy := x.run.isSome, periodic := periodic, queued := x.queued.map (·.2.1) }

/-- The bank writes of an item, with its serials, as the values stand when it becomes ACTIVE. DEDUCED, unsafe: log entry 181. -/
def storeWrites (s : State) (w : StoreWork) : List (Nat × Nat × Payload) :=
  match w with
  | .save areas => (areaPayloads s areas).map fun p => (p.1, Tab.get s.store.serials (areaOf (if p.1 < 0x200 then 0x1000 else if p.1 < 0x300 then 0x2000 else 0x5000)) 0 + 1, p.2)
  | .restore _ => []
  | .coupling => [(0x500, 0, .coupling (couplingRecord s))]
  | .coefs => [(0x400, 0, .coefs s.meas.coef)]
  | .panel p periodic => [(0x600 + p, 0, .panel (panelRec s p periodic))]
  | .hoist h => [(0x800, 0, .hoist h), (0x801, 0, .hoistRest h.number)]

/-- What the journal notes of an item (R424). -/
def journalTargets (s : State) (w : StoreWork) : List (Nat × Nat) :=
  match w with
  | .save areas => areas.map fun a => (a, Tab.get s.store.serials a 0 + 1)
  | .restore areas => areas.map fun a => (a, 0)
  | _ => (storeWrites s w).map fun x => (x.1, match newest (storeRecord s x.1) with | some b => (b.seq + 1) % 2 ^ 32 | none => 1)

/-- Enter an item in the journal; it carries the journalled mark (R39, R424). DEDUCED, unsafe: log entry 182. -/
def journalAdd (s : State) (i : Nat) (targets : List (Nat × Nat)) : State :=
  match Tab.find s.work i with
  | some w =>
    let s := itemSet s i fun w => { w with journalled := true }
    let j : Journal := { id := w.id, obj := 0x2020 + i, idx := w.idx, sub := w.sub, kind := w.kind, origin := w.origin, targets := targets, tick := s.tick, mark := false }
    inc (setStore s { s.store with journal := s.store.journal ++ [j] }) 0x2400 0x9A
  | none => s

/-- An item's journal entry is no longer needed once it has ended. DEDUCED, unsafe: log entry 182. -/
def journalDrop (s : State) (i : Nat) : State :=
  match Tab.find s.work i with
  | some w =>
    if w.journalled then
      let j := s.store.journal.filter fun x => x.id != w.id
      wrN (setStore s { s.store with journal := j }) 0x2400 0x9A j.length
    else s
  | none => s

/-- The object concerned in a unit's own save. -/
def workObject (w : StoreWork) : Nat × Nat :=
  match w with
  | .save _ => (0x1010, 1)
  | .restore _ => (0x1011, 1)
  | .coupling => (0x3C80, 0x89)
  | .coefs => (0x3180, 0)
  | .panel p _ => (0x3340 + p, 0)
  | .hoist _ => (0x2500, 0x85)

/-- The item in progress ends; a store command that ends FAILED is answered with 0x08000020 whatever its reason (R61). -/
def storeEnd (s : State) (ok : Bool) (reason : Nat) : State :=
  match s.store.active with
  | none => s
  | some q =>
    let s := setStore s { s.store with active := none, writes := [], attempt := 0 }
    let s := match q.item with
      | some i => let s := journalDrop s i
                  if ok then itemDone s i else itemFail s i reason (if reason == 11 || q.client.isSome then 0x08000020 else 0x08000000)
      | none => s
    match q.client with
    | some c => later s c (workObject q.work).1 (if ok then 0 else 0x08000020) []
    | none => s

/-- Effects of a whole item written (R62). -/
def storeTaken (s : State) (w : StoreWork) : State :=
  match w with
  | .save _ => s
  | .restore areas =>
    foldS s (areas.flatMap areaTags) fun s tag => setRecord s tag { storeRecord s tag with b0 := none, b1 := none }
  | .coupling => foldS s (couplingRecord s) fun s z => wrN s (dcObj z.1) 0x8E 2
  | .coefs => setStore s { s.store with coefsAt := some s.now }
  | .panel p _ => { s with panels := Tab.upd s.panels p {} fun x => { x with recAt := s.now } }
  | .hoist _ => setStore s { s.store with hoistAt := some s.now, hoistsSince := 0 }

/-- The areas that a store command begins to write take their next serials (R62), whatever becomes of the item. -/
def serialsRaised (s : State) (w : StoreWork) : State :=
  match w with
  | .save areas => setStore s { s.store with serials := areas.foldl (fun t a => Tab.upd t a 0 (· + 1)) s.store.serials }
  | _ => s

/-- The store takes its next item, in order of acceptance, when it is free (R421); a unit's save that found no object takes the
next one that frees (R463). DEDUCED, unsafe: log entry 181. -/
def storeKick (s : State) : State :=
  match s.store.active, s.store.queue with
  | none, q :: rest =>
    let o := workObject q.work
    let (s, item) := match q.item with
      | some i => (s, some i)
      | none => newItem s 2 0x100 o.1 o.2
    match item with
    | none => s
    | some i =>
      let s := itemActive (journalAdd s i (journalTargets s q.work)) i
      let w := storeWrites s q.work
      let s := serialsRaised s q.work
      let s := setStore s { s.store with active := some { q with item := item }, queue := rest, writes := w, attempt := 0 }
      if w.isEmpty then storeEnd (storeTaken s q.work) true 0 else bankBegin s w
  | _, _ => s

/-- A store item is accepted. -/
def storeAsk (s : State) (q : StoreReq) : State := storeKick (setStore s { s.store with queue := s.store.queue ++ [q] })

/-- A unit's own save: a work item of kind 2 with the device as origin; where no object is free it waits (R463). The holder
mirrors the record (R342). -/
def unitSave (s : State) (w : StoreWork) : State :=
  if quiescing s then s else
  let s := match w with
    | .coupling => mirrorPut s (.coupling (couplingRecord s))
    | .panel p periodic => mirrorPut s (.panel p (panelRec s p periodic))
    | _ => s
  let (s, i) := newItem s 2 0x100 (workObject w).1 (workObject w).2
  let s := if i.isNone then waited s else s
  storeAsk s { item := i, client := none, work := w }

/-- The save of the learned coefficients every 3 600 s while any zone has learning mode 1 (R216). -/
def couplingPeriodic (s : State) : State :=
  if (zonesOfPart s).any (fun z => rdN s (dcObj z) 0x2F == 1) && s.now ≥ s.store.couplingAt + 36000000 then
    unitSave (setStore s { s.store with couplingAt := s.now }) .coupling
  else s

/-- A bank write ends: both CRCs checked, or not (R418, R420). DEDUCED, unsafe: log entry 190. -/
def bankWriteComplete (s : State) (ok : Bool) : State :=
  match s.store.active, s.store.writes with
  | some q, (tag, serial, p) :: rest =>
    if ok then
      let s := bankWritten s tag serial p
      let s := setStore s { s.store with writes := rest, attempt := 0 }
      if rest.isEmpty then storeKick (storeEnd (storeTaken s q.work) true 0) else bankBegin s rest
    else
      let spare := rdN s 0x2400 0x99
      if s.store.attempt == 0 && spare ≥ bankKB tag then
        wrN (setStore s { s.store with attempt := 1 }) 0x2400 0x99 (spare - bankKB tag)
      else
        let s := inc (event s 73 (bankLoc tag (targetIs1 (storeRecord s tag)))) 0x2400 0x96
        storeKick (storeEnd s false 11)
  | _, _ => s

/-- Every queued store item ends FAILED, and a write in progress is abandoned (R387, R411). A queued item that R466 has ended in
POWER_FAIL keeps its answer 0x08000000, and any other FAILED store item is answered with 0x08000020 (R61). -/
def storeAbandon (s : State) (reason : Nat) (finishes : Bool) : State :=
  let s := if finishes then
      (match s.store.writes with
       | [(tag, serial, p)] => (match s.store.active with | some q => storeEnd (storeTaken (bankWritten s tag serial p) q.work) true 0 | none => s)
       | (tag, serial, p) :: _ => storeEnd (bankWritten s tag serial p) false reason
       | [] => storeEnd s false reason)
    else storeEnd s false reason
  let l := s.store.queue
  let s := setStore s { s.store with queue := [] }
  let code := if rdN s 0x2100 0x80 == 3 then 0x08000000 else 0x08000020
  foldS s l fun s q =>
    let s := match q.item with | some i => itemFail (journalDrop s i) i reason code | none => s
    match q.client with | some c => later s c (workObject q.work).1 code [] | none => s

/-- STORE_PARAMETERS and RESTORE_DEFAULTS (R61): `sub` 1 names all areas. -/
def storeCommand (s : State) (client sub : Nat) (restore : Bool) (item : Option Nat) : State :=
  let areas := if sub == 1 then [2, 3, 4] else [sub]
  let (s, i) := ownItem s item 2 client (if restore then 0x1011 else 0x1010) sub
  match i with
  | none => abort s client 0x060A0023
  | some _ => storeAsk s { item := i, client := some client, work := if restore then .restore areas else .save areas }

-- The bunting-log mirror (R457) -----------------------------------------------------------------------------------

/-- The entries not yet mirrored go to the store ring, which keeps at least 7 936 of them (R423). DEDUCED, unsafe: log entry
183. -/
def logMirror (s : State) : State :=
  let last := rdN s 0x2710 0x84
  let fresh := s.log.filter fun e => s.logStore.isEmpty || last < e.num
  if fresh.isEmpty then s else
  let ring := (fresh ++ s.logStore).take 7936
  let s := { s with logStore := ring }
  let s := wrN s 0x2710 0x84 (fresh.headD { num := last, time := 0, subSec := 0, code := 0, calInvalid := false, loc := 0, qual := 0, data := 0 }).num
  wrN s 0x2710 0x81 (ring.getLastD { num := 0, time := 0, subSec := 0, code := 0, calInvalid := false, loc := 0, qual := 0, data := 0 }).num

end Sys2Proof.Machine
end

