-- ==== Sys2Proof/Machine/Panel.lean ====
section
/-! DEFINITION. The panel ports: images and updates, waveforms, DC balance, bands, power sequences, power loss and recovery
(R242 to R265). -/
namespace Sys2Proof.Machine
open Sys2Proof Sys2Proof.OD

def ppObj (p : Nat) : Nat := 0x3300 + p
def accObj (p : Nat) : Nat := 0x3340 + p
def panel (s : State) (p : Nat) : Panel := Tab.get s.panels p {}
def setPanel (s : State) (p : Nat) (x : Panel) : State := { s with panels := Tab.put s.panels p x }
def ppState (s : State) (p : Nat) : Nat := rdN s (ppObj p) 0x83
def setPpState (s : State) (p v : Nat) : State := wrN s (ppObj p) 0x83 v
def maskOf (f : Nat → Bool) : Nat := (List.range 48).foldl (fun m g => if f g then m + 2 ^ g else m) 0

-- Waveforms (R248, R249) ------------------------------------------------------------------------------------------

def waveObj (b k : Nat) : Nat := 0x3310 + 5 * b + k
def waveLen (s : State) (p b k : Nat) : Nat := rdN s (waveObj b k) (if p == 0 then 1 else 0x0A)
/-- Frame `j` of a waveform: segment level, common level. -/
def waveFrame (s : State) (p b k j : Nat) : Nat × Nat :=
  let w := rdN s (waveObj b k) ((if p == 0 then 2 else 0x0B) + j / 8)
  let n := w / 16 ^ (j % 8) % 16
  (n % 4, n / 4)

/-- The sign of a level: +1, 0 or −1. -/
def levelSign (l : Nat) : Int := if l == 1 then 1 else if l == 2 then -1 else 0

/-- A band's waveforms meet R249. -/
def bandWavesOk (s : State) (p b : Nat) : Bool :=
  let l := waveLen s p b 0
  let lc := waveLen s p b 4
  let fr (k j : Nat) : Nat × Nat := waveFrame s p b k j
  let balanced (k n : Nat) : Bool := ((List.range n).foldl (fun (a : Int) j => a + levelSign (fr k j).1 - levelSign (fr k j).2) 0) == 0
  let legal (k n : Nat) : Bool := (List.range n).all fun j => (fr k j).1 != 3 && (fr k j).2 != 3
  l ≥ 1 && lc ≥ 1 && lc + l ≤ 64 && (List.range 4).all (fun k => waveLen s p b k == l) &&
  (List.range l).all (fun j => (List.range 4).all fun k => (fr k j).2 == (fr 0 j).2) &&
  (List.range 4).all (fun k => legal k l && balanced k l) && legal 4 lc && balanced 4 lc &&
  decide (levelSign (fr 4 (lc - 1)).1 < levelSign (fr 4 (lc - 1)).2)

/-- Boundary B_(i+1) in 0.01 °C, i = 0 to 6. -/
def boundary (s : State) (p i : Nat) : Int := rdI s (ppObj p) (6 + i)

/-- The configuration of an enabled port may be committed (R212, R249, R252); R243 is checked with the channel lists. -/
def panelConfigOk (s : State) (p : Nat) : Bool :=
  let r := rdN s (ppObj p) 2
  let i := refIndex r
  let source :=
    (refClass r == 6 && i % 16 == 0 && rdF s (zObj (i / 16)) 1 && rdN s (zObj (i / 16)) 2 == 3) ||
    (refClass r == 1 && i ≤ 95 && within (rdN s (chObj i) 1) 2 5)
  source && (List.range 6).all (fun i => boundary s p i + 200 ≤ boundary s p (i + 1)) && (List.range 8).all (fun b => bandWavesOk s p b)

-- The rails and the account (R243, R250) --------------------------------------------------------------------------

/-- Contributions of +VP and −VP per sub-step. -/
def contribution (s : State) (p l : Nat) : Int :=
  if l == 1 then roundRat (10 * F32.toRat (rdR s (ppObj p) 0x88))
  else if l == 2 then -(roundRat (10 * F32.toRat (F32.abs (rdR s (ppObj p) 0x89))))
  else 0

/-- The account of the sub-step that has just ended (R250); it saturates. -/
def account (s : State) (p : Nat) : State :=
  match (panel s p).lvl with
  | none => s
  | some (com, segs) =>
    let cc := contribution s p com
    foldS s (List.range 48) fun s g =>
      let d := contribution s p (segs.getD g 0) - cc
      if d == 0 then s else
      let a := rdI s (accObj p) (0x80 + g) + d
      let a := if a > 2147483647 then 2147483647 else if a < -2147483647 then -2147483647 else a
      wrI s (accObj p) (0x80 + g) a

/-- A rail reading within ±5 % of its nominal. -/
def railOk (v nominal : Real32) : Bool :=
  let a := F32.toRat (F32.abs v)
  let n := F32.toRat nominal
  decide (a * 100 ≥ n * 95) && decide (a * 100 ≤ n * 105)

/-- Read the rails at a sub-step and count the readings in a row inside and outside the tolerance. DEDUCED, unsafe: log entry
97. -/
def readRails (s : State) (p : Nat) : State :=
  let rd (s : State) (ch sub : Nat) : State := if (chan s ch).valid then wrR s (ppObj p) sub (rdR s (chObj ch) 0x82) else s
  let s := rd (rd s 29 0x88) 35 0x89
  let okP := railOk (rdR s (ppObj p) 0x88) (rdR s (ppObj p) 4)
  let okN := railOk (rdR s (ppObj p) 0x89) (rdR s (ppObj p) 5)
  let x := panel s p
  setPanel s p { x with okP := if okP then x.okP + 1 else 0, badP := if okP then 0 else x.badP + 1,
                        okN := if okN then x.okN + 1 else 0, badN := if okN then 0 else x.badN + 1 }

-- Bands (R252, R253) ----------------------------------------------------------------------------------------------

def hundredths (i : Int) : Rat := mkRat i 100
/-- One pass up and one down with 1 K of hysteresis. -/
def moveBand (s : State) (p : Nat) (t : Rat) (b : Nat) : Nat :=
  let up := (List.range 7).foldl (fun b _ => if b < 7 && decide (hundredths (boundary s p b) ≤ t) then b + 1 else b) b
  (List.range 7).foldl (fun b _ => if b > 0 && decide (t < hundredths (boundary s p (b - 1) - 100)) then b - 1 else b) up

/-- The current band at a sub-step. -/
def bandStep (s : State) (p : Nat) : State :=
  let v := signal s (rdN s (ppObj p) 2)
  let x := panel s p
  let s := wrBit s (ppObj p) 0x87 2 (!v.2)
  if v.2 then
    let t := F32.toRat v.1
    let b := if x.bandSet then moveBand s p t (rdN s (ppObj p) 0x85)
      else ((List.range 7).filter fun i => decide (hundredths (boundary s p i) ≤ t)).length
    setPanel (wrN s (ppObj p) 0x85 b) p { x with bandSet := true, bandSeen := true }
  else if x.bandSeen then s else wrN s (ppObj p) 0x85 (rdN s (ppObj p) 0x20)

-- Updates (R245 to R251) ------------------------------------------------------------------------------------------

/-- The segments flagged for re-drive: those an earlier update left, and those of an update in progress whose band has moved
(R253). -/
def redriveFlags (x : Panel) : Nat :=
  x.redrive ||| (match x.run with | some r => if r.redrive then r.driven else 0 | none => 0)

/-- Bits 0, 1, 4 and 5 of the status and the flagged segments. -/
def panelStatus (s : State) (p : Nat) : State :=
  let x := panel s p
  let s := wrBit (wrBit s (ppObj p) 0x87 0 (x.comp != 0)) (ppObj p) 0x87 1 (redriveFlags x != 0)
  let s := wrBit s (ppObj p) 0x87 4 x.queued.isSome
  let s := wrBit s (ppObj p) 0x87 5 (x.queued.isSome && rdN s 0x2200 0x94 ≥ 3)
  wrN s (ppObj p) 0x8D (x.comp ||| redriveFlags x ||| x.recover)

/-- Frames of one phase: kind of each segment, none for a segment at its common's level. -/
def phaseFrames (s : State) (p b len base : Nat) (kind : Nat → Option Nat) : List (Nat × List Nat) :=
  (List.range len).map fun j =>
    let com := (waveFrame s p b base j).2
    (com, (List.range 48).map fun g => match kind g with | some k => (waveFrame s p b k j).1 | none => com)

/-- Retained memory follows the images (R259). DEDUCED, unsafe: log entry 89. -/
def retain (s : State) (p : Nat) (busy : Bool) : State :=
  let s := { s with cal := { s.cal with retBad := s.cal.retBad.filter (· != p) } }
  setPanel s p { panel s p with ret := (rdN s (ppObj p) 0x82, (panel s p).pend, busy, rdN s (ppObj p) 0x84) }

/-- An update starts (R247, R251, R261): `mode` 0 normal, 1 clear, 2 start-up recovery. DEDUCED, unsafe: log entry 89. -/
def updateStart (s : State) (p mode : Nat) (item : Option Nat) : State :=
  let x := panel s p
  let recovery := mode == 2
  let s := if recovery then s else wrN s (ppObj p) 0x84 (rdN s (ppObj p) 0x85)
  let b := rdN s (ppObj p) 0x84
  let d := rdN s (ppObj p) 0x82
  let t := if recovery then (List.range 48).foldl (fun m g => setBit m g (bit (if bit x.recover g then x.pend else d) g)) 0
    else rdN s (ppObj p) 0x80
  let thr := rdI s (ppObj p) 0x21
  let acc (g : Nat) : Int := rdI s (accObj p) (0x80 + g)
  let compMask := if recovery then maskOf fun g => bit x.recover g && decide ((acc g).natAbs > thr.natAbs) else x.comp
  let comp := (List.range 48).filterMap fun g =>
    if bit compMask g then
      let lvl := if acc g > 0 then 2 else 1
      let c := (contribution s p lvl).natAbs
      some (g, lvl, if c == 0 then 50 else Nat.min 50 (roundRat (mkRat ((acc g).natAbs : Int) c)).toNat)
    else none
  let compLen := comp.foldl (fun m y => Nat.max m y.2.2) 0
  let must := x.comp ||| x.redrive
  let drives (g : Nat) : Bool :=
    if recovery then bit x.recover g
    else mode == 1 || bit d g != bit t g || rdF s (ppObj p) 0x23 || bit must g
  let from0 := mode ≥ 1
  let kindOf (g : Nat) : Option Nat :=
    if !drives g then none
    else
      let a := if from0 then false else bit d g
      some (match a, bit t g with | false, true => 0 | true, false => 1 | true, true => 2 | false, false => 3)
  let clear := if from0 then phaseFrames s p b (waveLen s p b 4) 4 (fun g => if drives g then some 4 else none) else []
  let frames := clear ++ phaseFrames s p b (waveLen s p b 0) 0 kindOf
  let f := rdN s (ppObj p) 3
  let sp := rdN s (ppObj p) 0x22
  let run : PanelRun := { item := item, recovery := recovery, target := t, driven := maskOf drives, compLen := compLen, comp := comp,
                          frames := frames, fLen := f, fGap := if sp ≥ f then sp else f, pos := 0, redrive := false }
  let s := match item with | some i => itemActive s i | none => s
  let s := if compLen > 0 then inc s (ppObj p) 0x8B else s
  let s := setPanel s p { panel s p with run := some run, hiZ := false, pend := t }
  let s := if ppState s p == 3 then setPpState s p 4 else s
  retain (wrN s (ppObj p) 0x86 frames.length) p true

/-- Sub-steps of a run. -/
def runLength (r : PanelRun) : Nat := r.compLen + (if r.frames.isEmpty then 0 else r.fGap * (r.frames.length - 1) + r.fLen)

/-- The levels a run drives in its sub-step `pos`; none in a rest. -/
def runLevels (r : PanelRun) (pos : Nat) : Option (Nat × List Nat) :=
  if pos < r.compLen then
    some (0, (List.range 48).map fun g =>
      match r.comp.find? fun y => y.1 == g with
      | some (_, l, n) => if pos < n then l else 0
      | none => 0)
  else
    let q := pos - r.compLen
    let j := if r.fGap == 0 then 0 else q / r.fGap
    if q - j * r.fGap < r.fLen then r.frames[j]? else none

/-- Frames of a run not yet complete at `pos`. -/
def framesLeft (r : PanelRun) (pos : Nat) : Nat :=
  ((List.range r.frames.length).filter fun j => pos < r.compLen + j * r.fGap + r.fLen).length

/-- The last sub-step of an update (R245, R251, R253, R261). -/
def updateEnd (s : State) (p : Nat) (r : PanelRun) : State :=
  let s := inc (wrN (wrN s (ppObj p) 0x82 r.target) (ppObj p) 0x86 0) (ppObj p) 0x8A
  let thr := (rdI s (ppObj p) 0x21).natAbs
  let comp := maskOf fun g => decide ((rdI s (accObj p) (0x80 + g)).natAbs > thr)
  let x := panel s p
  let s := setPanel s p { x with run := none, lvl := none, comp := comp, redrive := if r.redrive then r.driven else 0,
                                 recover := if r.recovery then 0 else x.recover }
  let s := match r.item with | some i => itemDone s i | none => s
  let s := if ppState s p == 4 then setPpState s p 3 else s
  retain s p false

/-- An update is cut (R245, R254): its segments are flagged for recovery and its item ends FAILED. -/
def updateCut (s : State) (p reason : Nat) : State :=
  match (panel s p).run with
  | none => s
  | some r =>
    let x := panel s p
    let s := setPanel s p { x with run := none, lvl := none, recover := x.recover ||| r.driven }
    let s := match r.item with | some i => itemFail s i reason 0 | none => s
    panelStatus (wrN s (ppObj p) 0x86 0) p

/-- A port stops driving at the end of a sub-step (R257, R258): an update whose last sub-step it was has ended, another is cut.
DEDUCED, unsafe: log entry 90. -/
def updateStop (s : State) (p reason : Nat) : State :=
  match (panel s p).run with
  | some r => if r.pos + 1 ≥ runLength r then updateEnd s p r else updateCut s p reason
  | none => s

/-- An update of the device's own, as an item of kind 4 (R251, R253, R255, R261). DEDUCED, unsafe: log entry 94. -/
def ownUpdate (s : State) (p mode : Nat) : State :=
  let (s, i) := newItem s 4 0x100 (ppObj p) 0x81
  updateStart (if i.isNone then waited s else s) p mode i

-- Power sequences (R254 to R257) ----------------------------------------------------------------------------------

/-- Step 2 of a power-off or discharge: outputs at 0 V and the panel record (R256, R259). DEDUCED, unsafe: log entry 93. -/
def offBegin (s : State) (p kind st : Nat) : State :=
  let x := panel s p
  let s := setPanel (wrR s (ppObj p) 0x8E F32.zero) p
    { x with offKind := kind, offAt := s.now, offStep := 2, onStep := 0, onReq := none, offReq := none, lvl := none, hiZ := false,
             en := setBit x.en 2 false, lightAt := none, rampAt := none }
  unitSave (setPpState s p st) (.panel p false)

/-- A rail fault (R257). -/
def railFault (s : State) (p rail : Nat) : State :=
  let s := offBegin (updateStop s p 13) p 2 7
  condStart s 29 p (0x08704000 + p * 256 + rail) 0xFF

/-- A discharge whose ties have closed: the timer of the PANEL_HV domain carries it, whatever becomes of the device (R244).
DEDUCED, unsafe: log entry 91. -/
def discharging (x : Panel) : Bool := x.offKind == 2 && x.offStep ≥ 3

/-- What a hardware cut leaves of a port: a discharge that the PANEL_HV timer carries, and retained memory (R244, R259).
DEDUCED, unsafe: log entry 91. -/
def dischargeKept (x : Panel) : Panel :=
  if discharging x then { ret := x.ret, offKind := 2, offAt := x.offAt, offStep := x.offStep, en := x.en, ties := true, cls := x.cls } else { ret := x.ret }

/-- A timed step of a power-off or discharge (R256). A device that is in reset or without supply has no time of its own, and its
PANEL_HV timer takes the step. DEDUCED, unsafe: log entry 96. -/
def powerOffStep (s : State) (p : Nat) : State :=
  let x := panel s p
  let dead := s.inReset || s.pw.off || s.th.hold != 0
  let due (ms : Nat) : Bool := dead || s.now ≥ x.offAt + ms * 10
  if dead && !discharging x then s else
  let finish (s : State) (x : Panel) : State :=
    let s := setPanel s p { x with offKind := 0, offStep := 0, thenOn := false, onReq := if x.thenOn then some s.now else x.onReq }
    if ppState s p == 7 then s
    else if rdN s (ppObj p) 1 == 0 then setPpState (setPanel s p { panel s p with cls := 0, onReq := none }) p 0
    else setPpState s p 1
  if x.offKind == 1 then
    if x.offStep == 2 && due 1 then setPanel s p { x with offStep := 3, hiZ := true, en := setBit x.en 1 false }
    else if x.offStep == 3 && due 11 then finish s { x with en := setBit x.en 0 false }
    else s
  else if x.offKind == 2 then
    if x.offStep == 2 && due 1 then setPanel s p { x with offStep := 3, hiZ := true, ties := true }
    else if x.offStep == 3 && due 51 then setPanel s p { x with offStep := 5, en := setBit x.en 1 false }
    else if x.offStep == 5 && due 56 then finish s { x with en := setBit x.en 0 false, ties := false }
    else s
  else s

/-- A rail is not verified within the timeout (R255). DEDUCED, unsafe: log entry 96. -/
def railVerifyTimeout (s : State) (p : Nat) : State :=
  let x := panel s p
  if ppState s p == 2 && (x.onStep == 1 || x.onStep == 2) && s.now ≥ x.onAt + rdN s (ppObj p) 0x26 * 10 then railFault s p (x.onStep - 1) else s

/-- 20 ms after PSU_EN2 the ramp starts (R255 step 8). -/
def lightRampStart (s : State) (p : Nat) : State :=
  let x := panel s p
  match x.lightAt with
  | some t =>
    if s.now ≥ t + 200 then
      let s := setPanel s p { x with lightAt := none, rampAt := some s.now }
      if rdN s (ppObj p) 0x25 == 0 then wrR s (ppObj p) 0x8E F32.one else s
    else s
  | none => s

/-- The ramp factor at a sub-step, in steps of 1 ms. -/
def rampStep (s : State) (p : Nat) : State :=
  match (panel s p).rampAt with
  | some t =>
    let d := (s.now - t) / 10
    let n := rdN s (ppObj p) 0x25
    if d ≥ n then wrR (setPanel s p { panel s p with rampAt := none }) (ppObj p) 0x8E F32.one
    else wrR s (ppObj p) 0x8E (F32.ofFrac d n)
  | none => s

/-- Step 1 of a power-on (R255). -/
def onBegin (s : State) (p : Nat) : State :=
  let x := panel s p
  let s := condEnd s 29 p (0x08704000 + p * 256)
  let s := setPanel s p { x with cls := rdN s (ppObj p) 1, onReq := none, onStep := 1, onAt := s.now, en := setBit x.en 0 true, okP := 0, okN := 0,
                                 badP := 0, badN := 0 }
  setPpState s p 2

/-- The power-on sequence at a sub-step (R255). -/
def onSequence (s : State) (p : Nat) : State :=
  let x := panel s p
  match x.onStep with
  | 1 =>
    if x.okP ≥ 10 && s.now ≥ x.onAt + 100 then
      setPanel s p { x with onStep := 2, onAt := s.now, en := setBit x.en 1 true, okN := 0 }
    else s
  | 2 => if x.okN ≥ 10 && s.now ≥ x.onAt + 100 then setPanel s p { x with onStep := 3 } else s
  | 3 =>
    let s := setPanel s p { x with onStep := 4, hiZ := false }
    if x.recover != 0 then ownUpdate s p 2
    else if x.cls == 1 then ownUpdate (setPanel s p { panel s p with onStep := 5 }) p 1
    else setPpState (setPanel s p { panel s p with onStep := 0 }) p 3
  | 4 =>
    if x.run.isSome then s
    else if x.cls == 1 then ownUpdate (setPanel s p { x with onStep := 5 }) p 1
    else setPpState (setPanel s p { x with onStep := 0 }) p 3
  | 5 =>
    if x.run.isSome then s
    else setPpState (setPanel s p { x with onStep := 0, en := setBit x.en 2 true, lightAt := some s.now }) p 3
  | _ => s

/-- Start what waits in state 3 (R245, R251, R253, R255): the queued item, else a compensation or re-drive, else, right after the
power-on of a class U port, a target that differs. DEDUCED, unsafe: log entry 94. -/
def idleStart (s : State) (p : Nat) (fresh : Bool) : State :=
  let x := panel s p
  if ppState s p != 3 || x.run.isSome then s else
  match x.queued with
  | some (i, clear, due) =>
    if due ≤ s.now && rdN s 0x2200 0x94 < 3 then updateStart (setPanel s p { x with queued := none }) p (if clear then 1 else 0) i else s
  | none =>
    if x.comp != 0 || x.redrive != 0 || (fresh && x.cls == 2 && rdN s (ppObj p) 0x80 != rdN s (ppObj p) 0x82) then ownUpdate s p 0 else s

/-- The sequences of a port at a sub-step: cuts, rail faults, the update in progress, power-off and power-on, what waits, and the
levels of the sub-step that begins. DEDUCED, unsafe: log entry 92. -/
def panelSequences (s : State) (p : Nat) : State :=
  let x := panel s p
  -- cuts first (R254)
  let s := match x.cutAt with
    | some (t, reason) =>
      if t ≤ s.now then
        let s := updateStop s p reason
        let s := setPanel s p { panel s p with cutAt := none }
        if ppState s p == 0 || ppState s p == 1 || ppState s p == 7 || (panel s p).offKind != 0 then s else offBegin s p 2 6
      else s
    | none => s
  let x := panel s p
  let watched := within (ppState s p) 3 4 || x.onStep ≥ 3
  let s := if watched && x.badP ≥ 10 then railFault s p 0 else if watched && x.badN ≥ 10 then railFault s p 1 else s
  -- the update in progress
  let s := match (panel s p).run with
    | some r =>
      let cur := rdN s (ppObj p) 0x85
      let lat := rdN s (ppObj p) 0x84
      let far := cur ≥ lat + 2 || lat ≥ cur + 2
      let s := if far && !r.redrive then inc s (ppObj p) 0x8C else s
      let r := { r with pos := r.pos + 1, redrive := r.redrive || far }
      if r.pos ≥ runLength r then updateEnd s p r
      else wrN (setPanel s p { panel s p with run := some r }) (ppObj p) 0x86 (framesLeft r r.pos)
    | none => s
  -- power sequences
  let x := panel s p
  let s := match x.offReq with
    | some t =>
      if t ≤ s.now && x.run.isNone then
        if ppState s p == 0 || ppState s p == 1 || ppState s p ≥ 5 then setPanel s p { x with offReq := none }
        else if x.cls == 1 then offBegin s p 1 5 else offBegin s p 2 6
      else s
    | none => s
  let x := panel s p
  let s := match x.onReq with
    | some t => if t ≤ s.now && x.offKind == 0 && x.run.isNone && x.onStep == 0 && (ppState s p ≤ 1 || ppState s p == 7) && rdN s (ppObj p) 1 != 0
        then onBegin s p else s
    | none => s
  let was := (panel s p).onStep
  let s := if (panel s p).run.isNone then onSequence s p else s
  let s := idleStart s p (was != 0)
  let s := rampStep s p
  -- the levels of the sub-step that begins
  match (panel s p).run with
  | some r => setPanel s p { panel s p with lvl := runLevels r r.pos }
  | none => s

/-- One sub-step of a port (R246); no sequence runs while ENSIGN_IN is deasserted (R244). DESIGN CHOICE, unsafe: log entry 231. -/
def panelSubStep (s : State) (p : Nat) : State :=
  if rdN s (ppObj p) 1 == 0 && (panel s p).cls == 0 then s else
  let s := bandStep (readRails (account s p) p) p
  panelStatus (if s.ensignIn then panelSequences s p else s) p

-- Requests (R245, R254, R263) -------------------------------------------------------------------------------------

/-- Commands 1 and 2 (R245). -/
def updateRequest (s : State) (p client st : Nat) (clear : Bool) (sub : Nat) : State :=
  if ppState s p == 0 then abort s client 0x08000022 else
  let x := panel s p
  match x.queued with
  | some (i, c, d) => panelStatus (success (setPanel s p { x with queued := some (i, c || clear, d) }) client) p
  | none =>
    let (s, i) := newItem s 4 client (ppObj p) sub
    match i with
    | none => abort s client 0x060A0023
    | some i => panelStatus (success (setPanel s p { x with queued := some (some i, clear, st + 1) }) client) p

/-- Command 3. -/
def powerOnCommand (s : State) (p client st : Nat) : State :=
  if within (ppState s p) 2 6 then abort s client 0x08000022
  else success (setPanel s p { panel s p with onReq := some (st + 1) }) client

/-- Command 4. -/
def powerOffCommand (s : State) (p client st : Nat) : State :=
  let q := ppState s p
  if q == 0 || q == 1 || q == 7 then abort s client 0x08000022
  else success (setPanel s p { panel s p with offReq := some (st + 1) }) client

/-- The ports power on, from own tick `t`: entry to operational, takeover (R254), whatever the NMT state of the latter. -/
def panelsOn (s : State) (t : Nat) : State :=
  foldS s [0, 1] fun s p =>
    if rdN s (ppObj p) 1 == 0 || !holdsEnsign s || rdN s 0x2100 0x80 > 1 then s
    else setPanel s p { panel s p with onReq := some t, offReq := none }

/-- The ports power off after any update in progress. -/
def panelsOff (s : State) (t : Nat) : State :=
  foldS s [0, 1] fun s p =>
    if (panel s p).cls == 0 then s else setPanel s p { panel s p with offReq := some t, onReq := none, thenOn := false }

/-- PFW_n or an orderly thermal stop (R258): a frame with 5 ms or less left is completed, else the sub-step ends it. DEDUCED,
unsafe: log entry 92. -/
def panelsCut (s : State) (reason : Nat) : State :=
  foldS s [0, 1] fun s p =>
    let x := panel s p
    if x.cls == 0 || ppState s p ≤ 1 then s else
    let base := s.now - tickNo s % 10
    let next := base + 10
    let at_ := match x.run with
      | some r =>
        let q := r.pos - r.compLen
        let j := if r.fGap == 0 then 0 else q / r.fGap
        let left := r.fLen - (q - j * r.fGap)
        if r.pos ≥ r.compLen && q - j * r.fGap < r.fLen && left ≤ 5 then base + left * 10 else next
      | none => next
    setPanel s p { x with cutAt := some (at_, reason), onReq := none, offReq := none }

/-- ENSIGN_IN deasserted or CLK_PANEL lost (R244, R254): every output high-Z, no sequence; the sub-step cut counts whole in the
account (R250). DESIGN CHOICE, unsafe: log entry 231. -/
def panelsHardCut (s : State) (reason : Nat) : State :=
  foldS s [0, 1] fun s p =>
    if (panel s p).cls == 0 then s else
    let s := updateCut (account s p) p reason
    let x := panel s p
    let k := dischargeKept x
    let s := setPanel s p { x with hiZ := true, lvl := none, onStep := 0, onReq := none, offReq := none, offKind := k.offKind,
                                   offStep := k.offStep, lightAt := none, rampAt := none, en := k.en, ties := k.ties, cutAt := none }
    let s := wrR s (ppObj p) 0x8E F32.zero
    if ppState s p == 0 || ppState s p == 7 || discharging k then s else setPpState s p 1

/-- A structural sub-index of a panel port: its object, and its half of the waveforms (R263, R264). -/
def portKey (p k : Nat) : Bool :=
  k / 256 == ppObj p || (within (k / 256) 0x3310 0x3337 && (if p == 0 then k % 256 ≤ 9 else within (k % 256) 0x0A 0x12))

/-- A commit (R254, R257): `was` is the class that stood before, `changed` says whether 01 to 05 changed, and `touched` that the
commit holds anything of the port. Enabling a port and ending its rail fault ask for no NMT state. -/
def panelCommitted (s : State) (p was : Nat) (changed touched : Bool) : State :=
  let now := rdN s (ppObj p) 1
  let s := setPanel s p { panel s p with bandSet := false }
  if now == 0 then
    if was == 0 then s
    else if ppState s p == 1 || ppState s p == 7 then
      setPpState (setPanel (condEnd s 29 p (0x08704000 + p * 256)) p { panel s p with cls := 0, onReq := none }) p 0
    else setPanel s p { panel s p with offReq := some s.now, onReq := none, thenOn := false }
  else
    let s := if ppState s p == 0 then setPpState (setPanel s p { panel s p with cls := now }) p 1 else s
    let may := holdsEnsign s && rdN s 0x2100 0x80 ≤ 1
    if ppState s p == 7 then if !touched then s else setPanel s p { panel s p with onReq := if may then some s.now else none }
    else if ppState s p == 1 then (if was == 0 && may then setPanel s p { panel s p with onReq := some s.now } else s)
    else if changed then setPanel s p { panel s p with offReq := some s.now, thenOn := true }
    else s

-- Start-up and takeover (R260, R262) ------------------------------------------------------------------------------

/-- The account in the stored hoist of a pair member, if both of its records carry one hoist number (R345, R356); what was driven
after it is unknown, as after a periodic record (log entry 132). -/
def storedHoistPanel (s : State) (p : Nat) : Option (Nat × PanelRec) :=
  if !inPair s then none else
  match newest (storeRecord s 0x800), newest (storeRecord s 0x801) with
  | some a, some b =>
    match a.payload, b.payload with
    | .hoist h, .hoistRest n => if h.number == n then (h.panels[p]?).map fun r => (a.writeNo, { r with periodic := true }) else none
    | _, _ => none
  | _, _ => none

/-- Accumulators, images and flags of a port at start-up, whether or not it is enabled: `retained` says that retained memory passed
its CRC. DEDUCED, unsafe: log entry 95. DEDUCED, unsafe: log entry 132. DEDUCED, unsafe: log entry 232. -/
def panelStartup (s : State) (p : Nat) (retained : Bool) : State :=
  let own := (newest (storeRecord s (0x600 + p))).bind fun b => match b.payload with | .panel r => some (b.writeNo, r) | _ => none
  let pf := (newest (storeRecord s 0x700)).bind fun b => match b.payload with | .power r => (r.panels[p]?).map fun q => (b.writeNo, q) | _ => none
  let newer (a b : Option (Nat × PanelRec)) : Option (Nat × PanelRec) := match a, b with
    | some a, some b => some (if a.1 < b.1 then b else a)
    | some a, none => some a
    | none, b => b
  let rec_ : Option PanelRec := (newer (newer own pf) (storedHoistPanel s p)).map (·.2)
  let x := panel s p
  let (d, t, busy, band, have_) : Nat × Nat × Bool × Nat × Bool :=
    if retained then (x.ret.1, x.ret.2.1, x.ret.2.2.1, x.ret.2.2.2, true)
    else match rec_ with
      | some r => (r.displayed, r.pending, r.busy, r.band, true)
      | none => (0, 0, false, 0, false)
  let all48 := 2 ^ 48 - 1
  let flagged := if !have_ || busy then all48 else match rec_ with | some r => r.flagged | none => 0
  let stale := !have_ || (match rec_ with | some r => r.periodic | none => false)
  let s := foldS s (List.range 48) fun s g => wrI s (accObj p) (0x80 + g) (match rec_ with | some r => r.acc.getD g 0 | none => 0)
  let s := wrN (wrN (wrN s (ppObj p) 0x82 d) (ppObj p) 0x80 (if flagged != 0 && have_ then t else d)) (ppObj p) 0x84 band
  let s := setPanel s p { x with recover := flagged, pend := t }
  let s := wrBit s (ppObj p) 0x87 3 stale
  let s := if stale && rdN s (ppObj p) 1 != 0 then event s 30 (0x08708000 + p * 256) else s
  panelStatus s p

/-- A device that takes the ensign sets its ports from the hoist (R262); a queued update goes on as an item of the device's own.
DEDUCED, unsafe: log entry 232. -/
def panelTakeover (s : State) (p : Nat) (r : PanelRec) : State :=
  if rdN s (ppObj p) 1 == 0 then s else
  let s := foldS s (List.range 48) fun s g => wrI s (accObj p) (0x80 + g) (r.acc.getD g 0)
  let s := wrN (wrN (wrN s (ppObj p) 0x82 r.displayed) (ppObj p) 0x80 r.target) (ppObj p) 0x84 r.band
  let (s, queued) := match r.queued with
    | none => (s, none)
    | some clear =>
      let (s, i) := newItem s 4 0x100 (ppObj p) 0x81
      (if i.isNone then waited s else s, some (i, clear, s.now))
  let s := setPpState (setPanel s p { panel s p with cls := rdN s (ppObj p) 1, recover := 2 ^ 48 - 1, pend := r.pending, run := none,
                                                     comp := 0, redrive := 0, queued := queued }) p 1
  let s := if r.busy then event (wrBit s (ppObj p) 0x87 3 true) 30 (0x08708000 + p * 256) else s
  panelStatus s p

/-- A write to 0x3340+p:B0 (R265). -/
def zeroAccumulators (s : State) (p : Nat) : State :=
  let s := foldS s (List.range 48) fun s g => wrI s (accObj p) (0x80 + g) 0
  setPanel s p { panel s p with zeroAt := none }

/-- The periodic panel record (R259). -/
def panelRecordPeriodic (s : State) (p : Nat) : State :=
  let x := panel s p
  if (within (ppState s p) 2 4) && s.now ≥ x.recAt + 36000000 then
    unitSave (setPanel s p { x with recAt := s.now }) (.panel p true)
  else s

end Sys2Proof.Machine
end

