-- ==== Sys2Proof/Machine/Can.lean ====
section
/-! DEFINITION. The CAN FD controllers: reception, filters and buffers, transmission order, modes, errors, SOLITARY and
bus-off (R266 to R292). -/
namespace Sys2Proof.Machine
open Sys2Proof Sys2Proof.OD

def canObj (x : Nat) : Nat := 0x2800 + x
def can (s : State) (x : Nat) : Can := Tab.get s.cans x {}
def setCan (s : State) (x : Nat) (c : Can) : State := { s with cans := Tab.put s.cans x c }
def canState (s : State) (x : Nat) : Nat := rdN s (canObj x) 0x80
def canMode (s : State) (x : Nat) : Nat := rdN s (canObj x) 0x81
def solitary (s : State) (x : Nat) : Bool := rdF s (canObj x) 0x82
/-- Fault locations (R290). -/
def canLoc (x block bank cell : Nat) : Nat := 0x0A800000 + x * 0x100000 + block * 0x4000 + bank * 256 + cell

-- Bit timing (R269) -----------------------------------------------------------------------------------------------

/-- Nominal rate in bit/s as quanta per bit: (prescaler × quanta). -/
def nomQuanta (s : State) (x : Nat) : Nat := 1 + rdN s (canObj x) 2 + rdN s (canObj x) 3
def dataQuanta (s : State) (x : Nat) : Nat := 1 + rdN s (canObj x) 6 + rdN s (canObj x) 7
def nomRate (s : State) (x : Nat) : Rat := mkRat 80000000 (rdN s (canObj x) 1 * nomQuanta s x)
def dataRate (s : State) (x : Nat) : Rat := mkRat 80000000 (rdN s (canObj x) 5 * dataQuanta s x)

/-- The stored timing set is valid (R269). -/
def timingOk (s : State) (x : Nat) : Bool :=
  let o := canObj x
  let fd := rdF s o 9
  decide (125000 ≤ nomRate s x) && decide (nomRate s x ≤ 1000000) && nomQuanta s x ≥ 8 && rdN s o 4 ≤ rdN s o 3 && rdN s o 8 ≤ rdN s o 7 &&
  (!fd || (decide (nomRate s x ≤ dataRate s x) && decide (dataRate s x ≤ 8000000) && dataQuanta s x ≥ 5)) &&
  (rdN s o 0x0A != 0 || decide (dataRate s x ≤ 1000000))

-- Modes (R281 to R283) --------------------------------------------------------------------------------------------

/-- The mode a controller is to be in (R282, R289, R353). -/
def modeWanted (s : State) (x : Nat) : Nat :=
  match Tab.find s.dup.modes x with
  | some m => m
  | none =>
  if inPair s && !holdsEnsign s then (if x == 3 then 0 else 1) else rdN s (canObj x) 0x0C

/-- Discard and count every queued frame. -/
def flushTx (s : State) (x : Nat) : State :=
  let c := can s x
  let n := c.txq.length + (if c.held.isSome then 1 else 0)
  wrN (incBy (setCan s x { c with txq := [], held := none }) (canObj x) 0x8B n) (canObj x) 0x92 0

/-- The mode in use changes at bus idle (R283). DEDUCED, unsafe: log entry 103. -/
def modeChange (s : State) (x : Nat) : State :=
  let o := canObj x
  let m := modeWanted s x
  let s := setCan s x { can s x with modeDue := false }
  if canState s x == 0 || canMode s x == m then s
  else
    let was := canMode s x
    let s := wrN s o 0x81 m
    if m == 1 then wrN (flushTx s x) o 0x80 6
    else if was == 1 then
      let s := setCan s x { can s x with txq := [], held := none }
      let s := wrN (wrN (wrN (wrN s o 0x83 0) o 0x84 0) o 0x80 1) o 0x92 0
      condEnd (condEnd s (32 + x) 0 (canLoc x 0 0 0)) (36 + x) 0 (canLoc x 0 0 0)
    else s

/-- A write of 0x2800+x:0C (R282): 0 accepted, else the abort code. -/
def modeRefusal (s : State) (v : Nat) : Nat :=
  if (v == 2 || v == 3) && ((nmt s != 0x7F && nmt s != 4) || inPair s) then 0x08000022 else 0

def modeRequest (s : State) (x v : Nat) : State :=
  let s := wrN s (canObj x) 0x0C v
  setCan s x { can s x with modeDue := true }

/-- Leaving pre-operational or stopped ends the loopback modes (R282). -/
def leaveLoopback (s : State) : State :=
  foldS s (List.range 4) fun s x => if rdN s (canObj x) 0x0C ≥ 2 then modeRequest s x 0 else s

/-- Every controller whose wanted mode differs waits for bus idle. -/
def modesDue (s : State) : State :=
  foldS s (List.range 4) fun s x =>
    if canState s x != 0 && canMode s x != modeWanted s x then setCan s x { can s x with modeDue := true } else s

-- Transmission (R277 to R280) -------------------------------------------------------------------------------------

/-- The frame's place in arbitration: base identifier, format, extension. -/
def arbKey (f : Frame) : Nat := if f.ide then (f.id / 2 ^ 18) * 2 ^ 19 + 2 ^ 18 + f.id % 2 ^ 18 else f.id * 2 ^ 19

/-- The queued frame that would win, the earliest queued among equals. -/
def winner : List TxFrame → Option TxFrame
  | [] => none
  | f :: t =>
    match winner t with
    | some g => if arbKey f.frame ≤ arbKey g.frame then some f else some g
    | none => some f

/-- Take the first entry equal to `f` out. -/
def dropFirst (f : TxFrame) : List TxFrame → List TxFrame
  | [] => []
  | g :: t => if g == f then t else g :: dropFirst f t

/-- A PDO frame is too old to be sent: the bound of 2 000 ms, and the age limit unless it is the held frame. DEDUCED, unsafe:
log entry 106. -/
def tooOld (s : State) (x : Nat) (f : TxFrame) (held : Bool) : Bool :=
  let lim := rdN s (canObj x) 0x10
  f.pdo && (s.now > f.at_ + 20000 || (!held && lim != 0 && s.now > f.at_ + lim * 10))

def fillTx (s : State) (x : Nat) : State :=
  let c := can s x
  wrN s (canObj x) 0x92 (c.txq.length + (if c.held.isSome then 1 else 0))

/-- Discard the frames that reach the head too old, until one may be sent (R279, R280). -/
def headFrame (s : State) (x : Nat) : Nat → State × Option TxFrame
  | 0 => (s, none)
  | fuel + 1 =>
    let c := can s x
    match c.held with
    | some f =>
      if tooOld s x f true then headFrame (fillTx (inc (setCan s x { c with held := none }) (canObj x) 0x8B) x) x fuel else (s, some f)
    | none =>
      match winner c.txq with
      | none => (s, none)
      | some f =>
        if tooOld s x f false then
          headFrame (fillTx (inc (setCan s x { c with txq := dropFirst f c.txq }) (canObj x) 0x8B) x) x fuel
        else (s, some f)

/-- Submit a frame (R280, R281). A remote frame is refused, since the device transmits none (R267). Without FD the controller sends
classical frames only (R268): a frame of up to 8 bytes goes as one, a longer one is refused. DEDUCED, unsafe: log entry 100. DEDUCED, unsafe: log entry 106. -/
def submit (s : State) (x : Nat) (f : Frame) (pdo : Bool) : State :=
  let fd := rdF s (canObj x) 9
  if (s.zh6432 && x == 3) || canState s x == 0 then s
  else if canMode s x == 1 || f.rtr || (!fd && f.fd && f.data.length > 8) then inc s (canObj x) 0x8B
  else
    let f := if fd then f else { f with fd := false, brs := false, esi := false }
    let c := can s x
    let t : TxFrame := { frame := f, pdo := pdo, at_ := s.now }
    if c.txq.length + (if c.held.isSome then 1 else 0) < 32 then fillTx (setCan s x { c with txq := c.txq ++ [t] }) x
    else
      match c.txq.find? (·.pdo) with
      | some old => fillTx (inc (setCan s x { c with txq := dropFirst old c.txq ++ [t] }) (canObj x) 0x8B) x
      | none => inc s (canObj x) 0x8B

/-- A frame of the building-network stream goes to CAN0 and CAN1 (R278). -/
def submitPair (s : State) (f : Frame) (pdo : Bool) : State := submit (submit s 0 f pdo) 1 f pdo

-- Error states (R284 to R286) -------------------------------------------------------------------------------------

/-- Error-passive starts or ends with the counters. -/
def passiveCheck (s : State) (x : Nat) : State :=
  let o := canObj x
  let p := rdN s o 0x83 ≥ 128 || rdN s o 0x84 ≥ 128
  let s := if within (canState s x) 2 3 then wrN s o 0x80 (if p then 3 else 2) else s
  cond s (p && within (canState s x) 2 3) (32 + x) 0 (canLoc x 0 0 0) x

/-- SOLITARY ends at the first frame received or acknowledged. -/
def solitaryEnd (s : State) (x : Nat) : State :=
  let s := wrN s (canObj x) 0x94 0
  if solitary s x then condEnd (wrF s (canObj x) 0x82 false) (40 + x) 0 (canLoc x 0 0 0) else s

/-- A transmission succeeded: the counters of ISO 11898-1 (R284). PRESUMED, unsafe: log entry 98. -/
def txSuccess (s : State) (x : Nat) : State :=
  let o := canObj x
  let s := wrN (wrN (wrN s o 0x83 (rdN s o 0x83 - 1)) o 0x85 0) o 0x86 0
  solitaryEnd (passiveCheck s x) x

/-- Bus-off (R284): the frame in transmission is held. -/
def busOff (s : State) (x : Nat) : State :=
  let (s, f) := headFrame s x 33
  let c := can s x
  let s := match f with
    | some f => setCan s x { c with held := some f, txq := if c.held.isSome then c.txq else dropFirst f c.txq, offAt := s.now }
    | none => setCan s x { c with offAt := s.now }
  let s := inc (wrN (wrN s (canObj x) 0x83 256) (canObj x) 0x80 4) (canObj x) 0x8C
  let s := condEnd s (32 + x) 0 (canLoc x 0 0 0)
  condStart s (36 + x) 0 (canLoc x 0 0 0) x

/-- A bus error (R284, R286): `tx` while transmitting, `kind` 1 to 6, in the data phase or not, `eight` where ISO 11898-1 has a
receiver add 8. PRESUMED, unsafe: log entry 98. -/
def canError (s : State) (x : Nat) (tx : Bool) (kind : Nat) (dataPhase eight : Bool) : State :=
  let o := canObj x
  if !(within (canState s x) 2 3 || canState s x == 6) then s else
  let s := wrN s o (if dataPhase then 0x86 else 0x85) kind
  if canMode s x == 1 then s else
  let s :=
    if tx then
      if kind == 3 && canState s x == 3 then s else wrN s o 0x83 (Nat.min 256 (rdN s o 0x83 + 8))
    else wrN s o 0x84 (Nat.min 255 (rdN s o 0x84 + (if eight then 8 else 1)))
  let s := if tx && kind == 3 then
      let n := Nat.min 255 (rdN s o 0x94 + 1)
      let s := wrN (inc s o 0x8E) o 0x94 n
      if n ≥ 16 && !solitary s x then
        let s := setCan (inc (wrF s o 0x82 true) o 0x8D) x { can s x with tryAt := s.now }
        condStart s (40 + x) 0 (canLoc x 0 0 0) x
      else s
    else s
  if rdN s o 0x83 > 255 then busOff s x else passiveCheck s x

/-- Recovery starts after the hold-off, or by command (R285). -/
def holdoffExpired (s : State) (x : Nat) : State :=
  if canState s x == 4 && rdN s (canObj x) 0x0D == 1 && s.now ≥ (can s x).offAt + rdN s (canObj x) 0x0E * 10 then wrN s (canObj x) 0x80 5 else s

/-- Recovery is complete (R285). -/
def recoveryComplete (s : State) (x : Nat) : State :=
  let o := canObj x
  if canState s x != 5 then s else
  let s := wrN (wrN (wrN s o 0x83 0) o 0x84 0) o 0x80 2
  let s := emcy s { code := 0x8140, loc := 0, pennant := 0xFF, source := x, obj := 0 }
  condEnd s (36 + x) 0 (canLoc x 0 0 0)

-- Reception (R272 to R276) ----------------------------------------------------------------------------------------

def filtersInUse (c : Can) : List Filter := if c.inUse == 0 then c.table0 else c.table1

def matches_ (f : Frame) (q : Filter) : Bool :=
  q.enabled && q.ide == f.ide && Nat.land (Nat.xor f.id q.id) q.mask == 0

/-- The stamp of a frame whose start-of-frame edge was `back` ticks ago at CLK_CAN cycle `cycle` (R272). -/
def frameStamp (s : State) (back cycle : Nat) : Nat × Nat := ((s.tick - back) % 2 ^ 32, cycle)

/-- Store a frame in buffer `n` (R274); `opened` says that its reader opens it right after. DEDUCED, unsafe: log entry 99. -/
def storeBuffer (s : State) (x n reader : Nat) (f : Frame) (stamp : Nat × Nat) (opened : Bool) : State :=
  let c := can s x
  let b := Tab.get c.bufs n {}
  let lossy := if b.isOpen then b.shadow.isSome else b.isNew
  let b := if b.isOpen then { b with shadow := some f, shadowStamp := stamp } else { b with frame := some f, stamp := stamp, isNew := true }
  let b := { b with overrun := b.overrun || lossy, lost := if lossy then Nat.min 65535 (b.lost + 1) else b.lost, isOpen := b.isOpen || opened, reader := reader }
  let s := setCan s x { c with bufs := Tab.put c.bufs n b }
  if lossy then event2 (inc s (canObj x) 0x89) x (if b.isOpen then 1 else 0) n else s
where
  /-- pennant CANx_RX_LOSS (R275) -/
  event2 (s : State) (x bank n : Nat) : State := eventWith s (44 + x) (canLoc x 1 bank n) 0x0001 0 x

/-- A frame enters the FIFO (R275). -/
def storeFifo (s : State) (x : Nat) (f : Frame) (stamp : Nat × Nat) : State :=
  let c := can s x
  if c.fifo.length ≥ 256 then eventWith (inc s (canObj x) 0x8A) (44 + x) (canLoc x 2 0 255) 0x0001 0 x
  else wrN (setCan s x { c with fifo := c.fifo ++ [{ frame := f, tick := stamp.1, cycle := stamp.2 }] }) (canObj x) 0x93 (c.fifo.length + 1)

/-- Pass a valid frame through the filters. -/
def routeFrame (s : State) (x : Nat) (f : Frame) (stamp : Nat × Nat) (opened : Bool) : State :=
  match (filtersInUse (can s x)).find? (matches_ f) with
  | some q => if q.target ≤ 63 then storeBuffer s x q.target q.reader f stamp opened else if q.target == 64 then storeFifo s x f stamp else s
  | none => s

/-- A frame becomes valid at the controller (R267, R268, R272). The receive error counter falls by 1, or to 127 from above (ISO
11898-1, R284). DEDUCED, unsafe: log entry 101. DEDUCED, unsafe: log entry 103. -/
def receive (s : State) (x : Nat) (f : Frame) (back cycle : Nat) (opened : Bool) : State :=
  let o := canObj x
  if !(within (canState s x) 2 3 || canState s x == 6) then s
  else if f.fd && !rdF s o 9 then inc s o 0x90
  else
    let s := if canMode s x == 1 then s else
      let r := rdN s o 0x84
      passiveCheck (wrN s o 0x84 (if r > 127 then 127 else r - 1)) x
    let s := solitaryEnd (wrN (wrN s o 0x85 0) o 0x86 0) x
    let s := inc s o 0x87
    if f.rtr then inc s o 0x8F else routeFrame s x f (frameStamp s back cycle) opened

/-- A reader releases buffer `n`, or takes the oldest frame of the FIFO for `n` = 64 (R274). DEDUCED, unsafe: log entry 99. -/
def bufferRelease (s : State) (x n : Nat) : State :=
  let c := can s x
  if n == 64 then wrN (setCan s x { c with fifo := c.fifo.drop 1 }) (canObj x) 0x93 (c.fifo.length - 1)
  else
    let b := Tab.get c.bufs n {}
    let b := match b.shadow with
      | some f => { b with frame := some f, stamp := b.shadowStamp, shadow := none, isNew := true, isOpen := false, overrun := false }
      | none => { b with isNew := false, isOpen := false, overrun := false }
    setCan s x { c with bufs := Tab.put c.bufs n b }

/-- A frame goes out with BRS = 1 (R267, R271). -/
def sentBrs (s : State) (f : TxFrame) : Bool := f.frame.fd && f.frame.brs && !condHolds s 0

/-- The loop delay is measured in the frame being transmitted, if it is an FD frame with BRS = 1 and TDC is automatic (R270). -/
def sentDelay (s : State) (x : Nat) (delay : Option Nat) : State :=
  if !within (canState s x) 2 3 || canMode s x == 1 then s else
  match delay, (headFrame s x 33).2 with
  | some d, some f => if sentBrs s f && rdN s (canObj x) 0x0A == 1 then wrN s (canObj x) 0x91 d else s
  | _, _ => s

/-- The head frame is sent and acknowledged (R277): own frames come back in the loopback modes (R281), stamped by their
start-of-frame edge. -/
def transmitted (s : State) (x delay back cycle : Nat) : State :=
  if !within (canState s x) 2 3 || canMode s x == 1 then s else
  let s := sentDelay s x (some delay)
  let (s, f) := headFrame s x 33
  match f with
  | none => s
  | some f =>
    let c := can s x
    let c := if c.held == some f then { c with held := none } else { c with txq := dropFirst f c.txq }
    let own := { f.frame with brs := sentBrs s f, esi := f.frame.fd && canState s x == 3 }
    let s := txSuccess (inc (fillTx (setCan s x c) x) (canObj x) 0x88) x
    if canMode s x == 2 || canMode s x == 3 then routeFrame (inc s (canObj x) 0x87) x own (frameStamp s back cycle) false else s

/-- The head frame is sent and acknowledged; a controller in SOLITARY holds its queue and sends by its retries only (R277, R286). -/
def arbitrationWon (s : State) (x delay back cycle : Nat) : State := if solitary s x then s else transmitted s x delay back cycle

/-- One single-shot attempt in SOLITARY (R286). -/
def solitaryRetry (s : State) (x : Nat) (acked : Bool) (delay back cycle : Nat) : State :=
  if !solitary s x || s.now < (can s x).tryAt + rdN s (canObj x) 0x0F * 10 then s else
  let s := setCan s x { can s x with tryAt := s.now }
  let (s, f) := headFrame s x 33
  if f.isNone then s else if acked then transmitted s x delay back cycle else canError (sentDelay s x (some delay)) x true 3 false false

/-- The new filter allocation takes over at bus idle (R273). DEDUCED, unsafe: log entry 105. -/
def filterSwitch (s : State) (x : Nat) (l : List Filter) : State :=
  let c := can s x
  if !c.realloc then s
  else if c.inUse == 0 then setCan s x { c with table1 := l.take 128, inUse := 1, realloc := false }
  else setCan s x { c with table0 := l.take 128, inUse := 0, realloc := false }

/-- The filters of every controller are to be allocated afresh (R273). -/
def reallocate (s : State) : State := foldS s (List.range (if s.zh6432 then 3 else 4)) fun s x => setCan s x { can s x with realloc := true }

-- Enabling (R269, R289) -------------------------------------------------------------------------------------------

/-- A controller is enabled with its timing; an invalid stored set gives way to the Defaults. DEDUCED, unsafe: log entry 102. -/
def canEnable (s : State) (x : Nat) : State :=
  if (s.zh6432 && x == 3) || canState s x != 0 then s else
  let o := canObj x
  let s := if timingOk s x then s else
    event (foldS s (List.range 11) fun s i => wrB s o (i + 1) (defaultAt (key o (i + 1)))) 3 (canLoc x 0 0 0)
  let s := wrN (wrN s o 0x95 (nomRate s x).floor.toNat) o 0x96 (if rdF s o 9 then (dataRate s x).floor.toNat else 0)
  let s := wrN (wrN (wrN (wrN s o 0x83 0) o 0x84 0) o 0x80 1) o 0x81 (modeWanted s x)
  setCan s x { can s x with txq := [], held := none, modeDue := false }

/-- 11 recessive bits have been seen (R289). -/
def integrationComplete (s : State) (x : Nat) : State :=
  if canState s x == 1 then wrN s (canObj x) 0x80 (if canMode s x == 1 then 6 else 2) else s

/-- A controller is disabled and its buffers are lost: SLEEP, SHIP, KILL_n (R289). -/
def canDisable (s : State) (x : Nat) : State :=
  let c := can s x
  let o := canObj x
  let s := setCan s x { table0 := c.table0, table1 := c.table1, inUse := c.inUse }
  wrN (wrN (wrF (wrN s o 0x80 0) o 0x82 false) o 0x92 0) o 0x93 0

-- The DOMAINs 0x2800+x:A0 and A1 (R292) ---------------------------------------------------------------------------

def filterBytes (f : Filter) (used : Bool) : List Byte :=
  leBytes 4 (f.id % 2 ^ 29 + (if f.ide then 2 ^ 29 else 0) + (if f.enabled then 2 ^ 31 else 0)) ++ leBytes 4 (f.mask % 2 ^ 29) ++
  [BitVec.ofNat 8 f.target, BitVec.ofNat 8 f.reader, if used then 0x80#8 else 0#8, 0#8]

def noFilter : Filter := { enabled := false, ide := false, id := 0, mask := 0, target := 0, reader := 0 }

def filterDomain (c : Can) : List Byte :=
  let one (l : List Filter) (used : Bool) : List Byte := ((List.range 128).map fun i => filterBytes (l.getD i noFilter) used).flatten
  one c.table0 (c.inUse == 0) ++ one c.table1 (c.inUse == 1)

/-- 0x2800+x:A1: the last stored frame of a buffer stands in its shadow while that is full (R274, R292). -/
def bufferDomain (c : Can) : List Byte :=
  ((List.range 64).map fun n =>
    let b := Tab.get c.bufs n {}
    let f := (b.shadow.or b.frame).getD { id := 0, fd := false }
    let fl (x : Bool) (i : Nat) : Nat := if x then 2 ^ i else 0
    leBytes 4 (f.id % 2 ^ 29 + fl f.ide 29) ++
    [BitVec.ofNat 8 (fl b.isNew 0 + fl b.isOpen 1 + fl b.shadow.isSome 2 + fl b.overrun 3 + fl f.esi 4 + fl f.fd 5 + fl f.brs 6),
     BitVec.ofNat 8 f.data.length] ++ leBytes 2 b.lost).flatten

end Sys2Proof.Machine
end

