-- ==== Sys2Proof/Machine/Rtc.lean ====
section
/-! DEFINITION. The real-time clock and the backup domain: calendar, coherent reading, setting and adjustment, alarms, WAKE
and PWRON, retained memory, trim and oscillator (R361 to R385). -/
namespace Sys2Proof.Machine
open Sys2Proof Sys2Proof.OD

def setCal (s : State) (c : Cal) : State := { s with cal := c }
/-- The last second of the calendar (R363). -/
def calMax : Nat := 12622780799
def alarmObj (a : Nat) : Nat := 0x2310 + a
def calValid (s : State) : Bool := rdF s 0x2300 0x09

-- Dates (R363) ----------------------------------------------------------------------------------------------------

def leap (y : Nat) : Bool := y % 4 == 0 && !(y == 2100 || y == 2200 || y == 2300)
def monthDays (y m : Nat) : Nat :=
  if m == 2 then (if leap y then 29 else 28) else if m == 4 || m == 6 || m == 9 || m == 11 then 30 else 31
/-- Days from 2000-01-01 to the first day of a year. -/
def yearStart (y : Nat) : Nat := ((List.range (y - 2000)).map fun i => if leap (2000 + i) then 366 else 365).foldl (· + ·) 0
/-- Days from 1 January to the first day of a month. -/
def monthStart (y m : Nat) : Nat := ((List.range (m - 1)).map fun i => monthDays y (i + 1)).foldl (· + ·) 0
/-- Year and day of the year of a day count. -/
def yearOf : Nat → Nat → Nat → Nat × Nat
  | 0, y, d => (y, d)
  | n + 1, y, d => let l := if leap y then 366 else 365; if d < l then (y, d) else yearOf n (y + 1) (d - l)
/-- Month and day of a day of the year. -/
def monthOf (y : Nat) : Nat → Nat → Nat → Nat × Nat
  | 0, m, d => (m, d + 1)
  | n + 1, m, d => if d < monthDays y m then (m, d + 1) else monthOf y n (m + 1) (d - monthDays y m)

/-- Calendar field 01 to 06, 08 or 0A of a UTC second (R363, R384). -/
def calField (secs sub : Nat) : Nat :=
  let day := secs / 86400
  let (y, doy) := yearOf 400 2000 day
  let (m, d) := monthOf y 12 1 doy
  match sub with
  | 1 => y
  | 2 => m
  | 3 => d
  | 4 => secs / 3600 % 24
  | 5 => secs / 60 % 60
  | 6 => secs % 60
  | 8 => (day + 5) % 7 + 1
  | _ => secs

-- Coherent reading (R366, R367) -----------------------------------------------------------------------------------

def fieldAt (secs sub n : Nat) : Nat := if n == 7 then sub else calField secs n

/-- A client's read of 0x2300:01 to 08 or 0A, with the value. -/
def calRead (s : State) (client n : Nat) : State × Nat :=
  let mine := s.cal.shadows.find? (·.client == client)
  let sh := mine.getD { client := client, at_ := s.now, secs := s.cal.secs, sub := subSecond s }
  let rest := s.cal.shadows.filter (·.client != client)
  let keep := if n == 7 then rest else if mine.isSome then s.cal.shadows else (sh :: rest).take 16
  (setCal s { s.cal with shadows := keep }, fieldAt sh.secs sh.sub n)

/-- 500 ms after the freeze the shadows are released. -/
def shadowTimeout (s : State) (client : Nat) : State :=
  setCal s { s.cal with shadows := s.cal.shadows.filter fun x => !(x.client == client && x.at_ + msT 500 ≤ s.now) }

-- Validity (R364, R365, R382) -------------------------------------------------------------------------------------

def calSetValid (s : State) (v : Bool) : State := cond (wrF s 0x2300 0x09 v) (!v) 64 0 0x01300000 0xFF

-- Alarms (R373 to R377) -------------------------------------------------------------------------------------------

/-- Period and first instant of an alarm's occurrences; period 0: the one instant. -/
def alarmTimes (s : State) (a : Nat) : Option (Nat × Nat) :=
  let t := rdN s (alarmObj a) 2
  match rdN s (alarmObj a) 1 with
  | 1 => some (0, t)
  | 2 => some (86400, t)
  | 3 => some (604800, (t + 172800) % 604800)
  | _ => none

/-- Occurrences with instants at or before x. -/
def occUpTo (p : Nat × Nat) (x : Nat) : Nat := if x < p.2 then 0 else if p.1 == 0 then 1 else (x - p.2) / p.1 + 1
/-- The latest of them. -/
def occLast (p : Nat × Nat) (x : Nat) : Nat := if p.1 == 0 then p.2 else x - (x - p.2) % p.1

/-- PWRON is asserted, for a cause (R379). -/
def pwronAssert (s : State) (cause alarm : Nat) : State :=
  let s := wrN s 0x2300 0x82 cause
  let s := if cause == 2 then wrN s 0x2300 0x84 alarm else s
  setCal s { s.cal with pwron := true, offDue := none, stopped := false }

/-- An alarm fires (R374, R376). -/
def alarmFire (s : State) (a instant : Nat) (skipped : Bool) : State :=
  let o := alarmObj a
  let s := inc (wrN (wrN (wrN s o 0x85 instant) o 0x80 instant) o 0x81 (if skipped then 1 else 0)) o 0x83
  let act := rdN s o 3
  let s := if bit act 0 then pwronAssert s 2 a else s
  if bit act 1 then logAdd s 0x0050 (0x01304000 + a) 0xFF a else s

/-- The alarms at a pulse of second n; seconds `past` + 1 to n − 1 were skipped. DEDUCED, unsafe: log entry 152. -/
def alarmsAt (s : State) (past n : Nat) : State :=
  let s := foldS s (List.range 8) fun s a =>
    match alarmTimes s a with
    | none => s
    | some p =>
      let lo := Nat.max past (rdN s (alarmObj a) 0x85)
      let k := occUpTo p (n - 1) - occUpTo p lo
      if n ≤ lo + 1 || k == 0 then s
      else alarmFire (incBy s (alarmObj a) 0x82 k) a (occLast p (n - 1)) true
  foldS s (List.range 8) fun s a =>
    match alarmTimes s a with
    | none => s
    | some p => if 0 < occUpTo p n && occLast p n == n && rdN s (alarmObj a) 0x85 < n then alarmFire s a n false else s

/-- The next occurrence of an alarm (0x2310+a:84), 0 for none. DEDUCED, unsafe: log entry 154. -/
def alarmNext (s : State) (a : Nat) : Nat :=
  match alarmTimes s a with
  | none => 0
  | some p =>
    let x := Nat.max s.cal.secs (rdN s (alarmObj a) 0x85)
    let n := if x < p.2 then p.2 else if p.1 == 0 then 0 else occLast p x + p.1
    if n ≤ calMax then n else 0

/-- A time outside its mode's range is refused (R373). -/
def alarmOk (mode t : Nat) : Bool :=
  match mode with
  | 0 => true
  | 1 => t ≤ calMax
  | 2 => t < 86400
  | _ => t < 604800

/-- A write of an alarm's mode or time sets its latch (R375). -/
def alarmWritten (s : State) (a : Nat) : State := wrN s (alarmObj a) 0x85 s.cal.secs

-- Pulses and slew (R371, R374) ------------------------------------------------------------------------------------

/-- The slew at a seconds boundary: its first second begins, or one more is done. -/
def slewStep (s : State) : State :=
  match s.cal.slew with
  | none => s
  | some w =>
    if !w.begun then setCal s { s.cal with slew := some { w with begun := true } }
    else if w.i + 1 ≥ 200 then wrN (setCal s { s.cal with slew := none }) 0x2300 0x0C 0
    else setCal s { s.cal with slew := some { w with i := w.i + 1 } }

/-- Remaining ms of the slew: what it was given less the counts already passed. DEDUCED, unsafe: log entry 151. -/
def slewLeft (s : State) : Rat :=
  match s.cal.slew with
  | none => 0
  | some w => w.d - (((w.i : Int) * w.c / 200 : Int) : Rat) * 1000 / 32768

/-- 0x2300:0C and 0D follow the slew. -/
def slewShow (s : State) : State :=
  wrI (wrF s 0x2300 0x0C s.cal.slew.isSome) 0x2300 0x0D (if s.cal.slew.isSome then roundRat (slewLeft s) else 0)

/-- A seconds pulse carries second n; `past` is the second it follows. -/
def pulse (s : State) (past n : Nat) : State :=
  let s := alarmsAt s past n
  { s with tt := { s.tt with pulse := true } }

/-- The prescaler wraps (R362 to R365, R371, R374). DEDUCED, unsafe: log entry 150. DEDUCED, unsafe: log entry 154. -/
def secondsPulse (s : State) : State :=
  if s.cal.stopped then s else
  let s := slewShow (slewStep s)
  if s.cal.secs ≥ calMax then calSetValid s false
  else
    let n := s.cal.secs + 1
    let s := setCal s { s.cal with secs := n, pulseAt := s.now, sub0 := 0 }
    if calValid s then pulse s (n - 1) n else s

-- Setting the time (R368, R369) -----------------------------------------------------------------------------------

/-- A staged write of field 01 to 05. -/
def calStage (s : State) (client n v : Nat) : State :=
  let old := (Tab.get s.cal.stage client ([], 0)).1.filter (·.1 != n)
  setCal s { s.cal with stage := Tab.put s.cal.stage client ((n, v) :: old, s.now) }

/-- Ten seconds without a write by the client discard its staged fields. -/
def stageTimeout (s : State) (client : Nat) : State :=
  match Tab.find s.cal.stage client with
  | some (_, t) => if t + msT 10000 ≤ s.now then setCal s { s.cal with stage := Tab.del s.cal.stage client } else s
  | none => s

/-- The calendar jumps to second n with sub-second `sub` (R369, R372): shadows released, slew cancelled, counted. DEDUCED,
unsafe: log entry 153. -/
def calJump (s : State) (n sub : Nat) (commit : Bool) : State :=
  let past := s.cal.secs
  let was := calValid s
  let s := setCal s { s.cal with secs := n, pulseAt := s.now, sub0 := sub, slew := none, shadows := [] }
  let s := inc (slewShow s) 0x2300 0x0F
  let s := calSetValid s true
  if commit || past != n || !was then pulse s (if was && past < n then past else n - 1) n else s

/-- A write of field 06 by a client (R368, R369): the date, or the refusal. -/
def calCommit (s : State) (client v : Nat) : State × Nat :=
  let mine := (Tab.get s.cal.stage client ([], 0)).1
  let f (n : Nat) : Nat := match mine.find? (·.1 == n) with | some p => p.2 | none => calField s.cal.secs n
  let y := f 1
  let m := f 2
  let d := f 3
  if !(within y 2000 2399 && within m 1 12 && within d 1 (monthDays y m)) then
    (setCal s { s.cal with stage := Tab.del s.cal.stage client }, 0x06090030)
  else
    let n := (yearStart y + monthStart y m + (d - 1)) * 86400 + f 4 * 3600 + f 5 * 60 + v
    (calJump (setCal s { s.cal with stage := [] }) n 0 true, 0)

-- Adjustments (R370 to R372) --------------------------------------------------------------------------------------

/-- Counts since 2000-01-01 00:00. -/
def calCounts (s : State) : Int := (s.cal.secs : Int) * 32768 + subSecond s

/-- An adjustment of d ms: slewed or stepped, or refused with a code. DEDUCED, unsafe: log entry 151. DESIGN CHOICE, unsafe: log
entry 159. -/
def calAdjust (s : State) (d : Rat) : State × Nat :=
  if !calValid s then (s, 0x08000022) else
  let d := d + slewLeft s
  if -2000 ≤ d && d ≤ 2000 then
    let w : Slew := { c := roundRat (d * 32768 / 1000), d := d, i := 0, begun := false }
    (inc (slewShow (setCal s { s.cal with slew := some w })) 0x2300 0x0E, 0)
  else
    let t := calCounts s + roundRat (d * 32768 / 1000)
    if t < 0 || ((calMax : Int) + 1) * 32768 ≤ t then (s, 0x06090030)
    else (calJump s (t / 32768).toNat (t % 32768).toNat false, 0)

/-- A TIME frame of instant `ms` since 2000-01-01 (R313); the device takes it while bit 31 of 0x1012 is 1 (R294). DESIGN CHOICE,
unsafe: log entry 159. -/
def timeFrame (s : State) (ms : Int) : State :=
  if !rdBit s 0x1012 0 31 then s
  else if ms < 0 || ((calMax : Int) + 1) * 1000 ≤ ms then inc s 0x1FF0 0x82
  else if !calValid s then calJump s (ms / 1000).toNat (roundRat (((ms % 1000 : Int) : Rat) * 32768 / 1000)).toNat false
  else
    let d : Rat := (ms : Rat) - (calCounts s : Rat) * 1000 / 32768
    if -5 < d && d < 5 then s
    else if s.cal.slew.isSome && -2000 ≤ d && d ≤ 2000 then s
    else (calAdjust s d).1

-- WAKE and PWRON (R378, R379, R400) -------------------------------------------------------------------------------

/-- A wake event: WAKE has held its active level for the debounce time. DEDUCED, unsafe: log entry 157. -/
def wakeEvent (s : State) : State :=
  let s := wrF (inc s 0x2300 0x83) 0x2300 0x81 (rdN s 0x2300 0x20 == 1)
  if rdN s 0x2100 0x80 == 4 || rdN s 0x2100 0x80 == 5 then pwronAssert s 1 0
  else logAdd s 0x0051 0 0xFF 0

/-- PWRON is deasserted; for SHIP the oscillator stops and the calendar is held as invalid. -/
def pwronDeassert (s : State) : State :=
  match s.cal.offDue with
  | none => s
  | some ship =>
    let s := setCal s { s.cal with pwron := false, offDue := none, stopped := s.cal.stopped || ship }
    if ship then calSetValid s false else s

/-- The backup brown-out (R361): the domain's values take their Defaults. DEDUCED, unsafe: log entry 155. -/
def backupReset (s : State) : State :=
  let inDomain (k : Nat) : Bool := k / 256 == 0x2300 && (within (k % 256) 1 0x0F || within (k % 256) 0x20 0x21 || within (k % 256) 0x33 0x34 || within (k % 256) 0x81 0x84)
    || (within (k / 256) 0x2310 0x2317 && k % 256 ≥ 0x80) || (k / 256 == 0x2200 && within (k % 256) 0x9A 0x9C)
  let s := { s with dict := s.dict.filter fun p => !inDomain p.1 }
  let s := setCal s { secs := 0, pulseAt := s.now, pwron := true, stage := s.cal.stage }
  calSetValid (pwronAssert s 0 0) false

-- Retained memory (R380) ------------------------------------------------------------------------------------------

/-- Block b, written whole. -/
def retainedWrite (s : State) (b : Nat) (v : List Byte) : State :=
  wrB (setCal s { s.cal with retBad := s.cal.retBad.filter (· != b) }) 0x2300 (0x40 + b) v

/-- Block b, or none where its CRC fails. -/
def retainedRead (s : State) (b : Nat) : State × Option (List Byte) :=
  if s.cal.retBad.contains b then (event s 67 (0x01308000 + b), none)
  else
    let pad (l : List Byte) : List Byte := l ++ List.replicate (30 - l.length) 0#8
    let v := match b with
      | 0 | 1 =>
        let r := (Tab.get s.panels b {}).ret
        pad (leBytes 6 r.1 ++ leBytes 6 r.2.1 ++ leBytes 1 (if r.2.2.1 then 1 else 0) ++ leBytes 1 r.2.2.2)
      | _ => pad (rdB s 0x2300 (0x40 + b))
    (s, some v)

-- Trim and oscillator (R381, R382) --------------------------------------------------------------------------------

/-- The trim of the period that begins. DEDUCED, unsafe: log entry 158. -/
def trimPeriod (s : State) : State :=
  let q (n : Nat) : Rat := F32.toRat (rdR s 0x2300 n)
  let dt := q 0x34 - q 0x32
  let n := roundRat ((q 0x30 - q 0x31 * dt * dt) * mkRat 1048576 1000000)
  wrI s 0x2300 0x33 (if n < -127 then -127 else if 127 < n then 127 else n)

/-- The oscillator failed. -/
def oscFail (s : State) : State := calSetValid (event s 65 0x0130C000) false

/-- The stop detector records an oscillator stop in a device that is off, for the next start-up. -/
def oscStopped (s : State) : State := calSetValid (setCal s { s.cal with oscStop := true }) false

/-- What the stop detector recorded, at start-up. -/
def oscReport (s : State) : State := if s.cal.oscStop then event (setCal s { s.cal with oscStop := false }) 65 0x0130C000 else s

end Sys2Proof.Machine
end

