-- ==== Sys2Proof/Machine/Power.lean ====
section
/-! DEFINITION. Supply feeds, the mains monitor with its crossings, events and shed levels, zero-crossing outputs, and the power
states with the orderly store (R113 to R115, R386 to R400). -/
namespace Sys2Proof.Machine
open Sys2Proof Sys2Proof.OD

def setPw (s : State) (x : Power) : State := { s with pw := x }
def feedObj (f : Nat) : Nat := 0x2110 + f
def feed (s : State) (f : Nat) : Feed := Tab.get s.pw.feeds f {}
def setFeed (s : State) (f : Nat) (x : Feed) : State := setPw s { s.pw with feeds := Tab.put s.pw.feeds f x }
def feedOn (s : State) (f : Nat) : Bool := rdF s (feedObj f) 1
def mainsLoc (f : Nat) : Nat := 0x03208000 + f
/-- A REAL32 sub-index of a feed as a rational. -/
def fq (s : State) (f n : Nat) : Rat := F32.toRat (rdR s (feedObj f) n)

-- The 3.3 V feeds (R386) ------------------------------------------------------------------------------------------

/-- Bits 2 and 3 of the feed status: a feed that is not usable carries nothing, the other one then does. DEDUCED, unsafe: log
entry 166. -/
def feedCarry (s : State) (prefer : Nat) : State :=
  let a := rdBit s 0x2100 0x81 0
  let b := rdBit s 0x2100 0x81 1
  wrBit (wrBit s 0x2100 0x81 2 (a && (!b || prefer == 0))) 0x2100 0x81 3 (b && (!a || prefer == 1))

/-- A feed has been below the brown-out threshold for 10 µs. -/
def feedBrownOut (s : State) (f : Nat) : State :=
  if !rdBit s 0x2100 0x81 f then s else
  condStart (inc (feedCarry (wrBit s 0x2100 0x81 f false) (1 - f)) 0x2100 (0x88 + f)) (56 + f) 0 (0x03200000 + f) 0xFF

/-- A feed has been above the threshold plus 50 mV for 10 ms; `prefer` is the feed with the higher voltage. DEDUCED, unsafe: log
entry 166. -/
def feedRestored (s : State) (f prefer : Nat) : State :=
  condEnd (feedCarry (wrBit s 0x2100 0x81 f true) prefer) (56 + f) 0 (0x03200000 + f)

-- The mains monitor (R390 to R396) --------------------------------------------------------------------------------

/-- The pin voltage of a channel's tick-pass record, or none. -/
def pinVolts (s : State) (ch : Nat) : Option Rat :=
  let c := chan s ch
  if c.valid then some c.pin else none

/-- The root of the mean square of the samples held. DEDUCED, unsafe: log entry 163. -/
def rmsOf (l : List Rat) : Rat := if l.isEmpty then 0 else sqrtRat ((l.foldl (fun a x => a + x * x) 0) / (l.length : Rat))

/-- P̄ of the periods accepted since the history was cleared (R393). -/
def meanPeriod (x : Feed) : Option Rat :=
  if x.periods.isEmpty then none else some (((x.periods.foldl (· + ·) 0 : Nat) : Rat) / (x.periods.length : Rat))

/-- Severity of an event class. -/
def severity (c : Nat) : Nat := match c with | 3 => 3 | 1 => 2 | 2 => 1 | _ => 0

/-- The next event class (R396). -/
def nextClass (cls : Nat) (pct d w i h : Rat) : Nat :=
  match cls with
  | 0 => if pct < i then 3 else if pct < d then 1 else if w < pct then 2 else 0
  | 1 => if pct < i then 3 else if d + h ≤ pct then 0 else 1
  | 3 => if d + h ≤ pct then 0 else if i + h ≤ pct then 1 else 3
  | _ => if pct ≤ w - h then 0 else 2

/-- Classes 12 quantities of a feed that are valid (R392, R395). DEDUCED, unsafe: log entry 162. -/
def mainsMarks (s : State) (f : Nat) : State :=
  let x := feed s f
  let bad := !feedOn s f || rdBit s (feedObj f) 0x84 4
  let v (q : Nat) (b : Bool) (l : List Nat) : List Nat := if b && !bad then (f * 8 + q) :: l else l
  let rest := s.mainsValid.filter fun i => !within i (f * 8) (f * 8 + 3)
  { s with mainsValid := v 0 x.closed (v 1 (rdBit s (feedObj f) 0x84 1) (v 2 true (v 3 x.closed rest))) }

/-- The comparison with the check input at a close (R391). -/
def checkClose (s : State) (f : Nat) (rms : Rat) : State :=
  if !rdF s (feedObj f) 2 then s else
  let x := feed s f
  let c := rmsOf x.cs
  let diff := if rms < c then c - rms else rms - c
  let beyond := decide (fq s f 0x2C * fq s f 0x20 / 100 < diff)
  let x := { x with missRun := if beyond then x.missRun + 1 else 0, okRun := if beyond then 0 else x.okRun + 1 }
  let s := setFeed s f x
  let set (s : State) (b : Bool) : State := cond (wrBit (wrBit s (feedObj f) 0x84 3 b) (feedObj f) 0x84 4 b) b 61 f (mainsLoc f) 0xFF
  if x.missRun ≥ 10 then set s true else if x.okRun ≥ 10 then set s false else s

/-- A half-cycle close: RMS, percentage, check, class and event (R391, R395, R396). DEDUCED, unsafe: log entry 165. -/
def halfCycleClose (s : State) (f : Nat) : State :=
  let o := feedObj f
  let x := feed s f
  let rms := rmsOf x.xs
  let pct := F32.ofRat (100 * rms / fq s f 0x20)
  let s := wrR (wrR (setFeed s f { x with closed := true }) o 0x80 (F32.ofRat rms)) o 0x83 pct
  let s := checkClose s f rms
  let cls := rdN s o 0x82
  let now := nextClass cls (F32.toRat pct) (fq s f 0x22) (fq s f 0x23) (fq s f 0x24) (fq s f 0x25)
  let s := wrN s o 0x82 now
  let x := feed s f
  let s := match x.ev with
    | none =>
      if now == 0 then s
      else eventWith (setFeed s f { x with ev := some (s.now, now, pct) }) 59 (mainsLoc f) 0x0070 f 0xFF
    | some (t, worst, ext) =>
      if now == 0 then
        let s := wrN (wrN s o 0x8B worst) o 0x8C (s.tick - (s.now - t))
        let s := wrR (wrN s o 0x8D (roundRat (mkRat (s.now - t) 10)).toNat) o 0x8E ext
        let s := inc s o (match worst with | 1 => 0x87 | 2 => 0x88 | _ => 0x89)
        eventWith (setFeed s f { x with ev := none }) 59 (mainsLoc f) 0x0071 f 0xFF
      else
        let w := if severity worst < severity now then now else worst
        setFeed s f { x with ev := some (t, w, if w == 2 then F32.max ext pct else F32.min ext pct) }
  mainsMarks s f

/-- The four newest periods decide an excursion (R394). DEDUCED, unsafe: log entry 164. -/
def excursion (s : State) (f p : Nat) : State :=
  let x := feed s f
  let fr : Rat := 1000000000 / (p : Rat)
  let nom : Rat := rdN s (feedObj f) 0x26
  let out := decide (fq s f 0x27 < (if fr < nom then nom - fr else fr - nom))
  let x := { x with outRun := if out then x.outRun + 1 else 0, inRun := if out then 0 else x.inRun + 1 }
  let s := setFeed s f x
  let on := rdBit s (feedObj f) 0x84 2
  if !on && x.outRun ≥ 4 then wrBit s (feedObj f) 0x84 2 true
  else if on && x.inRun ≥ 4 then inc (wrBit s (feedObj f) 0x84 2 false) (feedObj f) 0x8A
  else s

/-- ZXO ports of a feed see a positive-going crossing: the fourth in a row resumes a lost port (R113). -/
def zxoSee (s : State) (f tc : Nat) : State :=
  foldS s (List.range 64) fun s n =>
    let p := port s n
    if fpFun s n != 7 || rdN s (fpObj n) 4 != f || !p.zxLost then s else
    let gap := tc - p.zxLast
    let run := if p.zxRun > 0 && within gap 14300000 25000000 then p.zxRun + 1 else 1
    if run ≥ 4 then
      condEnd (wrBit (setPort s n { p with zxRun := 0, zxLast := tc, zxLost := false, zxOn := false, zxAcc := 0 }) (fpObj n) 0x87 2 false)
        17 n (0x0A500000 + n)
    else setPort s n { p with zxRun := run, zxLast := tc }

/-- An accepted crossing at `tc` ns (R392 to R395). -/
def mainsCrossing (s : State) (f tc : Nat) (positive : Bool) : State :=
  let o := feedObj f
  let x := feed s f
  let bad := rdBit s o 0x84 4
  let period := match positive, x.lastPos with
    | true, some p => if within (tc - p) 14300000 25000000 then some (tc - p) else none
    | _, _ => none
  let x := { x with last := some tc, below := false, above := false, seen := if bad then x.seen else tc,
                    periods := (match period with | some p => (p :: x.periods).take 4 | none => x.periods),
                    lastPos := if positive then some tc else x.lastPos }
  let x := match meanPeriod x with | some p => { x with pbar := some p } | none => x
  let x := { x with nextClose := some ((tc : Rat) + mkRat 6 10 * x.pbar.getD 20000000) }
  let s := wrBit (setFeed s f x) o 0x84 0 true
  let s := if positive then wrN (wrN s o 0x85 (s.tick - (s.now - tc / 100000))) o 0x86 (tc % 100000 / 5) else s
  let s := match period with | some p => excursion s f p | none => s
  let s := if x.periods.length ≥ 4 then
      (match meanPeriod x with | some p => wrR (wrBit s o 0x84 1 true) o 0x81 (F32.ofRat (1000000000 / p)) | none => s)
    else s
  let s := halfCycleClose s f
  if positive && !bad then zxoSee s f tc else s

/-- The tick-pass sample of a period (R390, R392). DEDUCED, unsafe: log entry 163. -/
def mainsSample (s : State) (f : Nat) : State :=
  if !feedOn s f then s else
  let x := feed s f
  let scale := fq s f 0x21
  match pinVolts s (76 + 6 * f) with
  | none => setFeed s f { x with fresh := false }
  | some v =>
    let y := v * scale
    let t := nowNs s 0
    let h := mkRat 2 100 * sqrtRat 2 * fq s f 0x20
    let cs := match pinVolts s (88 + 6 * f) with
      | some c => if rdF s (feedObj f) 2 then ((c * scale) :: x.cs).take 200 else x.cs
      | none => x.cs
    let prev := if x.fresh then x.xs.head? else none
    let x := { x with xs := (y :: x.xs).take 200, cs := cs, fresh := true,
                      nextClose := some (x.nextClose.getD ((t + 12000000 : Nat) : Rat)) }
    let s := setFeed s f x
    let s := match prev with
      | none => s
      | some w =>
        let up := decide (w < 0) && decide (0 ≤ y) && x.below
        let down := decide (0 < w) && decide (y ≤ 0) && x.above
        if up || down then
          mainsCrossing s f (5 * (roundRat ((((t - 100000 : Nat) : Rat) + 100000 * w / (w - y)) / 5)).toNat) up
        else s
    let x := feed s f
    mainsMarks (setFeed s f { x with below := x.below || decide (y < -h), above := x.above || decide (h < y) }) f

/-- A close while crossings are absent (R395). -/
def closeTimeout (s : State) (f : Nat) : State :=
  let x := feed s f
  match x.nextClose with
  | some t =>
    if feedOn s f && t ≤ (nowNs s 0 : Rat) then
      halfCycleClose (setFeed s f { x with nextClose := some (t + x.pbar.getD 20000000 / 2) }) f
    else s
  | none => s

/-- No accepted crossing for 25 ms (R392). DEDUCED, unsafe: log entry 164. -/
def crossingLoss (s : State) (f off : Nat) : State :=
  let x := feed s f
  if rdBit s (feedObj f) 0x84 0 && x.last.getD 0 + 25000000 ≤ nowNs s off then
    let s := wrBit (wrBit (setFeed s f { x with periods := [] }) (feedObj f) 0x84 0 false) (feedObj f) 0x84 1 false
    mainsMarks (inc s (feedObj f) 0x8F) f
  else s

-- Zero-crossing outputs (R113 to R115) ----------------------------------------------------------------------------

/-- The crossing m half-periods (`half`) or periods after a known one, less the advance, if this instant is it: the
predicted crossing whose edge instant lies within the base period up to `t`. -/
def edgeDue (base step adv : Rat) (t from_ : Rat) : Option Rat :=
  ([1, 2, 3] : List Nat).findSome? fun (m : Nat) =>
    let c := base + (m : Rat) * step
    if from_ < c && c - adv ≤ t && t < c - adv + 100000 then some c else none

/-- A decision point of burst mode (R115). -/
def zxoDecide (s : State) (n off : Nat) : State :=
  let p := port s n
  let x := feed s (rdN s (fpObj n) 4)
  if fpFun s n != 7 || rdN s (fpObj n) 7 != 1 || p.zxLost || rdBit s (feedObj (rdN s (fpObj n) 4)) 0x84 4 then s else
  match x.lastPos, meanPeriod x with
  | some b, some per =>
    let t := nowNs s off
    match edgeDue b per ((rdN s (fpObj n) 0x27 * 1000 : Nat) : Rat) t (p.zxUsed + per / 2) with
    | some c =>
      let a := p.zxAcc + p.zxK
      let on := a ≥ 50
      setPort s n { p with zxAcc := if on then a - 50 else a, zxOn := on, zxUsed := c, edgeAt := if on == p.zxOn then p.edgeAt else t }
    | none => s
  | _, _ => s

/-- Level mode: the edge at the first crossing of either direction after the level became due (R114). -/
def zxoLevel (s : State) (n off : Nat) : State :=
  let p := port s n
  let x := feed s (rdN s (fpObj n) 4)
  if fpFun s n != 7 || rdN s (fpObj n) 7 == 1 || p.zxLost || rdBit s (feedObj (rdN s (fpObj n) 4)) 0x84 4 then s else
  match p.zxDue, x.last, meanPeriod x with
  | some d, some b, some per =>
    let t := nowNs s off
    let adv : Rat := ((rdN s (fpObj n) 0x27 * 1000 : Nat) : Rat)
    match edgeDue b (per / 2) adv t ((d : Rat) + adv) with
    | some c => setPort s n { p with zxOn := !p.zxOn, zxDue := none, zxUsed := c, edgeAt := t }
    | none => s
  | _, _, _ => s

/-- No crossing of the feed for 25 ms: the port goes inactive (R113). -/
def zxoLost (s : State) (n off : Nat) : State :=
  let p := port s n
  let x := feed s (rdN s (fpObj n) 4)
  if fpFun s n == 7 && !p.zxLost && x.seen + 25000000 ≤ nowNs s off then
    condStart (wrBit (setPort s n { p with zxLost := true, zxOn := false, zxRun := 0, zxDue := none }) (fpObj n) 0x87 2 true)
      17 n (0x0A500000 + n) 0xFF
  else s

-- Shed levels (R397) ----------------------------------------------------------------------------------------------

/-- What a feed demands. -/
def feedDemand (s : State) (f : Nat) : Nat :=
  let o := feedObj f
  if !feedOn s f then 0 else
  let a := match rdN s o 0x82 with | 1 => rdN s o 0x28 | 2 => rdN s o 0x2A | 3 => rdN s o 0x29 | _ => 0
  let b := if rdBit s o 0x84 2 then rdN s o 0x2B else 0
  let c := if rdBit s o 0x84 4 then rdN s o 0x28 else 0
  Nat.max a (Nat.max b c)

def shedTarget (s : State) : Nat := Nat.max (rdN s 0x2100 0x21) (Nat.max (feedDemand s 0) (feedDemand s 1))

/-- The shed level takes a new value. -/
def shedSet (s : State) (l : Nat) : State :=
  cond (inc (wrN (setPw s { s.pw with shedLow := 0 }) 0x2100 0x85 l) 0x2100 0x87) (l != 0) 60 0 0x03208000 0xFF

/-- The shed level at a tick: a rise at once; a fall waits for its hold time. DEDUCED, unsafe: log entry 161. -/
def shedTick (s : State) : State :=
  let s := wrN s 0x2100 0x86 (Nat.max (feedDemand s 0) (feedDemand s 1))
  let l := rdN s 0x2100 0x85
  let t := shedTarget s
  if l < t then shedSet s t
  else setPw s { s.pw with shedLow := if t < l then s.pw.shedLow + 1 else 0 }

/-- The hold time has passed: one level down. DEDUCED, unsafe: log entry 161. -/
def shedFall (s : State) : State :=
  let l := rdN s 0x2100 0x85
  if shedTarget s < l && rdN s 0x2100 0x20 * 10000 ≤ s.pw.shedLow then shedSet s (l - 1) else s

-- Power fail (R387 to R389, R466) ---------------------------------------------------------------------------------

/-- Every item in flight that is not journalled ends FAILED with reason POWER and is answered (R466). -/
def powerFailItems (s : State) : State :=
  foldS s (itemsWhere s fun w => !w.journalled) fun s i =>
    let o := match Tab.find s.work i with | some w => w.origin | none => 0x100
    let s := itemFail s i 2 0x08000000
    if o ≤ 0x80 then abort s o 0x08000000 else s

/-- The filter accepts PFW_n low: step 1 and what follows from it (R387). `finishes`: the bank write in progress ends within 4.0
ms. DEDUCED, unsafe: log entry 167. -/
def pfwAsserted (s : State) (finishes : Bool) : State :=
  if s.pw.recordAt.isSome || rdN s 0x2100 0x80 == 3 then s else
  let n := s.log.length
  let s := powerFailItems s
  let lead := s.log.take (s.log.length - n)
  let s := inc (wrBit (wrN { s with pfw := true } 0x2100 0x80 3) 0x2100 0x81 4 true) 0x2100 0x8A
  let s := condStart s 58 0 0x0320C000 0xFF
  let s := storeAbandon s 2 finishes
  -- a sequence that started first continues (R411)
  let s := if s.th.stopAt.isSome then s else panelsCut s 2
  setPw s { s.pw with recordAt := some (s.now + 80), entry := none, lead := lead, pfTick := s.tick, pfSecs := s.cal.secs, pfSub := subSecond s }

/-- The record of R388: entries since the last mirror, `lead` ahead of the others, at most 90. DEDUCED, unsafe: log entry 167.
-/
def powerRecord (s : State) (thermal : Bool) (tick secs sub : Nat) (lead : List LogEntry) : PowerRec :=
  let fresh := s.log.filter fun e => (s.logStore.isEmpty || rdN s 0x2710 0x84 < e.num) && !lead.contains e
  let all := lead ++ fresh
  { thermal := thermal, tick := tick, secs := secs, sub := sub, vina := rdR s 0x2100 0x82, vinb := rdR s 0x2100 0x83,
    temp := rdR s 0x2200 0x90, dropped := all.length - 90, panels := (List.range 2).map fun p => panelRec s p false,
    entries := all.take 90 }

/-- Step 5 of R387, 8 ms after the edge. -/
def powerRecordDue (s : State) : State :=
  match s.pw.recordAt with
  | some t =>
    if t ≤ s.now then
      let r := powerRecord s false s.pw.pfTick s.pw.pfSecs s.pw.pfSub s.pw.lead
      setPw (bankWritten s 0x700 0 (.power r)) { (bankWritten s 0x700 0 (.power r)).pw with recordAt := none }
    else s
  | none => s

-- Power states (R399, R400) ---------------------------------------------------------------------------------------

/-- A role of a pair member that holds or is about to hold the ensign. -/
def roleHolds (s : State) : Bool := within (rdN s 0x2500 0x81) 4 6

/-- The refusal of a power-state command (R399), 0 for none. -/
def powerRefusal (s : State) (v : Nat) : Nat :=
  let st := rdN s 0x2100 0x80
  if !(v == 0 || v == 1 || v == 4 || v == 5) then 0x06090030
  else if st == 3 || (v ≤ 1 && st == 2) || (v ≥ 4 && rdN s 0x2500 1 == 1 && roleHolds s) then 0x08000022
  else 0

/-- The command takes effect at its tick. DEDUCED, unsafe: log entry 168. -/
def powerTake (s : State) (v : Nat) : State :=
  let st := rdN s 0x2100 0x80
  if st ≥ 2 && v ≤ 1 then s
  else if v ≤ 1 then (if st == v then s else loopsSuspend (wrN s 0x2100 0x80 v) (v == 1))
  else if st == 3 || st ≥ 4 then s
  else
    -- step 1: safe states, HEALTH_OUT stops, the panels power off; step 2: what is to be stored
    let s := panelsOff (traceClear (measStop (wrN s 0x2100 0x80 v) 2)) s.now
    let s := unitSave s .coupling
    let s := logMirror s
    setPw s { s.pw with entry := some (s.now, v == 5) }

/-- Step 3 of R400, 310 ms after the first: controllers disabled, host port and regulators off, PWRON to be deasserted. DEDUCED,
unsafe: log entry 168. -/
def powerEntryStep (s : State) : State :=
  match s.pw.entry with
  | some (t, ship) =>
    if t + msT 310 ≤ s.now then
      let s := storeAbandon (logMirror s) 2 false
      let s := foldS s [0, 1, 2, 3] canDisable
      let s := setPw s { s.pw with entry := none, off := true }
      setCal s { s.cal with offDue := some ship }
    else s
  | none => s

end Sys2Proof.Machine
end

