-- ==== Sys2Proof/Machine/Thermal.lean ====
section
/-! DEFINITION. Die temperature: sensors and the hottest of them, warning, throttling, the orderly stop and the hardware trip
(R404 to R414). Temperatures are in steps of 0.25 K. -/
namespace Sys2Proof.Machine
open Sys2Proof Sys2Proof.OD

def setTh (s : State) (x : Thermal) : State := { s with th := x }
def thLoc (block cell : Nat) : Nat := 0x03100000 + block * 0x4000 + cell
/-- On the RC fallback reference every threshold lies 3 K lower (R405). -/
def thAt (s : State) (deg : Int) : Int := 4 * (deg - (if rdN s 0x2010 0x0A == 2 then 3 else 0))

/-- Median of a list of temperatures, times two: the sum of the middle two. DEDUCED, unsafe: log entry 170. -/
def median2 (l : List Int) : Int :=
  let m := l.mergeSort (· ≤ ·)
  let n := m.length
  if n == 0 then 0 else m.getD (n / 2) 0 + m.getD ((n - 1) / 2) 0

/-- One sensor at a measurement (R406): bad readings and good ones in a row. DEDUCED, unsafe: log entry 170. -/
def sensorStep (s : State) (med2 t : Int) (n : Nat) : State :=
  let mask := rdN s 0x2200 0x92
  let out := t < -200 || 640 < t
  let d := 2 * t - med2
  let far := 64 < d || d < -64
  let x := s.th
  let bad := if far then Tab.get x.bad n 0 + 1 else 0
  let good := if out || far then 0 else Tab.get x.good n 0 + 1
  let s := setTh s { x with bad := Tab.put x.bad n (Nat.min bad 3), good := Tab.put x.good n (Nat.min good 100) }
  if bit mask n then
    if out || bad ≥ 3 then condStart (wrN s 0x2200 0x92 (setBit mask n false)) 71 n (thLoc 0 n) 0xFF else s
  else if good ≥ 100 then condEnd (wrN s 0x2200 0x92 (setBit mask n true)) 71 n (thLoc 0 n)
  else s

/-- Least-squares slope of the last H values, K/s (R411). DEDUCED, unsafe: log entry 173. -/
def slope (l : List (Nat × Int)) : Rat :=
  let n : Rat := l.length
  let xs := l.map fun p => mkRat p.1 10000
  let ys := l.map fun p => mkRat p.2 4
  let sum (v : List Rat) : Rat := v.foldl (· + ·) 0
  let sxy := sum ((xs.zip ys).map fun p => p.1 * p.2)
  let sxx := sum (xs.map fun x => x * x)
  let d := n * sxx - sum xs * sum xs
  if d == 0 then 0 else (n * sxy - sum xs * sum ys) / d

/-- The throttle stage takes a new value (R409). DEDUCED, unsafe: log entry 171. DEDUCED, unsafe: log entry 176. DEDUCED, safe:
log entry 177. -/
def stageSet (s : State) (n : Nat) : State :=
  let was := rdN s 0x2200 0x94
  let s := wrN (wrN s 0x2200 0x94 n) 0x3180 0x89 (if n ≥ 4 then 2 else 1)
  if was == 0 && n != 0 then condStart s 69 0 (thLoc 2 n) 0xFF
  else if was != 0 && n == 0 then condEnd (setTh s { s.th with removeAt := none }) 69 0 (thLoc 2 0)
  else s

/-- The thermal state word (R415). -/
def thState (s : State) : State :=
  wrN s 0x2200 0x95 (if s.th.stopAt.isSome then 3 else if rdN s 0x2200 0x94 != 0 then 2 else if condHolds s 68 then 1 else 0)

/-- The orderly stop begins (R411 steps 1 to 3): the budget, and what can be stored within it. DEDUCED, unsafe: log entry 173.
-/
def orderlyStop (s : State) (h : Int) (finishes : Bool) : State :=
  let r := slope s.th.hs
  let most : Rat := if rdN s 0x2500 1 == 1 && holdsEnsign s && !s.zh6432 then 3000 else 8000
  let b : Rat := if r ≤ 0 then most else
    let q := (133 - mkRat h 4) / r * 1000000
    if most < q then most else if q < 0 then 0 else q
  -- an assertion of PFW_n came first: the lesser of the two budgets remains (R411)
  let b := match s.pw.recordAt with
    | some t => let left : Rat := ((t - s.now : Nat) : Rat) * 100; if left < b then left else b
    | none => b
  let s := wrN (inc s 0x2200 0x9A) 0x2200 0x9C b.floor.toNat
  let s := event (setTh s { s.th with stopAt := some s.now }) 70 (thLoc 2 6)
  let s := storeAbandon (thState s) 3 finishes
  if s.pw.recordAt.isSome then s else panelsCut s 3

/-- A measurement (R405 to R409): the trimmed readings of RO0 to RO11. `finishes`: a bank write in progress would end within the
budget. DEDUCED, unsafe: log entry 171. DEDUCED, unsafe: log entry 172. DEDUCED, unsafe: log entry 175. DEDUCED, unsafe: log
entry 176. -/
def thermalMeasure (s : State) (temps : List Int) (finishes : Bool) : State :=
  let rd (n : Nat) : Int := temps.getD n 0
  let s := foldS s (List.range 12) fun s n => wrR s 0x2200 (0x84 + n) (F32.ofRat (mkRat (rd n) 4))
  let valid (s : State) : List Nat := (List.range 12).filter fun n => bit (rdN s 0x2200 0x92) n
  let med2 := median2 ((valid s).map rd)
  let s := foldS s (List.range 12) fun s n => sensorStep s med2 (rd n) n
  let s := refTemperature s (rdR s 0x2200 0x8C)
  let v := valid s
  match v with
  | [] => if s.th.hold != 0 || s.th.stopAt.isSome then s else thState (wrBit (stageSet s 5) 0x2500 0x8C 5 true)
  | first :: _ =>
    let hot := v.foldl (fun a n => if rd a < rd n then n else a) first
    let h := rd hot
    let s := wrN (wrR s 0x2200 0x90 (F32.ofRat (mkRat h 4))) 0x2200 0x91 hot
    let s := setTh s { s.th with hs := ((s.now, h) :: s.th.hs).take 10, cool := if h < 400 then s.th.cool + 1 else 0 }
    let s := wrR s 0x2200 0x96 (F32.ofRat (slope s.th.hs))
    let s := wrN s 0x2200 0x93 (if h < 420 then 10000 else if h < 488 then 1000 else 100)
    if s.th.hold != 0 || s.th.stopAt.isSome then s else
    -- warning
    let s := if !condHolds s 68 && thAt s 105 ≤ h then inc (condStart s 68 0 (thLoc 0 hot) 0xFF) 0x2200 0x97
      else if condHolds s 68 && h < thAt s 103 then condEnd s 68 0 (thLoc 0 hot)
      else s
    let s := wrBit s 0x2500 0x8C 5 (condHolds s 68 || v.length < 4)
    -- throttling
    let s := if rdN s 0x2200 0x94 == 0 && thAt s 115 ≤ h then
        inc (stageSet (setTh s { s.th with addAt := s.now, addH := h, removeAt := none }) 1) 0x2200 0x98
      else s
    let s := if v.length < 4 then stageSet s 5 else s
    let s := setTh s { s.th with removeAt := if rdN s 0x2200 0x94 != 0 && h < thAt s 110 then some (s.th.removeAt.getD s.now) else none }
    -- orderly stop
    let s := if thAt s 125 ≤ h then orderlyStop s h finishes else s
    thState s

/-- The H of the last measurement. -/
def lastH (s : State) : Int := match s.th.hs with | (_, h) :: _ => h | [] => 0

/-- An add interval ends. -/
def stageAdd (s : State) : State :=
  let n := rdN s 0x2200 0x94
  if n == 0 || s.now < s.th.addAt + msT (rdN s 0x2200 0x20) then s else
  let h := lastH s
  let more := thAt s 115 ≤ h && s.th.addH - h < 2
  let s := setTh s { s.th with addAt := s.now, addH := h }
  thState (if more && n < 5 then stageSet s (n + 1) else s)

/-- A remove interval ends. -/
def stageRemove (s : State) : State :=
  match s.th.removeAt with
  | some t =>
    let n := rdN s 0x2200 0x94
    let lost := ((List.range 12).filter fun n => bit (rdN s 0x2200 0x92) n).length < 4
    if n == 0 || lost || s.now < t + msT (rdN s 0x2200 0x21) || thAt s 110 ≤ lastH s then s
    else thState (stageSet (setTh s { s.th with removeAt := some s.now }) (n - 1))
  | none => s

/-- The budget has run out (R411 steps 4 and 5): the record if at least 2.0 ms of it were left after the panels' accounts; then
the clocks stop. DEDUCED, unsafe: log entry 174. -/
def thermalShutdown (s : State) : State :=
  match s.th.stopAt with
  | some t =>
    let b := rdN s 0x2200 0x9C
    if s.th.hold != 0 || (s.now - t) * 100 < b then s else
    let accounts := ([0, 1].map fun p => match (Tab.get s.panels p {}).cutAt with | some (c, _) => c - t | none => 0).foldl Nat.max 0
    let s := if accounts * 100 + 2000 ≤ b && s.pw.recordAt.isNone then
        bankWritten s 0x700 0 (.power (powerRecord s true s.tick s.cal.secs (subSecond s) []))
      else s
    setTh s { s.th with hold := 1, cool := 0 }
  | none => s

/-- Two sensors at T_trip in one measurement (R412): every unit but the backup domain and the thermal monitor is held in
reset, and a store write in progress is cut. -/
def thermalTrip (s : State) : State :=
  let hot := ((List.range 12).filter fun n => decide (mkRat (thAt s 135) 4 ≤ F32.toRat (rdR s 0x2200 (0x84 + n)))).length
  if hot < 2 || s.th.hold == 2 then s else
  let s := inc s 0x2200 0x9B
  let s := setTh s { s.th with hold := 2, cool := 0 }
  { s with cal := { s.cal with trip := true }, inReset := true }

/-- H has stayed below 100 °C for 10 s of the 10 ms interval. DEDUCED, unsafe: log entry 175. -/
def thermalCooled (s : State) : Bool := s.th.hold != 0 && s.th.cool ≥ 1000

/-- Cycle-skipping (R410): cycles of the blocks of a tick, `fast` blocks of RG0 to RG3 and `slow` of RG4 to RG7. A slow block
takes 96 cycles while the rest at 96 cycles would end by cycle 39 168 from `start`. DEDUCED, safe: log entry 177. -/
def skipCycles (start fast slow : Nat) : Nat :=
  let base := start + 48 * fast
  (List.range slow).foldl (fun c i => if c + 96 * (slow - i) ≤ 39168 then c + 96 else c + 48) base

/-- The temperature for the RTC's trim: the mean of the valid sensors, every 10 s while a feed is up (R381, R407, R414). -/
def trimTemperature (s : State) : State :=
  let v := (List.range 12).filter fun n => bit (rdN s 0x2200 0x92) n
  if v.isEmpty || !(rdBit s 0x2100 0x81 0 || rdBit s 0x2100 0x81 1) then s else
  wrR s 0x2300 0x34 (F32.ofRat ((v.foldl (fun a n => a + F32.toRat (rdR s 0x2200 (0x84 + n))) 0) / (v.length : Rat)))

end Sys2Proof.Machine
end

