-- ==== Sys2Proof/Machine/Net.lean ====
section
/-! DEFINITION. Network services below the dictionary: duplicates, NMT commands, heartbeats, EMCY, SYNC acceptance, remote
slots and the field-node bus (R293 to R319). -/
namespace Sys2Proof.Machine
open Sys2Proof Sys2Proof.OD

def setNet (s : State) (x : Net) : State := { s with net := x }
def nodeId (s : State) : Nat := rdN s 0x1FF0 1
def role (s : State) : Nat := rdN s 0x2500 0x81
/-- A pair member in roles 1 to 3. -/
def standby (s : State) : Bool := inPair s && within (role s) 1 3
/-- The device sends under the node-ID (R295): a pair member only with the ensign. -/
def speaks (s : State) : Bool := !inPair s || s.ensign
def booted (s : State) : Bool := s.net.bootAt.isSome

-- Duplicates (R297, R298, R319) -----------------------------------------------------------------------------------

/-- An RPDO's or a TPDO's communication and mapping objects, by PDO number 1 to 512. -/
def rComm (n : Nat) : Nat := 0x13FF + n
def rMap (n : Nat) : Nat := 0x15FF + n
def tComm (n : Nat) : Nat := 0x17FF + n
def tMap (n : Nat) : Nat := 0x19FF + n

/-- A sequenced RPDO of the building pair (R298, R299): its first mapping entry is the dummy entry 0x00060010. -/
def sequenced (s : State) (n : Nat) : Bool := n ≤ 256 && rdN s (rMap n) 0 ≥ 1 && rdN s (rMap n) 1 == 0x00060010

/-- Identifiers whose frames the rule of sequence numbers or of SYNC counters serves. -/
def ownRule (s : State) (f : Frame) : Bool :=
  (f.id == rdN s 0x1005 0 % 2 ^ 29 && !f.data.isEmpty) ||
  s.net.rValid.any fun n => rdN s (rComm n) 1 % 2 ^ 29 == f.id && sequenced s n

/-- A frame of CAN0 or CAN1 passes the removal of duplicates (R298). DEDUCED, unsafe: log entry 107. -/
def duplicates (s : State) (x : Nat) (f : Frame) : State :=
  if ownRule s f then s else
  let now := nowNs s 0
  let win := rdN s 0x1FF0 3 * 1000000
  let live := s.net.seen.filter fun q => now ≤ q.at_ + win
  match live.find? fun q => q.bus != x && q.id == f.id && q.data == f.data with
  | some q =>
    let xs := s.net.xfers.map fun p => if f.id == 0x600 + p.1 && p.2.bus != x then (p.1, { p.2 with both := true }) else p
    inc (setNet s { s.net with seen := live.filter (· != q), xfers := xs }) 0x1FF0 0x81
  | none => setNet s { s.net with seen := live ++ [{ bus := x, id := f.id, data := f.data, at_ := now }] }

/-- An EMCY of a field node on CAN2 (R315): identifiers 0x081 to 0x0FF. -/
def fieldEmcy (x : Nat) (f : Frame) : Bool := x == 2 && !f.ide && within f.id 0x81 0xFF

/-- A frame received by a controller on its way to the services (R315, R319). -/
def afterReceive (s : State) (x : Nat) (f : Frame) : State :=
  if x ≥ 3 then s
  else if !booted s then inc s 0x1FF0 0x86
  else if x ≤ 1 then duplicates s x f
  else if fieldEmcy x f then logAdd s 0x0090 0 0xFF (leNat (f.data.take 2))
  else s

/-- A filter of the controller lets the frame through to a buffer or the FIFO (R272, R273). -/
def accepts (s : State) (x : Nat) (f : Frame) : Bool :=
  (within (canState s x) 2 3 || canState s x == 6) && !f.rtr && !(f.fd && !rdF s (canObj x) 9) &&
  match (filtersInUse (can s x)).find? (matches_ f) with | some q => q.target ≤ 64 | none => false

/-- A valid frame at a controller: reception, and what passes the filters on its way to the services. DEDUCED, unsafe: log entry
107. -/
def frameReceived (s : State) (x : Nat) (f : Frame) (back cycle : Nat) (opened : Bool) : State :=
  if accepts s x f then afterReceive (receive s x f back cycle opened) x f else receive s x f back cycle opened

/-- Sequence numbers (R297): the frame is new. -/
def seqNew (s : State) (n seq : Nat) : Bool :=
  match (Tab.get s.net.rpdo n {}).seq with
  | none => true
  | some (last, t) => within ((seq + 65536 - last) % 65536) 1 32767 || t + msT 3000 ≤ s.now

-- NMT slave (R296) ------------------------------------------------------------------------------------------------

/-- An NMT command on the building pair: it takes effect at tick s + 1. Members without the ensign take their state from the
holder's heartbeat (R337). -/
def nmtCommand (s : State) (cmd node off : Nat) : State :=
  if !booted s || !(node == 0 || node == nodeId s) || (inPair s && !s.ensign) then s
  else setNet s { s.net with nmtDue := s.net.nmtDue ++ [(stamp s off + 1, cmd)], nmtSeen := true }

/-- A frame of the device on both building buses. -/
def sendPair (s : State) (id : Nat) (data : List Byte) : State := submitPair s { id := id, data := data } false

/-- NMT from the master on CAN2: command and node. -/
def sendFieldNmt (s : State) (cmd node : Nat) : State :=
  submit s 2 { id := 0, fd := false, data := [BitVec.ofNat 8 cmd, BitVec.ofNat 8 node] } false

/-- Assigned, and mandatory, field nodes (0x1F81). -/
def assigned (s : State) (k : Nat) : Bool := rdBit s 0x1F81 k 0
def mandatory (s : State) (k : Nat) : Bool := rdBit s 0x1F81 k 3
def nodeIds : List Nat := (List.range 127).map (· + 1)
def bootStatus (s : State) (k : Nat) : Nat := rdN s 0x1F83 k
def fieldNode (s : State) (k : Nat) : FieldNode := Tab.get s.net.nodes k {}
def setNode (s : State) (k : Nat) (x : FieldNode) : State := setNet s { s.net with nodes := Tab.put s.net.nodes k x }

/-- NMT start to every checked node, in ascending node-ID (R314 step 5). -/
def startNodes (s : State) : State :=
  if !operational s || !speaks s then s else
  foldS s (s.net.nodes.map (·.1)) fun s k =>
    if bootStatus s k == 4 && !(fieldNode s k).started then setNode (sendFieldNmt s 1 k) k { fieldNode s k with started := true } else s

/-- The NMT state changes (R296, R315, R282, R254); IRQ source 4 is set. DEDUCED, unsafe: log entry 109. DEDUCED, unsafe: log
entry 119. -/
def nmtSet (s : State) (v : Nat) : State :=
  let was := nmt s
  if was == v then s else
  let s := irq (wrN s 0x1FF0 0x80 v) 4
  let s := if was == 0x7F || was == 4 then leaveLoopback s else s
  let s := if was == 5 then
      let s := panelsOff s s.now
      let nodes := s.net.nodes.map fun p => (p.1, { p.2 with started := false })
      let s := setNet s { s.net with nodes := nodes }
      if speaks s then sendFieldNmt s 0x80 0 else s
    else s
  let s := if v == 5 then
      let s := setNet s { s.net with tpdo := [], rpdo := s.net.rpdo.map fun p => (p.1, { p.2 with rxAt := none, pend := none }) }
      startNodes (panelsOn s s.now)
    else s
  -- in the stopped state, items already admitted are aborted (R308)
  if v == 4 then
    let s := foldS s (s.net.reqs) fun s q => abort (itemFail s q.item 6 0x08000022) q.client 0x08000022
    let s := foldS s (s.net.xfers) fun s p => inc (abort (itemFail s p.2.item 6 0x08000022) p.1 0x08000022) 0x1FF0 0x85
    let s := setNet s { s.net with reqs := [], xfers := [] }
    foldS s s.waiting fun s w =>
      match w.tag, w.item with
      | none, some i =>
        if (Tab.find s.work i).any fun x => x.kind == 1 then
          abort (itemFail { s with waiting := s.waiting.filter (· != w) } i 6 0x08000022) w.client 0x08000022
        else s
      | _, _ => s
  else s

-- Heartbeats (R311, R337) -----------------------------------------------------------------------------------------

/-- The device's heartbeat, on CAN0, CAN1 and CAN2. -/
def heartbeatNow (s : State) : State :=
  let d := [BitVec.ofNat 8 (nmt s)]
  let s := sendPair s (0x700 + nodeId s) d
  submit s 2 { id := 0x700 + rdN s 0x1FF0 2, data := d } false

def heartbeatProduce (s : State) : State :=
  let ms := rdN s 0x1017 0
  if !booted s || ms == 0 || !speaks s || s.now < s.net.hbAt + msT ms then s
  else heartbeatNow (setNet s { s.net with hbAt := s.now })

/-- A consumed heartbeat of node `k` on the building pair (`field` false) or on CAN2. -/
def heartbeatReceived (s : State) (field : Bool) (k st : Nat) : State :=
  if !booted s then s
  else if field then
    if !assigned s k then s else
    wrN (setNode s k { fieldNode s k with heardAt := some s.now }) 0x1F82 k st
  else
    if standby s then (if k == nodeId s then nmtSet s st else s) else
    foldS s (List.range 8) fun s i =>
      let e := rdN s 0x1016 (i + 1)
      if e / 65536 % 256 == k && e % 65536 != 0 then
        condEnd (setNet s { s.net with heard := Tab.put s.net.heard (i + 1) s.now }) 48 (i + 1) 0
      else s

/-- A producer's time expires. -/
def heartbeatTimeout (s : State) (i : Nat) : State :=
  let ms := rdN s 0x1016 i % 65536
  match Tab.find s.net.heard i with
  | some t => if ms != 0 && !standby s && t + msT ms ≤ s.now then condStart s 48 i 0 0xFF else s
  | none => s

-- EMCY (R309) -----------------------------------------------------------------------------------------------------

/-- The EMCY message: error code, error register and the additional information of R309. -/
def emcyBytes (s : State) (e : Emcy) : List Byte :=
  leBytes 2 e.code ++ leBytes 1 (rdN s 0x1001 0) ++ leBytes 4 e.loc ++ leBytes 1 e.pennant ++ leBytes 1 e.source ++ leBytes 2 e.obj

/-- The oldest waiting EMCY is sent on both buses; 0x1003 keeps the last 16 codes, and IRQ source 6 is set. DEDUCED, unsafe: log
entry 111. -/
def emcySend (s : State) : State :=
  if !booted s || !speaks s || !(nmt s == 5 || nmt s == 0x7F) ||
      (match s.emcyAt with | some t => decide (s.now < t + rdN s 0x1015 0) | none => false) then s else
  match s.emcyQ with
  | [] => s
  | e :: rest =>
    let s := irq (sendPair { s with emcyQ := rest, emcyAt := some s.now } (0x80 + nodeId s) (emcyBytes s e)) 6
    let old := (List.range 15).map fun i => rdN s 0x1003 (i + 1)
    let s := foldS s (List.range 15) fun s i => wrN s 0x1003 (i + 2) (old.getD i 0)
    wrN (wrN s 0x1003 1 e.code) 0x1003 0 (Nat.min 16 (rdN s 0x1003 0 + 1))

-- SYNC (R298, R300, R301, R312) -----------------------------------------------------------------------------------

/-- A sub-index of effect PERIOD (R48). -/
def periodic (idx sub : Nat) : Bool := match rowOf idx sub with | some r => r.eff == .period | none => false

/-- A SYNC, with its counter if it has one (R298, R312). Values that RPDOs hold for it take effect at s + 1, s being its stamp
(R300), and its TPDOs are assembled at the first tick after it (R301). -/
def syncReceived (s : State) (ctr : Option Nat) (off : Nat) : State :=
  if !booted s then s else
  let wants := rdN s 0x1019 0 != 0
  if wants != ctr.isSome then inc s 0x1FF0 0x82
  else if wants && ctr == s.net.syncCtr then inc s 0x1FF0 0x81
  else
    let due := stamp s off + 1
    let ws := (s.net.rpdo.filterMap fun p => p.2.pend).flatten.map fun w =>
      ({ client := 0x100, due := due, period := periodic w.1 w.2.1, idx := w.1, sub := w.2.1, data := w.2.2 } : PendingWrite)
    let rp := s.net.rpdo.map fun p => (p.1, { p.2 with pend := none })
    let s := { s with pendingWrites := s.pendingWrites ++ (if operational s then ws else []) }
    setNet s { s.net with syncCtr := if wants then ctr else s.net.syncCtr, syncDue := some (s.now + 1), rpdo := rp }

-- Remote signal slots (R303) --------------------------------------------------------------------------------------

def slotObj (n : Nat) : Nat := 0x4000 + n

/-- A write to 80 or 81 of a slot has taken effect. -/
def slotWritten (s : State) (n sub : Nat) : State :=
  let o := slotObj n
  let bad := sub == 0x81 && rdN s o 0x81 == 0x8000
  let v := if sub == 0x80 then rdR s o 0x80
    else F32.add (rdR s o 0x20) (F32.mul (rdR s o 0x21) (F32.ofInt (rdI s o 0x81)))
  let rest := s.remoteValid.filter (· != n)
  let s := inc (setNet s { s.net with slotAt := Tab.put s.net.slotAt n s.now }) o 0x84
  if bad then { s with remoteValid := rest } else wrR { s with remoteValid := n :: rest } o 0x82 v

/-- No write for the timeout. -/
def slotTimeout (s : State) (n : Nat) : State :=
  let ms := rdN s (slotObj n) 0x22
  match Tab.find s.net.slotAt n with
  | some t => if ms != 0 && t + msT ms ≤ s.now then { s with remoteValid := s.remoteValid.filter (· != n) } else s
  | none => s

/-- 0x4000+n:83, ms since the last write. -/
def slotAge (s : State) (n : Nat) : Nat := match Tab.find s.net.slotAt n with | some t => (s.now - t) / 10 | none => 0

-- RPDO time-out (R302) --------------------------------------------------------------------------------------------

def rpdoTimeout (s : State) (n : Nat) : State :=
  let x := Tab.get s.net.rpdo n {}
  let ms := rdN s (rComm n) 5
  match x.rxAt with
  | some t =>
    if ms != 0 && (operational s || standby s) && s.net.rValid.contains n && !x.timed && t + msT ms ≤ s.now then
      emcy (setNet s { s.net with rpdo := Tab.put s.net.rpdo n { x with timed := true, seq := none } })
        { code := 0x8250, loc := 0, pennant := 0xFF, source := 0xFF, obj := 0 }
    else s
  | none => s

-- The field-node bus (R314 to R317) -------------------------------------------------------------------------------

/-- EMCY 0xFF02 for a node, and pennant FIELD_NODE_MISSING if it is mandatory. -/
def nodeBad (s : State) (k status : Nat) : State :=
  let s := wrN s 0x1F83 k status
  if mandatory s k && !(s.conds.any fun q => q.1 == 49) then condStart s 49 k 0 k
  else
    let s := if mandatory s k then condStart s 49 k 0 k else s
    emcy s { code := 0xFF02, loc := 0, pennant := if mandatory s k then 49 else 0xFF, source := k, obj := 0 }

def countChecked (s : State) : State := wrN s 0x1FF0 0x8C ((nodeIds.filter fun k => bootStatus s k == 4).length)

/-- The node is checked. -/
def nodeChecked (s : State) (k : Nat) : State :=
  let s := condEnd (wrN s 0x1F83 k 4) 49 k 0
  startNodes (countChecked (setNode s k { fieldNode s k with xfer := 0, item := none, started := false, retryAt := 0 }))

/-- Transfers in flight on CAN2. -/
def xfersInFlight (s : State) : Nat := (s.net.nodes.filter fun p => p.2.item.isSome).length

/-- Take a work item for a node's transfers, or wait (R316, R463). -/
def xferItem (s : State) (k : Nat) : State :=
  let x := fieldNode s k
  if x.item.isSome then s
  else if xfersInFlight s ≥ 8 then setNode s k { x with waiting := true }
  else
    let (s, i) := newItem s 1 (0x200 + k) 0x1F83 k
    match i with
    | some i => setNode (itemActive s i) k { x with item := some i, waiting := false, at_ := s.now, tries := 0 }
    | none => setNode (waited s) k { x with waiting := true }

/-- The transfers end: the item is DONE or FAILED. -/
def xferEnd (s : State) (k : Nat) (ok : Bool) (reason : Nat) : State :=
  let x := fieldNode s k
  let s := match x.item with
    | some i => if ok then itemDone s i else itemFail s i reason 0
    | none => s
  setNode s k { x with item := none, xfer := 0, waiting := false }

/-- Does an identity value match what is expected (0: not compared)? -/
def identityOk (s : State) (idx k v : Nat) : Bool := rdN s idx k == 0 || rdN s idx k == v

/-- Steps 2 to 4 from transfer `n` on, as far as the node answers. DEDUCED, unsafe: log entry 117. -/
def nodeSteps (s : State) (k : Nat) (r : NodeResp) : Nat → Nat → State
  | 0, _ => s
  | fuel + 1, n =>
    let x := fieldNode s k
    let ans := match n with | 1 => r.type | 2 => r.vendor | _ => r.product
    if n ≤ 3 then
      match ans with
      | none => setNode s k { x with xfer := n, at_ := s.now }
      | some v =>
        if identityOk s (0x1F83 + n) k v then nodeSteps s k r fuel (n + 1)
        else nodeBad (xferEnd s k true 0) k 5
    else
      let conf := rdB s 0x1F22 k
      if conf.isEmpty then nodeChecked (xferEnd s k true 0) k
      else
        let s := wrN s 0x1F83 k 3
        if r.loaded then nodeChecked (xferEnd s k true 0) k else setNode s k { x with xfer := 4, at_ := s.now }

/-- Steps 2 to 4 begin for a node. -/
def nodeCheck (s : State) (k : Nat) (r : NodeResp) : State :=
  let s := xferItem (wrN s 0x1F83 k 2) k
  if (fieldNode s k).item.isSome then nodeSteps s k r 5 1 else s

/-- The field-node boot starts: 200 ms after the device's boot-up, in pre-operational. -/
def fieldNodeBoot (s : State) : State :=
  match s.net.bootAt with
  | none => s
  | some t =>
    if s.net.fieldBoot || !speaks s || nmt s != 0x7F && nmt s != 5 || s.now < t + msT 200 then s else
    let s := submit s 2 { id := 0x700 + rdN s 0x1FF0 2, data := [0#8] } false
    let s := sendFieldNmt s 0x82 0
    let s := foldS s nodeIds fun s k =>
      if assigned s k then setNode (wrN s 0x1F83 k 1) k { deadline := s.now + msT (rdN s 0x1FF0 5) } else wrN s 0x1F83 k 0
    countChecked (setNet s { s.net with fieldBoot := true })

/-- A node's boot-up starts its check: of one waited for, missing, mismatched or lost. DEDUCED, unsafe: log entry 118. -/
def fieldNodeBootUp (s : State) (k : Nat) (r : NodeResp) : State :=
  if !s.net.fieldBoot || !assigned s k || !(bootStatus s k == 1 || within (bootStatus s k) 5 7) then s
  else nodeCheck (setNode s k { fieldNode s k with heardAt := some s.now }) k r

/-- The boot time has passed. -/
def fieldNodeBootTimeout (s : State) (k : Nat) : State :=
  if s.net.fieldBoot && within (bootStatus s k) 1 3 && (fieldNode s k).deadline ≤ s.now && (fieldNode s k).deadline != 0 then
    nodeBad (xferEnd s k false 9) k 6
  else s

/-- A node's heartbeat timed out, or its boot-up came unexpectedly, in its check or after it (R315). DEDUCED, unsafe: log entry
116. -/
def fieldNodeLost (s : State) (k : Nat) (bootUp : Bool) : State :=
  let ms := rdN s 0x1F81 k / 65536
  let x := fieldNode s k
  let silent := match x.heardAt with | some t => ms != 0 && t + msT ms ≤ s.now | none => false
  if s.net.fieldBoot && ((bootUp && within (bootStatus s k) 2 4) || (silent && bootStatus s k == 4)) then
    let s := nodeBad (if x.item.isSome then xferEnd s k false 9 else s) k 7
    countChecked (setNode s k { fieldNode s k with
      retryAt := if bootUp then s.now else s.now + msT 10000, deadline := 0, heardAt := none, started := false, waiting := false })
  else s

/-- Every 10 s the steps are repeated for a lost node, also after a repetition that failed. DEDUCED, unsafe: log entry 116. -/
def fieldNodeRetry (s : State) (k : Nat) (r : NodeResp) : State :=
  let x := fieldNode s k
  if (bootStatus s k == 7 || (bootStatus s k == 5 && x.retryAt != 0)) && x.retryAt ≤ s.now then
    nodeCheck (setNode s k { x with retryAt := s.now + msT 10000, heardAt := some s.now }) k r
  else s

/-- A client transfer without response (R316): two retries, then it fails, with reason ALONE while CAN2 is cut off (R287),
and the node is mismatched. -/
def clientTransferTimeout (s : State) (k : Nat) (r : NodeResp) : State :=
  let x := fieldNode s k
  if x.waiting then nodeCheck s k r
  else if x.item.isNone || x.xfer == 0 || s.now < x.at_ + msT (rdN s 0x1FF0 6) then s
  else if x.tries < 2 then nodeSteps (setNode s k { x with tries := x.tries + 1 }) k r 5 x.xfer
  else nodeBad (xferEnd s k false (if solitary s 2 || within (canState s 2) 4 5 then 7 else 9)) k 5

/-- A command to a node through 0x1F82 (R317); 0 accepted, else the abort code. -/
def fieldNmt (s : State) (k cmd : Nat) : State × Nat :=
  if !assigned s k || !speaks s then (s, 0x08000022) else (sendFieldNmt s cmd k, 0)

/-- At most 64 nodes are assigned, and not the device's own (R317). -/
def assignRefusal (s : State) (k v : Nat) : Bool :=
  bit v 0 && (k == rdN s 0x1FF0 2 || (nodeIds.filter fun j => j != k && bit (leNat ((Tab.find s.written (key 0x1F81 j)).getD (rdB s 0x1F81 j))) 0).length ≥ 64)

end Sys2Proof.Machine
end

