-- ==== Sys2Proof/Machine/Sha.lean ====
section
/-! DEFINITION. SHA-256, which the spec names for the configuration hash, firmware blocks and key identifiers (R59, R425, R450). -/
namespace Sys2Proof.Sha

/-- The round constants. -/
def k : List (BitVec 32) :=
  [0x428a2f98#32, 0x71374491#32, 0xb5c0fbcf#32, 0xe9b5dba5#32, 0x3956c25b#32, 0x59f111f1#32, 0x923f82a4#32, 0xab1c5ed5#32] ++
  [0xd807aa98#32, 0x12835b01#32, 0x243185be#32, 0x550c7dc3#32, 0x72be5d74#32, 0x80deb1fe#32, 0x9bdc06a7#32, 0xc19bf174#32] ++
  [0xe49b69c1#32, 0xefbe4786#32, 0x0fc19dc6#32, 0x240ca1cc#32, 0x2de92c6f#32, 0x4a7484aa#32, 0x5cb0a9dc#32, 0x76f988da#32] ++
  [0x983e5152#32, 0xa831c66d#32, 0xb00327c8#32, 0xbf597fc7#32, 0xc6e00bf3#32, 0xd5a79147#32, 0x06ca6351#32, 0x14292967#32] ++
  [0x27b70a85#32, 0x2e1b2138#32, 0x4d2c6dfc#32, 0x53380d13#32, 0x650a7354#32, 0x766a0abb#32, 0x81c2c92e#32, 0x92722c85#32] ++
  [0xa2bfe8a1#32, 0xa81a664b#32, 0xc24b8b70#32, 0xc76c51a3#32, 0xd192e819#32, 0xd6990624#32, 0xf40e3585#32, 0x106aa070#32] ++
  [0x19a4c116#32, 0x1e376c08#32, 0x2748774c#32, 0x34b0bcb5#32, 0x391c0cb3#32, 0x4ed8aa4a#32, 0x5b9cca4f#32, 0x682e6ff3#32] ++
  [0x748f82ee#32, 0x78a5636f#32, 0x84c87814#32, 0x8cc70208#32, 0x90befffa#32, 0xa4506ceb#32, 0xbef9a3f7#32, 0xc67178f2#32]

/-- The initial hash value. -/
def h0 : List (BitVec 32) := [0x6a09e667#32, 0xbb67ae85#32, 0x3c6ef372#32, 0xa54ff53a#32, 0x510e527f#32, 0x9b05688c#32, 0x1f83d9ab#32, 0x5be0cd19#32]

def ror (x : BitVec 32) (n : Nat) : BitVec 32 := (x >>> n) ||| (x <<< (32 - n))

/-- A big-endian word of four bytes. -/
def word (b : List Byte) : BitVec 32 := BitVec.ofNat 32 (b.foldl (fun a x => a * 256 + x.toNat) 0)

/-- The bytes of a word, most significant first. -/
def bytes (w : BitVec 32) : List Byte :=
  [BitVec.ofNat 8 (w.toNat / 2 ^ 24), BitVec.ofNat 8 (w.toNat / 2 ^ 16), BitVec.ofNat 8 (w.toNat / 2 ^ 8), BitVec.ofNat 8 w.toNat]

/-- The message schedule, newest word first, grown by `n` words. -/
def schedule : Nat → List (BitVec 32) → List (BitVec 32)
  | 0, w => w
  | n + 1, w =>
    let a := w.getD 14 0
    let b := w.getD 1 0
    let s0 := ror a 7 ^^^ ror a 18 ^^^ (a >>> 3)
    let s1 := ror b 17 ^^^ ror b 19 ^^^ (b >>> 10)
    schedule n ((w.getD 15 0 + s0 + w.getD 6 0 + s1) :: w)

/-- One round on the eight working words. -/
def step (v : List (BitVec 32)) (kw : BitVec 32) : List (BitVec 32) :=
  match v with
  | [a, b, c, d, e, f, g, h] =>
    let t1 := h + (ror e 6 ^^^ ror e 11 ^^^ ror e 25) + ((e &&& f) ^^^ (~~~e &&& g)) + kw
    let t2 := (ror a 2 ^^^ ror a 13 ^^^ ror a 22) + ((a &&& b) ^^^ (a &&& c) ^^^ (b &&& c))
    [t1 + t2, a, b, c, d + t1, e, f, g]
  | _ => v

/-- The 16 words of a block. -/
def words : Nat → List Byte → List (BitVec 32)
  | 0, _ => []
  | n + 1, b => word (b.take 4) :: words n (b.drop 4)

/-- The compression of one block. -/
def compress (h : List (BitVec 32)) (block : List Byte) : List (BitVec 32) :=
  let w := (schedule 48 (words 16 block).reverse).reverse
  let v := (k.zip w).foldl (fun v p => step v (p.1 + p.2)) h
  (h.zip v).map fun p => p.1 + p.2

/-- All blocks. -/
def run : Nat → List (BitVec 32) → List Byte → List (BitVec 32)
  | 0, h, _ => h
  | n + 1, h, m => run n (compress h (m.take 64)) (m.drop 64)

/-- The digest of a message, 32 bytes. -/
def digest (m : List Byte) : List Byte :=
  let n := m.length
  let blocks := (n + 9 + 63) / 64
  let len := BitVec.ofNat 64 (8 * n)
  let tail := (List.range 8).map fun i => BitVec.ofNat 8 (len.toNat / 2 ^ (8 * (7 - i)))
  let padded := m ++ [0x80#8] ++ List.replicate (blocks * 64 - n - 9) 0#8 ++ tail
  ((run blocks h0 padded).map bytes).flatten

end Sys2Proof.Sha
end

