-- ==== Sys2Proof/Machine/Pss.lean ====
section
/-! DEFINITION. RSASSA-PSS verification with an RSA-3072 key of exponent 65 537, SHA-256 and a salt of 32 bytes (RFC 8017, as chapter
19 names it). Octet strings stand most significant byte first, as RFC 8017 writes them. -/
namespace Sys2Proof.Pss
open Sys2Proof

/-- OS2IP and I2OSP. -/
def toNat (b : List Byte) : Nat := b.foldl (fun a x => a * 256 + x.toNat) 0
def ofNat (len n : Nat) : List Byte := (List.range len).reverse.map fun i => BitVec.ofNat 8 (n / 256 ^ i)

/-- `x ^ (2 ^ k)` modulo `n`. -/
def squares (n : Nat) : Nat → Nat → Nat
  | 0, x => x % n
  | k + 1, x => squares n k (x * x % n)

/-- RSAVP1: the signature representative to the power 65 537. -/
def power (n s : Nat) : Nat := squares n 16 s * s % n

/-- MGF1 with SHA-256. -/
def mgf (seed : List Byte) (len : Nat) : List Byte :=
  ((List.range ((len + 31) / 32)).flatMap fun i => Sha.digest (seed ++ ofNat 4 i)).take len

/-- EMSA-PSS-VERIFY of an encoded message of `bits` bits. -/
def emsa (msg em : List Byte) (bits : Nat) : Bool :=
  let len := (bits + 7) / 8
  let spare := 8 * len - bits
  let masked := em.take (len - 33)
  let h := (em.drop (len - 33)).take 32
  let db := (masked.zip (mgf h (len - 33))).map fun p => p.1 ^^^ p.2
  let db := match db with | x :: t => BitVec.ofNat 8 (x.toNat % 2 ^ (8 - spare)) :: t | [] => []
  let salt := db.drop (len - 65)
  em.length == len && 66 ≤ len && em.getLast? == some 0xBC#8 && decide ((em.headD 0#8).toNat < 2 ^ (8 - spare)) &&
  (db.take (len - 66)).all (· == 0#8) && db.getD (len - 66) 0#8 == 1#8 &&
  Sha.digest (List.replicate 8 0#8 ++ Sha.digest msg ++ salt) == h

/-- RSASSA-PSS-VERIFY with modulus `n`. -/
def verify (n : Nat) (msg sig : List Byte) : Bool :=
  let s := toNat sig
  let bits := Nat.log2 n
  let len := (bits + 7) / 8
  let m := power n s
  sig.length == 384 && decide (s < n) && decide (m < 256 ^ len) && emsa msg (ofNat len m) bits

end Sys2Proof.Pss
end

