-- ==== Sys2Proof/Machine/Firmware.lean ====
section
/-! DEFINITION. Firmware images: update sessions, blocks, commit, trial, confirmation and the choice of the image to boot (R425 to
R432). -/
namespace Sys2Proof.Machine
open Sys2Proof Sys2Proof.OD

def setFw (s : State) (x : Fw) : State := { s with fw := x }
def image (s : State) (i : Nat) : Image := if i == 0 then s.fw.imgA else s.fw.imgB

/-- An image slot, with its state, version and level words (0x2400:89 to 8E). -/
def setImage (s : State) (i : Nat) (x : Image) : State :=
  let s := setFw s (if i == 0 then { s.fw with imgA := x } else { s.fw with imgB := x })
  wrN (wrN (wrN s 0x2400 (0x89 + i) x.state) 0x2400 (0x8B + i) x.version) 0x2400 (0x8D + i) x.level

/-- The image that runs (0x2000:06). -/
def running (s : State) : Nat := rdN s 0x2000 6
/-- The anti-rollback counter C. -/
def rollbackC (s : State) : Nat := rdN s 0x2400 0x88
def sessionState (s : State) : Nat := rdN s 0x2400 0x80

/-- The boot record as it is written (R429, R430), with its words 0x2400:8F to 91. -/
def bootRecord (s : State) (b : Boot) : State :=
  let s := bankWritten (setFw s { s.fw with boot := some b }) 0x901 0 (.boot b)
  wrN (wrN (wrN s 0x2400 0x8F b.selected) 0x2400 0x90 b.trial) 0x2400 0x91 b.starts

def bootOf (s : State) : Boot := s.fw.boot.getD { selected := running s, previous := running s }

/-- The session record as it stands. -/
def sessionRecord (s : State) : State :=
  bankWritten s 0x900 0 (.session { state := sessionState s, target := rdN s 0x2400 0x81, header := s.fw.session, mask := rdN s 0x2400 0x84 })

-- Header (R425, R426) ---------------------------------------------------------------------------------------------

/-- Bytes lo to hi of a header are zero. -/
def zeros (h : List Byte) (lo hi : Nat) : Bool := ((h.drop lo).take (hi + 1 - lo)).all (· == 0#8)
def num (h : List Byte) (lo n : Nat) : Nat := leNat ((h.drop lo).take n)

/-- Magic, the fields that are zero, block count and rollback level. DEDUCED, unsafe: log entry 184. -/
def headerForm (h : List Byte) : Bool :=
  let n := num h 10 1
  h.take 4 == [0x5A#8, 0x48#8, 0x49#8, 0x4D#8] && within n 1 63 && num h 9 1 ≤ 64 && zeros h 11 11 && zeros h 14 15 &&
  zeros h (16 + 32 * n) 2031 && zeros h 2032 3711

/-- The image a header describes. -/
def headerImage (h : List Byte) : Image :=
  { state := 2, version := num h 4 4, level := num h 9 1, applic := num h 8 1, hoistFmt := num h 12 2, n := num h 10 1,
    hash := Sha.digest (h.take 3712), wanted := (List.range (num h 10 1)).map fun i => (h.drop (16 + 32 * i)).take 32 }

/-- The applicability bit of the device's ordering code. -/
def applies (s : State) (a : Nat) : Bool := bit a (if s.zh6432 then 1 else 0)

/-- The reason a header is refused (0x2400:93), 0 for none. DEDUCED, unsafe: log entry 184. -/
def headerRefusal (s : State) (h : List Byte) : Nat :=
  if !headerForm h then 1 else if !applies s (num h 8 1) then 2
  else if !Pss.verify Config.vendorKey (h.take 3712) (h.drop 3712) then 3 else if num h 9 1 < rollbackC s then 4 else 0

/-- A firmware item ends and its client is answered. -/
def fwEnd (s : State) (client : Nat) (item : Option Nat) (ok : Bool) (reason : Nat) : State :=
  let s := match item with
    | some i => let s := journalDrop s i
                if ok then itemDone s i else itemFail s i reason 0x08000020
    | none => s
  later s client 0x2400 (if ok then 0 else 0x08000020) []

/-- A write of a header to 0x2400:20. -/
def imageHeader (s : State) (client : Nat) (h : List Byte) (item : Option Nat) : State :=
  if rdN s 0x2400 0x90 != 0 || sessionState s ≥ 3 then abort s client 0x08000022 else
  let (s, i) := ownItem s item 3 client 0x2400 0x20
  match i with
  | none => abort s client 0x060A0023
  | some i =>
    let s := itemActive (journalAdd s i [(0x900, 0)]) i
    if sessionState s != 0 && Sha.digest (h.take 3712) == s.fw.session then fwEnd s client (some i) true 0
    else
      let r := headerRefusal s h
      if r != 0 then fwEnd (wrN s 0x2400 0x93 r) client (some i) false 14
      else
        let x := headerImage h
        let t := 1 - running s
        let s := wrN (wrN (wrN (wrN s 0x2400 0x80 1) 0x2400 0x81 t) 0x2400 0x82 x.n) 0x2400 0x83 0
        let s := wrN (wrN (wrN (wrN s 0x2400 0x84 0) 0x2400 0x85 x.version) 0x2400 0x86 x.level) 0x2400 0x87 x.hoistFmt
        let s := sessionRecord (setFw s { s.fw with session := x.hash })
        fwEnd (setImage s t x) client (some i) true 0

-- Blocks (R427) ---------------------------------------------------------------------------------------------------

/-- The next job in line becomes ACTIVE. -/
def fwKick (s : State) : State :=
  match s.fw.jobs with
  | j :: _ => match j.item with | some i => itemActive s i | none => s
  | [] => s

/-- A write of block `n` with its data to 0x2400:21. DEDUCED, unsafe: log entry 185. -/
def imageBlock (s : State) (client n : Nat) (data : List Byte) (item : Option Nat) : State :=
  if !(within (sessionState s) 1 2) then abort s client 0x08000022
  else if n ≥ rdN s 0x2400 0x82 then abort s client 0x06090030
  else
    let hash := Sha.digest data
    let wanted := (image s (rdN s 0x2400 0x81)).wanted.getD n []
    let (s, i) := ownItem s item 3 client 0x2400 0x21
    match i with
    | none => abort s client 0x060A0023
    | some i =>
      if rdBit s 0x2400 0x84 n then
        fwEnd s client (some i) (hash == wanted) 14
      else
        let s := journalAdd s i [(0, n)]
        fwKick (setFw s { s.fw with jobs := s.fw.jobs ++ [{ client := client, item := some i, num := n, hash := hash }] })

/-- Erase, program and read-back of the block in progress have ended; `fault`: the code flash failed, which is logged at its block
(R433). DEDUCED, unsafe: log entry 185. DEDUCED, unsafe: log entry 235. -/
def blockVerified (s : State) (fault : Bool) : State :=
  match s.fw.jobs with
  | j :: rest =>
    if j.num ≥ 64 then s else
    let t := rdN s 0x2400 0x81
    let x := image s t
    let s := setFw s { s.fw with jobs := rest }
    if fault then fwKick (fwEnd (logAdd (wrN s 0x2400 0x93 6) 0x00F0 (0x04D0C000 + t * 0x100 + j.num) 0xFF 0) j.client j.item false 11)
    else if j.hash == x.wanted.getD j.num [] then
      let s := wrN (setImage s t { x with have_ := Tab.put x.have_ j.num j.hash }) 0x2400 0x84 (setBit (rdN s 0x2400 0x84) j.num true)
      let n := ((List.range 63).filter fun i => rdBit s 0x2400 0x84 i).length
      let s := wrN s 0x2400 0x83 n
      let s := if n == rdN s 0x2400 0x82 then wrN s 0x2400 0x80 2 else s
      fwKick (fwEnd (sessionRecord s) j.client j.item true 0)
    else fwKick (fwEnd (wrN s 0x2400 0x93 5) j.client j.item false 12)
  | [] => s

-- Commit and close (R429) -----------------------------------------------------------------------------------------

/-- 0x2400:10 = 1. DEDUCED, unsafe: log entry 187. -/
def fwCommit (s : State) (client : Nat) : State :=
  if sessionState s != 2 then abort s client 0x08000022
  else setFw (wrN s 0x2400 0x80 4) { s.fw with jobs := s.fw.jobs ++ [{ client := client, item := none, num := 64, hash := [] }] }

/-- The re-hash ends: `bad` lists the blocks whose hash no longer matches, `sigOk` the header's signature. DEDUCED, unsafe: log
entry 186. -/
def commitVerified (s : State) (bad : List Nat) (sigOk : Bool) : State :=
  match s.fw.jobs with
  | j :: rest =>
    if j.num < 64 then s else
    let t := rdN s 0x2400 0x81
    let x := image s t
    let s := setFw s { s.fw with jobs := rest }
    let wrong := bad.filter (· < x.n)
    if wrong.isEmpty && sigOk && rollbackC s ≤ x.level then
      let s := bootRecord (setImage s t { x with state := 1 }) { selected := t, previous := running s, trial := 1, starts := 0 }
      later (sessionRecord (wrN s 0x2400 0x80 3)) j.client 0x2400 0 []
    else
      let m := wrong.foldl (fun m n => setBit m n false) (rdN s 0x2400 0x84)
      let s := setImage s t { x with have_ := x.have_.filter fun p => !wrong.contains p.1 }
      let s := wrN (wrN (wrN s 0x2400 0x84 m) 0x2400 0x83 ((List.range 63).filter fun i => bit m i).length) 0x2400 0x80 1
      let s := wrN s 0x2400 0x93 (if !wrong.isEmpty then 5 else if !sigOk then 3 else 4)
      later (sessionRecord s) j.client 0x2400 0x08000020 []
  | [] => s

/-- 0x2400:10 = 2: the session is closed, and its items are CANCELLED. DEDUCED, unsafe: log entry 186. -/
def fwClose (s : State) (client : Nat) : State :=
  let st := sessionState s
  if !within st 1 3 then abort s client 0x08000022 else
  let s := foldS (setFw s { s.fw with jobs := [] }) s.fw.jobs fun s j => fwEnd s j.client j.item false 6
  let s := if st == 3 then bootRecord s { selected := running s, previous := running s, trial := 0, starts := 0 } else s
  let t := rdN s 0x2400 0x81
  let s := setImage s t { image s t with state := 2 }
  let s := setFw (wrN s 0x2400 0x80 0) { s.fw with session := [] }
  success (sessionRecord s) client

-- Trial and confirmation (R430, R431) -----------------------------------------------------------------------------

/-- Confirmation: C, the boot record, the other image. -/
def fwConfirmNow (s : State) : State :=
  let r := running s
  let l := (image s r).level
  let s := if rollbackC s < l then wrN s 0x2400 0x88 l else s
  let s := bootRecord s { bootOf s with trial := 0, starts := 0 }
  let o := image s (1 - r)
  if o.state == 1 && o.level < rollbackC s then setImage s (1 - r) { o with state := 3 } else s

/-- 0x2400:10 = 3. -/
def fwConfirm (s : State) (client : Nat) : State :=
  if rdN s 0x2400 0x90 != 2 then abort s client 0x08000022 else success (fwConfirmNow s) client

/-- The automatic confirmation: at boot-up, at role 3, or on taking the ensign. DEDUCED, unsafe: log entry 210. -/
def fwAuto (s : State) : State :=
  if rdF s 0x2400 1 && rdN s 0x2400 0x90 == 2 && !(s.rst.defaults && pennantSet s 2) then fwConfirmNow s else s

/-- 0x2400:10 = 4. DEDUCED, unsafe: log entry 187. -/
def fwSelectOther (s : State) (client : Nat) : State :=
  let b := bootOf s
  let o := 1 - b.selected
  let x := image s o
  if x.state == 1 && rollbackC s ≤ x.level then
    success (bootRecord s { selected := o, previous := b.selected, trial := 0, starts := 0 }) client
  else abort s client 0x08000022

/-- 0x2400:11 (R430): the unit named acts, another answers success with no effect. -/
def restartCommand (s : State) (client unit off : Nat) : State :=
  if inPair s && unit != rdN s 0x2500 0x80 + 1 then success s client
  else success (setFw s { s.fw with restartAt := some (stamp s off + 1) }) client

/-- An image passes secure boot: `ok` is what the boot ROM finds of its signature, its block hashes and the flash. DEDUCED,
unsafe: log entry 199. -/
def passes (s : State) (i : Nat) (ok : Bool) : Bool := let x := image s i; x.state == 1 && applies s x.applic && rollbackC s ≤ x.level && ok

/-- The image the boot ROM starts (R430, R437), with whether it is a fallback; none: the device stays in the boot ROM. -/
def bootChoice (s : State) (okA okB : Bool) : State × Option (Nat × Bool) :=
  let ok (i : Nat) : Bool := passes s i (if i == 0 then okA else okB)
  match s.fw.boot with
  | none => (s, if ok 0 then some (0, false) else if ok 1 then some (1, false) else none)
  | some b =>
    let (s, sel) : State × Nat :=
      if b.trial == 0 then (s, b.selected)
      else if b.starts < 3 then (bootRecord s { b with trial := 2, starts := b.starts + 1 }, b.selected)
      else (event (bootRecord s { selected := b.previous, previous := b.previous, trial := 0, starts := 0 }) 75 0, b.previous)
    (s, if ok sel then some (sel, false) else if ok (1 - sel) then some (1 - sel, true) else none)

end Sys2Proof.Machine
end

