-- ==== Sys2Proof/Machine/Commit.lean ====
section
/-! DEFINITION. The staged configuration: cross-checks, admission, automatic phases and what a commit does at its tick (R3, R25 to
R28, R34, R35, R51 to R53, R59). -/
namespace Sys2Proof.Machine
open Sys2Proof Sys2Proof.OD

-- The configuration hash (R59) ------------------------------------------------------------------------------------

/-- The indices of the digest, ascending. -/
def hashIndices : List Nat :=
  ((List.range 0x3400).map (· + 0x1000)) ++ ((List.range 0x180).map (· + 0x4F00))

/-- One sub-index as the digest takes it. -/
def hashItem (vals : Tab (List Byte)) (idx sub : Nat) : List Byte :=
  let v := dictGet vals (key idx sub)
  leBytes 2 idx ++ leBytes 1 sub ++ leBytes 2 v.length ++ v

/-- The digest's input over class-P values. -/
def hashInput (zh6432 : Bool) (vals : Tab (List Byte)) : List Byte :=
  (hashIndices.filter fun i => !(zh6432 && fusedOff i)).flatMap fun idx =>
    (rowsFull idx).flatMap fun r =>
      if r.per == .p then (List.range (r.hi + 1 - r.lo)).flatMap fun i => hashItem vals idx (r.lo + i) else []

/-- 0x2000:16. DEDUCED, unsafe: log entry 27. -/
def configHash (s : State) : List Byte := Sha.digest (hashInput s.zh6432 s.hashed)

-- The staged view -------------------------------------------------------------------------------------------------

/-- The state as it would stand with the staged values in use: the staging copy holds structural sub-indices (R51). -/
def stagedView (s : State) : State :=
  { s with dict := (s.staged.filter fun p => structural (p.1 / 256) (p.1 % 256)).foldl (fun d p => dictPut d p.1 p.2) s.dict }

/-- A structural sub-index of `idx` from `lo` to `hi` differs between two states. -/
def differs (s v : State) (idx lo hi : Nat) : Bool := (List.range (hi + 1 - lo)).any fun i => rdB s idx (lo + i) != rdB v idx (lo + i)

/-- Signal references that a configuration holds; a disabled zone's are not checked (R194). -/
def signalRefs (v : State) : List Nat :=
  let zones := enabledZones v
  v.dict.filterMap fun p =>
    let i := p.1 / 256
    let b := p.1 % 256
    let is := (within i 0x3400 0x37FF && within b 4 8) || (within i 0x3C00 0x3C3F && within b 4 0x0B && zones.contains (i - 0x3C00)) ||
      (within i 0x3C40 0x3C7F && within b 1 4 && zones.contains (i - 0x3C40)) || (i == 0x3CC0 && within b 1 2) ||
      (within i 0x3300 0x3301 && b == 2) || (within i 0x4000 0x43FF && b == 1)
    if is then some (leNat p.2) else none

/-- Every output reference a configuration holds, those of disabled loops included. -/
def namedOutputs (v : State) : List Nat :=
  outputRefs v ++ v.dict.filterMap fun p => if within (p.1 / 256) 0x3400 0x37FF && p.1 % 256 == 9 then some (leNat p.2) else none

/-- No member of a list stands twice. -/
def distinct : List Nat → Bool
  | [] => true
  | x :: t => !t.contains x && distinct t

-- Cross-checks (abort 0x06040043) ---------------------------------------------------------------------------------

/-- Units of the ZH6480 alone (R3, R117, R118, R218). DEDUCED, unsafe: log entry 18. -/
def presenceOk (v : State) : Bool :=
  !v.zh6432 ||
  (!(signalRefs v).any signalRefAbsent && !(namedOutputs v).any outputRefAbsent &&
   (List.range 64).all (fun n => !(fpFun v n == 10 || (fpFun v n == 9 && rdN v (fpObj n) 5 ≥ 4))) &&
   -- neighbours of decoupling links and air sources of surfaces name zones by number, 255 naming none
   v.dict.all fun p =>
     !((within (p.1 / 256) 0x3C80 0x3C9F && within (p.1 % 256) 1 8) || (within (p.1 / 256) 0x3C40 0x3C5F && within (p.1 % 256) 5 8)) ||
     !within (leNat p.2) 32 63)

/-- Reference and writer rules (R34, R35, R119, R144, R304). DEDUCED, unsafe: log entry 18. -/
def writersOk (v : State) : Bool :=
  let outs := (outputRefs v).filter (· != 0)
  distinct outs &&
  outs.all (fun r => refClass r != 1 || isValueOut (fpFun v (refIndex r))) &&
  outs.all (fun r => refClass r != 3 || !rdF v (lpObj (refIndex r)) 1 || refClass (rdN v (lpObj (refIndex r)) 5) == 0) &&
  outs.all (fun r => refClass r != 4 || rdN v (slotObj (refIndex r)) 1 == 0) &&
  (signalRefs v).all fun r =>
    !(refClass r == 2 && fpFun v (refIndex r) ≤ 1) && !(refClass r == 3 && pcMode v (refIndex r / 4) == 0)

/-- The functions that use sub-index `b` of a port's object (R119). -/
def portUses (b f : Nat) : Bool :=
  match b with
  | 4 => f == 7
  | 5 => f == 9 || f == 10
  | 6 => f == 6 || f == 7 || f == 10
  | 7 => f == 7
  | _ => f == 3

/-- Field ports (R113, R116 to R119). -/
def portsOk (v : State) : Bool :=
  let fp := List.range 64
  let named (f : Nat) : List Nat := (fp.filter fun n => fpFun v n == f).map fun n => rdN v (fpObj n) 5
  fp.all (fun n => [4, 5, 6, 7, 8].all fun b => portUses b (fpFun v n) || rdB v (fpObj n) b == defaultAt (key (fpObj n) b)) &&
  fp.all (fun n => fpFun v n != 7 || feedOn v (rdN v (fpObj n) 4)) &&
  distinct (named 9) && distinct (named 10) && (named 10).all (· ≤ 1)

/-- A channel stands in its slice's list. -/
def listed (v : State) (ch : Nat) : Bool := (listOf v (ch / 6)).contains (ch % 6)

/-- Measurement channels and the inputs of enabled feeds (R74, R77). -/
def channelsOk (v : State) : Bool :=
  let chs := (List.range 16).map fun sl => 6 * sl + 4
  let mains (ch : Nat) : Bool :=
    rdN v (slObj (ch / 6)) 1 ≥ 1 && rdN v (slObj (ch / 6)) 2 == 4 && rdN v (chObj ch) 0x21 == 0 && rdN v (chObj ch) 0x20 == 0 && rdN v (chObj ch) 1 == 0
  chs.all (fun ch =>
    let src := rdN v (chObj ch) 3
    (src == 0 || listed v (53 + 6 * (src - 1))) && !(within (rdN v (chObj ch) 1) 2 4 && src == 0)) &&
  [0, 1].all fun f => !feedOn v f || (mains (76 + 6 * f) && (!rdF v (feedObj f) 2 || mains (88 + 6 * f)))

/-- Position channels (R126, R144). -/
def positionsOk (v : State) : Bool :=
  (List.range 8).all fun c =>
    let o := pcObj c
    let m := pcMode v c
    let idx := rdF v o 3
    !(idx && (m == 5 || m == 6)) && !((rdN v o 6 == 2 || rdN v o 5 == 1) && !idx) &&
    (m != 6 || 10 * ssiHalf v c * (rdN v o 8 + 1) + 1000 * rdN v o 0x0B ≤ 90000)

/-- Loops with a rate group or a phase of their own in one of two configurations. -/
def scheduled (s v : State) : List Nat :=
  ((s.dict ++ v.dict).filterMap fun p =>
    if within (p.1 / 256) 0x3400 0x37FF && within (p.1 % 256) 2 3 then some (p.1 / 256 - 0x3400) else none).eraseDups

/-- Loops (R152, R153, R167, R177): `s` is the state before the commit. The phase and the design of a changed group are checked of
disabled loops too. DEDUCED, unsafe: log entry 66. -/
def loopsOk (s v : State) : Bool :=
  let bank (n : Nat) : Nat := if rdF s (lpObj n) 1 then activeBank s n else 0
  ((scheduled s v).all fun n =>
    let g := rdN v (lpObj n) 2
    let ph := rdN v (lpObj n) 3
    (ph == 0xFFFF || ph < groupN g) &&
    !(rdN s (lpObj n) 2 != g && bankMode v n (bank n) == 1 && !designOk v n (bank n))) &&
  (enabledLoops v).all fun n =>
    let was := rdF s (lpObj n) 1
    let restarts := loopState s n == 4 && differs s v (lpObj n) 1 0x0A
    !(positionPv v n && rdN v (lpObj n) 0x0A == 0) &&
    !((!was || restarts) && bankMode v n (bank n) == 2 && !stable v n (bank n))

/-- The estimator's Ho: in use for a zone that runs, else its initial value. DEDUCED, unsafe: log entry 76. -/
def zoneHo (s v : State) (z : Nat) : Real32 := if rdF s (zObj z) 1 then rdR s (dcObj z) 0x88 else rdR v (zObj z) 0x41

/-- Zones (R218). -/
def zonesOk (s v : State) : Bool :=
  let zs := enabledZones v
  distinct (zs.flatMap fun z => ((List.range 8).map fun k => rdN v (zObj z) (0x10 + k)).filter (· != 0xFFFF)) &&
  zs.all fun z =>
    let o := zObj z
    let links := ((List.range 8).map fun l => rdN v (dcObj z) (1 + l)).filter (· != 255)
    (List.range 8).all (fun k =>
      let c := refClass (rdN v o (0x18 + k))
      let n := rdN v o (0x10 + k)
      (c == 0 || c == 1 || c == 2 || c == 4) && !(v.zh6432 && n != 0xFFFF && n > 511)) &&
    !links.contains z && distinct links &&
    (List.range 4).all (fun k => let n := rdN v o (0x0C + k); n == 255 || fpFun v n == 4) &&
    estimatorOk (zoneN v z) fun k => if k == 0x41 then zoneHo s v z else zR v z k

/-- Panel ports (R243, R249, R252). -/
def panelsOk (v : State) : Bool :=
  [0, 1].all fun p => rdN v (ppObj p) 1 == 0 || (panelConfigOk v p && listed v 29 && listed v 35)

/-- A witness-only device enables no loop, zone, position channel or panel port (R358). -/
def witnessOk (v : State) : Bool :=
  v.zh6432 || rdN v 0x2500 1 != 2 ||
  ((enabledLoops v).isEmpty && (enabledZones v).isEmpty && (List.range 8).all (fun c => pcMode v c == 0) && [0, 1].all fun p => rdN v (ppObj p) 1 == 0)

/-- The limit pairs that a commit brings into use (R43, R159, R202). DEDUCED, unsafe: log entry 79. -/
def pairsOk (s v : State) : Bool :=
  (enabledLoops v).all (fun n => rdF s (lpObj n) 1 || !F32.lt (bankR v n 0 7) (bankR v n 0 6)) &&
  (enabledZones v).all fun z =>
    !(differs s v (zObj z) 1 2) ||
    (!F32.lt (zR v z 0x25) (zR v z 0x24) && !F32.lt (zR v z 0x30) (zR v z 0x2F) && bandOk (rdN v (zObj z) 2) (zR v z))

-- Admission (R25 to R28) ------------------------------------------------------------------------------------------

/-- Evaluations at tick `t` of loops (n, phase). -/
def evalCount (l : List (Nat × Nat)) (t : Nat) : Nat := (l.filter fun p => t % p.1 == p.2).length

/-- The peak and its first tick: the count is greatest at tick 0 or at the phase of some loop, and first there. -/
def peakOf (l : List (Nat × Nat)) : Nat × Nat :=
  (0 :: l.map (·.2)).foldl (fun b t =>
    let c := evalCount l t
    if b.1 < c || (b.1 == c && t < b.2) then (c, t) else b) (0, 0)

/-- The greatest count over the ticks of phase `p` of a group of `n` ticks. -/
def worstAt (l : List (Nat × Nat)) (n p : Nat) : Nat :=
  (p :: (l.filter fun q => q.1 > n && q.2 % n == p).map (·.2)).foldl (fun m t => Nat.max m (evalCount l t)) 0

/-- The lowest phase of least worst count; `floor` is a count no phase can be below. -/
def bestPhase (l : List (Nat × Nat)) (n floor : Nat) : Nat → Nat → Nat × Nat → Nat
  | 0, _, b => b.1
  | fuel + 1, p, b =>
    let w := worstAt l n p
    if w ≤ floor then (if b.2 ≤ w then b.1 else p)
    else bestPhase l n floor fuel (p + 1) (if w < b.2 then (p, w) else b)

/-- Automatic phases, group by group and loop by loop: (loop, n, phase). DEDUCED, unsafe: log entry 16. -/
def placeAll (rg0 : Nat) (l : List (Nat × Nat)) : List (Nat × Nat) → List (Nat × Nat × Nat)
  | [] => []
  | (k, n) :: t =>
    let w := worstAt l n 0
    let p := if w ≤ rg0 then 0 else bestPhase l n rg0 (n - 1) 1 (0, w)
    (k, n, p) :: placeAll rg0 ((n, p) :: l) t

/-- The phase of each enabled loop: those of RG0, the explicit ones, the ones kept, and the ones placed (R27). DEDUCED, unsafe:
log entry 16. -/
def phasesOf (s v : State) : List (Nat × Nat × Nat) :=
  let en := enabledLoops v
  let group (x : State) (k : Nat) : Nat := rdN x (lpObj k) 2
  let same := enabledLoops s == en && en.all fun k => group s k == group v k
  let kept (k : Nat) : Bool := same && rdN s (lpObj k) 3 == 0xFFFF
  let fixed := en.filterMap fun k =>
    let ph := rdN v (lpObj k) 3
    if group v k == 0 then some (k, 1, 0)
    else if ph != 0xFFFF then some (k, loopN v k, ph)
    else if kept k then some (k, loopN v k, rdN s (lpObj k) 0x86)
    else none
  let autos := (List.range 7).flatMap fun g =>
    (en.filter fun k => group v k == g + 1 && rdN v (lpObj k) 3 == 0xFFFF && !kept k).map fun k => (k, loopN v k)
  fixed ++ placeAll (en.filter fun k => group v k == 0).length (fixed.map (·.2)) autos

/-- The slice with the longest list, lowest number first (R71). DEDUCED, unsafe: log entry 15. -/
def longestSlice (v : State) : Nat :=
  ((List.range 16).find? fun sl => rdN v (slObj sl) 1 == lMax v).getD 0

/-- A refusal of admission: reason, value and position (0x2010:06 to 08). DEDUCED, unsafe: log entry 15. -/
def admissionRefusal (s v : State) : Option (Nat × Nat × Nat) :=
  let rg0 := ((enabledLoops v).filter fun k => rdN v (lpObj k) 2 == 0).length
  let (peak, first) := peakOf ((phasesOf s v).map (·.2))
  if rg0 > 64 then some (2, rg0, 0)
  else if peak > 666 then some (1, peak, first)
  else if passEnd v > 1600 then some (3, passEnd v, longestSlice v)
  else none

/-- The abort code of a commit's first failing check, 0 for none (R52). -/
def commitRefusal (s : State) : Nat × Option (Nat × Nat × Nat) :=
  let v := stagedView s
  if !(presenceOk v && writersOk v && portsOk v && channelsOk v && positionsOk v && loopsOk s v && zonesOk s v && panelsOk v && witnessOk v)
  then (0x06040043, none)
  else if !pairsOk s v then (0x06090036, none)
  else match admissionRefusal s v with
    | some x => (0x06040047, some x)
    | none => (0, none)

/-- What a refusal records (R28, R52). -/
def commitRefused (s : State) (code : Nat) (adm : Option (Nat × Nat × Nat)) : State :=
  let s := wrN s 0x2000 0x15 code
  match adm with
  | some (reason, value, position) => wrN (wrN (wrN s 0x2010 6 value) 0x2010 7 position) 0x2010 8 reason
  | none => s

-- At the commit tick (R53) ----------------------------------------------------------------------------------------

/-- A loop takes its part of the commit. -/
def loopCommit (old s : State) (phases : List (Nat × Nat × Nat)) (n : Nat) : State :=
  let o := lpObj n
  let was := rdF old o 1
  let regroup := rdN old o 2 != rdN s o 2
  let s := if regroup then redesign (redesign s n 0) n 1 else s
  if !rdF s o 1 then (if was then loopEnd s n else s)
  else
    let ph := ((phases.find? fun p => p.1 == n).map (·.2.2)).getD 0
    let s := wrN s o 0x86 ph
    if !was then loopStart s n
    else if differs old s o 1 0x0A || rdN old o 0x86 != ph then
      let s := match (loopOf s n).swap with
        | some w => if bankMode s n w.bank == 1 && !designOk s n w.bank then swapCancel s n else s
        | none => s
      if loopState s n == 4 then (if differs old s o 1 0x0A then loopRestart s n else s)
      else
        let l := loopOf s n
        setLoop s n { l with fresh := true, out := none }
    else s

/-- A zone takes its part: start, end, links, slots that lose their loop. DEDUCED, unsafe: log entry 70. -/
def zoneCommit (old s : State) (z : Nat) : State :=
  let o := zObj z
  let was := rdF old o 1
  let is := rdF s o 1
  let lost := (List.range 5).filter fun k => was && (!is || rdN old o (0x10 + k) != rdN s o (0x10 + k))
  let s := foldS s lost fun s k =>
    let n := rdN old o (0x10 + k)
    if n ≤ 1023 then deliverTo s (0x3000 + n) F32.zero false else s
  let s := if !is then (if was then zoneEnd s z else s)
    else if !was then zoneStart s z
    else wrN s o 0x9A (zonePhase s z)
  let s := if differs old s (dcObj z) 1 8 then learnReset s z else s
  let s := if differs old s o 0x0C 0x0F then setZone s z { zoneOf s z with pir := [none, none, none, none] } else s
  -- a channel that has no writer forwards its idle value from the commit tick on
  foldS s (List.range 8) fun s k =>
    if hasWriter old 5 (z * 8 + k) && !hasWriter s 5 (z * 8 + k) then
      regate (setZone s z { zoneOf s z with chan := Tab.del (zoneOf s z).chan k }) z
    else if differs old s o (0x18 + k) (0x18 + k) then regate s z else s

/-- A loop set-point that the commit leaves without a writer holds its last applied value until it is written (R53); DEDUCED,
log entry 21. -/
def setPointsKept (old s : State) : State :=
  foldS s (enabledLoops old) fun s n =>
    match hasWriter old 3 n && !hasWriter s 3 n, (loopOf old n).casc with
    | true, some v => setLoop (wrR s (lpObj n) 0x80 v) n { loopOf s n with casc := none }
    | _, _ => s

/-- A measurement channel added to a list starts with an empty window (R79); the conversions that are still to settle stay so
(R85). -/
def listsCommit (old s : State) : State :=
  foldS s (List.range 96) fun s ch =>
    if listed s ch && !listed old ch then setChan s ch { chan s ch with win := [] } else s

/-- The whole staged configuration becomes active (R52 step 4, R53), at own tick `now` of the state given. DEDUCED, unsafe: log
entry 28. -/
def commitApply (s : State) : State :=
  let old := s
  let v := stagedView s
  let phases := phasesOf s v
  let ks := s.staged.map fun p => p.1 / 256
  let s := eccMended { v with staged := [] } (s.staged.map (·.1))
  let loops := ((enabledLoops old ++ enabledLoops s).eraseDups) ++ ((ks.filter fun i => within i 0x3400 0x37FF).map (· - 0x3400)).eraseDups
  let s := dozeSettle (foldS s loops.eraseDups fun s n => loopCommit old s phases n)
  let s := foldS s (List.range 64) fun s n => if fpFun old n != fpFun s n then portFunctionSet s n else s
  let s := foldS s (List.range 8) fun s c =>
    let s := if differs old s (pcObj c) 1 2 then posRestart s c else s
    if rdN old (cmpObj c) 1 == 0 && rdN s (cmpObj c) 1 != 0 then armList s c true
    else if rdN s (cmpObj c) 1 == 0 && rdN old (cmpObj c) 1 != 0 then armList s c false else s
  let s := listsCommit old (setPointsKept old s)
  let s := foldS s ((enabledZones old ++ enabledZones s).eraseDups ++ ((ks.filter fun i => within i 0x3C80 0x3CBF).map (· - 0x3C80))).eraseDups fun s z => zoneCommit old s z
  let s := foldS s [0, 1] fun s p =>
    if rdN old (ppObj p) 1 == 0 && rdN s (ppObj p) 1 == 0 then s
    else panelCommitted s p (rdN old (ppObj p) 1) (differs old s (ppObj p) 1 5) (old.staged.any fun q => portKey p q.1)
  let s := reallocate s
  let (peak, first) := peakOf (phases.map (·.2))
  let s := wrN (wrN (wrN s 0x2010 3 peak) 0x2010 4 first) 0x2010 5 ((enabledLoops s).filter fun k => rdN s (lpObj k) 2 == 0).length
  wrN s 0x3180 0x80 (passEnd s)

/-- The commit is complete: version, tick, result, hash, log entry and the answer (R52 step 5). -/
def commitDone (s : State) (client : Nat) : State :=
  let s := rehash (inc (wrN (wrN (wrN (wrN s 0x2000 0x14 s.tick) 0x2000 0x15 0) 0x2000 0x11 0) 0x2000 0x12 0) 0x2000 0x13)
  later (logAdd { s with commitDue := none } 0x0080 0 0xFF (rdN s 0x2000 0x13)) client 0x2000 0 []

/-- COMMIT_TICK: outputs due at the tick still go by the old references. DEDUCED, unsafe: log entry 28. -/
def commitTick (s : State) : State :=
  match s.commitDue with
  | some (_, client) => commitDone (commitApply (foldS (outputsDue s s.tick) (s.zones.map (·.1)) zoneResultsDue)) client
  | none => s

/-- 0x2000:10 = 1, its state checks passed (R52); `off` is the time of acceptance of the checks' end. DEDUCED, unsafe: log entry
12. -/
def commitCommand (s : State) (client off : Nat) : State :=
  if s.staged.isEmpty then success (wrN s 0x2000 0x15 0) client
  else
    let (code, adm) := commitRefusal s
    if code != 0 then abort (commitRefused s code adm) client code
    else wrN { s with commitDue := some (stamp s off + 1, client) } 0x2000 0x11 2

/-- 0x2000:10 = 2. -/
def discardStaged (s : State) : State := wrN (wrN { s with staged := [] } 0x2000 0x11 0) 0x2000 0x12 0

/-- A structural write enters the staging copy (R51). DEDUCED, unsafe: log entry 29. -/
def stageWrite (s : State) (idx sub : Nat) (data : List Byte) : State :=
  let s := { s with staged := Tab.put s.staged (key idx sub) data }
  wrN (wrN s 0x2000 0x11 1) 0x2000 0x12 s.staged.length

end Sys2Proof.Machine
end

