-- ==== Sys2Proof/Machine/Duplex.lean ====
section
/-! DEFINITION. The duplex pair and the witness: roles, the halyard link, hoists, the witness protocol, takeover and planned swap
(R334 to R360). -/
namespace Sys2Proof.Machine
open Sys2Proof Sys2Proof.OD

def setDup (s : State) (x : Dup) : State := { s with dup := x }
def setWit (s : State) (x : Wit) : State := { s with dup := { s.dup with wit := x } }
def unitNo (s : State) : Nat := rdN s 0x2500 0x80
def epoch (s : State) : Nat := rdN s 0x2500 0x82
/-- An epoch E' is newer than E (R348). -/
def newer (e' e : Nat) : Bool := within ((e' + 65536 - e) % 65536) 1 32767
def linkUp (s : State) : Bool := rdF s 0x2500 0x84
/-- A pair member whose units are awake: roles 4 to 6 (R337, R351). -/
def awake (s : State) : Bool := !inPair s || within (role s) 4 6
/-- Its loop engine, zone unit and walker run: those of a taking-over member once they are loaded (R352, R353). -/
def computes (s : State) : Bool := !inPair s || (within (role s) 4 6 && s.dup.loaded)
/-- A classical frame on CAN3 (R347). -/
def can3 (s : State) (id : Nat) (data : List Byte) : State := submit s 3 { id := id, fd := false, data := data } false

-- Roles (R336, R345, R360) ----------------------------------------------------------------------------------------

/-- REPORT (R347). -/
def report (s : State) (cmd result num val : Nat) : State :=
  can3 s (0x048 + unitNo s)
    ([BitVec.ofNat 8 cmd, BitVec.ofNat 8 result, BitVec.ofNat 8 num, BitVec.ofNat 8 (role s)] ++ leBytes 2 (epoch s) ++ leBytes 2 val)

/-- The answer to an ORDER, with 0x2010:01 in its last bytes. -/
def answerOrder (s : State) (cmd result num : Nat) : State := report s cmd result num (s.tick % 65536)

/-- The role changes: power state, controller modes, REPORT. DEDUCED, unsafe: log entry 149. -/
def setRole (s : State) (r : Nat) : State :=
  if role s == r then s else
  let s := wrN s 0x2500 0x81 r
  let p := rdN s 0x2100 0x80
  let s := if within r 1 3 && p ≤ 1 then traceClear (posStop (wrN s 0x2100 0x80 2)) else if within r 4 6 && p == 2 then wrN s 0x2100 0x80 0
    else if r == 6 && p == 1 then loopsSuspend (wrN s 0x2100 0x80 0) false else s
  report (modesDue s) 0x10 0 0 (s.tick % 65536)

/-- A bit of the not-ready reasons 0x2500:8C. -/
def notReady (s : State) (i : Nat) (b : Bool) : State := wrBit s 0x2500 0x8C i b

/-- Roles 2 and 3 follow the reasons and the hoists held (R357, R360). DEDUCED, unsafe: log entry 137. -/
def readyCheck (s : State) : State :=
  if !standby s then s else
  let s := notReady (notReady s 6 (rdN s 0x2600 0x82 == 1)) 0 (!linkUp s)
  let ok := rdN s 0x2500 0x8C == 0 && !s.dup.hoists.isEmpty
  if role s == 2 && ok then fwAuto (setRole s 3) else if role s == 3 && !ok then setRole s 2 else s

-- Hoists (R343 to R345) -------------------------------------------------------------------------------------------

/-- Live sub-indices that a hoist carries: loop control and live state, zones, decoupling, walker, position counts, compare
lists and field ports, field-node status. -/
def hoistKey (k : Nat) : Bool :=
  let i := k / 256
  let b := k % 256
  (within i 0x3400 0x37FF && (b == 0x81 || b == 0x83 || b == 0x87 || within b 0x90 0x9F)) ||
  (within i 0x3C00 0x3C3F && (within b 0x83 0x85 || within b 0x87 0x98 || within b 0x9B 0xA2)) ||
  (within i 0x3C40 0x3C7F && b ≥ 0x80) || (within i 0x3C80 0x3CBF && b ≥ 0x80) || (i == 0x4F00 && (within b 0x84 0x8E || b ≥ 0xC0)) ||
  (within i 0x3200 0x3207 && b == 0x80) || (within i 0x3210 0x3217 && b ≥ 0x80) || (within i 0x3000 0x303F && b == 0x81) || i == 0x1F83

/-- The snapshot at a hoist tick. DESIGN CHOICE, safe: log entry 139. -/
def hoistOf (s : State) (final : Bool) : Hoist :=
  { number := (s.dup.number + 1) % 2 ^ 32, tick := s.tick, own := s.now, epoch := epoch s, final := final, format := rdN s 0x2400 0x92,
    mirrorSeq := rdN s 0x2500 0x8E, version := rdN s 0x4F00 0x81, hash := configHash s,
    live := s.dict.filter fun p => hoistKey p.1, loops := s.loops, zones := s.zones, walker := s.tt, pos := s.pos,
    panels := [0, 1].map fun p => panelRec s p false, ports := s.ports,
    currents := (List.range 4).map fun j => (j, rdR s (chObj (53 + 6 * j)) 0x82), work := s.work.filter fun p => p.2.state < 2,
    nmt := nmt s, heard := s.net.heard, lost := (List.range 9).filter fun i => s.conds.contains (48, i), k0 := s.net.tpdo.filterMap fun p => p.2.k0.map fun k => (p.1, k) }

/-- A tick at which the holder's state is copied: every P ms, and the final hoist's (R343, R353). -/
def hoistTick (s : State) : Bool :=
  s.tick % (10 * Nat.max 1 (rdN s 0x2500 2)) == 0 || (match s.dup.swap with | some w => s.tick == w.h | none => false)

/-- The copy, taken at the tick before anything of the period changes a word. DEDUCED, safe: log entry 148. -/
def hoistSnap (s : State) : State :=
  if inPair s && within (role s) 5 6 && linkUp s && s.dup.joined && s.counting && hoistTick s then
    setDup s { s.dup with snap := some (hoistOf s (match s.dup.swap with | some w => s.tick == w.h | none => false)) }
  else s

/-- The position channels stand in the copy as they are latched at its tick (R143). -/
def hoistLatched (s : State) : State :=
  match s.dup.snap with
  | none => s
  | some h =>
    let own (k : Nat) : Bool := within (k / 256) 0x3200 0x3217
    if h.own != s.now then s else
    let live := (h.live.filter fun p => !own p.1) ++ s.dict.filter fun p => own p.1 && hoistKey p.1
    setDup s { s.dup with snap := some { h with pos := s.pos, live := live } }

/-- A transfer is under way until h + 7.0 ms (R343). DEDUCED, unsafe: log entry 138. -/
def transferring (s : State) : Bool := s.dup.sent.any fun x => s.now < x.2.2 + msT 7

/-- HOIST_CAPTURE: the transfer of the copy of this tick starts as a work item of kind 6, unless another is under way or the
work table is full. DEDUCED, unsafe: log entry 138. -/
def hoistCapture (s : State) : State :=
  match s.dup.snap with
  | none => s
  | some h =>
    if h.tick != s.tick || !linkUp s || !s.dup.joined then s else
    let s := setDup s { s.dup with snap := none }
    if transferring s then s else
    let (s, i) := newItem s 6 0x100 0x2500 0x87
    match i with
    | none => waited s
    | some i => setDup (inc (itemActive s i) 0x2500 0x87) { s.dup with number := h.number, sent := (h, some i, s.now) :: s.dup.sent }

/-- A planned swap ends without a change of ensign: the holder is back in role 5 (R353). DESIGN CHOICE, unsafe: log entry 141.
-/
def swapOff (s : State) : State :=
  let s := setDup s { s.dup with swap := none, modes := [] }
  if role s == 6 then setRole s 5 else modesDue s

/-- The standby's acknowledgement of hoist `n`. -/
def hoistAcked (s : State) (n : Nat) : State :=
  match s.dup.sent.find? fun x => x.1.number == n with
  | some (h, i, _) =>
    let s := match i with | some i => itemDone s i | none => s
    let sw := if h.final then s.dup.swap.map fun w => { w with finalDone := true } else s.dup.swap
    setDup s { s.dup with sent := s.dup.sent.filter fun x => x.1.number != n, swap := sw }
  | none => s

/-- No acknowledgement by h + 20 ms. -/
def hoistAckTimeout (s : State) : State :=
  let late := s.dup.sent.filter fun x => x.2.2 + msT 20 ≤ s.now
  let s := foldS s late fun s x => match x.2.1 with | some i => itemFail s i 10 0 | none => s
  let s := setDup s { s.dup with sent := s.dup.sent.filter fun x => s.now < x.2.2 + msT 20 }
  if role s == 6 && late.any fun x => x.1.final then swapOff s else s

/-- A hoist received whole is valid on this device (R345). -/
def hoistValid (s : State) (h : Hoist) : Bool :=
  !s.dup.segBad && h.format == rdN s 0x2400 0x92 && h.hash == configHash s && h.version == rdN s 0x4F00 0x81

/-- Store a valid hoist under the divisor and the interval (R345). -/
def hoistStore (s : State) (h : Hoist) : State :=
  let n := s.store.hoistsSince + 1
  let s := setStore s { s.store with hoistsSince := n }
  let since := match s.store.hoistAt with | some t => t + msT (1000 * rdN s 0x2500 5) ≤ s.now | none => true
  if n ≥ rdN s 0x2500 4 && since then unitSave s (.hoist h) else s

-- Loading a hoist (R143, R217, R237, R262, R351, R352) ------------------------------------------------------------

def shift (d : Int) (x : Nat) : Nat := ((x : Int) + d).toNat

/-- A loop continues from the hoist. -/
def loopFrom (s : State) (h : Hoist) (d : Int) (n : Nat) : State :=
  let l := Tab.get h.loops n {}
  let l := { l with out := none, restart := none, bad := (loopOf s n).bad, owed := (loopOf s n).owed, swap := l.swap.map fun w => { w with due := shift d w.due } }
  match loopState s n with
  | 0 => wrN (setLoop s n {}) (lpObj n) 0x87 1
  | 2 | 3 => setLoop s n { l with resume := true }
  | 6 => setLoop (wrN s (lpObj n) 0x87 (if l.evaluated then 2 else 1)) n { l with resume := true }
  | 4 | 5 => wrBit (wrBit (wrN (setLoop s n { l with evaluated := false, resume := false, fresh := false, swapEval := none }) (lpObj n) 0x87 1)
               (lpObj n) 0x9C 10 false) (lpObj n) 0x9C 11 false
  | _ => setLoop s n l

/-- A zone continues: the coast count restarts and the first decoupling step is skipped. -/
def zoneFrom (s : State) (h : Hoist) (d : Int) (z : Nat) : State :=
  let x := Tab.get h.zones z {}
  wrR (setZone s z { x with due := none, coasted := false, prev := none, gate := 255, stopHeat := x.stopHeat.map (shift d),
                            stopCool := x.stopCool.map (shift d), lowSince := x.lowSince.map (shift d) }) (zObj z) 0x99 F32.zero

/-- A position channel takes count, index and list from the hoist. -/
def posFrom (s : State) (h : Hoist) (c : Nat) : State :=
  if pcMode s c == 0 then s else
  let x := Tab.get h.pos c {}
  let p := pos s c
  if pcMode s c == 6 then setPos s c { p with count := x.count, vPrev := x.vPrev, frames := [], changedAt := none }
  else setPos s c { p with count := x.count, idxRef := x.idxRef, mismatch := x.mismatch, indexCount := x.indexCount, referenced := false,
                           stamps := [], edges := 0, stopped := true, starting := false, reversal := false }

/-- A field port takes burst accumulator, count, presence timer and frequency history. -/
def portFrom (s : State) (h : Hoist) (d : Int) (n : Nat) : State :=
  let x := Tab.get h.ports n {}
  setPort s n { port s n with zxAcc := x.zxAcc, count := x.count, stretched := x.stretched, stretchEnd := shift (100000 * d) x.stretchEnd,
                              edgeCount := x.edgeCount, stamps := x.stamps.map (shift (100000 * d)) }

/-- Items of the hoisted work table that had not ended are listed FAILED with reason TAKEOVER, but for a journalled one that the
device holds as a mirror. DEDUCED, unsafe: log entry 140. -/
def workFrom (s : State) (h : Hoist) : State :=
  foldS s h.work fun s p =>
    let mine := s.work.any fun q => q.2.origin == 0x300 && q.2.idx == p.2.idx && q.2.kind == p.2.kind
    if p.2.journalled && mine then s else
    let (s, i) := newItem s p.2.kind p.2.origin p.2.idx 0
    match i with | some i => itemFail s i 4 0 | none => waited s

/-- The walker continues (R237): the channel values are those that the hoist shows in 0x4F00:8E, and a walk whose results were not
yet due still supplies them. -/
def walkerFrom (s : State) (h : Hoist) (d : Int) : State :=
  let b := rdB s 0x4F00 0x8E
  let ch := (List.range (b.length / 4)).foldl (init := []) fun t z =>
    let v := BitVec.ofNat 32 (leNat ((b.drop (4 * z)).take 4))
    if F32.isZero v then t else Tab.put t z v
  let due := h.walker.due.map fun x => { x with at_ := shift d x.at_, commits := false }
  setTT { s with ttChan := ch } { h.walker with due := due, pulse := false, commit := none, answerTo := none }

/-- A field node after a takeover (R352): its boot status is the hoist's, and its supervision restarts. A node that the hoist has
started is not started again. DESIGN CHOICE, unsafe: log entry 238. -/
def takenNode (s : State) (started : Bool) (k : Nat) : FieldNode :=
  let st := bootStatus s k
  { heardAt := some s.now, started := started && st == 4,
    deadline := if within st 1 3 then s.now + msT (rdN s 0x1FF0 5) else 0,
    retryAt := if st == 7 then s.now + msT 10000 else 0 }

/-- The device continues from a hoist. DEDUCED, unsafe: log entry 140. -/
def loadHoist (s : State) (h : Hoist) : State :=
  let d : Int := (s.now : Int) - ((s.tick : Int) - h.tick) - h.own
  let keep := s.dict.filter fun p => !hoistKey p.1
  let s := { s with dict := h.live.foldl (fun t p => dictPut t p.1 p.2) keep }
  let s := foldS s (enabledLoops s) fun s n => loopFrom s h d n
  let s := foldS s (enabledZones s) fun s z => zoneFrom s h d z
  let s := walkerFrom s h d
  let s := foldS s (List.range 8) fun s c => posFrom s h c
  let s := foldS s (h.ports.map (·.1)) fun s n => portFrom s h d n
  let s := foldS s [0, 1] fun s p => match h.panels[p]? with | some r => panelTakeover s p r | none => s
  let s := wrN (if s.dup.swap.isSome then s else workFrom s h) 0x1FF0 0x80 h.nmt
  let nodes := (nodeIds.filter (assigned s)).map fun k => (k, takenNode s (h.nmt == 5) k)
  let s := foldS s h.lost fun s i => condStart s 48 i 0 0xFF
  setNet s { s.net with tpdo := h.k0.map (fun p => (p.1, { k0 := some p.2 })), nodes := nodes, fieldBoot := true,
                        heard := h.heard.map fun p => (p.1, shift d p.2),
                        bootAt := some (s.net.bootAt.getD s.now), serving := true }

-- The ensign (R339, R348) -----------------------------------------------------------------------------------------

/-- Every change of ensign: counters, tick, IRQ source 5 and the log entry. DESIGN CHOICE, unsafe: log entry 130. -/
def ensignChanged (s : State) (gained planned : Bool) : State :=
  let s := wrN (inc s 0x2500 (if planned then 0x8B else 0x8A)) 0x2500 0x8D s.tick
  irq (logAdd s (if gained then 0x0040 else 0x0041) 0 0xFF (epoch s)) 5

/-- The planned swap has come to the end of its window (R353 steps 7 and 8). -/
def windowOver (s : State) : Bool := match s.dup.swap with | some w => w.withdrawn | none => false

/-- The armed device takes the ensign: outputs, controllers, EMCY. DESIGN CHOICE, unsafe: log entry 130. -/
def takeEnsign (s : State) (e : Nat) : State :=
  let planned := windowOver s
  let cold := s.dup.hoists.isEmpty
  let s := wrN { s with ensign := true } 0x2500 0x82 e
  let s := setDup s { s.dup with armed := none, modes := [], swap := none, loaded := s.dup.loaded || cold, swapReq := false, joined := false }
  let s := ensignChanged (setRole s 5) true planned
  let s := emcy s { code := 0xFF03, loc := 0, pennant := 0xFF, source := 0xFF, obj := 0 }
  let s := foldS s ((List.range 16).map fun sl => 6 * sl + 4) fun s ch => if rdN s (chObj ch) 3 != 0 then settleChan s ch else s
  let s := fwAuto (modesDue s)
  if cold then s else
  let s := { s with ports := s.ports.map fun p => (p.1, { p.2 with waiting := p.2.waiting && !p.2.applied }) }
  let s := panelsOn s s.now
  heartbeatNow (setNet s { s.net with hbAt := s.now })

/-- The holder loses the ensign: it enters STANDBY in role 2 (R339, R348, R353). -/
def loseEnsign (s : State) : State :=
  if !s.ensign then s else
  let planned := windowOver s
  let why := if planned then 5 else 4
  let s := { s with ensign := false }
  let s := panelsHardCut s 13
  let s := measStop s why
  let s := foldS s (s.net.reqs) fun s q => itemFail s q.item why 0
  let s := foldS s (s.net.xfers) fun s p => itemFail s p.2.item why 0
  let s := foldS s (s.waiting.filter fun w => w.client < 0x80) fun s w => match w.item with | some i => itemFail s i why 0 | none => s
  let s := { s with waiting := s.waiting.filter fun w => w.client ≥ 0x80 }
  let s := setNet s { s.net with reqs := [], xfers := [] }
  let s := foldS s s.dup.sent fun s x => match x.2.1 with | some i => itemFail s i 10 0 | none => s
  let s := ensignChanged s false planned
  let s := setDup s { s.dup with loaded := false, hoists := [], sent := [], snap := none, swap := none, modes := [], mirrorQ := [], mirrorTries := 0,
                                 joined := false, hoistAt := some s.now, swapReq := false }
  setRole (notReady s 2 true) 2

/-- Wake-up of a standby that arms (R351): outputs and set-points of the newest good TICK frame, measurement afresh. -/
def wakeUnits (s : State) : State :=
  let s := setRole s 4
  let s := { s with meas := { s.meas with chans := s.meas.chans.map fun p => (p.1, { p.2 with win := [] }) } }
  let s := setDup s { s.dup with loaded := false }
  match s.dup.mirrorOut with
  | none => s
  | some (duties, sps) =>
    let s := foldS s ((List.range 64).zip duties) fun s p =>
      if isValueOut (fpFun s p.1) then setPort s p.1 { port s p.1 with duty := F32.ofFrac p.2 65535, applied := true } else s
    foldS s ((List.range 8).zip sps) fun s p => wrR s (pcObj p.1) 0x84 (F32.ofInt p.2)

/-- A GRANT (R348). DEDUCED, unsafe: log entry 131. -/
def orderGrant (s : State) (unit num e : Nat) : State :=
  if !inPair s then s
  else if unit != unitNo s then
    if newer e (epoch s) && s.ensign then loseEnsign (wrN s 0x2500 0x82 e) else s
  else if !newer e (epoch s) then answerOrder s 1 2 num
  else if !(role s == 1 || role s == 3 || role s == 4) || (role s == 1 && rdN s 0x2500 0x83 == 5) then answerOrder s 1 1 num
  else
    let prev := match s.dup.armed with | some (_, _, p) => p | none => role s
    let s := if windowOver s then s else setDup s { s.dup with swap := none, modes := [] }
    let s := if role s == 4 then s else wakeUnits s
    answerOrder (setDup s { s.dup with armed := some (e, s.now, prev) }) 1 0 num

/-- A REVOKE. -/
def orderRevoke (s : State) (unit num e : Nat) : State :=
  if !inPair s || unit != unitNo s then s
  else if !s.ensign then answerOrder s 2 3 num
  else if !newer e (epoch s) then answerOrder s 2 2 num
  else answerOrder (loseEnsign (wrN s 0x2500 0x82 e)) 2 0 num

/-- Not armed within 5 ms (R348). DEDUCED, unsafe: log entry 131. -/
def armTimeout (s : State) : State :=
  match s.dup.armed with
  | some (_, t, prev) => if s.now < t + msT 5 then s else setRole (setDup s { s.dup with armed := none, loaded := s.dup.loaded && prev == 4 }) prev
  | none => s

/-- ENSIGN_IN asserted (R335, R348). -/
def ensignAsserted (s : State) : State :=
  let s := { s with ensignIn := true }
  if s.zh6432 then s
  else if inPair s then
    match s.dup.armed with
    | some (e, _, _) => takeEnsign s e
    | none => if s.ensign then s else condStart s 52 0 0 0xFF
  else condEnd s 52 0 0

/-- ENSIGN_IN deasserted (R17, R335, R339): the outputs are gated off and panel updates are cut. -/
def ensignDeasserted (s : State) : State :=
  let s := { s with ensignIn := false }
  if s.zh6432 then s
  else if inPair s then
    let s := condEnd s 52 0 0
    if s.ensign then loseEnsign s else s
  else
    let s := panelsHardCut s 13
    if rdN s 0x2500 1 == 0 && s.cfgLoaded then condStart s 52 0 0 0xFF else s

/-- The units of an armed device are awake and its hoist is loaded (R350 step 5). -/
def takeoverLoaded (s : State) : State :=
  if !inPair s || s.dup.loaded || s.dup.swap.isSome || !within (role s) 4 5 then s else
  match s.dup.hoists with
  | h :: _ =>
    let s := setDup (loadHoist s h) { s.dup with loaded := true }
    if role s == 5 then
      let s := panelsOn s s.now
      { s with ports := s.ports.map fun p => (p.1, { p.2 with waiting := p.2.waiting && !p.2.applied }) }
    else s
  | [] => s

-- The halyard link (R340 to R342) ---------------------------------------------------------------------------------

/-- CONTROL JOIN goes out (R357 step 2): the unit is in role 2 until a hoist of the holder's is valid. -/
def join (s : State) : State :=
  if !standby s then s else
  let s := setDup s { s.dup with hoists := [], segBad := false, hoistAt := some s.now, mirrorSync := true }
  setRole s 2

/-- The partner's newest HEALTH shows it with the ensign: there is a running pair to join (R357). DEDUCED, unsafe: log entry
133. -/
def partnerHolds (s : State) : Bool := within (rdN s 0x2500 0x83) 5 6

def haveLink (s : State) : Bool := inPair s && s.cfgLoaded

def linkUpEvent (s : State) : State :=
  if !haveLink s || linkUp s then s else
  let s := notReady (condEnd (wrF s 0x2500 0x84 true) 53 0 0x0CF00000) 0 false
  if role s == 1 && !partnerHolds s then s else join s

def linkDownEvent (s : State) : State :=
  if !haveLink s || !linkUp s then s else
  let s := condStart (wrF s 0x2500 0x84 false) 53 0 0x0CF00000 0xFF
  readyCheck (setDup s { s.dup with joined := false, mirrorQ := [], mirrorTries := 0 })

/-- A halyard frame with a bad CRC (R340). -/
def halyardBad (s : State) : State := inc s 0x2500 0x89

/-- A TICK frame (R341): count, alignment, and the output mirror. DEDUCED, unsafe: log entry 133. -/
def tickFrame (s : State) (count : Nat) (duties : List Nat) (sps : List Int) (aligned crcOk : Bool) : State :=
  if !haveLink s || !linkUp s then s
  else if !crcOk then halyardBad s
  else if s.ensign then s
  else
    let s := if role s == 1 then join s else s
    let s := notReady { s with tick := count % 2 ^ 64, counting := true } 7 (!aligned)
    readyCheck (setDup s { s.dup with mirrorOut := some (duties, sps) })

/-- A log entry of the partner's enters the holder's ring with package field 1 (R37, R337). DEDUCED, unsafe: log entry 147. -/
def logFrame (s : State) (e : LogEntry) (crcOk : Bool) : State :=
  if !haveLink s || !linkUp s then s
  else if !crcOk then halyardBad s
  else if !s.ensign then s
  else
    let s := logAdd s e.code (e.loc % 2 ^ 30 + 2 ^ 30) e.qual e.data
    let l := match s.log with
      | n :: t => { n with time := e.time, subSec := e.subSec, calInvalid := e.calInvalid } :: t
      | [] => []
    inc { s with log := l } 0x2710 0x85

/-- The content of a store area: every class-P value of it as a read would return it. -/
def areaValues (s : State) (a : Nat) : Tab (List Byte) :=
  (s.written.foldl (fun t p => Tab.put t p.1 p.2) (s.dict.filter fun p => persistent (p.1 / 256) (p.1 % 256))).filter fun p => areaOf (p.1 / 256) == a

/-- The items that bring a joining unit to the holder's configuration: the areas named, and the unit records. DEDUCED, unsafe:
log entry 134. -/
def joinItems (s : State) (areas : List Nat) : State :=
  let s := foldS s areas fun s a => mirrorPut s (.area a (areaValues s a))
  let s := mirrorPut s (.coupling (couplingRecord s))
  foldS s [0, 1] fun s p => if rdN s (ppObj p) 1 == 0 then s else mirrorPut s (.panel p (panelRec s p false))

/-- CONTROL JOIN at the holder (R357 step 3): `serials` are those of areas 2, 3 and 4. -/
def controlJoin (s : State) (hash : List Byte) (version : Nat) (serials : List Nat) : State :=
  if !haveLink s || !s.ensign || !linkUp s then s else
  let s := setDup s { s.dup with joined := true, mirrorQ := [], mirrorTries := 0 }
  let same := hash == configHash s
  let areas := [2, 3, 4].filter fun a =>
    !same || serials.getD (a - 2) 0 != Tab.get s.store.serials a 0 || (a == 4 && version != rdN s 0x4F00 0x81)
  joinItems s areas

/-- No acknowledgement of a mirror item within 1 ms (R342). DEDUCED, unsafe: log entry 134. -/
def mirrorAckTimeout (s : State) : State :=
  if s.dup.mirrorQ.isEmpty || s.now < s.dup.mirrorAt + msT 1 then s
  else if s.dup.mirrorTries < 3 then setDup s { s.dup with mirrorTries := s.dup.mirrorTries + 1, mirrorAt := s.now }
  else joinItems (setDup s { s.dup with mirrorQ := [], mirrorTries := 0 }) [2, 3, 4]

/-- The standby's acknowledgement of mirror items up to `n`. -/
def mirrorAcked (s : State) (n : Nat) : State :=
  if s.dup.mirrorQ.any fun p => p.1 == n then
    setDup s { s.dup with mirrorQ := s.dup.mirrorQ.filter fun p => !(p.1 ≤ n), mirrorTries := 0, mirrorAt := s.now }
  else s

-- The planned swap (R353, R354) -----------------------------------------------------------------------------------

/-- The incoming unit of a swap that ended without a change of ensign is a standby again (R353). DESIGN CHOICE, unsafe: log
entry 141. -/
def swapEnds (s : State) : State := setRole (setDup s { s.dup with swap := none, modes := [], loaded := false, armed := none }) 3

/-- A hoist segment arrives; the last one completes `h`, whose trailer then checks or not (R345). -/
def hoistSegment (s : State) (h : Option Hoist) (trailer crcOk : Bool) : State :=
  if !haveLink s || !linkUp s then s
  else if s.ensign then (if crcOk then s else halyardBad s) else
  let s := if crcOk then s else setDup (halyardBad s) { s.dup with segBad := true }
  match h with
  | none => s
  | some h =>
    let ok := hoistValid s h && trailer
    let s := notReady (notReady s 3 (h.format != rdN s 0x2400 0x92)) 1 (h.hash != configHash s || h.version != rdN s 0x4F00 0x81)
    let s := setDup s { s.dup with segBad := false }
    if ok then
      let s := notReady (inc (wrN (wrN s 0x2500 0x85 h.number) 0x2500 0x86 h.tick) 0x2500 0x88) 2 false
      let s := setDup s { s.dup with hoists := h :: s.dup.hoists.take 1, hoistAt := some s.now }
      let s := hoistStore s h
      match role s == 4 && h.final, s.dup.swap with
      | true, some w => setDup (loadHoist s h) { s.dup with swap := some { w with h := h.tick, hp := h.tick + 100, e := h.tick + 100 + w.e, finalDone := true } }
      | _, _ => readyCheck s
    else if role s == 4 && h.final then
      readyCheck (answerOrder (swapEnds s) 3 1 0)
    else readyCheck s

/-- No valid hoist within P + 20 ms (R360). -/
def noValidHoist (s : State) : State :=
  let t := s.dup.hoistAt.getD 0
  if standby s && t + msT (rdN s 0x2500 2 + 20) ≤ s.now then readyCheck (notReady s 2 true) else s

/-- A SWAP order at the holder and at the incoming unit; `off` is the time of acceptance. DEDUCED, unsafe: log entry 234. -/
def orderSwap (s : State) (unit num w off : Nat) (urgent : Bool) : State :=
  if !inPair s then s else
  let w := if urgent then 0 else w
  if unit == unitNo s then
    if role s != 3 then answerOrder s 3 (if s.dup.swap.isSome then 4 else 1) num
    else setDup (wakeUnits s) { (wakeUnits s).dup with swap := some { unit := unit, h := 0, hp := 0, e := w } }
  else if !s.ensign then answerOrder s 3 3 num
  else if role s == 6 then answerOrder s 3 4 num
  else if rdN s 0x2500 0x83 != 3 then answerOrder s 3 1 num
  else
    let t := tickAt s (stamp s off) + 10
    let h := (t + 9) / 10 * 10
    let s := setDup s { s.dup with swap := some { unit := unit, h := h, hp := h + 100, e := h + 100 + w } }
    report (setRole s 6) 3 0 num ((h + 100) % 65536)

/-- h': the window starts, at the tick to come or this one. -/
def swallowtailStart (s : State) : State :=
  match s.dup.swap with
  | some w =>
    if !inPair s || w.started || w.hp == 0 || s.tick + 1 < w.hp then s
    else if role s == 6 then
      if !w.finalDone then swapOff s else modesDue (setDup s { s.dup with modes := [(1, 1)], swap := some { w with started := true } })
    else if role s == 4 && w.finalDone then
      modesDue (setDup s { s.dup with modes := [(0, 1), (1, 0), (2, 1)], loaded := true, swap := some { w with started := true } })
    else s
  | none => s

/-- e: the window ends; the holder withdraws. -/
def swallowtailEnd (s : State) : State :=
  match s.dup.swap with
  | some w =>
    if !inPair s || !w.started || w.withdrawn || s.tick + 1 < w.e then s
    else if role s == 6 then
      let s := modesDue (setDup s { s.dup with modes := [(0, 1), (1, 1), (2, 1)], swap := some { w with withdrawn := true } })
      let s := foldS s (s.net.reqs) fun s q => itemFail s q.item 5 0
      let s := foldS s (s.net.xfers) fun s p => itemFail s p.2.item 5 0
      let s := foldS s (s.waiting.filter fun w => w.client < 0x80) fun s w => match w.item with | some i => itemFail s i 5 0 | none => s
      let s := setNet { s with waiting := s.waiting.filter fun w => w.client ≥ 0x80 } { s.net with reqs := [], xfers := [] }
      report s 0x11 0 0 (w.e % 65536)
    else if role s == 4 then modesDue (setDup s { s.dup with modes := [(0, 0), (1, 0), (2, 0)], swap := some { w with withdrawn := true } })
    else s
  | none => s

-- HEALTH, BEACON (R346 to R348) -----------------------------------------------------------------------------------

/-- HEALTH byte 3 in role 5: 1 lane fault, 2 engine stop, 3 operator (R171, R173, R347). DEDUCED, unsafe: log entry 146. -/
def withdrawal (s : State) : Nat :=
  if s.engineStop then 2 else if (enabledLoops s).any fun n => loopState s n == 4 then 1 else if s.dup.swapReq then 3 else 0

/-- Time since the last BEACON, ms (0x2500:8F). DEDUCED, unsafe: log entry 146. -/
def beaconAge (s : State) : Nat := match s.dup.beaconAt with | some t => Nat.min 65535 ((s.now - t) / 10) | none => 65535

def healthSend (s : State) : State :=
  if !inPair s || canState s 3 == 0 || s.now < s.dup.healthAt + msT 10 then s else
  let w := if within (role s) 5 6 then withdrawal s else 0
  let fl (b : Bool) (i : Nat) : Nat := if b then 2 ^ i else 0
  let flags := fl s.ensignIn 0 + fl (w == 1 || w == 2) 1 + fl (w == 2) 2 + fl (linkUp s) 3 + fl (role s == 4) 4 + fl s.dup.swapReq 5 +
    fl (beaconAge s < rdN s 0x2500 6) 6
  let reason := if role s == 5 then w else if standby s then rdN s 0x2500 0x8C % 256 else 0
  let hn := if role s == 5 then s.dup.number else match s.dup.hoists with | h :: _ => h.number | [] => 0
  let d := [BitVec.ofNat 8 (role s), BitVec.ofNat 8 flags, BitVec.ofNat 8 s.dup.healthCtr, BitVec.ofNat 8 reason] ++ leBytes 2 (epoch s) ++ leBytes 2 hn
  can3 (setDup s { s.dup with healthAt := s.now, healthCtr := (s.dup.healthCtr + 1) % 256 }) (0x050 + unitNo s) d

def beaconReceived (s : State) : State :=
  if !inPair s then s else condEnd (setDup s { s.dup with beaconAt := some s.now }) 54 0 0

def beaconTimeout (s : State) : State :=
  match s.dup.beaconAt with
  | some t => if inPair s && t + msT (rdN s 0x2500 6) ≤ s.now then condStart s 54 0 0 0xFF else s
  | none => s

-- The witness (R349, R356, R358) ----------------------------------------------------------------------------------

def holder (s : State) : Nat := rdN s 0x2500 0x90
def witUnit (s : State) (u : Nat) : WitUnit := Tab.get s.dup.wit.units u {}
def setWitUnit (s : State) (u : Nat) (x : WitUnit) : State := setWit s { s.dup.wit with units := Tab.put s.dup.wit.units u x }
/-- Own time in steps of 10 µs. DEDUCED, unsafe: log entry 143. -/
def now10 (s : State) (off : Nat) : Nat := nowNs s off / 10000
/-- HEALTH_OUT of a unit toggles: an edge within 3.0 ms. DEDUCED, unsafe: log entry 143. -/
def toggles (s : State) (u off : Nat) : Bool := match (witUnit s u).edgeAt with | some t => now10 s off < t + 300 | none => false
/-- The newest HEALTH is at most 30 ms old. -/
def fresh (s : State) (u : Nat) : Bool := match (witUnit s u).heardAt with | some t => s.now ≤ t + msT 30 | none => false
def killLatched (s : State) (u : Nat) : Bool := rdBit s 0x2500 0x92 u
/-- The unit may be granted the ensign: role 3, or role 1 at a cold start. -/
def qualifies (s : State) (u off : Nat) (cold : Bool) : Bool :=
  toggles s u off && fresh s u && ((witUnit s u).role == 3 || (cold && (witUnit s u).role == 1))

/-- ORDER (R347). -/
def order (s : State) (cmd unit num flags e w : Nat) : State :=
  can3 s 0x040 ([BitVec.ofNat 8 cmd, BitVec.ofNat 8 unit, BitVec.ofNat 8 num, BitVec.ofNat 8 flags] ++ leBytes 2 e ++ leBytes 2 w)

def nextNum (s : State) : State × Nat :=
  let n := (s.dup.wit.num + 1) % 256
  (setWit s { s.dup.wit with num := n }, n)

/-- GRANT with the next epoch; the lines wait for the REPORT. -/
def grantTo (s : State) (u : Nat) (old : Option Nat) (kill : Bool) (off : Nat) : State :=
  let e := (s.dup.wit.epoch + 1) % 65536
  let (s, n) := nextNum s
  order (setWit s { s.dup.wit with grant := some { unit := u, num := n, epoch := e, at_ := now10 s off, old := old, kill := kill } }) 1 u n 0 e 0

/-- SWAP from the holder to its partner. -/
def swapOrder (s : State) (urgent : Bool) : State :=
  if holder s > 1 || s.dup.wit.grant.isSome || (match s.dup.wit.swap with | some (_, _, some _) => true | _ => false) then s else
  let u := 1 - holder s
  let w := if urgent then 0 else rdN s 0x2500 3
  let (s, n) := nextNum s
  order (setWit s { s.dup.wit with swap := some (u, w, none) }) 3 u n (if urgent then 1 else 0) s.dup.wit.epoch w

/-- Assert KILL_n of a unit (R349): held for the kill hold, and latched after too many. -/
def killUnit (s : State) (u : Nat) : State :=
  let x := witUnit s u
  let ks := s.now :: x.kills.filter fun t => s.now < t + msT 3600000
  let s := inc (setWitUnit s u { x with kills := ks, killAt := some s.now }) 0x2500 0x91
  let s := setWit s { s.dup.wit with kill := setBit s.dup.wit.kill u true }
  if ks.length ≥ rdN s 0x2500 0x23 then wrBit s 0x2500 0x92 u true else s

/-- The changeover of R339: the old holder's ENSIGN breaks, with its kill, and the new one's makes. DEDUCED, unsafe: log entry
142. -/
def moveLines (s : State) (g : Grant) : State :=
  let s := match g.old with
    | some o =>
      let s := setWit s { s.dup.wit with ensign := setBit s.dup.wit.ensign o false }
      if g.kill then killUnit s o else s
    | none => s
  let s := setWit s { s.dup.wit with ensign := setBit s.dup.wit.ensign g.unit true, latch := true, grant := none, swap := none, epoch := g.epoch }
  wrN (wrN s 0x2500 0x90 g.unit) 0x2500 0x82 g.epoch

/-- An edge at a field port of the witness: those at FP4 and FP5 are HEALTH_OUT of units A and B. -/
def witnessEdge (s : State) (n off : Nat) : State :=
  if within n 4 5 then setWitUnit s (n - 4) { witUnit s (n - 4) with edgeAt := some (now10 s off) } else s

/-- REPORT at the witness; `off` is its time. -/
def witReport (s : State) (r : Report) (off : Nat) : State :=
  let u := r.unit % 2
  let s := setWitUnit s u { witUnit s u with role := r.role }
  match r.cmd with
  | 1 =>
    match s.dup.wit.grant with
    | some g =>
      if g.unit != u || g.num != r.num then s
      else if r.result == 0 && now10 s off ≤ g.at_ + 100 then moveLines s g
      else setWit s { s.dup.wit with grant := none }
    | none => s
  | 3 =>
    match s.dup.wit.swap with
    | some (v, w, e) =>
      if r.result == 0 then (if e.isSome then s else setWit s { s.dup.wit with swap := some (v, w, some (s.now + 119 + w)) })
      else if r.result == 4 then s
      else setWit s { s.dup.wit with swap := none }
    | none => s
  | 0x11 =>
    match s.dup.wit.swap with
    | some (v, _, _) => if u != v && toggles s v off && fresh s v then grantTo s v (some u) false off else s
    | none => s
  | 0x10 => if r.role == 5 && u == holder s && s.dup.wit.grant.isNone then setWit s { s.dup.wit with swap := none } else s
  | _ => s

/-- REPORT on CAN3: the witness acts on it; a holder in a swap hears that the final hoist was refused (R353). -/
def reportReceived (s : State) (r : Report) (off : Nat) : State :=
  if witness s then witReport s r off
  else if inPair s && role s == 6 && r.unit != unitNo s && r.cmd == 3 && r.result == 1 then swapOff s
  else if inPair s && role s == 4 && s.dup.swap.isSome && r.unit != unitNo s && r.cmd == 0x10 && r.role == 5 then readyCheck (swapEnds s)
  else s

/-- A GRANT whose REPORT has not come within 1.0 ms moves no line. -/
def grantLapse (s : State) (off : Nat) : State :=
  match s.dup.wit.grant with
  | some g => if g.at_ + 100 < now10 s off then setWit s { s.dup.wit with grant := none } else s
  | none => s

/-- No edge of HEALTH_OUT for 3.0 ms: an unplanned takeover if the unit holds the ensign and the other qualifies. -/
def unitFailed (s : State) (u off : Nat) : State :=
  if !witness s || u > 1 || toggles s u off then s else
  let s := grantLapse s off
  if u != holder s then (if (s.dup.wit.swap.map (·.1)) == some u then setWit s { s.dup.wit with swap := none } else s)
  else if s.dup.wit.grant.isSome || !qualifies s (1 - u) off false && !((s.dup.wit.swap.map (·.1)) == some (1 - u) && toggles s (1 - u) off && fresh s (1 - u))
  then s
  else inc (grantTo (setWit s { s.dup.wit with swap := none }) (1 - u) (some u) true off) 0x2500 0x93

def killHoldExpired (s : State) (u : Nat) : State :=
  match (witUnit s u).killAt with
  | some t =>
    if witness s && u ≤ 1 && t + msT (rdN s 0x2500 0x21) ≤ s.now && !killLatched s u then
      setWit (setWitUnit s u { witUnit s u with killAt := none })
        { (setWitUnit s u { witUnit s u with killAt := none }).dup.wit with kill := setBit s.dup.wit.kill u false }
    else s
  | none => s

/-- No REPORT withdrawn within 20 ms of e (R354). -/
def withdrawnTimeout (s : State) (off : Nat) : State :=
  match s.dup.wit.swap with
  | some (v, _, some e) =>
    if !witness s || s.now < e + msT 20 || s.dup.wit.grant.isSome || !toggles s v off || !fresh s v then s
    else inc (grantTo s v (some (1 - v)) true off) 0x2500 0x93
  | _ => s

/-- No unit holds the ensign: none has since the witness started, or the last holder has failed or is back in role 1 or 2.
DEDUCED, unsafe: log entry 144. -/
def noHolder (s : State) (off : Nat) : Bool :=
  holder s > 1 || !toggles s (holder s) off || (fresh s (holder s) && within (witUnit s (holder s)).role 1 2)

/-- Own time in steps of 10 µs since which the witness waits for a cold start: its own start, or the last edge of the failed holder. -/
def waitFrom (s : State) : Nat :=
  if holder s > 1 then s.dup.wit.since * 10 else Nat.max (s.dup.wit.since * 10) ((witUnit s (holder s)).edgeAt.getD 0)

/-- Cold start (R356). DEDUCED, unsafe: log entry 144. -/
def coldStart (s : State) (off : Nat) : State :=
  if !witness s || !noHolder s off || (grantLapse s off).dup.wit.grant.isSome then s else
  let s := grantLapse s off
  let old := if holder s > 1 then none else some (holder s)
  let kill := holder s ≤ 1 && !toggles s (holder s) off
  let at_ (u r : Nat) : Bool := fresh s u && (witUnit s u).role == r
  let both := at_ 0 1 && at_ 1 1
  if at_ 0 5 || at_ 1 5 || at_ 0 3 || at_ 1 3 || !(both || waitFrom s + 200000 ≤ now10 s off) then s
  else
    let p := rdN s 0x2500 0x22
    let go (u : Nat) : State := grantTo s u old (kill && old != some u) off
    if qualifies s p off true then go p else if qualifies s (1 - p) off true then go (1 - p) else s

/-- A HEALTH frame: at a pair member, of its partner; at the witness, of either unit. -/
def healthReceived (s : State) (h : Health) : State :=
  if witness s then
    let u := h.unit % 2
    let s := setWitUnit s u { witUnit s u with role := h.role, epoch := h.epoch, heardAt := some s.now }
    let s := if holder s > 1 && within h.role 5 6 && s.dup.wit.grant.isNone then
        wrN (wrN (setWit s { s.dup.wit with ensign := setBit 0 u true, latch := true, epoch := h.epoch }) 0x2500 0x90 u) 0x2500 0x82 h.epoch
      else s
    if bit h.flags 1 && u == holder s then swapOrder s (bit h.flags 2) else if bit h.flags 5 then swapOrder s false else s
  else if inPair s && h.unit != unitNo s then
    let s := setDup (wrN s 0x2500 0x83 (h.role % 8)) { s.dup with heardAt := some s.now, partnerEpoch := h.epoch }
    let s := if role s == 1 && linkUp s && partnerHolds s then join s else s
    if h.role == 5 && newer h.epoch (epoch s) then loseEnsign (wrN s 0x2500 0x82 h.epoch) else s
  else s

/-- BEACON (R347). -/
def beaconSend (s : State) (off : Nat) : State :=
  if !witness s || s.now < s.dup.wit.sentAt + msT 10 then s else
  let w := s.dup.wit
  let st := if holder s > 1 then 0 else if toggles s 0 off && toggles s 1 off then 1 else 2
  let fl (b : Bool) (i : Nat) : Nat := if b then 2 ^ i else 0
  let f := fl (toggles s 0 off) 0 + fl (toggles s 1 off) 1 + fl (killLatched s 0) 2 + fl (killLatched s 1) 3
  let d := [BitVec.ofNat 8 st, BitVec.ofNat 8 (holder s), BitVec.ofNat 8 w.ctr, BitVec.ofNat 8 f] ++ leBytes 2 w.epoch ++ leBytes 2 0
  can3 (setWit s { w with ctr := (w.ctr + 1) % 256, sentAt := s.now }) 0x058 d

-- Commands (R357, R360) -------------------------------------------------------------------------------------------

/-- The refusal of duplex command `v`, 0 for none. -/
def duplexRefusal (s : State) (v : Nat) : Nat :=
  let ok := match v with
    | 1 => inPair s
    | 2 => inPair s && within (role s) 2 3
    | _ => witness s
  if ok then 0 else 0x08000022

def duplexCommand (s : State) (v : Nat) : State :=
  match v with
  | 1 => setDup s { s.dup with swapReq := true }
  | 2 => join s
  | 3 => swapOrder s false
  | _ =>
    let u := rdN s 0x2500 0x92
    let k := setBit (if bit u 0 then setBit s.dup.wit.kill 0 false else s.dup.wit.kill) 1 (bit s.dup.wit.kill 1 && !bit u 1)
    let s := setWit s { s.dup.wit with kill := k, units := s.dup.wit.units.map fun p => (p.1, if bit u p.1 then { p.2 with kills := [], killAt := none } else p.2) }
    wrN s 0x2500 0x92 0

/-- A RESYNC order at the standby. -/
def orderResync (s : State) (unit num : Nat) : State :=
  if !inPair s || unit != unitNo s then s
  else if within (role s) 2 3 then answerOrder (join s) 4 0 num else answerOrder s 4 1 num

end Sys2Proof.Machine
end

