-- ==== Sys2Proof/Machine/Security.lean ====
section
/-! DEFINITION. Identity, customer keys, attestation, debug unlock and boundary scan (R435 to R450, R490, R491). -/
namespace Sys2Proof.Machine
open Sys2Proof Sys2Proof.OD

def setSec (s : State) (x : Sec) : State := { s with sec := x }
def slotObjK (k : Nat) : Nat := 0x2601 + k
def secLoc (block cell : Nat) : Nat := 0x04E00000 + block * 0x4000 + cell

-- Per-device constants --------------------------------------------------------------------------------------------

/-- Factory bytes of a device constant, `n` of them. -/
def factoryBytes (idx sub n : Nat) : List Byte := (List.range n).map (Config.factory (key idx sub))
/-- The burgee certificate and the intermediate's, at most 2 048 bytes each (R436). -/
def certificate (sub : Nat) : List Byte := factoryBytes 0x2600 sub (Nat.min 2048 (Config.factoryLen sub))
/-- 0x2000:03. -/
def serialBytes : List Byte := (List.range 8).map Config.serial
/-- 0x2000:01. -/
def orderingCode (s : State) : List Byte :=
  [0x5A#8, 0x48#8, 0x36#8, 0x34#8] ++ (if s.zh6432 then [0x33#8, 0x32#8] else [0x38#8, 0x30#8])

-- Customer key slots (R439) ---------------------------------------------------------------------------------------

def slotState (s : State) (k : Nat) : Nat := rdN s (slotObjK k) 0x80
def anyLoaded (s : State) : Bool := (List.range 4).any fun k => slotState s k == 1
/-- The modulus of a slot, most significant byte first. DEDUCED, unsafe: log entry 191. -/
def slotKey (s : State) (k : Nat) : Nat := Pss.toNat (rdB s (slotObjK k) 1)

/-- Abort code of a load of slot `k`; `signed_`: an entry of a verified configuration image. DEDUCED, unsafe: log entry 191. -/
def keyLoadRefusal (s : State) (k : Nat) (data : List Byte) (signed_ : Bool) : Nat :=
  if anyLoaded s && !signed_ then 0x08000021
  else if slotState s k != 0 || data.headD 0#8 == 0#8 then 0x06090030 else 0

def keyLoad (s : State) (k : Nat) (data : List Byte) : State :=
  wrN (wrB (wrB s (slotObjK k) 1 data) (slotObjK k) 0x81 (Sha.digest data)) (slotObjK k) 0x80 1

/-- Abort code of a revocation of slot `k`. DEDUCED, unsafe: log entry 192. -/
def keyRevokeRefusal (s : State) (k : Nat) (signed_ : Bool) : Nat :=
  if anyLoaded s && !signed_ then 0x08000021 else if slotState s k != 1 then 0x08000022 else 0

def keyRevoke (s : State) (k : Nat) : State := wrN s (slotObjK k) 0x80 2

/-- Abort code of a write to 0x2600:20 or :21 (R439, R440, R449). DEDUCED, unsafe: log entry 192. -/
def policyRefusal (s : State) (sub v : Nat) (signed_ : Bool) : Nat :=
  if anyLoaded s && !signed_ then 0x08000021
  else if sub == 0x21 then 0
  else if v == 1 && !anyLoaded s && rdN s 0x2600 0x20 == 0 then 0x08000022
  else if v == 0 && rdN s 0x2600 0x20 == 1 then 0x06090030 else 0

/-- Under policy 1 a write to this sub-index needs a signed image (R440). -/
def policyLocks (s : State) (idx sub : Nat) : Bool :=
  rdN s 0x2600 0x20 == 1 &&
  ((within sub 1 0x7F && ((within idx 0x1000 0x1FFF && idx != 0x1010) || within idx 0x3000 0x43FF || idx == 0x4F00 || idx == 0x4F10 || within idx 0x5000 0x507F)) ||
   (idx == 0x2000 && sub == 0x10) || (idx == 0x4F00 && sub == 0x80) || (idx == 0x2500 && within sub 1 6))

-- Attestation (R444) ----------------------------------------------------------------------------------------------

/-- Bytes 0 to 255 of a report. DEDUCED, unsafe: log entry 196. -/
def reportBody (s : State) (nonce : List Byte) : List Byte :=
  let img := image s (running s)
  let flags := setBit (setBit (setBit (setBit (setBit (setBit 0 0 (rdN s 0x2600 0x82 == 1)) 1 (rdN s 0x2400 0x90 == 2)) 2 (pennantSet s 2))
    3 (rdN s 0x2600 0x20 == 1)) 4 (rdN s 0x2600 0x80 == 2)) 5 (holdsEnsign s)
  let slots := (List.range 4).foldl (fun m k => m + slotState s k * 4 ^ k) 0
  [0x5A#8, 0x48#8, 0x41#8, 0x54#8] ++ leBytes 2 1 ++ leBytes 2 640 ++ nonce ++ serialBytes ++ orderingCode s ++
  leBytes 2 Config.stepping.toNat ++ leBytes 4 (rdN s 0x2000 5) ++ leBytes 1 (running s) ++ leBytes 1 (rollbackC s) ++ leBytes 1 img.level ++
  leBytes 1 flags ++ img.hash ++ configHash s ++ leBytes 4 (rdN s 0x2000 0x13) ++ leBytes 4 (rdN s 0x4F00 0x81) ++ leBytes 8 s.tick ++
  leBytes 8 (if calValid s then s.cal.secs else 0) ++ leBytes 1 (rdN s 0x2600 0x83) ++ leBytes 1 slots ++ leBytes 1 s.sec.lastSlot ++
  leBytes 1 (role s) ++ leBytes 4 (rdN s 0x2600 0x84) ++ Sha.digest (certificate 1) ++ List.replicate 64 0#8

/-- A nonce write joins the queue; its item is ACTIVE. DEDUCED, unsafe: log entry 195. -/
def nonceWrite (s : State) (client : Nat) (nonce : List Byte) (item : Option Nat) : State :=
  let s := match item with | some i => itemActive s i | none => s
  setSec s { s.sec with nonces := s.sec.nonces ++ [(client, nonce, item)] }

/-- At a tick: signing of the first request starts, on the values of this tick. DEDUCED, unsafe: log entry 195. -/
def signStart (s : State) : State :=
  match s.sec.signing, s.sec.nonces with
  | none, (_, nonce, _) :: _ => setSec s { s.sec with signing := some (reportBody s nonce) }
  | _, _ => s

/-- The accelerator has signed the report: 384 bytes `sig`. -/
def reportSigned (s : State) (sig : List Byte) : State :=
  match s.sec.signing, s.sec.nonces with
  | some body, (client, _, _) :: rest =>
    let l := ((client, body ++ sig) :: s.sec.reports.filter fun p => p.1 != client).take 16
    later (setSec s { s.sec with signing := none, nonces := rest, reports := l }) client 0x2610 0 []
  | _, _ => s

/-- The report of a client. -/
def reportOf (s : State) (client : Nat) : Option (List Byte) := (s.sec.reports.find? fun p => p.1 == client).map (·.2)

-- Debug unlock (R445, R446) ---------------------------------------------------------------------------------------

/-- A read of 0x260C:01: 32 random bytes, free values, the serial number and the tick. DESIGN CHOICE, safe: log entry 9.
DEDUCED, unsafe: log entry 197. -/
def debugChallenge (s : State) : State × List Byte :=
  let r := (List.range 8).flatMap fun i => leBytes 4 (Config.freeWord (s.freeCount + i)).toNat
  let c := r ++ serialBytes ++ leBytes 8 s.tick
  ({ s with freeCount := s.freeCount + 8, sec := { s.sec with challenge := some (c, s.now) } }, c)

/-- Abort code of a response; 0: accepted. DEDUCED, unsafe: log entry 197. -/
def debugRefusal (s : State) (sig : List Byte) : Nat :=
  if !rdF s 0x2600 0x21 || rdN s 0x2600 0x82 == 1 || s.sec.unlockAt.isSome then 0x08000022
  else match s.sec.challenge with
    | some (c, t) => if s.now < t + msT 60000 && Pss.verify Config.debugKey c sig then 0 else 0x08000020
    | none => 0x08000020

/-- A response accepted or refused: it uses up the challenge. -/
def debugResponse (s : State) (client off : Nat) (sig : List Byte) : State :=
  let code := debugRefusal s sig
  if code == 0x08000022 then abort s client code
  else
    let s := setSec s { s.sec with challenge := none }
    if code != 0 then abort s client code
    else success (setSec s { s.sec with unlockAt := some (stamp s off + 1) }) client

/-- The tick at which internal debug unlocks. DEDUCED, unsafe: log entry 198. -/
def unlockDue (s : State) : State :=
  match s.sec.unlockAt with
  | some t =>
    if s.now < t then s else
    let s := setSec s { s.sec with unlockAt := none, unlocked := true }
    let s := wrN (inc s 0x2600 0x83) 0x2600 0x82 1
    notReady (panelsOff (condStart s 77 0 (secLoc 0 0) 0xFF) s.now) 6 true
  | none => s

/-- A write of 1 to 0x260C:03. -/
def lockCommand (s : State) (client off : Nat) : State :=
  success (setFw s { s.fw with restartAt := some (stamp s off + 1) }) client

-- Boundary scan (R447, R490, R491) --------------------------------------------------------------------------------

def setTap (s : State) (x : Tap) : State := { s with tap := x }
/-- The identification register. -/
def idcode (s : State) : Nat :=
  Config.stepping.toNat % 16 * 2 ^ 28 + (if s.zh6432 then 0x6432 else 0x6480) * 2 ^ 12 + 0x2D3 * 2 + 1

/-- Update-IR of IDCODE, or TRST_n low or Test-Logic-Reset. -/
def tapIdcode (s : State) : State := setTap s { s.tap with ir := 1, dr := idcode s, access := false }
/-- SAMPLE/PRELOAD captures the 402 cells, `capture`, and preloads `preload` (R491). -/
def tapSample (s : State) (capture preload : Nat) : State :=
  setTap s { s.tap with ir := 2, dr := scanCapture s capture, cells := preload % 2 ^ 402, access := false }
def tapBypass (s : State) : State := setTap s { s.tap with ir := 0x1F, dr := 0, access := false }
/-- A private instruction, code 0x10 to 0x17: internal debug access when debug is unlocked. DEDUCED, unsafe: log entry 198. -/
def tapPrivate (s : State) (code : Nat) : State :=
  setTap s { s.tap with ir := 0x10 + code % 8, access := rdN s 0x2600 0x82 == 1 }

end Sys2Proof.Machine
end

