-- ==== Sys2Proof/Machine/Read.lean ====
section
/-! DEFINITION. Reading the dictionary: the values the device forms at a read, and the refusals of a read (R40, R44, R50, R51, R57 to R59,
R366, R458, R461, R468). -/
namespace Sys2Proof.Machine
open Sys2Proof Sys2Proof.OD

/-- Abort code of an index or sub-index that the device does not have (R40, R2); 0 when it exists. -/
def existence (s : State) (idx sub : Nat) : Nat :=
  if (s.zh6432 && fusedOff idx) || (rowsFull idx).isEmpty then 0x06020000
  else if (rowOf idx sub).isNone then 0x06090011 else 0

-- Work items, start-up record, log --------------------------------------------------------------------------------

/-- A sub-index of work item i (R461). -/
def itemField (w : WorkItem) (sub : Nat) : List Byte :=
  match sub with
  | 1 => leBytes 4 w.id
  | 2 => leBytes 1 w.kind
  | 3 => leBytes 2 w.origin
  | 4 => leBytes 1 w.state
  | 5 => leBytes 1 w.reason
  | 6 => leBytes 2 w.idx
  | 7 => leBytes 1 w.sub
  | 8 => leBytes 8 w.accepted
  | 9 => leBytes 8 w.ended
  | 10 => leBytes 4 w.abort
  | _ => leBytes 1 (if w.journalled then 1 else 0)

/-- The start-up record (R468). -/
def startupRecord (s : State) : List Byte :=
  leBytes 1 s.rst.cause ++ leBytes 1 s.rst.recFlags ++ leBytes 2 s.rst.recItems.length ++ leBytes 4 s.rst.recFirst ++
  leBytes 4 s.rst.recDropped ++ leBytes 4 0 ++
  s.rst.recItems.flatMap fun p =>
    leBytes 4 p.2.id ++ leBytes 2 (0x2020 + p.1) ++ leBytes 1 p.2.kind ++ leBytes 1 p.2.state ++ leBytes 1 p.2.reason ++
    leBytes 2 p.2.origin ++ leBytes 1 (if p.2.journalled then 1 else 0)

/-- A log entry as it is read (R455). -/
def logBytes (e : LogEntry) : List Byte :=
  leBytes 5 e.time ++ leBytes 2 e.subSec ++ leBytes 2 (e.code % 32768 + (if e.calInvalid then 32768 else 0)) ++ leBytes 4 e.loc ++
  leBytes 1 e.qual ++ leBytes 2 e.data

/-- Entry number `n`, from the ring or from the store ring (R458). -/
def logEntry (s : State) (n : Nat) : Option LogEntry :=
  match s.log.find? fun e => e.num == n with
  | some e => some e
  | none => s.logStore.find? fun e => e.num == n

/-- A client's read position; without one, the newest entry. DEDUCED, unsafe: log entry 31. -/
def logPosOf (s : State) (client : Nat) : Nat :=
  match s.logPos.find? fun p => p.1 == client with
  | some p => p.2
  | none => (rdN s 0x2710 0x80 + 2 ^ 32 - 1) % 2 ^ 32

def setLogPos (s : State) (client n : Nat) : State :=
  { s with logPos := ((client, n % 2 ^ 32) :: s.logPos.filter fun p => p.1 != client).take 16 }

/-- An entry of the log ring lies in memory with an uncorrectable error (R58). -/
def logEcc (s : State) (n : Nat) : Bool := s.eccLog.contains n && s.log.any fun e => e.num == n

/-- A read of 0x2710:02. -/
def logReadEntry (s : State) (client : Nat) : State × Nat × List Byte :=
  let n := logPosOf s client
  if logEcc s n then (s, 0x06060000, []) else
  match logEntry s n with
  | some e => (setLogPos s client (n + 1), 0, logBytes e)
  | none => (s, 0x08000024, [])

/-- The entries from number `n` on, at most `k`. DEDUCED, unsafe: log entry 205. -/
def logRun (s : State) (n : Nat) : Nat → List LogEntry
  | 0 => []
  | k + 1 => match logEntry s n with | some e => e :: logRun s ((n + 1) % 2 ^ 32) k | none => []

/-- A read of 0x2710:03. -/
def logReadEntries (s : State) (client : Nat) : State × Nat × List Byte :=
  let n := logPosOf s client
  match logRun s n 256 with
  | [] => (s, 0x08000024, [])
  | l =>
    if l.any fun e => logEcc s e.num then (s, 0x06060000, []) else
    (setLogPos s client (n + l.length), 0, l.flatMap logBytes)

-- One read --------------------------------------------------------------------------------------------------------

/-- Work items of kind 1 that USDO clients hold (0x1FF0:87). -/
def usdoHeld (s : State) : Nat := (itemsWhere s fun w => w.kind == 1 && within w.origin 1 0x7F).length

/-- The word of loop memory that a sub-index of a loop shows, if any (R172, R174). -/
def loopWord (sub : Nat) : Option (Nat × Nat) :=
  if within sub 0x20 0x34 then some (0, sub - 0x20)
  else if within sub 0x40 0x54 then some (1, sub - 0x40)
  else if within sub 0x90 0x9F then some (2, sub - 0x90)
  else none

/-- The read meets an uncorrectable ECC error (R58, R172): in loop memory, in the field-port configuration memory, or in the memory
of any other value, until that has been written again. DEDUCED, unsafe: log entry 222. -/
def readEcc (s : State) (idx sub : Nat) : Bool :=
  (within idx 0x3400 0x37FF && (match loopWord sub with | some w => (loopOf s (idx - 0x3400)).bad.contains w | none => false)) ||
  (within idx 0x3000 0x303F && within sub 1 0x7F && s.portEcc) ||
  Tab.find s.eccBad (key idx sub) == some (rdB s idx sub)


/-- A value as it is held: written but not in use (R50), staged (R51, R238), or in use. -/
def heldValue (s : State) (idx sub : Nat) : List Byte :=
  match Tab.find s.written (key idx sub) with
  | some v => v
  | none =>
    match if structural idx sub then Tab.find s.staged (key idx sub) else if ttStaged idx sub then Tab.find s.ttStaged (key idx sub) else none with
    | some v => v
    | none => rdB s idx sub

/-- Values that the device forms when they are read; none: the value is held. DEDUCED, safe: log entry 6. DESIGN CHOICE, unsafe: log
entry 81. -/
def formed (s : State) (idx sub : Nat) : Option (List Byte) :=
  if idx == 0x2000 then
    match sub with
    | 1 => some (orderingCode s)
    | 2 => some (leBytes 4 (if s.zh6432 then 0x000F777F else 0x000FFFFF))
    | 3 => some serialBytes
    | 4 => some (leBytes 2 Config.stepping.toNat)
    | 0x16 => some (configHash s)
    | 0x18 => some (leBytes 1 s.groups.length)
    | _ => none
  else if idx == 0x2010 then
    match sub with
    | 1 => some (leBytes 2 s.tick)
    | 2 => some (leBytes 8 s.tick)
    | _ => none
  else if idx == 0x1018 then
    match sub with
    | 2 => some (leBytes 4 (if s.zh6432 then 0x6432 else 0x6480))
    | 3 => some (rdB s 0x2000 5)
    | 4 => some (serialBytes.take 4)
    | _ => none
  else if idx == 0x1FF0 && sub == 0x87 then some (leBytes 1 (usdoHeld s))
  else if within idx 0x2310 0x2317 && sub == 0x84 then some (leBytes 8 (alarmNext s (idx - 0x2310)))
  else if idx == 0x4F00 && sub == 0x82 then
    some (leBytes 1 (if !rdF s 0x4F00 0x61 then 0 else if !rdF s 0x2300 0x09 then 1 else if s.counting then 2 else 0))
  else if idx == 0x4F00 && sub == 0x8E && (rdB s 0x4F00 0x8E).isEmpty then some (List.replicate 256 0#8)
  else if idx == 0x2500 && sub == 0x8F then some (leBytes 2 (beaconAge s))
  else if idx == 0x2600 then
    match sub with
    | 1 => some (certificate 1)
    | 2 => some (certificate 2)
    | 3 => some (factoryBytes 0x2600 3 384)
    | 4 => some (factoryBytes 0x2600 4 32)
    | 5 => some (factoryBytes 0x2600 5 32)
    | _ => none
  else if within idx 0x2800 0x2803 && sub == 0xA0 then some (filterDomain (can s (idx - 0x2800)))
  else if within idx 0x2800 0x2803 && sub == 0xA1 then some (bufferDomain (can s (idx - 0x2800)))
  else if within idx 0x3160 0x3170 && sub == 0x80 && (within (rdN s 0x2100 0x80) 4 5 || rdN s 0x2100 0x80 == 2) then some (leBytes 1 8)
  else if within idx 0x3160 0x3170 && within sub 0x82 0x88 then some (leBytes 4 (coefOf s (idx - 0x3160) (sub - 0x82)).1.toNat)
  else if within idx 0x3160 0x3170 && within sub 0x89 0x8F then some (leBytes 4 (coefOf s (idx - 0x3160) (sub - 0x89)).2.toNat)
  else if within idx 0x3160 0x3170 && sub == 0x93 then some (leBytes 4 (Config.otpTc (idx - 0x3160)).toNat)
  else if within idx 0x4000 0x43FF && sub == 0x83 then some (leBytes 4 (slotAge s (idx - 0x4000)))
  else none

/-- A client's read: the state it leaves, the abort code (0: success) and the value. DEDUCED, safe: log entry 6. -/
def readOne (s : State) (client idx sub : Nat) : State × Nat × List Byte :=
  let e := existence s idx sub
  if e != 0 then (s, e, []) else
  match rowOf idx sub with
  | none => (s, 0x06090011, [])
  | some r =>
    if r.acc == .wo then (s, 0x06010001, [])
    else if readEcc s idx sub then (s, 0x06060000, [])
    else if within idx 0x2020 0x207F && sub != 0 then
      match Tab.find s.work (idx - 0x2020) with
      | some w => (s, 0, itemField w sub)
      | none => (s, 0x08000024, [])
    else if idx == 0x2300 && (within sub 1 8 || sub == 0x0A) then
      let (s, v) := calRead s client sub
      (s, 0, leBytes r.ty.width v)
    else if idx == 0x2300 && within sub 0x40 0x47 then
      match retainedRead s (sub - 0x40) with
      | (s, some v) => (s, 0, v)
      | (s, none) => (s, 0x08000024, [])
    else if idx == 0x260C && sub == 1 then
      let (s, v) := debugChallenge s
      (s, 0, v)
    else if idx == 0x2610 && sub == 2 then
      match reportOf s client with
      | some v => (s, 0, v)
      | none => (s, 0x08000024, [])
    else if idx == 0x2700 && sub == 0x20 then
      if s.rst.recBuilt then (s, 0, startupRecord s) else (s, 0x08000024, [])
    else if idx == 0x2710 && sub == 1 then (s, 0, leBytes 4 (logPosOf s client))
    else if idx == 0x2710 && sub == 2 then logReadEntry s client
    else if idx == 0x2710 && sub == 3 then logReadEntries s client
    else if within idx 0x3E01 0x3E08 && sub == 0x80 then
      let st := rdN s 0x3E00 0x80
      if st == 1 || st == 2 then (s, 0x08000022, [])
      else if st == 0 || !bit s.trace.mask (idx - 0x3E01) then (s, 0x08000024, [])
      else (s, 0, traceData s (idx - 0x3E01))
    else match formed s idx sub with
      | some v => (s, 0, v)
      | none => (s, 0, heldValue s idx sub)

/-- A read with its answer. -/
def readAnswer (s : State) (client idx sub : Nat) : State :=
  let (t, code, v) := readOne s client idx sub
  answer t client code v

/-- Readable sub-indices of an object, ascending (R327). -/
def readable (idx : Nat) : List Nat :=
  (rowsFull idx).flatMap fun r => if r.acc == .wo then [] else (List.range (r.hi + 1 - r.lo)).map (· + r.lo)

/-- A sub-index as a record read takes it: the calendar at the instant of the record, without any client's shadows (R367). -/
def readInRecord (s : State) (client idx sub : Nat) : State × Nat × List Byte :=
  if idx == 0x2300 && (within sub 1 8 || sub == 0x0A) then
    match rowOf idx sub with
    | some r => (s, 0, leBytes r.ty.width (fieldAt s.cal.secs (subSecond s) sub))
    | none => (s, 0x06090011, [])
  else readOne s client idx sub

/-- One after another, sub-indices of an object; one that holds no data (R58) is left out, and any other refusal ends the read.
DEDUCED, unsafe: log entry 30. -/
def readSubs (s : State) (client idx : Nat) : List Nat → State × Nat × List Byte
  | [] => (s, 0, [])
  | sub :: rest =>
    let (s, code, v) := readInRecord s client idx sub
    if code == 0x08000024 then readSubs s client idx rest
    else if code != 0 then (s, code, []) else
    let (s, code, l) := readSubs s client idx rest
    (s, code, leBytes 1 sub ++ leBytes 2 v.length ++ v ++ l)

/-- The device has no object of this index (R2, R40). -/
def objectAbsent (s : State) (idx : Nat) : Bool := (s.zh6432 && fusedOff idx) || (rowsFull idx).isEmpty

/-- READ_RECORD (R327): every readable sub-index at one tick. -/
def readRecord (s : State) (client idx : Nat) : State × Nat × List Byte :=
  if objectAbsent s idx then (s, 0x06020000, [])
  else
    let (t, code, l) := readSubs s client idx (readable idx)
    if code != 0 then (s, code, []) else if l.length > 4096 then (s, 0x05040001, []) else (t, 0, l)

end Sys2Proof.Machine
end

