-- ==== Sys2Proof/Machine/Access.lean ====
section
/-! DEFINITION. Writing the dictionary: the checks in the precedence of R63, what each write does, and when it takes effect (R40 to R56,
R61, R64, R327). -/
namespace Sys2Proof.Machine
open Sys2Proof Sys2Proof.OD

-- Types and ranges (R10, R42, R43) --------------------------------------------------------------------------------

/-- Length of a value against its type. -/
def lengthRefusal (ty : Ty) (data : List Byte) : Nat :=
  match ty with
  | .vstr m => if data.length > m then 0x06070012 else 0
  | .dom lo hi => if data.length > hi then 0x06070012 else if data.length < lo then 0x06070013 else 0
  | t => if data.length != t.width then 0x06070010 else 0

/-- An integer lies in one of a row's ranges; no range is the whole type. -/
def inRanges (l : List (Int × Int)) (i : Int) : Bool := l.isEmpty || l.any fun p => decide (p.1 ≤ i) && decide (i ≤ p.2)

/-- Encoding and range of a value, of the right length. -/
def rangeOk (r : Row) (data : List Byte) : Bool :=
  let v := leNat data
  match r.ty with
  | .bool => v ≤ 1
  | .i8 | .i16 | .i32 => inRanges r.rng (signed r.ty.width v)
  | .u8 | .u16 | .u32 | .u64 => inRanges r.rng v
  | .r32 =>
    let x : Real32 := BitVec.ofNat 32 v
    F32.isFinite x && (match r.frng with | some (lo, hi) => F32.le lo x && F32.le x hi | none => true)
  | .vstr _ => data.all fun b => within b.toNat 0x20 0x7E
  | _ => true

/-- A value as it is stored: a subnormal REAL32 as signed zero. -/
def stored (r : Row) (data : List Byte) : List Byte :=
  let x : Real32 := BitVec.ofNat 32 (leNat data)
  if r.ty == .r32 && F32.isSubnormal x then leBytes 4 (F32.zeroOf (F32.sign x)).toNat else data

-- PDO parameters (R44, R299) --------------------------------------------------------------------------------------

/-- A value as it is held, as a number. -/
def heldN (s : State) (idx sub : Nat) : Nat := leNat (heldValue s idx sub)

/-- COB-IDs of the valid PDOs among the communication parameters `lo` to `hi`, as written, but for `but`. -/
def validCobs (s : State) (lo hi but : Nat) : List Nat :=
  let ks := ((s.dict.map (·.1)) ++ (s.written.map (·.1))).filter fun k => within (k / 256) lo hi && k % 256 == 1 && k / 256 != but
  (ks.eraseDups.map fun k => heldN s (k / 256) 1).filter fun c => !bit c 31

/-- A COB-ID write keeps the counts and the distinctness of R299. -/
def cobOk (s : State) (idx v : Nat) : Bool :=
  let lo := idx / 256 * 256
  let l := validCobs s lo (lo + 255) idx
  bit v 31 || (l.length < (if idx < 0x1800 then 100 else 128) && !(l.map (· % 2 ^ 30)).contains (v % 2 ^ 30))

/-- Bits of a mapping entry, and whether the object may be mapped (R44, R45). DEDUCED, unsafe: log entry 120. -/
def mapRefusal (s : State) (tx : Bool) (v : Nat) : Nat :=
  let len := v % 256
  let idx := v / 65536
  let sub := v / 256 % 256
  if v == 0 || (!tx && v == 0x00060010) then 0
  else if !(len == 8 || len == 16 || len == 32 || len == 64) then 0x06090030
  else match if existence s idx sub == 0 then rowOf idx sub else none with
    | some r => if (if tx then r.acc == .rwr else r.acc == .rww) && 8 * r.ty.width == len then 0 else 0x06040041
    | none => 0x06040041

/-- Bytes of the first `n` entries of a mapping as it is held, entry `k` being `v`. DEDUCED, unsafe: log entry 120. -/
def mapBytes (s : State) (idx n k v : Nat) : Nat :=
  ((List.range n).map fun i => (if i + 1 == k then v else heldN s idx (i + 1)) % 256 / 8).foldl (· + ·) 0

-- References ------------------------------------------------------------------------------------------------------

/-- The sub-index holds a signal reference (R31). -/
def isSignalRef (idx sub : Nat) : Bool :=
  (within idx 0x3400 0x37FF && within sub 4 8) || (within idx 0x3C00 0x3C3F && within sub 4 0x0B) || (within idx 0x3C40 0x3C7F && within sub 1 4) ||
  (idx == 0x3CC0 && within sub 1 2) || (within idx 0x3300 0x3301 && sub == 2) || (within idx 0x4000 0x43FF && sub == 1)
/-- The sub-index holds an output reference (R33). -/
def isOutputRef (idx sub : Nat) : Bool := (within idx 0x3400 0x37FF && sub == 9) || (within idx 0x3C00 0x3C3F && within sub 0x18 0x1F)

-- Refusals that owning rules add ----------------------------------------------------------------------------------

/-- 0x08000022 of the owning rules: the device's present state does not take this write. DEDUCED, unsafe: log entry 104. -/
def ownerState (s : State) (idx sub v : Nat) : Bool :=
  if idx < 0x2000 then
    (idx == 0x1F81 && sub != 0 && assignRefusal s sub v) || (idx == 0x1F82 && sub != 0 && (fieldNmt s sub v).2 != 0) ||
    ((within idx 0x1400 0x15FF || within idx 0x1800 0x19FF) && sub == 1 && !cobOk s idx v)
  else if idx < 0x3000 then
    if idx == 0x2100 then sub == 0x10 && powerRefusal s v == 0x08000022
    else if idx == 0x2300 then sub == 0x0B && !calValid s
    else if idx == 0x2500 then sub == 0x10 && duplexRefusal s v != 0
    else if within idx 0x2601 0x2604 then sub == 0x10 && keyRevokeRefusal s (idx - 0x2601) true != 0
    else if idx == 0x2600 then sub == 0x20 && policyRefusal s sub v true == 0x08000022
    else if within idx 0x2800 0x2803 then
      (sub == 0x0C && modeRefusal s v != 0) || (sub == 0x11 && !within (canState s (idx - 0x2800)) 4 5)
    else false
  else if idx < 0x3040 then
    (sub == 0x80 && hasWriter s 1 (idx - 0x3000)) || (sub == 0x81 && !(fpFun s (idx - 0x3000) == 3 || fpFun s (idx - 0x3000) == 4))
  else if within idx 0x3200 0x3207 then
    (sub == 0x80 && pcMode s (idx - 0x3200) == 6) || (sub == 0x84 && hasWriter s 2 (idx - 0x3200))
  else if within idx 0x3300 0x3301 then
    sub == 0x81 &&
      (let q := ppState s (idx - 0x3300)
       match v with
       | 3 => within q 2 6
       | 4 => q == 0 || q == 1 || q == 7
       | _ => q == 0)
  else if within idx 0x3340 0x3341 then sub == 0xB0 && ppState s (idx - 0x3340) > 1
  else if within idx 0x3400 0x37FF then
    let n := idx - 0x3400
    (match loopWord sub with | some (b, w) => b < 2 && bankWriteRefusal s n b w != 0 | none => false) ||
    (sub == 0x80 && (hasWriter s 3 n || refClass (rdN s idx 5) != 0)) || (sub == 0x85 && loopState s n != 4)
  else if idx == 0x3E00 then
    (within sub 1 6 && within (rdN s 0x3E00 0x80) 1 2) || (sub == 0x10 && v == 2 && rdN s 0x3E00 0x80 != 1)
  else if within idx 0x3E01 0x3E08 then within sub 1 2 && within (rdN s 0x3E00 0x80) 1 2
  else if within idx 0x4000 0x43FF then (sub == 0x90 || sub == 0x91) && (hasWriter s 4 (idx - 0x4000) || rdN s idx 1 != 0)
  else false

/-- The zone's estimator bounds with one value changed (R205). DEDUCED, unsafe: log entry 76. -/
def zoneBounds (s : State) (idx sub v : Nat) : Bool :=
  let z := idx - 0x3C00
  estimatorOk (zoneN s z) fun k =>
    if k == sub then BitVec.ofNat 32 v else if k == 0x41 then zoneHo s s z else zR s z k

/-- 0x06090030, 0x06040041 and 0x06040042 of the owning rules: a value in its type's range that is not taken. DEDUCED, unsafe:
log entry 121. -/
def ownerValue (s : State) (idx sub : Nat) (data : List Byte) : Nat :=
  let v := leNat data
  let no (b : Bool) : Nat := if b then 0x06090030 else 0
  if idx < 0x2000 then
    if (within idx 0x1600 0x17FF || within idx 0x1A00 0x1BFF) && sub != 0 then
      let c := mapRefusal s (idx ≥ 0x1A00) v
      if c != 0 then c else if sub ≤ heldN s idx 0 && mapBytes s idx (heldN s idx 0) sub v > 64 then 0x06040042 else 0
    else if (within idx 0x1600 0x17FF || within idx 0x1A00 0x1BFF) && mapBytes s idx v 0 0 > 64 then 0x06040042
    else if idx == 0x1F82 then no (!(v == 1 || v == 2 || within v 0x80 0x82))
    else 0
  else if isSignalRef idx sub then no (!signalRefOk v)
  else if isOutputRef idx sub then no (!outputRefOk v)
  else if idx == 0x2100 then no (sub == 0x10 && powerRefusal s v == 0x06090030)
  else if within idx 0x2310 0x2317 then
    no ((sub == 1 && !alarmOk v (rdN s idx 2)) || (sub == 2 && !alarmOk (rdN s idx 1) v))
  else if idx == 0x2400 then no (sub == 0x21 && data.length < 4)
  else if within idx 0x2601 0x2604 then no (sub == 1 && keyLoadRefusal s (idx - 0x2601) data true != 0)
  else if idx == 0x2600 then no (sub == 0x20 && policyRefusal s sub v true == 0x06090030)
  else if within idx 0x316C 0x316F then no (within sub 2 0x11 && v == 5)
  else if within idx 0x3100 0x315F then no (sub == 1 && ((idx - 0x3100) % 6 < 4 && (within v 2 4 || v == 6) || (idx - 0x3100) % 6 == 4 && v ≥ 5))
  else if within idx 0x3300 0x3301 then no (sub == 0x80 && v ≥ 2 ^ 48)
  else if within idx 0x3400 0x37FF then
    no (sub == 3 && v != 0xFFFF && v ≥ groupN (heldN s idx 2))
  else if within idx 0x3C00 0x3C3F then no ((within sub 0x3E 0x43) && !zoneBounds s idx sub v)
  else if within idx 0x3E01 0x3E08 then no (sub == 1 && s.zh6432 && v > 511)
  else if within idx 0x4000 0x43FF then no (sub == 0x29 && F32.isZero (BitVec.ofNat 32 v))
  else if ttStaged idx sub then ttValueRefusal idx sub data
  else 0

-- The checks of one write (R63) -----------------------------------------------------------------------------------

/-- The way a write comes: one write, an entry of a record, an entry of a signed image, an item of the holder's mirror, an RPDO. -/
inductive Via where
  | one | record | image | mirror | rpdo
deriving DecidableEq, Repr

/-- Objects and sub-indices that no write group takes (R55). -/
def noGroup (idx sub : Nat) : Bool :=
  structural idx sub || ttStaged idx sub || (idx == 0x2000 && sub == 0x10) || (idx == 0x4F00 && sub == 0x80) || idx == 0x1010 || idx == 0x1011

/-- Command sub-indices that no record takes (R327). -/
def noRecord (idx sub : Nat) : Bool :=
  (idx == 0x2000 && (sub == 0x10 || sub == 0x17)) || (idx == 0x4F00 && sub == 0x80) || idx == 0x1010 || idx == 0x1011

def groupOf (s : State) (client : Nat) : Option Group := s.groups.find? fun g => g.client == client

/-- Local control (0x08000021): R47, R439, R440, R446. -/
def localControl (s : State) (idx sub v : Nat) (via : Via) : Bool :=
  let commit := (idx == 0x2000 && sub == 0x10 && v == 1)
  let config := within idx 0x3000 0x507F || commit
  (config && via != .mirror && via != .rpdo && inPair s && !s.ensign) || (config && rdN s 0x2600 0x82 == 1) ||
  (via != .image && via != .mirror &&
    (policyLocks s idx sub ||
     (anyLoaded s && ((within idx 0x2601 0x2604 && (sub == 1 || sub == 0x10)) || (idx == 0x2600 && (sub == 0x20 || sub == 0x21))))))

/-- Present device state (0x08000022): a supply failure, an orderly stop or an entry to sleep, a lapsed group, a commit under
evaluation, and the owning rules. An apply or a discard by a client that has no group open is refused here too, which R56 leaves
open. DEDUCED, unsafe: log entry 26. DESIGN CHOICE, unsafe: log entry 223. -/
def presentState (s : State) (client idx sub v : Nat) : Bool :=
  quiescing s || rdN s 0x2100 0x80 ≥ 4 ||
  (s.lapsed.contains client && !(idx == 0x2000 && sub == 0x17 && v == 1)) ||
  (rdN s 0x2000 0x11 == 2 && (structural idx sub || (idx == 0x2000 && sub == 0x10) || idx == 0x1010 || idx == 0x1011)) ||
  (rdN s 0x4F00 0x83 == 2 && (ttStaged idx sub || (idx == 0x4F00 && sub == 0x80))) ||
  (idx == 0x2000 && sub == 0x17 && within v 2 3 && (groupOf s client).isNone) ||
  ownerState s idx sub v

/-- The abort code of a write, 0 when its checks pass: the first in the precedence of R63. DEDUCED, unsafe: log entry 25.
DEDUCED, unsafe: log entry 30. DEDUCED, unsafe: log entry 219. -/
def writeRefusal (s : State) (client idx sub : Nat) (data : List Byte) (via : Via) : Nat :=
  let v := leNat data
  let e := existence s idx sub
  if idx == 0x2000 && sub == 0x17 && v == 1 && data.length == 1 && (s.groups.length ≥ 8 || (groupOf s client).isSome) then 0x060A0023
  else if e != 0 then e
  else match rowOf idx sub with
    | none => 0x06090011
    | some r =>
      if (via == .record && noRecord idx sub) || ((via == .one || via == .record) && (groupOf s client).isSome && noGroup idx sub) then 0x06010000
      else if r.acc == .ro || r.acc == .const then 0x06010002
      else if localControl s idx sub v via then 0x08000021
      else if presentState s client idx sub v then 0x08000022
      else if lengthRefusal r.ty data != 0 then lengthRefusal r.ty data
      else if !rangeOk r data then 0x06090030
      else if ownerValue s idx sub data != 0 then ownerValue s idx sub data
      else if (idx == 0x1010 && v != 0x65766173) || (idx == 0x1011 && v != 0x64616F6C) then 0x08000020
      else 0

-- Effects ---------------------------------------------------------------------------------------------------------

/-- A value written to a sub-index comes into place: what the owning rule makes of it. -/
def putValue (s : State) (idx sub : Nat) (data : List Byte) : State :=
  let old := rdN s idx sub
  let was := rdB s idx sub
  let s := eccMended s [key idx sub]
  if within idx 0x3400 0x37FF && (within sub 0x20 0x34 || within sub 0x40 0x54) then
    match loopWord sub with
    | some (b, w) => bankWrite s (idx - 0x3400) b w data
    | none => s
  else if within idx 0x3200 0x3207 && sub == 0x84 then posSetPoint s (idx - 0x3200) (BitVec.ofNat 32 (leNat data)) true
  else if idx == 0x2300 && within sub 0x43 0x47 then retainedWrite s (sub - 0x40) data
  else if within idx 0x2800 0x2803 && sub == 0x0C then modeRequest s (idx - 0x2800) (leNat data)
  else
    let s := wrB s idx sub data
    if within idx 0x3100 0x3180 then (if was == data then s else measChanged s idx sub)
    else if within idx 0x4000 0x43FF then
      match sub with
      | 0x80 => slotWritten s (idx - 0x4000) sub
      | 0x81 => slotWritten s (idx - 0x4000) sub
      | 0x90 => tpdoSet s (idx - 0x4000) (rdR s idx 0x90) true
      | 0x91 => tpdoSet s (idx - 0x4000) (F32.add (rdR s idx 0x28) (F32.mul (rdR s idx 0x29) (F32.ofInt (rdI s idx 0x91)))) (leNat data != 0x8000)
      | _ => s
    else if within idx 0x2310 0x2317 && within sub 1 2 then alarmWritten s (idx - 0x2310)
    else if within idx 0x3C00 0x3C3F && within sub 0x52 0x59 then regate s (idx - 0x3C00)
    else if within idx 0x3C80 0x3CBF && sub == 0x2F && old == 1 && rdN s idx sub == 0 then unitSave s .coupling
    else s

/-- A write that waits for its tick or its boundary (R48). -/
def pend (s : State) (client due idx sub : Nat) (data : List Byte) : State :=
  let w : PendingWrite := { client := client, due := due, period := periodic idx sub, idx := idx, sub := sub, data := data }
  { s with pendingWrites := s.pendingWrites ++ [w] }

/-- A RESTART value is read back at once and comes into use at a reset (R50). -/
def writeRestart (s : State) (idx sub : Nat) (data : List Byte) : State :=
  let k := key idx sub
  let s := { s with written := if data == rdB s idx sub then Tab.del s.written k else Tab.put s.written k data }
  wrF s 0x2000 7 (!s.written.isEmpty)

/-- A write of the target image `data` is an update request (R245): with 0x3300+p:24 = 1 it changes the image of an enabled
port. -/
def targetRequests (s : State) (p : Nat) (data : List Byte) : Bool :=
  rdF s (ppObj p) 0x24 && leNat data != rdN s (ppObj p) 0x80 && ppState s p != 0

/-- A request by a write of the target image would find no place in the work table. -/
def targetRefused (s : State) (p : Nat) (data : List Byte) : Bool :=
  targetRequests s p data && (panel s p).queued.isNone && (newItem s 4 0x100 (ppObj p) 0x80).2.isNone

/-- A target image is written (R245): a write whose request finds no place in the work table changes nothing (R64). -/
def targetWrite (s : State) (client p off : Nat) (data : List Byte) : State :=
  let st := stamp s off
  let put := pend s client (st + 1) (ppObj p) 0x80 data
  if !targetRequests s p data then success put client
  else if targetRefused s p data then abort s client 0x060A0023
  else updateRequest put p client st false 0x80

/-- A target image that a process-data write carries comes due (R245): a change is a request too, and one that finds no place in
the work table is discarded with its write, as a refused RPDO is (R302). A standby only follows the image. -/
def targetDue (s : State) (p : Nat) (data : List Byte) : State :=
  if !targetRequests s p data || !holdsEnsign s || (panel s p).queued.isSome then putValue s (ppObj p) 0x80 data
  else
    let (s, i) := newItem s 4 0x100 (ppObj p) 0x80
    if i.isNone then inc s 0x1FF0 0x82
    else panelStatus (putValue (setPanel s p { panel s p with queued := some (i, false, s.now) }) (ppObj p) 0x80 data) p

/-- Command 4 for a group or record whose request needs no answer of its own. -/
def portCommand (s : State) (client p v off : Nat) : State :=
  let st := stamp s off
  match v with
  | 1 => updateRequest s p client st false 0x81
  | 2 => updateRequest s p client st true 0x81
  | 3 => powerOnCommand s p client st
  | _ => powerOffCommand s p client st

/-- A firmware command (0x2400:10). -/
def fwCommand (s : State) (client v : Nat) : State :=
  match v with
  | 1 => fwCommit s client
  | 2 => fwClose s client
  | 3 => fwConfirm s client
  | _ => fwSelectOther s client

/-- An open write group takes one more write (R54). -/
def groupAdd (s : State) (g : Group) (items : List (Nat × Nat × List Byte)) : State :=
  let bytes := ((g.items ++ items).map fun i => i.2.2.length).foldl (· + ·) 0
  if g.items.length + items.length > 64 || bytes > 4096 then abort s g.client 0x05040005
  else
    let g' := { g with items := g.items ++ items, lastAt := s.now }
    success { s with groups := s.groups.map fun x => if x.client == g.client then g' else x } g.client

/-- What a checked write does when it is accepted, but for group and staging: its answer is given now, or by the work it starts. -/
def perform (s : State) (client idx sub : Nat) (data : List Byte) (off : Nat) (item : Option Nat) : State :=
  let v := leNat data
  let st := stamp s off
  let yes (t : State) : State := success t client
  let fin (p : State × Nat) : State := if p.2 == 0 then success p.1 client else abort p.1 client p.2
  if idx == 0x1003 then yes (foldS s (List.range 17) fun s k => wrN s 0x1003 k 0)
  else if idx == 0x1010 then storeCommand s client sub false item
  else if idx == 0x1011 then storeCommand s client sub true item
  else if idx == 0x1F82 then fin (fieldNmt s sub v)
  else if idx == 0x2000 && sub == 0x10 then (if v == 1 then commitCommand s client off else yes (discardStaged s))
  else if idx == 0x2300 && within sub 1 5 then yes (calStage s client sub v)
  else if idx == 0x2300 && sub == 6 then fin (calCommit s client v)
  else if idx == 0x2300 && sub == 0x0B then fin (calAdjust s (signed 4 v))
  else if idx == 0x2400 && sub == 0x10 then fwCommand s client v
  else if idx == 0x2400 && sub == 0x11 then restartCommand s client v off
  else if idx == 0x2400 && sub == 0x20 then imageHeader s client data item
  else if idx == 0x2400 && sub == 0x21 then imageBlock s client (leNat (data.take 4)) (data.drop 4) item
  else if idx == 0x2500 && sub == 0x10 then yes (duplexCommand s v)
  else if within idx 0x2601 0x2604 && sub == 1 then yes (keyLoad s (idx - 0x2601) data)
  else if within idx 0x2601 0x2604 && sub == 0x10 then yes (keyRevoke s (idx - 0x2601))
  else if idx == 0x260C && sub == 2 then debugResponse s client off data
  else if idx == 0x260C && sub == 3 then lockCommand s client off
  else if idx == 0x2610 && sub == 1 then nonceWrite s client data item
  else if idx == 0x2700 && within sub 0x11 0x14 then yes (clearPennants s (sub - 0x11) v client st)
  else if idx == 0x2710 && sub == 1 then yes (setLogPos s client v)
  else if within idx 0x2800 0x2803 && sub == 0x11 then yes (wrN s idx 0x80 5)
  else if within idx 0x3000 0x303F && sub == 0x81 then yes (countPreset s (idx - 0x3000) v off)
  else if within idx 0x3200 0x3207 && sub == 0x80 then yes (setPos s (idx - 0x3200) { pos s (idx - 0x3200) with preset := (pos s (idx - 0x3200)).preset ++ [(st + 1, v)] })
  else if within idx 0x3200 0x3207 && sub == 0x89 then yes (setPos s (idx - 0x3200) { pos s (idx - 0x3200) with reRef := (pos s (idx - 0x3200)).reRef ++ [st + 1] })
  else if within idx 0x3210 0x3217 && sub == 0x84 then yes (setPos s (idx - 0x3210) { pos s (idx - 0x3210) with arm := (pos s (idx - 0x3210)).arm ++ [(st + 1, v)] })
  else if within idx 0x3300 0x3301 && sub == 0x80 then targetWrite s client (idx - 0x3300) off data
  else if within idx 0x3300 0x3301 && sub == 0x81 then portCommand s client (idx - 0x3300) v off
  else if within idx 0x3340 0x3341 && sub == 0xB0 then
    yes (setPanel s (idx - 0x3340) { panel s (idx - 0x3340) with zeroAt := some (st + 1) })
  else if within idx 0x3400 0x37FF && sub == 0x84 then
    let c := swapRefusal s (idx - 0x3400)
    if c != 0 then abort s client c else yes (swapAccept s (idx - 0x3400) st)
  else if within idx 0x3400 0x37FF && sub == 0x85 then
    let c := loopRequestRefusal s (idx - 0x3400) sub
    if c != 0 then abort s client c else yes (setLoop s (idx - 0x3400) { loopOf s (idx - 0x3400) with restart := some ((loopOf s (idx - 0x3400)).restart.getD (st + 1)) })
  else if idx == 0x3E00 && sub == 0x10 then yes { s with trace := { s.trace with cmds := s.trace.cmds ++ [(st + 1, v)] } }
  else if idx == 0x4F00 && sub == 0x80 then (if v == 1 then ttCommit s client else ttDiscard s client)
  else match rowOf idx sub with
    | none => s
    | some r =>
      let d := stored r data
      match r.eff with
      | .restart => yes (writeRestart s idx sub d)
      | .tick => yes (pend s client (st + 1) idx sub d)
      | .period => yes (pend s client (st + 1) idx sub d)
      | _ => yes (putValue s idx sub d)

-- Write groups (R54, R56) -----------------------------------------------------------------------------------------

/-- The two members of a limit pair stand in the wrong order in what a write would leave: `any`, with any member in the write,
else with both. DEDUCED, unsafe: log entry 19. -/
def pairBad (s : State) (w : List (Nat × List Byte)) (members : List Nat) (any_ : Bool) (bad : (Nat → Real32) → Bool) (idx : Nat) : Bool :=
  let has (m : Nat) : Bool := w.any fun p => p.1 == m
  let get (m : Nat) : Real32 := match w.reverse.find? fun p => p.1 == m with
    | some p => BitVec.ofNat 32 (leNat p.2)
    | none => BitVec.ofNat 32 (heldN s idx m)
  (if any_ then members.any has else members.all has) && bad get

/-- The limit pairs of R43 that a group or record applies together on one object. DEDUCED, unsafe: log entry 19. -/
def pairsBroken (s : State) (idx : Nat) (w : List (Nat × List Byte)) : Bool :=
  if within idx 0x3000 0x303F then pairBad s w [0x25, 0x26] false (fun g => F32.le (g 0x26) (g 0x25)) idx
  else if within idx 0x2110 0x2111 then pairBad s w [0x22, 0x24] false (fun g => F32.lt (g 0x22) (F32.add (g 0x24) (g 0x25))) idx
  else if within idx 0x3400 0x37FF then
    pairBad s w [0x26, 0x27] false (fun g => F32.lt (g 0x27) (g 0x26)) idx || pairBad s w [0x46, 0x47] false (fun g => F32.lt (g 0x47) (g 0x46)) idx
  else if within idx 0x3C00 0x3C3F then
    pairBad s w [0x24, 0x25] true (fun g => F32.lt (g 0x25) (g 0x24)) idx ||
    pairBad s w [0x2F, 0x30] true (fun g => F32.lt (g 0x30) (g 0x2F)) idx ||
    pairBad s w [0x2F, 0x30, 0x2A] true (fun g => !bandOk (rdN s idx 2) g) idx
  else if within idx 0x3C80 0x3CBF then pairBad s w [0x28, 0x29] true (fun g => F32.lt (g 0x29) (g 0x28)) idx
  else false

/-- Some object of a list of writes breaks a limit pair. -/
def listBroken (s : State) (items : List (Nat × Nat × List Byte)) : Bool :=
  (items.map (·.1)).eraseDups.any fun idx => pairsBroken s idx ((items.filter fun i => i.1 == idx).map (·.2))

/-- The check that an owning rule makes of one request when it takes effect (R56): its state rules, and R179 for a swap or
restart. DEDUCED, unsafe: log entry 25. -/
def requestRefusal (s : State) (i : Nat × Nat × List Byte) : Nat :=
  if ownerState s i.1 i.2.1 (leNat i.2.2) then 0x08000022
  else if within i.1 0x3400 0x37FF then loopRequestRefusal s (i.1 - 0x3400) i.2.1 else 0

/-- Writes that take effect together, stamped once: IMM and TICK values at tick s + 1, PERIOD values at their boundaries.
DEDUCED, unsafe: log entry 24. -/
def applyTogether (s : State) (client : Nat) (items : List (Nat × Nat × List Byte)) (off : Nat) : State :=
  foldS s items fun s i =>
    match rowOf i.1 i.2.1 with
    | some r => if r.eff == .imm then pend s client (stamp s off + 1) i.1 i.2.1 (stored r i.2.2)
      else { perform s client i.1 i.2.1 i.2.2 off none with answers := s.answers }
    | none => s

-- Signed configuration images (R441 to R443) ----------------------------------------------------------------------

/-- The entries of an image, or none where they do not fill the bytes. -/
def imageEntries : Nat → List Byte → Option (List (Nat × Nat × List Byte))
  | 0, l => if l.isEmpty then some [] else none
  | k + 1, l =>
    let n := leNat ((l.drop 3).take 2)
    if l.length < 5 + n then none
    else (imageEntries k (l.drop (5 + n))).map fun r => (leNat (l.take 2), leNat ((l.drop 2).take 1), (l.drop 5).take n) :: r

/-- Format and length of an image (R441), with its entries. -/
def imageForm (b : List Byte) : Option (List (Nat × Nat × List Byte)) :=
  if b.take 4 == [0x5A#8, 0x48#8, 0x43#8, 0x46#8] && num b 4 2 == 1 && num b 6 1 ≤ 3 && num b 7 1 < 8 && num b 8 4 == b.length && 449 ≤ b.length &&
      zeros b 25 27 && zeros b 32 63 then
    imageEntries (num b 12 4) ((b.take (b.length - 384)).drop 64)
  else none

/-- A serial number in the cyclic order of R419. -/
def newer32 (a b : Nat) : Bool := within ((a + 2 ^ 32 - b) % 2 ^ 32) 1 (2 ^ 31 - 1)

/-- The reason an image is refused (0x2600:85), 0 for none (R442). -/
def imageRefusal (s : State) (b : List Byte) : Nat :=
  let k := num b 6 1
  if (imageForm b).isNone then 1
  else if slotState s k != 1 then 2
  else if !Pss.verify (slotKey s k) (b.take (b.length - 384)) (b.drop (b.length - 384)) then 3
  else if !(zeros b 16 23 || (b.drop 16).take 8 == serialBytes) then 4
  else if !applies s (num b 24 1) then 5
  else if !newer32 (num b 28 4) (rdN s 0x2600 0x84) then 6 else 0

/-- Entries that are applied last (R443). -/
def keyEntry (e : Nat × Nat × List Byte) : Bool := within e.1 0x2601 0x2604 || (e.1 == 0x2600 && within e.2.1 0x20 0x21)

/-- Key-slot and policy entries take effect. -/
def keyEntries (s : State) (l : List (Nat × Nat × List Byte)) : State := foldS s l fun s e => perform s 0x100 e.1 e.2.1 e.2.2 0 none

/-- Step 1 of R443: every entry checked in order; structural and timetable entries staged. `v` is the state that the checks see.
DEDUCED, unsafe: log entry 194. -/
def imageCheck (client : Nat) : List (Nat × Nat × List Byte) → State → State → Nat × State
  | [], s, _ => (0, s)
  | e :: t, s, v =>
    let c := if e.1 == 0x2608 then 0x06010000 else writeRefusal v client e.1 e.2.1 e.2.2 .image
    if c != 0 then (c, s)
    else if structural e.1 e.2.1 then imageCheck client t (stageWrite s e.1 e.2.1 e.2.2) (stageWrite v e.1 e.2.1 e.2.2)
    else if ttStaged e.1 e.2.1 then imageCheck client t (ttStage s e.1 e.2.1 e.2.2) (ttStage v e.1 e.2.1 e.2.2)
    else imageCheck client t s (if keyEntry e then keyEntries v [e] else v)

/-- What the owning rules answer when the requests of a list are carried out one after another on a copy of the state: the first
abort code, 0 for none. -/
def trialRefusal (client off : Nat) : State → List (Nat × Nat × List Byte) → Nat
  | _, [] => 0
  | s, i :: t =>
    let u := perform { s with answers := Tab.del s.answers client } client i.1 i.2.1 i.2.2 off none
    match Tab.find u.answers client with
    | some a => if a.code != 0 then a.code else trialRefusal client off u t
    | none => trialRefusal client off u t

/-- The first refusal that the owning rules make of requests that take effect together (R56, R64): each against the state at that
moment, then one after another. DEDUCED, unsafe: log entry 25. -/
def heldRefusal (s : State) (client off : Nat) (items : List (Nat × Nat × List Byte)) : Option Nat :=
  match (items.map (requestRefusal s)).find? (· != 0) with
  | some c => some c
  | none => match trialRefusal client off s items with | 0 => none | c => some c

/-- A write to 0x2608:01. DEDUCED, unsafe: log entry 194. -/
def imageWrite (s : State) (client : Nat) (b : List Byte) (off : Nat) : State :=
  if s.sec.job.isSome then abort s client 0x08000022 else
  let r := imageRefusal s b
  if r != 0 then abort (wrN s 0x2600 0x85 r) client 0x08000020
  else
    let es := (imageForm b).getD []
    let flags := num b 7 1
    let held := es.filter fun e => !structural e.1 e.2.1 && !ttStaged e.1 e.2.1 && !keyEntry e
    let (c, t) := imageCheck client es s s
    let busy := bit flags 0 && rdN s 0x2000 0x11 == 2 || bit flags 1 && rdN s 0x4F00 0x83 == 2
    if c != 0 then abort s client c
    else if busy then abort s client 0x08000022
    else if listBroken t held then abort s client 0x06090036
    else match heldRefusal t client off held with
      | some c => abort s client c
      | none =>
        let (code, adm) := if bit flags 0 && !t.staged.isEmpty then commitRefusal t else (0, none)
        if code != 0 then abort (commitRefused s code adm) client code
        else
          let tc := if bit flags 1 && !t.ttStaged.isEmpty then ttCommitRefusal t else 0
          if tc != 0 then abort (wrN s 0x4F00 0x85 tc) client tc
          else
            let t := if bit flags 0 then commitCommand t 0x100 off else t
            let t := if bit flags 1 then ttCommit t 0x100 else t
            let t := applyTogether t 0x100 held off
            setSec t { t.sec with job := some { client := client, seq := num b 28 4, slot := num b 6 1, due := stamp s off + 1,
                                                keys := es.filter keyEntry, store := bit flags 2 } }

/-- At a tick: an image whose commits and held values are in place ends, after its store where it names one. -/
def imageStep (s : State) : State :=
  match s.sec.job with
  | none => s
  | some j =>
    if s.now < j.due || s.commitDue.isSome || s.tt.commit.isSome || s.tt.answerTo.isSome then s else
    match j.storeItem with
    | some i =>
      match Tab.find s.work i with
      | some w =>
        if w.state < 2 then s
        else later (setSec s { s.sec with job := none }) j.client 0x2608 (if w.state == 2 then 0 else 0x08000020) []
      | none => setSec s { s.sec with job := none }
    | none =>
      let s := keyEntries s j.keys
      let s := inc (wrN (setSec s { s.sec with lastSlot := j.slot }) 0x2600 0x84 j.seq) 0x2600 0x86
      if !j.store then later (setSec s { s.sec with job := none }) j.client 0x2608 0 []
      else
        match newItem s 2 j.client 0x1010 1 with
        | (s, some i) =>
          storeAsk (setSec s { s.sec with job := some { j with storeItem := some i, keys := [] } }) { item := some i, client := none, work := .save [2, 3, 4] }
        | (s, none) => later (setSec s { s.sec with job := none }) j.client 0x2608 0x060A0023 []

/-- The next key-slot or policy entry of a verified image takes effect, once the image's commits and held values are in place
(R443 step 2). DESIGN CHOICE, unsafe: log entry 193. -/
def imageEntry (s : State) (e : Nat × Nat × List Byte) : State :=
  match s.sec.job with
  | some j =>
    if s.now + 1 < j.due || s.commitDue.isSome || s.tt.commit.isSome || s.tt.answerTo.isSome || j.storeItem.isSome then s
    else if j.keys.head? == some e then setSec (keyEntries s [e]) { s.sec with job := some { j with keys := j.keys.drop 1 } }
    else s
  | none => s

/-- What a checked write does, a configuration image included. -/
def performAny (s : State) (client idx sub : Nat) (data : List Byte) (off : Nat) (item : Option Nat) : State :=
  if idx == 0x2608 && sub == 1 then imageWrite s client data off else perform s client idx sub data off item

/-- 0x2000:17 = 2. The answer follows tick s + 1. DEDUCED, unsafe: log entry 24. -/
def groupApply (s : State) (client off : Nat) : State :=
  match groupOf s client with
  | none => abort s client 0x08000022
  | some g =>
    let s := { s with groups := s.groups.filter fun x => x.client != client }
    if listBroken s g.items then abort s client 0x06090036
    else match heldRefusal s client off g.items with
      | some c => abort s client c
      | none =>
        let s := mirrorPut s (.group g.items)
        pend (applyTogether s client g.items off) client (stamp s off + 1) 0x2000 0x17 []

/-- 0x2000:17, its checks passed. -/
def groupCommand (s : State) (client v off : Nat) : State :=
  match v with
  | 1 =>
    let g : Group := { client := client, items := [], lastAt := s.now }
    success { s with groups := s.groups ++ [g], lapsed := s.lapsed.filter (· != client) } client
  | 2 => groupApply s client off
  | _ => success { s with groups := s.groups.filter fun x => x.client != client } client

/-- Ten seconds without a write or command discard a group (R56). DEDUCED, unsafe: log entry 26. -/
def groupTimeout (s : State) (client : Nat) : State :=
  match groupOf s client with
  | some g =>
    if g.lastAt + msT 10000 ≤ s.now then
      { s with groups := s.groups.filter fun x => x.client != client, lapsed := client :: s.lapsed.filter (· != client) }
    else s
  | none => s

-- One write -------------------------------------------------------------------------------------------------------

/-- The write belongs to the mirror stream (R342): the range of R342, and not a staged calendar field, which travels with its
commit (R369). DEDUCED, unsafe: log entry 135. -/
def mirrored (idx sub : Nat) : Bool :=
  within idx 0x1000 0x507F && !(idx == 0x2300 && within sub 1 6) && !(idx == 0x2000 && sub == 0x17)

/-- The device answered `client` with an abort. -/
def aborted (s : State) (client : Nat) : Bool := match Tab.find s.answers client with | some a => a.code != 0 | none => false

/-- A class-P write on the standby itself makes it not ready (R342). -/
def standbyWrite (s : State) (client idx sub : Nat) : State :=
  if client ≤ 0x80 && standby s && persistent idx sub then notReady s 1 true else s

/-- A client's write whose checks have passed. -/
def accepted (s : State) (client idx sub : Nat) (data : List Byte) (off : Nat) (item : Option Nat) : State :=
  let s := { s with answers := Tab.del s.answers client }
  match if idx == 0x2000 && sub == 0x17 then none else groupOf s client with
  | some g => groupAdd s g [(idx, sub, data)]
  | none =>
    if idx == 0x2000 && sub == 0x17 then groupCommand s client (leNat data) off
    else
      let fields := (Tab.get s.cal.stage client ([], 0)).1
      let t := if structural idx sub then
          success (stageWrite s idx sub (match rowOf idx sub with | some r => stored r data | none => data)) client
        else if ttStaged idx sub then success (ttStage s idx sub data) client
        else performAny s client idx sub data off item
      if aborted t client then t
      else
        let t := standbyWrite t client idx sub
        if idx == 0x2300 && sub == 6 then mirrorPut t (.calendar fields (leNat data))
        else if mirrored idx sub then mirrorPut t (.write idx sub data) else t

/-- A client's write (R42 to R56, R63, R64). DEDUCED, unsafe: log entry 219. -/
def writeOne (s : State) (client idx sub : Nat) (data : List Byte) (off : Nat) (item : Option Nat) : State :=
  let c := writeRefusal s client idx sub data .one
  if c != 0 then abort s client c else accepted s client idx sub data off item

-- A record (R327) -------------------------------------------------------------------------------------------------

/-- The entries of a record's payload: sub-index, length, data; none where they do not fill it. -/
def recordEntries : Nat → List Byte → Option (List (Nat × List Byte))
  | _, [] => some []
  | 0, _ => none
  | k + 1, b :: t =>
    let n := leNat (t.take 2)
    if t.length < 2 + n then none
    else (recordEntries k (t.drop (2 + n))).map fun l => (b.toNat, (t.drop 2).take n) :: l

/-- Bank words of a record, put in a copy of the state in which its swap requests are checked. -/
def recordView (s : State) (idx : Nat) (l : List (Nat × List Byte)) : State :=
  foldS s l fun s p => if within idx 0x3400 0x37FF && p.1 < 0x60 && p.1 ≥ 0x20 then putValue s idx p.1 p.2 else s

/-- The first refusal that the owning rules make of a record's requests (R64): of a loop's swap and restart with the record's bank
words in place, then of every entry that is not staged. -/
def recordRefusal (s : State) (client idx off : Nat) (l : List (Nat × List Byte)) : Nat :=
  match if within idx 0x3400 0x37FF then ((l.map fun p => loopRequestRefusal (recordView s idx l) (idx - 0x3400) p.1).find? (· != 0)).getD 0 else 0 with
  | 0 =>
    if idx == 0x2608 then 0
    else trialRefusal client off s ((l.filter fun p => !structural idx p.1 && !ttStaged idx p.1).map fun p => (idx, p.1, p.2))
  | c => c

/-- WRITE_RECORD: every entry checked; into the client's group if one is open, whose apply checks the rest (R54); else the pairs and
the requests checked, then applied or staged together. -/
def writeRecord (s : State) (client idx : Nat) (payload : List Byte) (off : Nat) : State :=
  match recordEntries payload.length payload with
  | none => abort s client 0x05040001
  | some l =>
    if objectAbsent s idx then abort s client 0x06020000
    else if l.any fun p => noRecord idx p.1 then abort s client 0x06010000
    else match (l.map fun p => writeRefusal s client idx p.1 p.2 .record).find? (· != 0) with
      | some c => abort s client c
      | none =>
        let items := l.map fun p => (idx, p.1, p.2)
        match groupOf s client with
        | some g => groupAdd s g items
        | none =>
          if pairsBroken s idx l then abort s client 0x06090036
          else
            match recordRefusal s client idx off l with
            | 0 =>
              let s := mirrorPut s (.group items)
              let s := foldS s l fun s p => standbyWrite s client idx p.1
              success (foldS s l fun s p =>
                if structural idx p.1 then stageWrite s idx p.1 (match rowOf idx p.1 with | some r => stored r p.2 | none => p.2)
                else if ttStaged idx p.1 then ttStage s idx p.1 p.2
                else performAny s client idx p.1 p.2 off none) client
            | c => abort s client c

-- Writes that come due (R48, R49) ---------------------------------------------------------------------------------

/-- A boundary of the rate group that owns an object, at the present tick; true where no group owns it or it is disabled. -/
def ownerBoundary (s : State) (idx : Nat) : Bool :=
  if within idx 0x3400 0x37FF then !rdF s idx 1 || (s.counting && loopBoundary s (idx - 0x3400) s.tick)
  else if within idx 0x3C00 0x3CBF then
    let z := (idx - 0x3C00) % 64
    !rdF s (zObj z) 1 || (s.counting && zoneBoundary s z s.tick)
  else true

/-- A waiting write takes effect. -/
def applyDue (s : State) (w : PendingWrite) : State :=
  if w.idx == 0x2000 && w.sub == 0x17 then later s w.client 0x2000 0 []
  else if w.idx == 0x2100 && w.sub == 0x10 then powerTake s (leNat w.data)
  else if within w.idx 0x3C00 0x3C3F && w.sub == 0x86 then zoneReinit s (w.idx - 0x3C00)
  else if within w.idx 0x3C80 0x3CBF && w.sub == 0x89 then
    (if leNat w.data == 1 then learnReset s (w.idx - 0x3C80) else unitSave s .coupling)
  else if within w.idx 0x3300 0x3301 && w.sub == 0x80 && w.client == 0x100 then targetDue s (w.idx - 0x3300) w.data
  else match rowOf w.idx w.sub with
    | some r =>
      if r.eff == .imm then
        let t := performAny s w.client w.idx w.sub w.data 0 none
        { t with answers := s.answers }
      else putValue s w.idx w.sub w.data
    | none => s

/-- The writes due at the present tick, in order of acceptance. -/
def writesDue (s : State) : State :=
  let now (w : PendingWrite) : Bool := w.due ≤ s.now && (!w.period || ownerBoundary s w.idx)
  let l := s.pendingWrites.filter now
  let s := { s with pendingWrites := s.pendingWrites.filter fun w => !now w }
  foldS s l applyDue

end Sys2Proof.Machine
end

