-- ==== Sys2Proof/Machine/Mirror.lean ====
section
/-! DEFINITION. The mirror stream at the standby (R342, R357, R369). -/
namespace Sys2Proof.Machine
open Sys2Proof Sys2Proof.OD

/-- The origin of mirror items (R462). -/
def mirrorClient : Nat := 0x300

/-- One mirrored write. What only the standby's own present state would refuse is applied if the value is persistent, since the
holder has accepted it, and otherwise left to the hoists; any other refusal leaves the standby different from the holder, so not
ready. DESIGN CHOICE, unsafe: log entry 136. -/
def mirrorWrite (s : State) (idx sub : Nat) (data : List Byte) : State :=
  let e := writeRefusal s mirrorClient idx sub data .mirror
  if e == 0x08000022 && !persistent idx sub then s
  else if e != 0 && e != 0x08000022 then notReady s 1 true
  else if structural idx sub then stageWrite s idx sub (match rowOf idx sub with | some r => stored r data | none => data)
  else if ttStaged idx sub then ttStage s idx sub data
  else performAny s mirrorClient idx sub data 0 none

/-- A store item of the standby's own for what the holder sent (R342, R357). -/
def mirrorStore (s : State) (sub : Nat) (w : StoreWork) : State :=
  let (s, i) := newItem s 2 mirrorClient (workObject w).1 sub
  storeAsk (if i.isNone then waited s else s) { item := i, client := none, work := w }

/-- The content of a store area comes into use as a commit without response (R357 step 3). -/
def takeArea (s : State) (a : Nat) (vals : Tab (List Byte)) : State :=
  let mine (k : Nat) : Bool := areaOf (k / 256) == a && persistent (k / 256) (k % 256)
  let gone := (s.dict.filter fun p => mine p.1 && (Tab.find vals p.1).isNone).map fun p => (p.1, defaultAt p.1)
  let all := gone ++ vals.filter fun p => mine p.1
  let staged := all.filter fun p => structural (p.1 / 256) (p.1 % 256)
  let s := foldS s (all.filter fun p => !structural (p.1 / 256) (p.1 % 256)) fun s p =>
    match rowOf (p.1 / 256) (p.1 % 256) with
    | some r => if r.eff == .restart then writeRestart s (p.1 / 256) (p.1 % 256) p.2 else { s with dict := dictPut s.dict p.1 p.2 }
    | none => s
  let s := if staged.isEmpty then s else commitApply { s with staged := staged.foldl (fun t p => Tab.put t p.1 p.2) [] }
  rehash (mirrorStore s a (.save [a]))

/-- Learned coefficients from the holder's record. -/
def takeCoupling (s : State) (l : List (Nat × List Nat × List Real32)) : State :=
  let s := foldS s l fun s z =>
    if z.2.1 == (List.range 8).map (neighbour s z.1) then foldS s (List.range 9) fun s k => wrR s (dcObj z.1) (0x80 + k) (z.2.2.getD k F32.zero) else s
  mirrorStore s 0x89 .coupling

/-- A panel account from the holder's record. -/
def takePanel (s : State) (p : Nat) (r : PanelRec) : State :=
  let s := foldS s (List.range 48) fun s g => wrI s (accObj p) (0x80 + g) (r.acc.getD g 0)
  let s := wrN (wrN (wrN s (ppObj p) 0x82 r.displayed) (ppObj p) 0x80 r.target) (ppObj p) 0x84 r.band
  mirrorStore (setPanel s p { panel s p with recover := r.flagged, pend := r.pending }) 0 (.panel p r.periodic)

/-- What an item does at the standby. -/
def mirrorApply (s : State) (m : MirrorItem) : State :=
  match m with
  | .write idx sub data => mirrorWrite s idx sub data
  | .group items =>
    let s := foldS s items fun s i =>
      if structural i.1 i.2.1 then stageWrite s i.1 i.2.1 i.2.2 else if ttStaged i.1 i.2.1 then ttStage s i.1 i.2.1 i.2.2 else s
    applyTogether s mirrorClient (items.filter fun i => !structural i.1 i.2.1 && !ttStaged i.1 i.2.1) 0
  | .calendar fields sec => (calCommit (setCal s { s.cal with stage := Tab.put s.cal.stage mirrorClient (fields, s.now) }) mirrorClient sec).1
  | .area a vals => takeArea (if role s == 3 then setRole s 2 else s) a vals
  | .coupling l => takeCoupling s l
  | .panel p r => takePanel s p r

/-- The next item of the stream. -/
def mirrorTake (s : State) (seq : Nat) (m : MirrorItem) : State :=
  readyCheck (wrN (mirrorApply (setDup s { s.dup with mirrorSync := false }) m) 0x2500 0x8E seq)

/-- A MIRROR frame: items are applied in order, each once, and a copy of an item already applied is acknowledged only. A later
number than the next means that retries were exhausted: the standby is not ready and takes part in the resynchronisation. -/
def mirrorReceived (s : State) (seq : Nat) (m : MirrorItem) (crcOk : Bool) : State :=
  if !inPair s || !linkUp s then s
  else if !crcOk then halyardBad s
  else if s.ensign then s
  else if s.dup.mirrorSync || seq == (rdN s 0x2500 0x8E + 1) % 2 ^ 32 then mirrorTake s seq m
  else if seq ≤ rdN s 0x2500 0x8E then s
  else mirrorTake (notReady (join s) 1 true) seq m

end Sys2Proof.Machine
end

