-- ==== Sys2Proof/Machine/Services.lean ====
section
/-! DEFINITION. Serving the clients: the USDO server, RPDOs and TPDOs, and the host port with its process-image window (R297 to R308,
R320 to R333). -/
namespace Sys2Proof.Machine
open Sys2Proof Sys2Proof.OD

-- Capacity and journal (R39, R306, R316, R424) --------------------------------------------------------------------

/-- A client's items in flight. -/
def heldBy (s : State) (client : Nat) : Nat := (itemsWhere s fun w => w.origin == client).length

/-- Objects that waiting client transfers take before any server request (R316). DEDUCED, unsafe: log entry 115. -/
def reserved (s : State) : Nat :=
  Nat.min (8 - xfersInFlight s) ((s.net.nodes.filter fun p => p.2.waiting).length)

/-- No item object is left for a request of a client (R306). DEDUCED, unsafe: log entry 115. -/
def noCapacity (s : State) (client : Nat) : Bool :=
  heldBy s client ≥ 8 || (itemsWhere s fun _ => true).length + reserved s ≥ 96

/-- A request of a client takes a work item of kind 1, or its abort code. In POWER_FAIL and in an orderly stop none is made: the
answer is `quiet`, the first of the request's own refusals in the order of R63. -/
def takeItem (s : State) (client idx sub quiet : Nat) : State × Option Nat × Nat :=
  if noCapacity s client then (inc s 0x1FF0 0x84, none, 0x060A0023)
  else if quiescing s then (s, none, quiet)
  else
    match newItem s 1 client idx sub with
    | (t, some i) => (t, some i, 0)
    | (_, none) => (inc s 0x1FF0 0x84, none, 0x060A0023)

/-- A request that writes persistent objects is journalled, once, before its item becomes ACTIVE (R39). -/
def activate (s : State) (i : Nat) (journalled : Bool) : State :=
  itemActive (if journalled && !(match Tab.find s.work i with | some w => w.journalled | none => false) then journalAdd s i [] else s) i

/-- The request is work of a kind of its own (R61, R426, R427), whose item is journalled and becomes ACTIVE when that begins. -/
def ownKind (idx sub : Nat) : Bool := idx == 0x1010 || idx == 0x1011 || (idx == 0x2400 && within sub 0x20 0x21)

/-- The item of a client's write of one sub-index begins (R39). -/
def writeBegins (s : State) (i idx sub : Nat) : State := if ownKind idx sub then s else activate s i (persistent idx sub)

/-- What a read is answered while no item is made: the refusals of rows 4 to 8 of R63 come first. -/
def quietRead (s : State) (idx sub : Nat) : Nat :=
  let e := existence s idx sub
  if e != 0 then e else match rowOf idx sub with
    | some r => if r.acc == .wo then 0x06010001 else 0x08000022
    | none => 0x06090011
/-- The same for a write, whose checks end with the device's state. -/
def quietWrite (s : State) (client idx sub : Nat) (data : List Byte) : Nat :=
  let e := writeRefusal s client idx sub data .one
  if e == 0 then 0x08000022 else e

/-- A request's item ends with the answer; the completion mark makes its journal entry one that is no longer needed. -/
def finish (s : State) (i code : Nat) : State := journalDrop (if code == 0 then itemDone s i else itemFail s i 14 code) i

/-- A client's write is served: answered now, or waiting for the work it started. `tag` is its host-port tag. -/
def serveWrite (s : State) (client idx sub : Nat) (data : List Byte) (i : Nat) (tag : Option Nat) (off : Nat) : State :=
  let s := writeBegins s i idx sub
  let s := writeOne { s with answers := Tab.del s.answers client } client idx sub data off (some i)
  match Tab.find s.answers client with
  | some a =>
    let s := finish s i a.code
    match tag with
    | some t => hostReady s t (a.code == 0) (if a.code == 0 then a.data else leBytes 4 a.code)
    | none => s
  | none => { s with waiting := s.waiting ++ [{ client := client, idx := idx, item := some i, tag := tag }] }

-- The USDO server (R306 to R308) ----------------------------------------------------------------------------------

/-- Object and sub-index that a USDO request names. -/
def usdoObject (op : UsdoOp) : Nat × Nat :=
  match op with
  | .read i j => (i, j)
  | .write i j _ => (i, j)
  | .start i j _ _ => (i, j)
  | .segment _ _ _ => (0, 0)

/-- A request's turn (R307). DEDUCED, unsafe: log entry 113. DEDUCED, unsafe: log entry 114. -/
def serveUsdo (s : State) (q : UsdoReq) (off : Nat) : State :=
  match q.op with
  | .read idx sub =>
    let (s, code, v) := readOne (itemActive s q.item) q.client idx sub
    finish (answer s q.client code v) q.item code
  | .write idx sub data => serveWrite s q.client idx sub data q.item none off
  | .start idx sub len bus =>
    let x : Transfer := { item := q.item, idx := idx, sub := sub, len := len, data := [], at_ := s.now, bus := bus, both := false }
    success (setNet (writeBegins s q.item idx sub) { s.net with xfers := Tab.put s.net.xfers q.client x }) q.client
  | .segment _ _ _ => s

/-- A further segment of a client's transfer. DEDUCED, unsafe: log entry 112. -/
def usdoSegment (s : State) (client : Nat) (data : List Byte) (last : Bool) (bus off : Nat) : State :=
  match Tab.find s.net.xfers client with
  | none => abort s client 0x05040001
  | some x =>
    let d := x.data ++ data
    if last then
      let s := setNet s { s.net with xfers := Tab.del s.net.xfers client }
      if d.length != x.len then abort (finish s x.item 0x06070010) client 0x06070010
      else serveWrite s client x.idx x.sub d x.item none off
    else
      success (setNet s { s.net with xfers := Tab.put s.net.xfers client { x with data := d, at_ := s.now, bus := bus, both := false } }) client

/-- A USDO request that passed the removal of duplicates. DEDUCED, unsafe: log entry 112. -/
def usdoRequest (s : State) (client : Nat) (op : UsdoOp) (off : Nat) : State :=
  if !booted s || !speaks s || !(nmt s == 5 || nmt s == 0x7F) then s
  else
    match op with
    | .segment data last bus => usdoSegment s client data last bus off
    | _ =>
      if (match op with | .start _ _ _ _ => (Tab.find s.net.xfers client).isSome | _ => false) then abort s client 0x05040001 else
      let o := usdoObject op
      let quiet := match op with
        | .read i j => quietRead s i j
        | .write i j data => quietWrite s client i j data
        | _ => quietWrite s client o.1 o.2 []
      match takeItem s client o.1 o.2 quiet with
      | (s, some i, _) =>
        let q : UsdoReq := { client := client, item := i, op := op }
        if s.net.serving then serveUsdo s q off else setNet s { s.net with reqs := s.net.reqs ++ [q] }
      | (s, none, code) => abort s client code

/-- A controller in SOLITARY or bus-off. -/
def cutOff (s : State) (x : Nat) : Bool := solitary s x || canState s x == 4 || canState s x == 5

/-- A segmented transfer is aborted (R308). -/
def xferAbort (s : State) (client : Nat) (x : Transfer) (reason : Nat) : State :=
  let s := setNet s { s.net with xfers := Tab.del s.net.xfers client }
  inc (journalDrop (abort (itemFail s x.item reason 0x05040000) client 0x05040000) x.item) 0x1FF0 0x85

/-- No segment for the server timeout; reason ALONE while both controllers are cut off (R287). -/
def usdoSegmentTimeout (s : State) (client : Nat) : State :=
  match Tab.find s.net.xfers client with
  | some x =>
    if x.at_ + msT (rdN s 0x1FF0 4) ≤ s.now then xferAbort s client x (if cutOff s 0 && cutOff s 1 then 7 else 9) else s
  | none => s

/-- A bus error on a controller of the pair aborts the transfers whose last segment only it delivered. -/
def usdoBusError (s : State) (bus : Nat) : State :=
  foldS s s.net.xfers fun s p => if p.2.bus == bus && !p.2.both then xferAbort s p.1 p.2 8 else s

/-- A work item that needs frames through controllers that are cut off, at its deadline (R287). -/
def workItemDeadline (s : State) (i : Nat) : State :=
  match Tab.find s.work i with
  | none => s
  | some w =>
    if w.state ≥ 2 then s
    else if within w.origin 0x201 0x27F then
      let k := w.origin - 0x200
      let x := fieldNode s k
      if cutOff s 2 && x.item == some i && x.xfer != 0 && x.at_ + msT (rdN s 0x1FF0 6) ≤ s.now then nodeBad (xferEnd s k false 7) k 5 else s
    else if cutOff s 0 && cutOff s 1 then
      match s.net.xfers.find? fun p => p.2.item == i with
      | some p => usdoSegmentTimeout s p.1
      | none => s
    else s

-- RPDOs (R297 to R303) --------------------------------------------------------------------------------------------

/-- Mapping entries in use: index, sub-index, bytes. -/
def entries (s : State) (obj : Nat) : List (Nat × Nat × Nat) :=
  (List.range (rdN s obj 0)).map fun i =>
    let v := rdN s obj (i + 1)
    (v / 65536, v / 256 % 256, v % 256 / 8)

/-- Cut a PDO's bytes by its mapping. -/
def cutValues : List (Nat × Nat × Nat) → List Byte → List (Nat × Nat × List Byte)
  | [], _ => []
  | (i, j, n) :: t, d => (i, j, d.take n) :: cutValues t (d.drop n)

/-- An entry that no object stands behind. -/
def dummy (i : Nat) : Bool := i == 0 || i == 6

/-- New data for the page that a PDO is assigned to waits for its page update (R329). -/
def pageData (s : State) (pdo : Nat) (data : List Byte) : State :=
  match s.host.assign.find? fun p => p.2 == pdo with
  | some p => { s with host := { s.host with pageDue := s.host.pageDue ++ [(p.1, (data ++ List.replicate 64 0#8).take 64)] } }
  | none => s

/-- The device processes RPDOs: in the operational state; a standby as an operational device would (R302, R337). -/
def takesRpdos (s : State) : Bool := operational s || standby s

/-- An RPDO reaches the device. DEDUCED, unsafe: log entry 108. -/
def rpdoReceived (s : State) (n : Nat) (data : List Byte) (off : Nat) : State :=
  if !booted s || !s.net.rValid.contains n then s
  else
    let es := entries s (rMap n)
    if es.isEmpty then pageData s n data
    else
      let x := Tab.get s.net.rpdo n {}
      let seq := leNat (data.take 2)
      let sq := sequenced s n && data.length ≥ 2
      let keep (s : State) (x : Rpdo) : State := setNet s { s.net with rpdo := Tab.put s.net.rpdo n x }
      if sq && !seqNew s n seq then inc s 0x1FF0 0x81
      else
        let x := { x with seq := if sq then some (seq, s.now) else x.seq }
        if !takesRpdos s then keep s x else
        let x := { x with rxAt := some s.now, timed := false }
        let s := keep s x
        if data.length < (es.map (·.2.2)).foldl (· + ·) 0 then
          inc (emcy s { code := 0x8210, loc := 0, pennant := 0xFF, source := 0xFF, obj := 0 }) 0x1FF0 0x82
        else
          let vs := (cutValues es data).filter fun v => !dummy v.1
          let vs := vs.map fun v => (v.1, v.2.1, match rowOf v.1 v.2.1 with | some r => stored r v.2.2 | none => v.2.2)
          let noPlace (v : Nat × Nat × List Byte) : Bool :=
            within v.1 0x3300 0x3301 && v.2.1 == 0x80 && holdsEnsign s && targetRefused s (v.1 - 0x3300) v.2.2
          if vs.any fun v => writeRefusal s 0x100 v.1 v.2.1 v.2.2 .rpdo != 0 || noPlace v then inc s 0x1FF0 0x82
          else if rdN s (rComm n) 2 ≥ 0xFE then foldS s vs fun s v => pend s 0x100 (stamp s off + 1) v.1 v.2.1 v.2.2
          else keep s { x with pend := some vs }

-- TPDOs (R299 to R301) --------------------------------------------------------------------------------------------

/-- A value in force, as a read would give it. -/
def inForce (s : State) (idx sub : Nat) : List Byte := (formed s idx sub).getD (rdB s idx sub)

/-- A TPDO's bytes after its sequence number. -/
def tpdoValues (s : State) (n : Nat) : List Byte := ((entries s (tMap n)).drop 1).flatMap fun e => inForce s e.1 e.2.1

def setTpdo (s : State) (n : Nat) (x : Tpdo) : State := setNet s { s.net with tpdo := Tab.put s.net.tpdo n x }

/-- The incoming unit of a planned swap, in its window (R353 step 6). -/
def inWindow (s : State) : Bool :=
  role s == 4 && match s.dup.swap with | some w => w.started | none => false

/-- The device sends TPDOs. -/
def sendsTpdos (s : State) : Bool := operational s && (speaks s || inWindow s)

/-- At a tick: is an assembly of this TPDO wanted (R301)? `sync`: a SYNC's tick is this one. DEDUCED, unsafe: log entry 110. -/
def tpdoWant (s : State) (n : Nat) (sync : Bool) : State :=
  let x := Tab.get s.net.tpdo n {}
  let ty := rdN s (tComm n) 2
  let e := rdN s (tComm n) 5 * 10
  let changed := x.last != some (tpdoValues s n)
  let timer := match x.k0 with | some k => e != 0 && (s.tick - k) % e == 0 && k < s.tick | none => e != 0
  if ty == 0xFE then setTpdo s n { x with want := x.want || changed || timer }
  else if ty == 0xFF then setTpdo s n { x with want := x.want || timer }
  else if !sync then s
  else if ty == 0 then setTpdo s n { x with want := x.want || changed }
  else if x.syncs + 1 ≥ ty then setTpdo s n { x with syncs := 0, want := true }
  else setTpdo s n { x with syncs := x.syncs + 1 }

/-- Every valid TPDO at a tick. -/
def tpdosWant (s : State) : State :=
  let sync := match s.net.syncDue with | some t => t == s.now | none => false
  let past : Bool := match s.net.syncDue with | some t => t ≤ s.now | none => false
  let s := if past then setNet s { s.net with syncDue := none } else s
  if !s.counting || !sendsTpdos s then s else
  foldS s s.net.tValid fun s n => tpdoWant s n sync

/-- A TPDO is assembled at the present tick and queued (R301, R329). -/
def tpdoAssembly (s : State) (n : Nat) : State :=
  let x := Tab.get s.net.tpdo n {}
  let free := match x.sentAt with | some t => t + rdN s (tComm n) 3 ≤ s.now | none => true
  if !sendsTpdos s || !s.net.tValid.contains n || !x.want || !free then s
  else
    let vs := tpdoValues s n
    let data := leBytes 2 s.tick ++ vs
    let c := rdN s (tComm n) 1
    let f : Frame := { ide := bit c 29, id := c % 2 ^ 29, data := data }
    let s := setTpdo s n { x with k0 := some (x.k0.getD s.tick), sentAt := some s.now, last := some vs, want := false }
    let own := speaks s
    let s := if n > 256 then submit s 2 f true else if own then submitPair s f true else submit s 1 f true
    if own then pageData s (0x8000 + n) data else s

-- PDOs at start-up (R273, R299, R329) -----------------------------------------------------------------------------

/-- A stored PDO keeps the rules: its mapping names objects that may be mapped and fits 64 bytes. -/
def pdoOk (s : State) (tx : Bool) (n : Nat) : Bool :=
  let m := if tx then tMap n else rMap n
  let ty := rdN s (if tx then tComm n else rComm n) 2
  let es := (List.range (rdN s m 0)).map fun i => rdN s m (i + 1)
  (ty ≤ 0xF0 || ty ≥ 0xFE) && ((es.drop (if tx then 1 else 0)).all fun v => mapRefusal s tx v == 0) &&
  decide ((es.map fun v => v % 256 / 8).foldl (· + ·) 0 ≤ 64)

/-- The PDOs of one direction and network that are valid, in ascending number, and how many are left invalid. -/
def validPdos (s : State) (tx : Bool) (lo : Nat) : List Nat × Nat :=
  let cob (n : Nat) : Nat := rdN s (if tx then tComm n else rComm n) 1
  let most := if tx then 128 else 100
  (((List.range 256).map (· + lo)).filter fun n => !bit (cob n) 31).foldl (init := ([], 0)) fun (l, bad) n =>
    if pdoOk s tx n && l.length < most && !(l.map fun m => cob m % 2 ^ 30).contains (cob n % 2 ^ 30) then (l ++ [n], bad) else (l, bad + 1)

/-- EMCY 0x8200, as often as PDOs or pages are left out. -/
def pdoEmcys (s : State) (k : Nat) : State :=
  foldS s (List.range k) fun s _ => emcy s { code := 0x8200, loc := 0, pennant := 0xFF, source := 0xFF, obj := 0 }

/-- Page assignments in use (R329), and how many are left out. -/
def pageAssign (s : State) (rv tv : List Nat) : Tab Nat × Nat :=
  ((List.range 63).map (· + 1)).foldl (init := ([], 0)) fun (t, bad) p =>
    let v := rdN s 0x2810 (0x1F + p)
    if v == 0 then (t, bad)
    else if (if v > 0x8000 then tv.contains (v - 0x8000) else rv.contains v && rdN s (rMap v) 0 == 0) && !(t.any fun q => q.2 == v) then
      (Tab.put t p v, bad)
    else (t, bad + 1)

/-- The stored PDOs and pages come into use. -/
def pdosLoad (s : State) : State :=
  let (r0, b0) := validPdos s false 1
  let (t0, b1) := validPdos s true 1
  let (r1, b2) := validPdos s false 257
  let (t1, b3) := validPdos s true 257
  let (pages, b4) := pageAssign s (r0 ++ r1) (t0 ++ t1)
  let s := wrN (wrN (wrN (wrN s 0x1FF0 0x88 r0.length) 0x1FF0 0x89 t0.length) 0x1FF0 0x8A r1.length) 0x1FF0 0x8B t1.length
  let s := setNet s { s.net with rValid := r0 ++ r1, tValid := t0 ++ t1, rpdo := [], tpdo := [] }
  pdoEmcys { s with host := { s.host with assign := pages, pages := [], pageDue := [] } } (b0 + b1 + b2 + b3 + b4)

-- The host port (R320 to R333) ------------------------------------------------------------------------------------

def setHost (s : State) (x : HostPort) : State := { s with host := x }

/-- CRC-16 with polynomial 0x1021 from `c` on (R322). -/
def crcByte (c : Nat) (b : Byte) : Nat :=
  (List.range 8).foldl (fun c _ => (if c ≥ 32768 then (c * 2) ^^^ 0x1021 else c * 2) % 65536) (c ^^^ (b.toNat * 256))
def crc16 (l : List Byte) : Nat := l.foldl crcByte 0xFFFF
/-- Bytes with their CRC. -/
def withCrc (l : List Byte) : List Byte := l ++ leBytes 2 (crc16 l)

/-- The status prefix at the falling edge of CS_n (R323). -/
def statusPrefix (s : State) : List Byte :=
  let tags := (List.range 8).foldl (fun m t => if (Tab.get s.host.tags t { idx := 0, sub := 0 }).resp.isSome then m + 2 ^ t else m) 0
  withCrc ([0x5A#8, BitVec.ofNat 8 (prefixFlags s (holdsEnsign s) (booted s)), BitVec.ofNat 8 tags, BitVec.ofNat 8 s.host.last] ++ rdB s 0x2810 0x80)

/-- Keys of what the port sends beside the answers of clients: the bytes of an inline response, and the last prefix. DEDUCED,
unsafe: log entry 126. -/
def inlineKey : Nat := 0x81
def prefixKey : Nat := 0x82

/-- One transaction: the prefix goes out and the mode is noted. None while MISO is high-Z (R332). DEDUCED, unsafe: log entry
126. -/
def transaction (s : State) (mode3 : Bool) (f : State → State) : State :=
  if s.rst.phase < 3 then s
  else
    let s := { s with answers := Tab.put s.answers prefixKey { code := 0, data := statusPrefix s } }
    f (wrN s 0x2810 0x86 (if mode3 then 3 else 0))

def lastResult (s : State) (v : Nat) : State := setHost s { s.host with last := v }

/-- A frame is discarded with its result; its cause is counted where 0x2810 has a counter. DEDUCED, unsafe: log entry 122. -/
def hostDiscard (s : State) (result : Nat) : State :=
  let s := lastResult s result
  match result with
  | 2 => inc s 0x2810 0x82
  | 3 => inc s 0x2810 0x83
  | 5 => inc s 0x2810 0x84
  | _ => s

/-- A NOP has no effect (R323), but before boot-up every frame gets result 4 (R332). DEDUCED, unsafe: log entry 122. -/
def hostNop (s : State) : State := if booted s then s else hostDiscard s 4

/-- A good frame of an operation that no response follows under a tag. DEDUCED, unsafe: log entry 122. -/
def hostInline (s : State) (f : State → State) : State :=
  if !booted s then hostDiscard s 4 else f (inc (lastResult s 1) 0x2810 0x81)

/-- Responses ready, with IRQ source 0 (R326, R331). -/
def countReady (s : State) : State :=
  let n := (s.host.tags.filter fun p => p.2.resp.isSome).length
  wrBit (wrN s 0x2810 0x87 n) 0x2810 0x80 0 (n != 0)

def respond (s : State) (tag code : Nat) (data : List Byte) : State :=
  hostReady s tag (code == 0) (if code == 0 then data else leBytes 4 code)

/-- BULK_READ (R328): offset 0 latches the value, a later offset is served from the copy. DEDUCED, unsafe: log entry 125. -/
def bulkRead (s : State) (idx sub off count : Nat) : State × Nat × List Byte :=
  if existence s idx sub != 0 then (if off == 0 then setHost s { s.host with bulk := none } else s, existence s idx sub, []) else
  let (s, code, v) := if off == 0 then readOne (setHost s { s.host with bulk := none }) 0x80 idx sub else (s, 0, [])
  if code != 0 then (s, code, [])
  else
    let copy := if off == 0 then some (v.take 65536) else
      match s.host.bulk with
      | some (i, j, d, _) => if i == idx && j == sub then some d else none
      | none => none
    match copy with
    | some d =>
      let s := setHost s { s.host with bulk := some (idx, sub, d, s.now) }
      if off ≥ d.length then (s, 0x06090030, []) else (s, 0, (d.drop off).take count)
    | none => (s, 0x06090030, [])

/-- A host request's turn (R307, R326). DEDUCED, unsafe: log entry 114. DEDUCED, unsafe: log entry 123. -/
def serveHost (s : State) (tag i : Nat) (op : HostOp) (off : Nat) : State :=
  let fin (r : State × Nat × List Byte) : State := finish (respond r.1 tag r.2.1 r.2.2) i r.2.1
  match op with
  | .read idx sub =>
    -- a longer value is read with BULK_READ (R328)
    let (t, code, v) := readOne (itemActive s i) 0x80 idx sub
    fin (if v.length > 4096 then (itemActive s i, 0x05040001, []) else (t, code, v))
  | .write idx sub data => serveWrite s 0x80 idx sub data i (some tag) off
  | .readRecord idx => fin (readRecord (itemActive s i) 0x80 idx)
  | .writeRecord idx payload =>
    let j := match recordEntries payload.length payload with | some l => l.any fun p => persistent idx p.1 | none => false
    let s := writeRecord { activate s i j with answers := Tab.del s.answers 0x80 } 0x80 idx payload off
    let a := (Tab.find s.answers 0x80).getD { code := 0, data := [] }
    fin (s, a.code, [])
  | .bulk idx sub o count => fin (bulkRead (itemActive s i) idx sub o count)
  | .reply code => respond s tag code []

/-- A request is served now, or waits for the start of service. -/
def hostQueue (s : State) (tag i : Nat) (op : HostOp) (off : Nat) : State :=
  if s.net.serving then serveHost s tag i op off else setHost s { s.host with queue := s.host.queue ++ [(tag, i, op)] }

/-- A request frame that a response follows: taken under a free tag (R325). -/
def hostFrame (s : State) (tag idx sub : Nat) (f : State → State) : State :=
  if !booted s then hostDiscard s 4
  else if (Tab.find s.host.tags tag).isSome then hostDiscard s 5
  else
    let s := inc (lastResult s 1) 0x2810 0x81
    f (setHost s { s.host with tags := Tab.put s.host.tags tag { idx := idx, sub := sub } })

/-- What a host request is answered while no item is made. -/
def hostQuiet (s : State) (op : HostOp) : Nat :=
  match op with
  | .read idx sub => quietRead s idx sub
  | .bulk idx sub _ _ => quietRead s idx sub
  | .write idx sub data => quietWrite s 0x80 idx sub data
  | .readRecord idx => if objectAbsent s idx then 0x06020000 else 0x08000022
  | .writeRecord idx payload =>
    match recordEntries payload.length payload with
    | none => 0x05040001
    | some l =>
      if objectAbsent s idx then 0x06020000
      else if l.any fun p => noRecord idx p.1 then 0x06010000
      else ((l.map fun p => writeRefusal s 0x80 idx p.1 p.2 .record).find? (· != 0)).getD 0x08000022
  | .reply code => code

/-- The request of a taken frame, `good` when its fields keep the table of R324. -/
def hostAsk (s : State) (tag idx sub : Nat) (good : Bool) (op : HostOp) (off : Nat) : State :=
  hostFrame s tag idx sub fun s =>
    if !good then respond s tag 0x05040001 []
    else match takeItem s 0x80 idx sub (hostQuiet s op) with
      | (s, some i, _) => hostQueue s tag i op off
      | (s, none, code) => respond s tag code []

/-- The open SEG_WRITE is discarded with an abort. -/
def segDrop (s : State) (g : SegWrite) (tag code : Nat) (off : Nat) : State :=
  let s := setHost s { s.host with seg := none }
  let s := match g.item with | some i => finish s i code | none => s
  hostQueue s tag 0 (.reply code) off

/-- A segment of an open transfer. DEDUCED, unsafe: log entry 124. -/
def segMore (s : State) (g : SegWrite) (tag total o : Nat) (idx sub : Nat) (data : List Byte) (off : Nat) : State :=
  let d := g.data ++ data
  if g.late then segDrop { s with host := { s.host with seg := none } } { g with item := none } tag 0x05040000 off
  else if !(g.idx == idx && g.sub == sub && g.total == total && g.data.length == o) || d.length > total then segDrop s g tag 0x05040001 off
  else if d.length == total then
    hostQueue (setHost s { s.host with seg := none }) tag (g.item.getD 0) (.write idx sub d) off
  else
    hostQueue (setHost s { s.host with seg := some { g with data := d, at_ := s.now } }) tag 0 (.reply 0) off

/-- SEG_WRITE (R328). DEDUCED, unsafe: log entry 124. -/
def segWrite (s : State) (tag idx sub : Nat) (payload : List Byte) (off : Nat) : State :=
  hostFrame s tag idx sub fun s =>
    let total := leNat (payload.take 4)
    let o := leNat ((payload.drop 4).take 4)
    if payload.length < 8 then respond s tag 0x05040001 []
    else match s.host.seg with
      | some g => segMore s g tag total o idx sub (payload.drop 8) off
      | none =>
        if o != 0 then respond s tag 0x05040001 []
        else match takeItem s 0x80 idx sub (quietWrite s 0x80 idx sub []) with
          | (s, some i, _) =>
            let g : SegWrite := { idx := idx, sub := sub, total := total, data := [], at_ := s.now, item := some i, late := false }
            segMore (if s.net.serving then writeBegins s i idx sub else s) g tag total 0 idx sub (payload.drop 8) off
          | (s, none, code) => respond s tag code []

/-- The gap between segments is too long. -/
def segGapTimeout (s : State) : State :=
  match s.host.seg with
  | some g =>
    if !g.late && g.at_ + msT (rdN s 0x1FF0 4) < s.now then
      let s := match g.item with | some i => itemFail s i 9 0x05040000 | none => s
      setHost s { s.host with seg := some { g with item := none, late := true } }
    else s
  | none => s

/-- A bulk copy is dropped. -/
def bulkTimeout (s : State) : State :=
  match s.host.bulk with
  | some (_, _, _, t) => if t + msT 10000 ≤ s.now then setHost s { s.host with bulk := none } else s
  | none => s

/-- FETCH: the response frame goes out inline and stays (R326). -/
def fetch (s : State) (tag : Nat) : State :=
  let t := Tab.get s.host.tags tag { idx := 0, sub := 0 }
  let (op, d) := match t.resp with | some (ok, d) => (if ok then 0x10 else 0x11, d) | none => (0x12, [])
  let fr := withCrc (leBytes 1 (tag * 32 + op) ++ leBytes 2 t.idx ++ leBytes 1 t.sub ++ leBytes 2 d.length ++ d)
  { s with answers := Tab.put s.answers inlineKey { code := 0, data := fr } }

/-- RELEASE frees a tag that has its response. -/
def releaseTag (s : State) (tag : Nat) : State :=
  if (Tab.get s.host.tags tag { idx := 0, sub := 0 }).resp.isSome then
    countReady (setHost s { s.host with tags := Tab.del s.host.tags tag })
  else s

/-- ACK_IRQ clears the named sources; source 0 follows the responses. -/
def ackIrq (s : State) (mask : Nat) : State :=
  foldS s ((List.range 10).map (· + 1)) fun s i => if bit mask i then wrBit s 0x2810 0x80 i false else s

-- The process-image window (R329, R330) ---------------------------------------------------------------------------

def pageOf (s : State) (p : Nat) : Page := Tab.get s.host.pages p {}
def setPage (s : State) (p : Nat) (x : Page) : State := setHost s { s.host with pages := Tab.put s.host.pages p x }

/-- A shadow that is full is overwritten. DEDUCED, unsafe: log entry 128. -/
def shadowLost (s : State) : State := irq (inc (setHost s { s.host with lost := true }) 0x2810 0x85) 8

/-- Page 0 as its counters and flag stand. -/
def directory (s : State) : List Byte :=
  ((List.range 63).map fun i => BitVec.ofNat 8 (pageOf s (i + 1)).count) ++ [if s.host.lost then 1#8 else 0#8]

/-- A page took new data: its counter in page 0, whose own update goes to its shadow while it is open. DEDUCED, unsafe: log
entry 128. -/
def pageCounted (s : State) (p : Nat) : State :=
  let s := setPage s p { pageOf s p with count := ((pageOf s p).count + 1) % 256 }
  let z := pageOf s 0
  if z.isOpen then
    let s := if z.shadow.isSome then shadowLost s else s
    setPage s 0 { pageOf s 0 with shadow := some (directory s) }
  else s

/-- An update of a page (R329, R330). -/
def pageUpdate (s : State) (p : Nat) (data : List Byte) : State :=
  let x := pageOf s p
  let s :=
    if x.isOpen then
      let s := if x.shadow.isSome then shadowLost s else s
      setPage s p { pageOf s p with shadow := some data }
    else pageCounted (setPage s p { x with data := data }) p
  irq s 1

/-- The oldest page data that waits is written. -/
def processPageUpdate (s : State) : State :=
  match s.host.pageDue with
  | (p, d) :: rest => pageUpdate (setHost s { s.host with pageDue := rest }) p d
  | [] => s

/-- A page opens when its first byte is sent; a read of page 0 takes its flag. -/
def pageOpen (s : State) (p : Nat) : State :=
  if p == 0 then
    let d := directory s
    setPage (setHost s { s.host with lost := false }) 0 { pageOf s 0 with data := d, isOpen := true }
  else setPage s p { pageOf s p with isOpen := true }

/-- The updates that fall between the opening of pages. DEDUCED, unsafe: log entry 127. -/
def updatesAt (s : State) (l : List (Nat × Nat × List Byte)) (k : Nat) : State :=
  foldS s (l.filter fun u => u.1 == k) fun s u => if within u.2.1 1 63 then pageUpdate s u.2.1 ((u.2.2 ++ List.replicate 64 0#8).take 64) else s

/-- CS_n rises: full shadows are promoted, and every page closes. -/
def pagesClose (s : State) : State :=
  let open_ := s.host.pages.filter fun p => p.2.isOpen
  let s := foldS s open_ fun s p => setPage s p.1 { pageOf s p.1 with isOpen := false }
  foldS s open_ fun s p =>
    match (pageOf s p.1).shadow with
    | some d =>
      let s := setPage s p.1 { pageOf s p.1 with data := d, shadow := none }
      if p.1 == 0 then s else pageCounted s p.1
    | none => s

/-- PI_READ of `count` pages from `first` on. `updates`: page data that comes while it runs, each with the number of pages open
by then; `ecc`: pages read with an uncorrectable error. DEDUCED, unsafe: log entry 127. DEDUCED, unsafe: log entry 129. -/
def piRead (s : State) (first count : Nat) (updates : List (Nat × Nat × List Byte)) (ecc : List Nat) : State :=
  if !booted s then hostDiscard s 4
  else if count == 0 || first + count > 64 then hostDiscard s 3
  else
    let s := inc (lastResult s 1) 0x2810 0x81
    let (s, d) := (List.range count).foldl (init := (s, ([] : List Byte))) fun (s, d) k =>
      let s := pageOpen (updatesAt s updates k) (first + k)
      (s, d ++ ((pageOf s (first + k)).data ++ List.replicate 64 0#8).take 64)
    let s := updatesAt s updates count
    let bad := ecc.filter fun p => within p first (first + count - 1)
    let c := if bad.isEmpty then crc16 d else 65535 - crc16 d
    let s := foldS s bad fun s p => eventWith s 1 (0x0B004000 + p) 0x0011 0 0xFF
    pagesClose { s with answers := Tab.put s.answers inlineKey { code := 0, data := d ++ leBytes 2 c } }

-- The start of service (R307) -------------------------------------------------------------------------------------

/-- One turn of every client that waits: nodes ascending, the host port last. -/
def serveRound (s : State) (off : Nat) : State :=
  let s := foldS s nodeIds fun s k =>
    match s.net.reqs.find? fun q => q.client == k with
    | some q => serveUsdo (setNet s { s.net with reqs := s.net.reqs.erase q }) q off
    | none => s
  match s.host.queue with
  | (tag, i, op) :: rest => serveHost (setHost s { s.host with queue := rest }) tag i op off
  | [] => s

/-- 200 ms after boot-up, the waiting requests are served in turn. -/
def usdoServiceStart (s : State) (off : Nat) : State :=
  match s.net.bootAt with
  | some t =>
    if s.net.serving || s.now < t + msT 200 then s
    else foldS (setNet s { s.net with serving := true }) (List.range 8) fun s _ => serveRound s off
  | none => s

-- Requests that a power failure or a reset ends -------------------------------------------------------------------

/-- After POWER_FAIL's step that fails the items (R387, R466): nothing of a client waits but journalled work, and host requests have
their response. -/
def requestsFailed (s : State) : State :=
  let jour (i : Nat) : Bool := match Tab.find s.work i with | some w => w.journalled && w.state < 2 | none => false
  let keep := s.waiting.filter fun w => match w.item with | some i => jour i | none => false
  let tags := keep.filterMap (·.tag)
  let open_ := (s.host.tags.filter fun p => p.2.resp.isNone && !tags.contains p.1).map (·.1)
  let s := setNet { s with waiting := keep } { s.net with reqs := [], xfers := [] }
  let s := setHost s { s.host with queue := [], seg := none }
  foldS s open_ fun s t => respond s t 0x08000000 []

end Sys2Proof.Machine
end

