-- ==== Sys2Proof/Machine/Startup.lean ====
section
/-! DEFINITION. Reset and start-up: what a reset keeps, the boot ROM, the configuration load, the start-up record, boot-up, the
operational tick, NMT resets, and the losses of clocks and memory (R14, R36, R60, R102, R447, R467, R470 to R481). -/
namespace Sys2Proof.Machine
open Sys2Proof Sys2Proof.OD

def setRst (s : State) (x : Rst) : State := { s with rst := x }

-- Reset assertion (R470 to R472) ----------------------------------------------------------------------------------

/-- Causes that lose the work table and the SRAM: POWER_ON, WAKE, ALARM. -/
def coldCause (c : Nat) : Bool := c ≤ 2

/-- A sub-index that no reset reloads: another memory holds it, or the backup domain, or it shows the supply's level. -/
def resetKeeps (k : Nat) : Bool :=
  (match rowOf (k / 256) (k % 256) with
   | some r => r.per == .held || (r.per == .p && (k / 256 == 0x2300 || within (k / 256) 0x2310 0x2317))
   | none => false) || k == key 0x2100 0x81

/-- Every unit at its reset state: the backup domain, the store, code flash and OTP, the work table and the pins are kept.
DEDUCED, unsafe: log entry 196. DEDUCED, unsafe: log entry 204. DEDUCED, unsafe: log entry 212. -/
def unitsReset (s : State) (cold : Bool) : State :=
  { pending := s.pending, zh6432 := s.zh6432, now := s.now, dict := s.dict.filter fun p => resetKeeps p.1,
    logStore := s.logStore, work := if cold then [] else s.work, nextId := if cold then s.idFloor else s.nextId, idFloor := s.idFloor,
    cal := { s.cal with stage := [], shadows := [] },
    panels := s.panels.map (fun p => (p.1, dischargeKept p.2)),
    store := { recs := s.store.recs, serials := s.store.serials, journal := s.store.journal },
    fw := { imgA := s.fw.imgA, imgB := s.fw.imgB, boot := s.fw.boot, session := s.fw.session },
    sec := { lastSlot := s.sec.lastSlot }, rst := s.rst, tap := s.tap, freeCount := s.freeCount, ensignIn := s.ensignIn, pfw := s.pfw,
    inReset := true }

/-- A reset is asserted with cause `c`. Causes asserted together count as one reset, recorded under the lowest code. DEDUCED,
unsafe: log entry 169. DEDUCED, unsafe: log entry 209. -/
def assertReset (s : State) (c : Nat) : State :=
  let again := s.inReset && s.rst.phase == 0 && !s.rst.causes.isEmpty
  let cold := coldCause c
  let th : Thermal := if s.th.hold == 2 && c != 8 && !cold then { hold := 2, cool := s.th.cool, hs := s.th.hs } else {}
  let latch := if again then s.rst.latch else (s.cal.secs, subSecond s, calValid s)
  let t := unitsReset s cold
  let tap : Tap := if cold then {} else { s.tap with access := false, hold := false }
  setRst { t with th := th, tap := tap }
    { cause := s.rst.cause, prevCause := s.rst.prevCause, starts := s.rst.starts, retries := s.rst.retries, writeNo := s.rst.writeNo,
      imageBooted := s.rst.imageBooted, bootResult := s.rst.bootResult, causes := c :: (if again then s.rst.causes else []),
      latch := latch, tableKept := !cold && (s.rst.recBuilt || s.rst.tableKept), healthOut := s.rst.healthOut && !cold }

/-- The internal rail fell below 2.70 V, or power came: after SLEEP or SHIP the cause is what asserted PWRON (R379, R400, R470). -/
def powerOn (s : State) : State :=
  if s.pw.off then (if s.cal.pwron then assertReset { s with pw := {} } (Nat.min 2 (rdN s 0x2300 0x82)) else s) else assertReset s 0

/-- KILL_n low; nothing while the device is without supply. -/
def killAsserted (s : State) : State := if s.pw.off then s else assertReset s 3

/-- No watchdog write for 100 ms. -/
def watchdogExpired (s : State) : State := if !s.inReset && s.rst.wdAge ≥ 1000 then assertReset s 5 else s

/-- PFW_n high for 100 ms after step 1 of R387 (R389). -/
def pfwReleased (s : State) : State :=
  if rdN s 0x2100 0x80 == 3 && s.pw.recordAt.isNone then
    assertReset (wrBit (condEnd { s with pfw := false } 58 0 0x0320C000) 0x2100 0x81 4 false) 6
  else s

/-- H below 100 °C for 10 s ends a thermal shutdown or the trip hold (R411, R412). -/
def thermalRelease (s : State) : State :=
  if thermalCooled s then
    let c := if s.th.hold == 2 then 8 else 7
    assertReset (setTh { s with cal := { s.cal with trip := false } } { s.th with hold := 0 }) c
  else s

/-- The reset of 0x2400:11 or 0x260C:03 at its tick (R430, R446). -/
def restartDue (s : State) : State :=
  match s.fw.restartAt with
  | some t => if t ≤ s.now then assertReset s 4 else s
  | none => s

/-- EXTEST, CLAMP, HIGHZ (R447): every unit but the backup domain is held in reset until TRST_n or a reset. DEDUCED, unsafe: log
entry 209. -/
def tapHold (s : State) (ir : Nat) : State :=
  let t := if s.inReset then s else unitsReset s false
  let r := if s.inReset then s.rst else
      { s.rst with phase := 0, causes := [], latch := (s.cal.secs, subSecond s, calValid s), tableKept := s.rst.recBuilt || s.rst.tableKept }
  setRst { t with tap := { s.tap with ir := ir, hold := true, access := false } } r

/-- TRST_n low: the TAP returns to IDCODE; a hold ends with a reset of cause SCAN (R470). -/
def trstRelease (s : State) : State :=
  if s.tap.hold then { assertReset { s with tap := {} } 9 with tap := { dr := idcode s } } else tapIdcode s

-- The reset record (R480) -----------------------------------------------------------------------------------------

def resetRecord (s : State) : List Byte :=
  let r := s.rst
  leBytes 1 r.cause ++ leBytes 1 r.prevCause ++ leBytes 1 r.bootResult ++ leBytes 1 r.imageBooted ++ leBytes 4 r.starts ++
  leBytes 5 (if r.latch.2.2 then r.latch.1 else 0) ++ leBytes 2 r.latch.2.1 ++
  leBytes 1 ((if r.latch.2.2 then 1 else 0) + (if r.romHold then 2 else 0) + (if r.startMode then 4 else 0)) ++ leBytes 4 s.idFloor ++
  leBytes 2 r.retries ++ List.replicate 8 0#8

/-- The firmware writes the record again when the identifier floor has risen. DEDUCED, unsafe: log entry 212. -/
def floorWrite (s : State) : State :=
  if s.rst.phase ≥ 2 && ((rdB s 0x2300 0x42).drop 16).take 4 != leBytes 4 s.idFloor then retainedWrite s 2 (resetRecord s) else s

-- Release and boot ROM (R437, R438, R474) -------------------------------------------------------------------------

/-- Steps 2 and 3: the images are verified and the firmware starts, or the device stays in the boot ROM. `okA`, `okB`: what the
boot ROM finds of each image's signature and block hashes; `us`: the time it took; `otp`: a faulty OTP word's cell, and whether
it belongs to the vendor key or to C; `cals`: the coefficients of the calibration of all slices. DEDUCED, unsafe: log entry 188.
DEDUCED, unsafe: log entry 199. DESIGN CHOICE, safe: log entry 215. -/
def bootStep (s : State) (okA okB : Bool) (us : Nat) (otp : Option (Nat × Bool)) (cals : List (List (Real32 × Real32))) : State :=
  let fatal := match otp with | some (_, f) => f | none => false
  let (s, choice) := if fatal then (s, none) else bootChoice s okA okB
  match choice with
  | none =>
    let s := setRst s { s.rst with romHold := true, bootResult := 3, imageBooted := 255 }
    retainedWrite s 2 (resetRecord s)
  | some (i, fallback) =>
    let s := setRst s { s.rst with romHold := false, bootResult := if fallback then 2 else 1, imageBooted := i, starts := s.rst.starts + 1, retries := 0 }
    let s := wrN (wrN s 0x2000 6 i) 0x2000 5 (image s i).version
    let s := wrN (wrN s 0x2600 0x80 (if fallback then 2 else 1)) 0x2600 0x81 us
    let s := if fallback then event s 76 0 else s
    let s := match otp with | some (cell, _) => event s 78 (secLoc 1 cell) | none => s
    let s := if sessionState s == 4 then wrN s 0x2400 0x80 2 else s
    startupCal s cals

/-- Reset is released (R470): the causes have ended and no hold stands. START_MODE and DUPLEX_ID are latched, and their pulls are
removed (R485). With TESTEN high the boot ROM does not start, and the device stays as in reset until another reset is released
with TESTEN low (R487). DESIGN CHOICE, safe: log entry 215. DESIGN CHOICE, unsafe: log entry 233. DEDUCED, unsafe: log entry 236. -/
def resetRelease (s : State) (straps : StartStraps) (duplexId okA okB : Bool) (us : Nat) (otp : Option (Nat × Bool))
    (cals : List (List (Real32 × Real32))) : State :=
  if !s.inReset || s.rst.phase != 0 || s.rst.causes.isEmpty || s.th.hold != 0 || s.tap.hold || s.pw.off then s else
  if straps.testen then setRst s { s.rst with causes := [] } else
  let c := s.rst.causes.foldl Nat.min 9
  let s := setRst s { s.rst with phase := 1, causes := [], prevCause := s.rst.cause, cause := c, startMode := straps.startMode }
  let s := wrN { s with strapPulls := false, store := { s.store with decayed := straps.decayed } } 0x2500 0x80 (if duplexId then 1 else 0)
  bootStep s okA okB us otp cals

/-- The boot ROM verifies again, every 10 s. DEDUCED, unsafe: log entry 188. -/
def bootRomRetry (s : State) (okA okB : Bool) (us : Nat) (otp : Option (Nat × Bool)) (cals : List (List (Real32 × Real32))) : State :=
  if s.rst.phase != 1 || !s.rst.romHold then s else
  bootStep (setRst s { s.rst with retries := s.rst.retries + 1 }) okA okB us otp cals

-- The configuration load (R60, R62, R299, R355) -------------------------------------------------------------------

/-- The stored P values of an area; a record holds no other. -/
def loadedArea (s : State) (a : Nat) : Tab (List Byte) :=
  ((storedArea s a).getD []).filter fun p => persistent (p.1 / 256) (p.1 % 256) && areaOf (p.1 / 256) == a

/-- Values come into use as they were stored. -/
def putAll (s : State) (l : Tab (List Byte)) : State := { s with dict := l.foldl (fun d p => dictPut d p.1 p.2) s.dict }

/-- The P values of an area at their Defaults. -/
def areaDefaults (s : State) (a : Nat) : State :=
  { s with dict := s.dict.filter fun p => !(areaOf (p.1 / 256) == a && persistent (p.1 / 256) (p.1 % 256)) }

/-- Every loop that has values of its own takes what its banks' modes compute. -/
def redesignAll (s : State) : State :=
  let ls := ((s.dict.filter fun p => within (p.1 / 256) 0x3400 0x37FF).map fun p => p.1 / 256 - 0x3400).eraseDups
  foldS s ls fun s n => redesign (redesign s n 0) n 1

/-- The application area is admitted as a commit without a response; if it fails, its Defaults are. -/
def admitLoaded (s : State) (vals : Tab (List Byte)) : State :=
  let plain := vals.filter fun p => !structural (p.1 / 256) (p.1 % 256)
  let held := vals.filter fun p => structural (p.1 / 256) (p.1 % 256)
  let t := redesignAll { putAll s plain with staged := held.foldl (fun t p => Tab.put t p.1 p.2) [] }
  if (commitRefusal t).1 == 0 then redesignAll (commitApply t)
  else commitApply (event { s with staged := [] } 2 0)

/-- Conditions that start-up finds standing (R474 step 9): an invalid calendar, a feed that is not usable, a gated solo device.
DEDUCED, unsafe: log entry 208. -/
def startupConditions (s : State) : State :=
  let s := oscReport (if calValid s then s else condStart s 64 0 0x01300000 0xFF)
  let s := foldS s [0, 1] fun s f => if rdBit s 0x2100 0x81 f then s else condStart s (56 + f) 0 (0x03200000 + f) 0xFF
  if !s.zh6432 && (if rdN s 0x2500 1 == 0 then !s.ensignIn else rdN s 0x2500 1 == 1 && s.ensignIn) then condStart s 52 0 0 0xFF else s

/-- Step 4 and step 5 of R474, and the start of the tick generator. DEDUCED, unsafe: log entry 189. DEDUCED, unsafe: log entry
213. -/
def configurationLoad (s : State) : State :=
  if s.rst.phase != 1 || s.rst.romHold then s else
  let s := if s.cal.retBad.contains 2 then
      event (setRst s { s.rst with prevCause := 0, starts := 0, retries := 0 }) 67 0x0130800A
    else s
  let s := retainedWrite s 2 (resetRecord s)
  let s := foldS s [2, 3, 4] areaRead
  let missing := [2, 3, 4].any fun a => (selectSerial s a).isNone
  let s := if missing then event s 2 0 else s
  let app := loadedArea s 3
  let s := foldS s [2, 3, 4] areaDefaults
  let s := putAll (putAll s (loadedArea s 2)) (loadedArea s 4)
  let s := channelsIdle (admitLoaded s app)
  let s := pdosLoad (setRst { s with cfgLoaded := true, inReset := false, tickRun := true } { s.rst with phase := 2, defaults := pennantSet s 2 })
  let s := startupConditions s
  if inPair s then
    let s := setRole s 1
    let s := notReady (notReady (notReady s 0 true) 2 true) 7 true
    setDup s { s.dup with beaconAt := some s.now, hoistAt := some s.now }
  else if witness s then setWit s { s.dup.wit with since := s.now }
  else s

/-- Step 7: the controllers are enabled; a solo device leaves CAN3 disabled (R335). -/
def controllersEnabled (s : State) : State :=
  if s.rst.phase != 2 then s else
  let xs := if inPair s || witness s then [0, 1, 2, 3] else [0, 1, 2]
  reallocate (foldS (setRst s { s.rst with phase := 3 }) xs canEnable)

-- The start-up record (R457, R467) --------------------------------------------------------------------------------

/-- Is a journalled item done (R424)? -/
def journalDone (s : State) (j : Journal) : Bool :=
  match j.kind with
  | 2 =>
    if j.idx == 0x1010 || j.idx == 0x1011 then j.targets.all fun t => selectSerial s t.1 == some t.2
    else j.targets.all fun t => match newest (storeRecord s t.1) with | some b => b.seq == t.2 | none => false
  | 3 => j.targets.all fun t => if t.1 == 0 then rdBit s 0x2400 0x84 t.2 else !s.fw.session.isEmpty
  | _ => j.mark

/-- An item that the reset interrupted gets its fate and enters the record. -/
def decided (s : State) (i : Nat) (ok : Bool) : State :=
  let s := if ok then itemSet s i fun w => { w with state := 2, ended := s.tick } else itemFail s i 1 0
  match Tab.find s.work i with
  | some w => setRst s { s.rst with recItems := Tab.put s.rst.recItems i w }
  | none => s

/-- Journalled items, then every other item in flight. -/
def decideItems (s : State) : State :=
  let s := foldS s s.store.journal fun s j =>
    let i := j.obj - 0x2020
    let s := if s.rst.tableKept then s else
      let w : WorkItem := { id := j.id, kind := j.kind, origin := j.origin, state := 1, reason := 0, idx := j.idx, sub := j.sub,
                            accepted := j.tick, ended := 0, abort := 0, journalled := true }
      { s with work := Tab.put s.work i w }
    match Tab.find s.work i with
    | some w => if w.state < 2 && w.id == j.id then decided s i (journalDone s j) else s
    | none => s
  let s := foldS s (itemsWhere s fun _ => true) fun s i => decided s i false
  wrN (setStore s { s.store with journal := [] }) 0x2400 0x9A 0

/-- The power-fail or thermal record, if it is newer than the previous start-up. -/
def powerRecRead (s : State) : Option PowerRec :=
  match newest (storeRecord s 0x700) with
  | some b => if b.writeNo > s.rst.writeNo then (match b.payload with | .power r => some r | _ => none) else none
  | none => none

/-- Entries newest first. -/
def insertEntry (e : LogEntry) : List LogEntry → List LogEntry
  | [] => [e]
  | x :: t => if x.num ≤ e.num then e :: x :: t else x :: insertEntry e t

/-- The ring is rebuilt: the store ring, the record's entries, the start-up entry, and the events that were held. DEDUCED,
unsafe: log entry 204. DEDUCED, unsafe: log entry 208. -/
def rebuildLog (s : State) (r : Option PowerRec) : State :=
  let held := s.log.reverse
  let last := s.logStore.head?.map (·.num)
  let newer (e : LogEntry) : Bool := match last with | some n => n < e.num | none => true
  let extra : List LogEntry := match r with | some r => r.entries.filter newer | none => []
  let ring := (extra.foldl (fun l e => insertEntry e l) [] ++ s.logStore).take 4096
  let next := match ring with | e :: _ => (e.num + 1) % 2 ^ 32 | [] => 0
  let s := match s.logStore with
    | e :: _ => wrN (wrN s 0x2710 0x84 e.num) 0x2710 0x81 (s.logStore.getLastD e).num
    | [] => s
  let s := incBy { s with log := ring } 0x2710 0x83 (match r with | some r => r.dropped | none => 0)
  let s := logAdd (wrN s 0x2710 0x80 next) 0x0030 0 0xFF s.rst.cause
  foldS s held fun s e =>
    wrN { s with log := ({ e with num := rdN s 0x2710 0x80 } :: s.log).take 4096 } 0x2710 0x80 (rdN s 0x2710 0x80 + 1)

/-- Learned coefficients from the newest record whose neighbours are the committed ones (R216). -/
def loadCoupling (s : State) : State :=
  let rec_ := match newest (storeRecord s 0x500) with
    | some b => (match b.payload with | .coupling l => l | _ => [])
    | none => []
  foldS s (zonesOfPart s) fun s z =>
    match rec_.find? fun x => x.1 == z with
    | some x =>
      if x.2.1 == (List.range 8).map (neighbour s z) then
        wrN (foldS (learnInit s z) (List.range 9) fun s k => wrR s (dcObj z) (0x80 + k) (x.2.2.getD k F32.zero)) (dcObj z) 0x8E 1
      else learnInit s z
    | none => learnInit s z

/-- The record has something to announce. -/
def recNews (s : State) : Bool := !s.rst.recItems.isEmpty || bit s.rst.recFlags 3

/-- What boot-up makes of the start-up record: IRQ source 9 and the log entry. DEDUCED, unsafe: log entry 207. -/
def recAnnounce (s : State) : State := if recNews s then irq (logAdd s 0x0031 0 0xFF s.rst.recItems.length) 9 else s

/-- Step 8 (R475: `selfTest` is the result of the engine's self-test). For a pair member its end counts as boot-up. DEDUCED,
unsafe: log entry 207. -/
def startupRecordBuild (s : State) (selfTest : Bool) : State :=
  if s.rst.phase != 3 then s else
  let s := foldS s (if s.zh6432 then [0x500, 0x700] else [0x500, 0x600, 0x601, 0x700] ++ (if inPair s then [0x800, 0x801] else [])) recordRead
  let s := loadCoupling s
  let s := if s.zh6432 then s else foldS s [0, 1] fun s p => panelStartup s p (!s.cal.retBad.contains p)
  let r := powerRecRead s
  let s := rebuildLog s r
  let kept := s.rst.tableKept
  let pf := match r with | some r => !r.thermal | none => false
  let th := match r with | some r => r.thermal | none => false
  let flags := (if kept then 1 else 0) + (if pf then 2 else 0) + (if th then 4 else 0) + (if !kept && !pf then 8 else 0)
  let s := setRst s { s.rst with recFlags := flags, recItems := [], recFirst := s.nextId, recBuilt := true,
                                 recDropped := match r with | some r => r.dropped | none => 0, writeNo := rdN s 0x2400 0x94 }
  let s := rehash (decideItems s)
  let s := if coldCause s.rst.cause && !selfTest then
      (let s := engineStop s 0
       if inPair s then notReady s 4 true else s)
    else s
  let s := setRst s { s.rst with phase := 4 }
  if inPair s then recAnnounce (setNet s { s.net with bootAt := some s.now }) else s

-- Boot-up and start (R319, R478, R477) ----------------------------------------------------------------------------

/-- A pair member that took the ensign without a hoist (R355). DEDUCED, unsafe: log entry 211. -/
def coldHolder (s : State) : Bool := inPair s && s.ensign && s.dup.hoists.isEmpty

/-- Boot-up: after step 8, at a cold start of a pair member, or after an NMT reset. -/
def bootUp (s : State) : State :=
  let send (s : State) : State :=
    let s := sendPair (setNet s { s.net with hbAt := s.now }) (0x700 + nodeId s) [0#8]
    nmtSet s 0x7F
  if s.rst.nmtReset then send (setRst s { s.rst with nmtReset := false })
  else if s.rst.phase != 4 || (inPair s && !coldHolder s) then s
  else
    let first := !inPair s
    let s := setRst s { s.rst with phase := 5 }
    let s := send (setNet (wrN s 0x1FF0 0x80 0) { s.net with bootAt := some s.now, serving := !first && s.net.serving })
    let e : Emcy := { code := 0xFF01, loc := 0, pennant := 0xFF, source := 0xFF, obj := 0 }
    let s := if recNews s then { s with emcyQ := (e :: s.emcyQ).take 32 } else s
    let s := if first then recAnnounce s else s
    fwAuto s

/-- NMT start at the present tick: the first one since reset is the operational tick. -/
def goOperational (s : State) : State :=
  let s := nmtSet s 5
  if s.counting then s
  else setRst { s with counting := true, tick := 0 } { s.rst with opAt := some s.now }

/-- The own tick of an autostart that nothing withholds (R478). DEDUCED, unsafe: log entry 210. DEDUCED, unsafe: log entry 211.
-/
def autostartAt (s : State) : Option Nat :=
  match s.net.bootAt with
  | some t =>
    if s.rst.startMode && s.rst.phase == 5 && !s.net.nmtSeen && nmt s == 0x7F && !s.counting && !s.rst.defaults && (!inPair s || coldHolder s)
    then some (t + msT 200) else none
  | none => none

/-- AUTOSTART stands just before the tick at which it acts. -/
def autostart (s : State) : State :=
  match autostartAt s with
  | some t => if t ≤ s.now + 1 then atTick s (s.now + 1) goOperational else s
  | none => s

/-- The operational tick is the next one: an NMT start that is due, or the autostart. -/
def operationalTick (s : State) : State :=
  if s.counting then s
  else if s.net.nmtDue.any fun p => p.1 ≤ s.now + 1 && p.2 == 1 then atTick s (s.now + 1) goOperational
  else autostart s

/-- Items 1 and 2 of R9 are due at the tick to come: a restart, an NMT command, or the autostart. -/
def controlDue (s : State) : Bool :=
  (match s.fw.restartAt with | some t => decide (t ≤ s.now + 1) | none => false) || s.net.nmtDue.any (fun p => p.1 ≤ s.now + 1) ||
  (match autostartAt s with | some t => decide (t ≤ s.now + 1) | none => false)

/-- A commit is due at the tick to come, unless a supply failure or an orderly stop holds it. -/
def commitNext (s : State) : Bool :=
  match s.commitDue with | some (t, _) => decide (t ≤ s.now + 1) && !quiescing s | none => false

-- NMT resets (R60, R481) ------------------------------------------------------------------------------------------

/-- A writable sub-index of Persist V. -/
def writableV (idx sub : Nat) : Bool :=
  match rowOf idx sub with | some r => r.per == .v && r.acc != .ro && r.acc != .const | none => false

/-- NMT reset communication: 0x1000 to 0x1FFF reload, the PDOs and filters follow. DEDUCED, unsafe: log entry 214. -/
def nmtResetComm (s : State) : State :=
  let s := areaRead s 2
  let old := s
  let s := { s with dict := s.dict.filter fun p => p.1 / 256 ≥ 0x2000, written := s.written.filter fun p => p.1 / 256 ≥ 0x2000 }
  let s := wrF s 0x2000 7 (!s.written.isEmpty)
  let s := errorRegister (wrN (putAll s (loadedArea old 2)) 0x1FF0 0x80 0)
  let s := pdosLoad (setNet s { s.net with nodes := [], fieldBoot := false, heard := [], syncCtr := none, syncDue := none })
  rehash (reallocate s)

/-- Volatile counters and records of last results, which only units write and none goes by: NMT reset application takes them to
their Defaults (R60), but for what R481 leaves untouched. DEDUCED, unsafe: log entry 32. -/
def counterV (idx sub : Nat) : Bool :=
  match idx with
  | 0x2000 => within sub 0x14 0x15
  | 0x2010 => within sub 6 9
  | 0x2100 => within sub 0x87 0x8A
  | 0x2110 => within sub 0x87 0x8F
  | 0x2111 => within sub 0x87 0x8F
  | 0x2200 => within sub 0x97 0x99
  | 0x2400 => sub == 0x93 || within sub 0x95 0x97
  | 0x2500 => within sub 0x87 0x8B || sub == 0x91 || sub == 0x93
  | 0x2600 => within sub 0x85 0x86
  | 0x2810 => within sub 0x81 0x85
  | 0x3180 => sub == 0x82 || sub == 0x88
  | 0x3E00 => sub == 0x86
  | 0x4F00 => sub == 0x85 || within sub 0x89 0x8C
  | _ =>
    (within idx 0x2800 0x2803 && within sub 0x87 0x90) || (within idx 0x3000 0x303F && sub == 0x88) ||
    (within idx 0x3100 0x315F && within sub 0x85 0x87) || (within idx 0x3160 0x3170 && sub == 0x92) ||
    (within idx 0x3200 0x3207 && within sub 0x85 0x88) || (within idx 0x3210 0x3217 && within sub 0x81 0x83) ||
    (within idx 0x3300 0x3301 && within sub 0x8A 0x8C) || (within idx 0x3C80 0x3CBF && within sub 0x8B 0x8C) ||
    (within idx 0x4000 0x43FF && sub == 0x84)

/-- The counters that stand outside the dictionary follow. -/
def countersReset (s : State) : State :=
  setTh (setTT s { s.tt with applied := 0, nDeferred := 0, discarded := 0, noSlot := 0 }) { s.th with throttled := 0 }

/-- NMT reset application: 0x2000 to 0x507F reload, and the configuration becomes active as a commit does; a panel port's target
image takes its Default, the displayed image (R263). DEDUCED, unsafe: log entry 32. DEDUCED, unsafe: log entry 86. -/
def nmtResetApp (s : State) : State :=
  let s := foldS s [3, 4] areaRead
  let app := loadedArea s 3
  let tt := loadedArea s 4
  let isTT (k : Nat) : Bool := areaOf (k / 256) == 4 && persistent (k / 256) (k % 256)
  let changed := s.dict.filter (fun p => isTT p.1) != tt.foldl (fun d p => dictPut d p.1 p.2) []
  let s := { s with written := s.written.filter fun p => p.1 / 256 < 0x2000 }
  let goes (k : Nat) : Bool := k / 256 ≥ 0x2000 && (writableV (k / 256) (k % 256) || counterV (k / 256) (k % 256))
  let s := countersReset { s with dict := s.dict.filter fun p => !goes p.1 && !isTT p.1 }
  let s := if s.zh6432 then s else foldS s [0, 1] fun s p => wrN s (ppObj p) 0x80 (rdN s (ppObj p) 0x82)
  let s := putAll s tt
  let s := if changed then setTT s { s.tt with nothing := true } else s
  -- the P values of the application area: structural ones by way of a staging copy, the others at once
  let mine (k : Nat) : Bool := areaOf (k / 256) == 3 && persistent (k / 256) (k % 256)
  let base := { s with dict := s.dict.filter fun p => !(mine p.1 && !structural (p.1 / 256) (p.1 % 256)), staged := [], ttStaged := [] }
  let base := putAll base (app.filter fun p => !structural (p.1 / 256) (p.1 % 256))
  let now := s.dict.filter fun p => mine p.1 && structural (p.1 / 256) (p.1 % 256)
  let gone := (now.filter fun p => (Tab.find app p.1).isNone).map fun p => (p.1, defaultAt p.1)
  let want := gone ++ app.filter fun p => structural (p.1 / 256) (p.1 % 256)
  let t := redesignAll { base with staged := want.foldl (fun t p => Tab.put t p.1 p.2) [] }
  let s := if (commitRefusal t).1 == 0 then commitApply t
    else
      let d := { base with dict := base.dict.filter fun p => !(mine p.1 && !structural (p.1 / 256) (p.1 % 256)) }
      let all := now.map fun p => (p.1, defaultAt p.1)
      event (commitApply { d with staged := all.foldl (fun t p => Tab.put t p.1 p.2) [] }) 2 0
  rehash (wrF (redesignAll (regateAll s)) 0x2000 7 (!s.written.isEmpty))

/-- A commit that waits for its tick ends with the staging copy that an NMT reset empties, and is refused (R51); DEDUCED, log
entry 84. -/
def commitDropped (s : State) : State :=
  match s.commitDue with
  | some (_, c) => later { s with commitDue := none } c 0x2000 0x08000022 []
  | none => s

/-- The same for the timetable, whose staging copy empties at NMT reset application (R238). DEDUCED, unsafe: log entry 84. -/
def ttDropped (s : State) : State :=
  let s := wrN (wrN { s with ttStaged := [] } 0x4F00 0x83 0) 0x4F00 0x84 0
  match s.tt.commit with
  | some c => later (setTT s { s.tt with commit := none }) c 0x4F00 0x08000022 []
  | none => s

/-- An NMT reset at its tick: initialisation, the area reloads, boot-up is due. The staging copy empties. DEDUCED, unsafe: log
entry 32. -/
def nmtReset (s : State) (app : Bool) : State :=
  let s := commitDropped (discardStaged (nmtSet s 0))
  let s := if app then ttDropped s else s
  let s := if app then nmtResetApp s else nmtResetComm s
  setRst s { s.rst with nmtReset := true }

/-- An NMT command at its tick of effect. -/
def nmtAct (s : State) (cmd : Nat) : State :=
  match cmd with
  | 1 => goOperational s
  | 2 => nmtSet s 4
  | 0x80 => nmtSet s 0x7F
  | 0x81 => nmtReset s true
  | 0x82 => nmtReset s false
  | _ => s

-- Losses of clocks and memory (R14, R36, R102, R244) --------------------------------------------------------------

/-- CLK_REF shows no edge for 2 µs. Until then 0x2010:0A reads 0, the crystal: nothing in the spec tells the device a crystal from
an external clock on XI. DEDUCED, unsafe: log entry 216. DESIGN CHOICE, unsafe: log entry 221. -/
def clkRefLoss (s : State) : State := condStart (wrN s 0x2010 0x0A 2) 0 0 0x02004000 0xFF

/-- CLK_POS stops: the port block with it. DEDUCED, unsafe: log entry 216. -/
def clkPosLoss (s : State) : State :=
  { s with clkPosLost := true, ports := s.ports.map fun p => (p.1, { p.2 with waiting := true }) }

/-- CLK_PANEL stops: panel outputs are high-Z and a sequence is cut. -/
def clkPanelLoss (s : State) : State := panelsHardCut { s with clkPanelLost := true } 13

/-- The scrubber finds an error (R36): a single-bit one is corrected, counted and logged, an uncorrectable one goes to its region.
DEDUCED, unsafe: log entry 203. DEDUCED, unsafe: log entry 222. -/
def sramScrub (s : State) (r : Region) (loc : Nat) (fatal : Bool) : State :=
  if !fatal then logAdd { s with eccCount := s.eccCount + 1 } 0x0010 loc 0xFF 0
  else
    let at_ (loc : Nat) (s : State) : State := eventWith s 1 loc 0x0011 0 0xFF
    let lost := at_ loc
    match r with
    | .loop n bank w => loopEccError s n bank w
    | .ports => lost { s with portEcc := true }
    | .canBuffer x n shadow =>
      let b := Tab.get (can s x).bufs n {}
      let b := if shadow then { b with shadow := none } else { b with frame := none, isNew := false }
      at_ (canLoc x 1 (if shadow then 1 else 0) n) (setCan s x { can s x with bufs := Tab.put (can s x).bufs n b })
    | .canFifo x k =>
      let l := (can s x).fifo.eraseIdx k
      at_ (canLoc x 2 0 k) (wrN (setCan s x { can s x with fifo := l }) (canObj x) 0x93 l.length)
    | .value idx sub => lost { s with eccBad := Tab.put s.eccBad (key idx sub) (rdB s idx sub) }
    | .log n => lost { s with eccLog := n :: s.eccLog.filter (· != n) }
    | .other => lost s

end Sys2Proof.Machine
end

