-- ==== Sys2Proof/Machine/Tick.lean ====
section
/-! DEFINITION. The base period: what happens at a tick and in its fixed sequence, in the order of R9 and R20. -/
namespace Sys2Proof.Machine
open Sys2Proof Sys2Proof.OD

/-- The device acts: it is neither held in reset nor shut down, and has supply. -/
def alive (s : State) : Bool := !s.inReset && s.th.hold == 0 && !s.pw.off

/-- Measurement, ports, position and panels run (R337, R399). DEDUCED, unsafe: log entry 149. -/
def unitsRun (s : State) : Bool := awake s && rdN s 0x2100 0x80 ≤ 1
/-- The field-port and position blocks are clocked: also in POWER_FAIL and on the way to SLEEP and SHIP, where they hold the safe
states (R101, R102, R140, R400). DEDUCED, unsafe: log entry 149. -/
def portsOn (s : State) : Bool := awake s && rdN s 0x2100 0x80 != 2
/-- Loops, zones and the walker are evaluated: the units run, a hoist is loaded, and no orderly stop freezes them (R352, R411). -/
def evaluates (s : State) : Bool := unitsRun s && computes s && rdN s 0x2200 0x95 != 3 && s.counting

/-- A store command that has ended since `s` makes the configuration hash be computed afresh (R59). -/
def storeHash (s t : State) : State :=
  let ended (p : Nat × WorkItem) : Bool :=
    p.2.state ≥ 2 && p.2.kind == 2 && (p.2.idx == 0x1010 || p.2.idx == 0x1011) &&
    !(match Tab.find s.work p.1 with | some w => w.id == p.2.id && w.state ≥ 2 | none => false)
  if t.work == s.work then t else if t.work.any ended then rehash t else t

/-- Items 1 and 2 of R9: resets, NMT resets, then NMT state changes that are due, and the autostart. DEDUCED, unsafe: log entry
14. -/
def tickControl (s : State) : State :=
  let due := s.net.nmtDue.filter fun p => p.1 ≤ s.now
  let s := setNet s { s.net with nmtDue := s.net.nmtDue.filter fun p => s.now < p.1 }
  let s := foldS s (due.filter fun p => p.2 > 0x80) fun s p => nmtAct s p.2
  let s := foldS s (due.filter fun p => p.2 ≤ 0x80) fun s p => nmtAct s p.2
  let s := match autostartAt s with | some t => if t ≤ s.now then goOperational s else s | none => s
  powerEntryStep (powerRecordDue (unlockDue s))

/-- Items 3 to 6: commits, swaps, the walk's results, outputs and zone results due, writes due. -/
def tickChanges (s : State) : State :=
  let s := match s.commitDue with | some (t, _) => if t ≤ s.now && !quiescing s then commitTick s else s | none => s
  let s := if evaluates s then swapsDue s else s
  let s := ttCommitIdle (walkDue s s.now)
  let s := if walkerBusy s && !walks s then walkerStop s else s
  let s := if evaluates s then outsideDue (foldS (outputsDue s s.tick) (s.zones.map (·.1)) zoneResultsDue) else s
  -- a return to RUN among the writes ends a suspension: a loop that resumes now takes a swap it waits with (R180)
  let s := restartsDue (writesDue s)
  let s := if evaluates s then swapsDue s else s
  let s := foldS s [0, 1] fun s p => match (panel s p).zeroAt with | some t => if t ≤ s.now then zeroAccumulators s p else s | none => s
  let s := traceDue (if evaluates s then safeDue s else s)
  shedTick (if evaluates s then gateZones (foldS s ((enabledZones s).filter fun z => zoneBoundary s z s.tick) zoneModeTake) else s)

/-- TPDO slots that take a signal, of the period that the tick begins (R30, R304). -/
def slotSources (s : State) : State :=
  let ks := (s.dict.filter fun p => within (p.1 / 256) 0x4000 0x43FF && p.1 % 256 == 1).map fun p => p.1 / 256 - 0x4000
  foldS s ks fun s n =>
    let r := rdN s (0x4000 + n) 1
    if refClass r == 0 then s else
    let v := signal s r
    tpdoSet s n v.1 v.2

/-- Step 3 of R20: outputs applied, inputs and position quantities latched, readback compared; none of it without CLK_POS
(R102). DEDUCED, unsafe: log entry 58. -/
def tickPorts (s : State) (pins : Nat) : State :=
  if s.clkPosLost then s else
  let fps := (List.range 64).filter fun n => fpFun s n != 0 && !(witness s && n ≤ 6)
  let s := foldS s fps portTick
  let s := foldS s fps fun s n => portLatch s pins n
  let s := foldS s fps fun s n => portReadback s pins n
  foldS s (List.range 8) posLatch

/-- Steps 7 to 10: the blocks whose boundary the tick is, on what was latched. -/
def tickLoops (s : State) (inp : TickIn) : State :=
  foldS s ((enabledLoops s).filter fun n => loopRunsIn s n && loopBoundary s n s.tick) fun s n => loopAtBoundary s inp n

/-- HEALTH_OUT (R346): the conditions under which it toggles. -/
def healthy (s : State) : Bool :=
  s.rst.commits ≥ 5 && s.rst.wdAge < 20 && !s.pfw && rdN s 0x2100 0x80 ≤ 2 && rdN s 0x2200 0x95 != 3 && rdN s 0x2600 0x82 != 1 && !s.tap.hold

def healthTick (s : State) (watchdog : Bool) : State :=
  let r := { s.rst with commits := s.rst.commits + 1, wdAge := if watchdog then 0 else s.rst.wdAge + 1 }
  let s := setRst s r
  if tickNo s % 5 == 0 && healthy s then setRst s { s.rst with healthOut := !s.rst.healthOut } else s

/-- Time spent throttled, in seconds (0x2200:99). -/
def throttleTime (s : State) : State :=
  if rdN s 0x2200 0x94 == 0 then s
  else
    let n := s.th.throttled + 1
    wrN (setTh s { s.th with throttled := n }) 0x2200 0x99 (n / 10000)

/-- BASE_TICK: tick k and base period k. DESIGN CHOICE, unsafe: log entry 13. DEDUCED, unsafe: log entry 14. DESIGN CHOICE,
safe: log entry 160. -/
def baseTick (s : State) (inp : TickIn) : State :=
  if !s.tickRun then s else
  let own := s.now + 1
  let s := restartDue { s with now := own, tick := if s.counting && s.rst.opAt != some own then s.tick + 1 else s.tick, reserveUsed := 0 }
  if s.inReset then s else
  let s := tickControl s
  let s := match inp.scheduler with | some e => engineStop s e | none => s
  let s := imageStep (signStart (hoistSnap s))
  let s := tickChanges s
  let s := if evaluates s then traceSample s else s
  let s := if portsOn s then hoistLatched (tickPorts s inp.pins) else s
  let s := if unitsRun s then slotSources (spareCalDue (mainsSample (mainsSample (tickPass s inp.adc) 0) 1)) else s
  let s := if evaluates s then
      (let s := tickLoops s inp
       let s := if s.tick % 1000 == 0 then outsideAir s else s
       foldS s ((enabledZones s).filter fun z => zoneBoundary s z s.tick) zoneEvaluate)
    else s
  let s := healthTick s inp.watchdog
  let s := if tickNo s % 10 == 0 && (awake s || s.panels.any fun p => p.2.cutAt.isSome) && !s.clkPanelLost then
      foldS s [0, 1] panelSubStep
    else s
  floorWrite (throttleTime (readyCheck (tpdosWant (storeKick s))))

end Sys2Proof.Machine
end

