-- ==== Sys2Proof/Machine/Command.lean ====
section
/-! DEFINITION. What the meanings of the commands share: when a command finds the device able to act, the path of a client's
write, and what the backup domain, the supply and the TAP do while the rest of the device is dead. -/
namespace Sys2Proof.Machine
open Sys2Proof Sys2Proof.OD

/-- A command acts on a device that is neither in reset nor shut down and has supply. DESIGN CHOICE, unsafe: log entry 5. -/
def act (s : State) (f : State → State) : State := if alive s then f s else s
/-- Own time after BASE_TICK (R20): the tick generator of a live device counts one more. DESIGN CHOICE, safe: log entry 3. -/
def ticked (s : State) : State := if alive s && s.tickRun then { s with now := s.now + 1 } else s
/-- A command of a unit that runs only in a device awake, in RUN or DOZE (R337, R399). DESIGN CHOICE, unsafe: log entry 5. -/
def runs (s : State) (f : State → State) : State := act s fun s => if unitsRun s then f s else s
/-- A command of the field-port and position blocks, which CLK_POS clocks (R102). -/
def portsRun (s : State) (f : State → State) : State := act s fun s => if portsOn s && !s.clkPosLost then f s else s
/-- A client's command: the dictionary is served from boot-up on (R306, R319, R332). -/
def up (s : State) (f : State → State) : State := act s fun s => if booted s then f s else s
/-- A client's write of one sub-index, accepted `off` ns after the tick. -/
def put (s : State) (client idx sub : Nat) (data : List Byte) (off : Nat) : State :=
  up s fun s => storeHash s (writeOne s client idx sub data off none)

/-- A write of a key slot or of the signature policy: a client's own, or the entry of the image that is being applied (R439,
R440). DESIGN CHOICE, unsafe: log entry 193. -/
def keyWrite (s : State) (client idx sub : Nat) (data : List Byte) (entry : Bool) (off : Nat) : State :=
  if entry then up s fun s => imageEntry s (idx, sub, data) else put s client idx sub data off

/-- Of `t`, what another supply keeps: the calendar and the sub-indices that `keep` names; the rest of `s` stands. -/
def keeping (s t : State) (keep : Nat → Bool) : State :=
  { s with cal := t.cal, dict := (s.dict.filter fun p => !keep p.1) ++ t.dict.filter fun p => keep p.1 }
/-- Sub-indices of the backup domain. DEDUCED, unsafe: log entry 155. -/
def backupKey (k : Nat) : Bool := k / 256 == 0x2300 || within (k / 256) 0x2310 0x2317 || (k / 256 == 0x2200 && within (k % 256) 0x9A 0x9C)
/-- An event of the backup domain, which lives on its own supply (R361): in a dead device nothing else takes part. DEDUCED,
safe: log entry 156. -/
def backup (s : State) (f : State → State) : State := if alive s then f s else keeping s (f s) backupKey
/-- An event of a feed: in a dead device only the feed status follows (R386). DEDUCED, safe: log entry 156. DEDUCED, unsafe: log
entry 169. -/
def supply (s : State) (f : State → State) : State := if alive s then f s else keeping s (f s) (· == key 0x2100 0x81)
/-- The TAP works in any device that has supply (R447). -/
def tapped (s : State) (f : State → State) : State := if s.pw.off then s else f s
/-- Start-up goes on unless a thermal hold or the loss of supply stops it. -/
def starting (s : State) (f : State → State) : State := if s.th.hold == 0 && !s.pw.off then f s else s

/-- PFW_n low: requests that wait are answered as POWER_FAIL begins (R387, R466). -/
def powerFail (s : State) (finishes : Bool) : State :=
  let t := pfwAsserted s finishes
  if rdN s 0x2100 0x80 != 3 && rdN t 0x2100 0x80 == 3 then requestsFailed t else t

/-- A measurement; requests that wait are answered as an orderly stop begins (R405, R411, R466). -/
def thermal (s : State) (temps : List Int) (finishes : Bool) : State :=
  let t := thermalMeasure s temps finishes
  if s.th.stopAt.isNone && t.th.stopAt.isSome then requestsFailed t else t

/-- A frame is discarded with its result, where the cause holds (R323); before boot-up every frame gets result 4 (R332). -/
def hostBad (s : State) (result tag : Nat) : State :=
  if !booted s then hostDiscard s 4 else
  match result with
  | 4 => s
  | 5 => if (Tab.find s.host.tags tag).isSome then hostDiscard s 5 else s
  | r => hostDiscard s r

end Sys2Proof.Machine
end

