-- ==== Sys2Proof/Machine/ExecCan.lean ====
section
/-! DEFINITION. The meanings of the commands of the CAN controllers. -/
namespace Sys2Proof.Machine
open Sys2Proof Sys2Proof.OD

/-- FRAME_RECEIVED. A frame becomes valid, `back` ticks after its start-of-frame edge at CLK_CAN cycle `cycle`; `opened`: the
buffer's reader opens it right after (R272). -/
def execFrameReceived (x : Nat) (f : Frame) (start : FrameStart) (opened : Bool) (s : State) : Host.Outcome State Fault Refusal :=
  done s (act s fun s => frameReceived s x f start.back start.cycle opened)

/-- BUFFER_RELEASE. A reader releases a buffer, or the oldest frame of the FIFO for 64 (R274). -/
def execBufferRelease (x : Nat) (n : Nat) (s : State) : Host.Outcome State Fault Refusal :=
  done s (act s fun s => bufferRelease s x n)

/-- FILTER_TABLE_SWITCH. The new allocation takes over at bus idle (R273). -/
def execFilterTableSwitch (x : Nat) (filters : List Filter) (s : State) : Host.Outcome State Fault Refusal :=
  done s (act s fun s => filterSwitch s x filters)

/-- FRAME_SUBMITTED. A frame is queued (R280). -/
def execFrameSubmitted (x : Nat) (f : Frame) (pdo : Bool) (s : State) : Host.Outcome State Fault Refusal :=
  done s (act s fun s => submit s x f pdo)

/-- FRAME_TRANSMITTED. The frame that wins arbitration is sent, with its loop delay and its start-of-frame edge (R270, R277). -/
def execFrameTransmitted (x : Nat) (sent : FrameSent) (s : State) : Host.Outcome State Fault Refusal :=
  done s (act s fun s => arbitrationWon s x sent.delay sent.start.back sent.start.cycle)

/-- CAN_ERROR. An error as transmitter or receiver, of a kind, in the data phase or not, counted by eight or by one (R284). -/
def execCanError (x : Nat) (tx : Bool) (kind : Nat) (dataPhase : Bool) (count : ErrorCount) (s : State) :
    Host.Outcome State Fault Refusal :=
  done s (act s fun s =>
    let s := canError (if tx then sentDelay s x count.delay else s) x tx kind dataPhase count.eight
    if x ≤ 1 then usdoBusError s x else s)

/-- BUS_OFF_HOLDOFF_EXPIRED. The hold-off ends (R285). -/
def execBusOffHoldoffExpired (x : Nat) (s : State) : Host.Outcome State Fault Refusal :=
  done s (act s fun s => holdoffExpired s x)

/-- START_RECOVERY. 0x2800+x:11 = 1 (R285). -/
def execStartRecovery (client : Nat) (x : Nat) (off : Nat) (s : State) : Host.Outcome State Fault Refusal :=
  done s (put s client (0x2800 + x) (0x11) (leBytes 1 1) off)

/-- RECOVERY_COMPLETE. 128 recessive sequences (R285). -/
def execRecoveryComplete (x : Nat) (s : State) : Host.Outcome State Fault Refusal :=
  done s (act s fun s => recoveryComplete s x)

/-- SOLITARY_RETRY. One single-shot attempt (R286). -/
def execSolitaryRetry (x : Nat) (attempt : Attempt) (s : State) : Host.Outcome State Fault Refusal :=
  done s (act s fun s => solitaryRetry s x attempt.acked attempt.sent.delay attempt.sent.start.back attempt.sent.start.cycle)

/-- CAN_MODE_CHANGE. The bus is idle (R283). -/
def execCanModeChange (x : Nat) (s : State) : Host.Outcome State Fault Refusal :=
  done s (act s fun s => modeChange s x)

/-- CAN_MODE_REQUEST. 0x2800+x:0C (R282). -/
def execCanModeRequest (client : Nat) (x : Nat) (mode : Nat) (off : Nat) (s : State) : Host.Outcome State Fault Refusal :=
  done s (put s client (0x2800 + x) (0x0C) (leBytes 1 mode) off)

/-- BUS_INTEGRATION_COMPLETE. 11 recessive bits (R289). -/
def execBusIntegrationComplete (x : Nat) (s : State) : Host.Outcome State Fault Refusal :=
  done s (act s fun s => integrationComplete s x)

end Sys2Proof.Machine
end

