-- ==== Sys2Proof/Machine/ExecDictionary.lean ====
section
/-! DEFINITION. The meanings of the commands of dictionary, calendar, staging and write groups. -/
namespace Sys2Proof.Machine
open Sys2Proof Sys2Proof.OD

/-- CALENDAR_FIELD_WRITE. A staged field, year to minute (R368). -/
def execCalendarFieldWrite (client : Nat) (sub : Nat) (value : Nat) (off : Nat) (s : State) : Host.Outcome State Fault Refusal :=
  done s (put s client (0x2300) (sub) (leBytes (if sub == 1 then 2 else 1) value) off)

/-- CALENDAR_COMMIT. The second, which sets the calendar (R369). -/
def execCalendarCommit (client : Nat) (value : Nat) (off : Nat) (s : State) : Host.Outcome State Fault Refusal :=
  done s (put s client (0x2300) (6) (leBytes 1 value) off)

/-- CALENDAR_STAGE_TIMEOUT. Ten seconds without a staged field (R368). -/
def execCalendarStageTimeout (client : Nat) (s : State) : Host.Outcome State Fault Refusal :=
  done s (up s fun s => stageTimeout s client)

/-- CALENDAR_READ. A read of a calendar field (R366). -/
def execCalendarRead (client : Nat) (sub : Nat) (s : State) : Host.Outcome State Fault Refusal :=
  done s (up s fun s => readAnswer s client 0x2300 sub)

/-- CALENDAR_SHADOW_TIMEOUT. 500 ms after the freeze (R366). -/
def execCalendarShadowTimeout (client : Nat) (s : State) : Host.Outcome State Fault Refusal :=
  done s (up s fun s => shadowTimeout s client)

/-- ADJUSTMENT_REQUEST. An adjustment by `ms` (R370). -/
def execAdjustmentRequest (client : Nat) (ms : Int) (off : Nat) (s : State) : Host.Outcome State Fault Refusal :=
  done s (put s client (0x2300) (0x0B) (leBytes 4 (unsignedOf 4 ms)) off)

/-- ALARM_WRITE. An alarm's mode or time (R375). -/
def execAlarmWrite (client : Nat) (a : Nat) (sub : Nat) (data : List Byte) (off : Nat) (s : State) : Host.Outcome State Fault Refusal :=
  done s (put s client (0x2310 + a) (sub) (data) off)

/-- DICTIONARY_WRITE. A write to any sub-index (R42 to R50). -/
def execDictionaryWrite (client : Nat) (idx : Nat) (sub : Nat) (data : List Byte) (off : Nat) (s : State) : Host.Outcome State Fault Refusal :=
  done s (put s client (idx) (sub) (data) off)

/-- STRUCTURAL_WRITE. A write to a structural sub-index (R51). -/
def execStructuralWrite (client : Nat) (idx : Nat) (sub : Nat) (data : List Byte) (off : Nat) (s : State) : Host.Outcome State Fault Refusal :=
  done s (put s client (idx) (sub) (data) off)

/-- CONFIGURATION_COMMIT. 0x2000:10 = 1 (R52). -/
def execConfigurationCommit (client : Nat) (off : Nat) (s : State) : Host.Outcome State Fault Refusal :=
  done s (put s client (0x2000) (0x10) (leBytes 1 1) off)

/-- COMMIT_TICK. The commit tick is the one to come (R53); where a reset or an NMT change of state is due at it too, that comes first
(R9), and BASE_TICK makes both in their order. -/
def execCommitTick (s : State) : Host.Outcome State Fault Refusal :=
  done s (act s fun s => if commitNext s && !controlDue s then atTick s (s.now + 1) commitTick else s)

/-- DISCARD_STAGING. 0x2000:10 = 2 (R51). -/
def execDiscardStaging (client : Nat) (off : Nat) (s : State) : Host.Outcome State Fault Refusal :=
  done s (put s client (0x2000) (0x10) (leBytes 1 2) off)

/-- OPEN_WRITE_GROUP. 0x2000:17 = 1 (R54). -/
def execOpenWriteGroup (client : Nat) (off : Nat) (s : State) : Host.Outcome State Fault Refusal :=
  done s (put s client (0x2000) (0x17) (leBytes 1 1) off)

/-- APPLY_WRITE_GROUP. 0x2000:17 = 2 (R56). -/
def execApplyWriteGroup (client : Nat) (off : Nat) (s : State) : Host.Outcome State Fault Refusal :=
  done s (put s client (0x2000) (0x17) (leBytes 1 2) off)

/-- DISCARD_WRITE_GROUP. 0x2000:17 = 3 (R56). -/
def execDiscardWriteGroup (client : Nat) (off : Nat) (s : State) : Host.Outcome State Fault Refusal :=
  done s (put s client (0x2000) (0x17) (leBytes 1 3) off)

/-- WRITE_GROUP_TIMEOUT. Ten seconds without a write of the group (R56). -/
def execWriteGroupTimeout (client : Nat) (s : State) : Host.Outcome State Fault Refusal :=
  done s (up s fun s => groupTimeout s client)

/-- CLEAR_PENNANTS. A write to 0x2700:11+j (R452). -/
def execClearPennants (client : Nat) (j : Nat) (mask : Nat) (off : Nat) (s : State) : Host.Outcome State Fault Refusal :=
  done s (put s client (0x2700) (0x11 + j) (leBytes 4 mask) off)

end Sys2Proof.Machine
end

