-- ==== Sys2Proof/Machine/Crc.lean ====
section
/-! DEFINITION. The CRC-32 of the store, of hoists and of halyard frames, and the checks that use it (R340, R345, R417, R418). -/
namespace Sys2Proof.Machine
open Sys2Proof Sys2Proof.OD

/-- One bit of the IEEE 802.3 CRC: polynomial 0x04C11DB7, reflected (R417). -/
def crc32Bit (c : Nat) : Nat := if c % 2 == 1 then Nat.xor (c / 2) 0xEDB88320 else c / 2

/-- One byte, least significant bit first (R417). -/
def crc32Byte (c : Nat) (b : Byte) : Nat := (List.range 8).foldl (fun c _ => crc32Bit c) (Nat.xor c b.toNat)

/-- The CRC-32 of bytes, with its initial value and final XOR of 0xFFFFFFFF (R417). -/
def crc32 (l : List Byte) : Nat := Nat.xor (l.foldl crc32Byte 0xFFFFFFFF) 0xFFFFFFFF

/-- A halyard frame arrives good (R340). -/
def frameCrcOk (f : HalyardFrame) : Bool := crc32 f.raw == f.crc

/-- The trailer of a hoist, its last 64 bytes, holds the CRC of what stands before it (R344, R345). -/
def trailerOk (image : List Byte) : Bool :=
  let n := image.length - 64
  crc32 (image.take n) == leNat ((image.drop n).take 4)

/-- Both CRCs of a bank that has been read back check: of the header's bytes 0 to 27, and of the payload (R416, R418 step 5). -/
def bankCrcsOk (header payload : List Byte) : Bool :=
  crc32 (header.take 28) == leNat ((header.drop 28).take 4) && crc32 payload == leNat ((header.drop 12).take 4)

end Sys2Proof.Machine
end

