-- ==== Sys2Proof/Machine/ExecDuplex.lean ====
section
/-! DEFINITION. The meanings of the commands of the duplex pair and the witness. -/
namespace Sys2Proof.Machine
open Sys2Proof Sys2Proof.OD

/-- HALYARD_LINK_UP. The receiver locks (R340). -/
def execHalyardLinkUp (s : State) : Host.Outcome State Fault Refusal :=
  done s (act s fun s => linkUpEvent s)

/-- HALYARD_LINK_DOWN. The link goes down (R340). -/
def execHalyardLinkDown (s : State) : Host.Outcome State Fault Refusal :=
  done s (act s fun s => linkDownEvent s)

/-- TICK_FRAME_RECEIVED. Count and output mirror; `aligned`: the own tick meets the partner's (R341). -/
def execTickFrameReceived (count : Nat) (duties : List Nat) (sps : List Int) (aligned : Bool) (frame : HalyardFrame) (s : State) : Host.Outcome State Fault Refusal :=
  done s (act s fun s => tickFrame s count duties sps aligned (frameCrcOk frame))

/-- MIRROR_ITEM_RECEIVED. A mirror item with its sequence number (R342). -/
def execMirrorItemReceived (seq : Nat) (m : MirrorItem) (frame : HalyardFrame) (s : State) : Host.Outcome State Fault Refusal :=
  done s (act s fun s => storeHash s (mirrorReceived s seq m (frameCrcOk frame)))

/-- MIRROR_ACK_TIMEOUT. No acknowledgement within 1 ms (R342). -/
def execMirrorAckTimeout (s : State) : Host.Outcome State Fault Refusal :=
  done s (act s fun s => mirrorAckTimeout s)

/-- LOG_FRAME_RECEIVED. The partner's log entry (R337). -/
def execLogFrameReceived (e : LogEntry) (frame : HalyardFrame) (s : State) : Host.Outcome State Fault Refusal :=
  done s (act s fun s => logFrame s e (frameCrcOk frame))

/-- CONTROL_JOIN. The joining unit's configuration hash, timetable version and store serials (R357). -/
def execControlJoin (hash : List Byte) (version : Nat) (serials : List Nat) (s : State) : Host.Outcome State Fault Refusal :=
  done s (act s fun s => controlJoin s hash version serials)

/-- HOIST_CAPTURE. The transfer of this tick's snapshot starts (R343). -/
def execHoistCapture (s : State) : Host.Outcome State Fault Refusal :=
  done s (act s fun s => hoistCapture s)

/-- HOIST_SEGMENT_RECEIVED. A segment; with the last one the complete hoist and its bytes (R344, R345). -/
def execHoistSegmentReceived (hoist : Option (Hoist × List Byte)) (frame : HalyardFrame) (s : State) : Host.Outcome State Fault Refusal :=
  done s (act s fun s => hoistSegment s (hoist.map (·.1)) (trailerOk ((hoist.map (·.2)).getD [])) (frameCrcOk frame))

/-- HOIST_ACK_TIMEOUT. No acknowledgement by h + 20 ms (R343). -/
def execHoistAckTimeout (s : State) : Host.Outcome State Fault Refusal :=
  done s (act s fun s => hoistAckTimeout s)

/-- HEALTH_FRAME_SEND. The HEALTH frame of every 10 ms (R347). -/
def execHealthFrameSend (s : State) : Host.Outcome State Fault Refusal :=
  done s (act s fun s => healthSend s)

/-- HEALTH_FRAME_RECEIVED. A HEALTH frame (R348). -/
def execHealthFrameReceived (h : Health) (s : State) : Host.Outcome State Fault Refusal :=
  done s (act s fun s => healthReceived s h)

/-- BEACON_RECEIVED. A BEACON (R348). -/
def execBeaconReceived (s : State) : Host.Outcome State Fault Refusal :=
  done s (act s fun s => beaconReceived s)

/-- BEACON_TIMEOUT. No BEACON for the timeout (R348). -/
def execBeaconTimeout (s : State) : Host.Outcome State Fault Refusal :=
  done s (act s fun s => beaconTimeout s)

/-- ORDER_GRANT. GRANT with order number and epoch (R348). -/
def execOrderGrant (unit : Nat) (num : Nat) (e : Nat) (s : State) : Host.Outcome State Fault Refusal :=
  done s (act s fun s => orderGrant s unit num e)

/-- ORDER_REVOKE. REVOKE with order number and epoch (R348). -/
def execOrderRevoke (unit : Nat) (num : Nat) (e : Nat) (s : State) : Host.Outcome State Fault Refusal :=
  done s (act s fun s => orderRevoke s unit num e)

/-- ORDER_SWAP. SWAP to a unit with window w (R353). -/
def execOrderSwap (unit : Nat) (num : Nat) (w : Nat) (urgent : Bool) (off : Nat) (s : State) : Host.Outcome State Fault Refusal :=
  done s (act s fun s => orderSwap s unit num w off urgent)

/-- ORDER_RESYNC. RESYNC (R357). -/
def execOrderResync (unit : Nat) (num : Nat) (s : State) : Host.Outcome State Fault Refusal :=
  done s (act s fun s => orderResync s unit num)

/-- REPORT_RECEIVED. A REPORT (R349). -/
def execReportReceived (r : Report) (off : Nat) (s : State) : Host.Outcome State Fault Refusal :=
  done s (act s fun s => reportReceived s r off)

/-- ARM_TIMEOUT. ENSIGN_IN not asserted within 5 ms (R348). -/
def execArmTimeout (s : State) : Host.Outcome State Fault Refusal :=
  done s (act s fun s => armTimeout s)

/-- ENSIGN_IN_ASSERTED. The pin is asserted (R348). -/
def execEnsignInAsserted (s : State) : Host.Outcome State Fault Refusal :=
  done s (if alive s then ensignAsserted s else { s with ensignIn := true })

/-- ENSIGN_IN_DEASSERTED. The pin is deasserted (R339). -/
def execEnsignInDeasserted (s : State) : Host.Outcome State Fault Refusal :=
  done s (if alive s then ensignDeasserted s else { s with ensignIn := false })

/-- TAKEOVER_LOADED. The units are awake and the hoist is loaded (R352). -/
def execTakeoverLoaded (s : State) : Host.Outcome State Fault Refusal :=
  done s (act s fun s => takeoverLoaded s)

/-- SWALLOWTAIL_START. h' (R353). -/
def execSwallowtailStart (s : State) : Host.Outcome State Fault Refusal :=
  done s (act s fun s => swallowtailStart s)

/-- SWALLOWTAIL_END. e (R353). -/
def execSwallowtailEnd (s : State) : Host.Outcome State Fault Refusal :=
  done s (act s fun s => swallowtailEnd s)

/-- WITHDRAWN_TIMEOUT. No REPORT withdrawn within 20 ms of e (R354). -/
def execWithdrawnTimeout (off : Nat) (s : State) : Host.Outcome State Fault Refusal :=
  done s (act s fun s => withdrawnTimeout s off)

/-- UNIT_FAILED. No HEALTH_OUT edge for 3.0 ms (R349). -/
def execUnitFailed (u : Nat) (off : Nat) (s : State) : Host.Outcome State Fault Refusal :=
  done s (act s fun s => unitFailed s u off)

/-- KILL_HOLD_EXPIRED. The kill hold time has passed (R349). -/
def execKillHoldExpired (u : Nat) (s : State) : Host.Outcome State Fault Refusal :=
  done s (act s fun s => killHoldExpired s u)

/-- COLD_START_WAIT. The witness looks for a unit to grant (R356). -/
def execColdStartWait (off : Nat) (s : State) : Host.Outcome State Fault Refusal :=
  done s (act s fun s => coldStart s off)

/-- REQUEST_SWAP. 0x2500:10 = 1 (R360). -/
def execRequestSwap (client : Nat) (off : Nat) (s : State) : Host.Outcome State Fault Refusal :=
  done s (put s client (0x2500) (0x10) (leBytes 1 1) off)

/-- REQUEST_RESYNC. 0x2500:10 = 2 (R357). -/
def execRequestResync (client : Nat) (off : Nat) (s : State) : Host.Outcome State Fault Refusal :=
  done s (put s client (0x2500) (0x10) (leBytes 1 2) off)

/-- WITNESS_ORDER_SWAP. 0x2500:10 = 3 (R360). -/
def execWitnessOrderSwap (client : Nat) (off : Nat) (s : State) : Host.Outcome State Fault Refusal :=
  done s (put s client (0x2500) (0x10) (leBytes 1 3) off)

/-- RELEASE_KILL_LATCHES. 0x2500:10 = 4 (R349). -/
def execReleaseKillLatches (client : Nat) (off : Nat) (s : State) : Host.Outcome State Fault Refusal :=
  done s (put s client (0x2500) (0x10) (leBytes 1 4) off)

/-- BEACON_SEND. The BEACON of every 10 ms (R347). -/
def execBeaconSend (off : Nat) (s : State) : Host.Outcome State Fault Refusal :=
  done s (act s fun s => beaconSend s off)

/-- CONTROL_ACKNOWLEDGEMENT. Hoist n, or the mirror items up to n (R342, R343). -/
def execControlAcknowledgement (hoist : Bool) (n : Nat) (s : State) : Host.Outcome State Fault Refusal :=
  done s (act s fun s => (if hoist then hoistAcked s n else mirrorAcked s n))

/-- NO_VALID_HOIST. No valid hoist within P + 20 ms (R360). -/
def execNoValidHoist (s : State) : Host.Outcome State Fault Refusal :=
  done s (act s fun s => noValidHoist s)

end Sys2Proof.Machine
end

