-- ==== Sys2Proof/Machine/ExecFirmware.lean ====
section
/-! DEFINITION. The meanings of the commands of firmware update. -/
namespace Sys2Proof.Machine
open Sys2Proof Sys2Proof.OD

/-- IMAGE_HEADER. A firmware header (R426). -/
def execImageHeader (client : Nat) (data : List Byte) (off : Nat) (s : State) : Host.Outcome State Fault Refusal :=
  done s (put s client (0x2400) (0x20) (data) off)

/-- IMAGE_BLOCK. A block with its number (R427). -/
def execImageBlock (client : Nat) (data : List Byte) (off : Nat) (s : State) : Host.Outcome State Fault Refusal :=
  done s (put s client (0x2400) (0x21) (data) off)

/-- FIRMWARE_COMMIT. 0x2400:10 = 1 (R429). -/
def execFirmwareCommit (client : Nat) (off : Nat) (s : State) : Host.Outcome State Fault Refusal :=
  done s (put s client (0x2400) (0x10) (leBytes 1 1) off)

/-- FIRMWARE_CLOSE. 0x2400:10 = 2 (R429). -/
def execFirmwareClose (client : Nat) (off : Nat) (s : State) : Host.Outcome State Fault Refusal :=
  done s (put s client (0x2400) (0x10) (leBytes 1 2) off)

/-- FIRMWARE_CONFIRM. 0x2400:10 = 3 (R431). -/
def execFirmwareConfirm (client : Nat) (off : Nat) (s : State) : Host.Outcome State Fault Refusal :=
  done s (put s client (0x2400) (0x10) (leBytes 1 3) off)

/-- SELECT_OTHER_IMAGE. 0x2400:10 = 4 (R431). -/
def execSelectOtherImage (client : Nat) (off : Nat) (s : State) : Host.Outcome State Fault Refusal :=
  done s (put s client (0x2400) (0x10) (leBytes 1 4) off)

/-- RESTART_COMMAND. 0x2400:11 (R430). -/
def execRestartCommand (client : Nat) (unit : Nat) (off : Nat) (s : State) : Host.Outcome State Fault Refusal :=
  done s (put s client (0x2400) (0x11) (leBytes 1 unit) off)

/-- FIRMWARE_BLOCK_VERIFIED. The block is programmed and read back; `fault`: code flash failed (R427). -/
def execFirmwareBlockVerified (fault : Bool) (s : State) : Host.Outcome State Fault Refusal :=
  done s (act s fun s => blockVerified s fault)

/-- COMMIT_VERIFICATION_DONE. Blocks whose hash differs, and whether the signature is good (R429). -/
def execCommitVerificationDone (bad : List Nat) (sigOk : Bool) (s : State) : Host.Outcome State Fault Refusal :=
  done s (act s fun s => commitVerified s bad sigOk)

end Sys2Proof.Machine
end

