-- ==== Sys2Proof/Machine/ExecHost.lean ====
section
/-! DEFINITION. The meanings of the commands of the host port. -/
namespace Sys2Proof.Machine
open Sys2Proof Sys2Proof.OD

/-- HOST_NOP. A transaction whose frame has no effect (R323, R324); `mode3`: the SPI mode of every transaction. -/
def execHostNop (mode3 : Bool) (s : State) : Host.Outcome State Fault Refusal :=
  done s (act s fun s => transaction s mode3 hostNop)

/-- HOST_READ. READ (R326). -/
def execHostRead (mode3 : Bool) (tag : Nat) (idx : Nat) (sub : Nat) (payload : List Byte) (off : Nat) (s : State) : Host.Outcome State Fault Refusal :=
  done s (act s fun s => transaction s mode3 fun s => hostAsk s tag idx sub payload.isEmpty (.read idx sub) off)

/-- HOST_WRITE. WRITE (R326). -/
def execHostWrite (mode3 : Bool) (tag : Nat) (idx : Nat) (sub : Nat) (payload : List Byte) (off : Nat) (s : State) : Host.Outcome State Fault Refusal :=
  done s (act s fun s => transaction s mode3 fun s => storeHash s (hostAsk s tag idx sub (within payload.length 1 4096) (.write idx sub payload) off))

/-- READ_RECORD. READ_RECORD (R327). -/
def execReadRecord (mode3 : Bool) (tag : Nat) (idx : Nat) (sub : Nat) (payload : List Byte) (off : Nat) (s : State) : Host.Outcome State Fault Refusal :=
  done s (act s fun s => transaction s mode3 fun s => hostAsk s tag idx sub (sub == 0 && payload.isEmpty) (.readRecord idx) off)

/-- WRITE_RECORD. WRITE_RECORD (R327). -/
def execWriteRecord (mode3 : Bool) (tag : Nat) (idx : Nat) (sub : Nat) (payload : List Byte) (off : Nat) (s : State) : Host.Outcome State Fault Refusal :=
  done s (act s fun s => transaction s mode3 fun s => storeHash s (hostAsk s tag idx sub (sub == 0) (.writeRecord idx payload) off))

/-- SEG_WRITE. A segment of a long write (R328). -/
def execSegWrite (mode3 : Bool) (tag : Nat) (idx : Nat) (sub : Nat) (payload : List Byte) (off : Nat) (s : State) : Host.Outcome State Fault Refusal :=
  done s (act s fun s => transaction s mode3 fun s => storeHash s (segWrite s tag idx sub payload off))

/-- SEG_WRITE_GAP_TIMEOUT. The gap between segments is too long (R328). -/
def execSegWriteGapTimeout (s : State) : Host.Outcome State Fault Refusal :=
  done s (act s fun s => segGapTimeout s)

/-- BULK_READ. BULK_READ of offset and count (R328). -/
def execBulkRead (mode3 : Bool) (tag : Nat) (idx : Nat) (sub : Nat) (payload : List Byte) (off : Nat) (s : State) : Host.Outcome State Fault Refusal :=
  done s (act s fun s => transaction s mode3 fun s => hostAsk s tag idx sub (payload.length == 6 && within (leNat (payload.drop 4)) 1 4096) (.bulk idx sub (leNat (payload.take 4)) (leNat (payload.drop 4))) off)

/-- BULK_COPY_TIMEOUT. Ten seconds without a BULK_READ (R328). -/
def execBulkCopyTimeout (s : State) : Host.Outcome State Fault Refusal :=
  done s (act s fun s => bulkTimeout s)

/-- FETCH. FETCH (R326). -/
def execFetch (mode3 : Bool) (tag : Nat) (s : State) : Host.Outcome State Fault Refusal :=
  done s (act s fun s => transaction s mode3 fun s => hostInline s fun s => fetch s tag)

/-- RELEASE. RELEASE (R325). -/
def execRelease (mode3 : Bool) (tag : Nat) (s : State) : Host.Outcome State Fault Refusal :=
  done s (act s fun s => transaction s mode3 fun s => hostInline s fun s => releaseTag s tag)

/-- PI_READ. PI_READ; `updates`: page data that arrives while the pages are sent, by the number of pages sent before it; `ecc`: pages with an uncorrectable error (R330). -/
def execPiRead (mode3 : Bool) (first : Nat) (count : Nat) (updates : List (Nat × Nat × List Byte)) (ecc : List Nat) (s : State) : Host.Outcome State Fault Refusal :=
  done s (act s fun s => transaction s mode3 fun s => piRead s first count updates ecc)

/-- PROCESS_PAGE_UPDATE. The oldest page data that waits (R329). -/
def execProcessPageUpdate (s : State) : Host.Outcome State Fault Refusal :=
  done s (act s fun s => processPageUpdate s)

/-- ACK_IRQ. ACK_IRQ (R331). -/
def execAckIrq (mode3 : Bool) (mask : Nat) (s : State) : Host.Outcome State Fault Refusal :=
  done s (act s fun s => transaction s mode3 fun s => hostInline s fun s => ackIrq s mask)

/-- HOST_FRAME_DISCARD. A frame that is discarded with a result (R323). -/
def execHostFrameDiscard (mode3 : Bool) (result : Nat) (tag : Nat) (s : State) : Host.Outcome State Fault Refusal :=
  done s (act s fun s => transaction s mode3 fun s => hostBad s result tag)

end Sys2Proof.Machine
end

