-- ==== Sys2Proof/Machine/ExecLoops.lean ====
section
/-! DEFINITION. The meanings of the commands of the loop engine and the trace. -/
namespace Sys2Proof.Machine
open Sys2Proof Sys2Proof.OD

/-- SWAP_REQUEST. A bank swap is asked for (R179). -/
def execSwapRequest (client : Nat) (n : Nat) (off : Nat) (s : State) : Host.Outcome State Fault Refusal :=
  done s (put s client (0x3400 + n) (0x84) (leBytes 1 1) off)

/-- SWAP_TICK. The swap tick of a loop is the one to come (R180); a reset, an NMT change of state or a commit due at it comes first
(R9, R53), and BASE_TICK makes them in their order. -/
def execSwapTick (n : Nat) (s : State) : Host.Outcome State Fault Refusal :=
  done s (runs s fun s => if evaluates s && !controlDue s && !commitNext s then atTick s (s.now + 1) fun s => swapAt s n s.now s.tick else s)

/-- CLEAR_LANE_FAULT. A faulted loop is restarted (R171). -/
def execClearLaneFault (client : Nat) (n : Nat) (off : Nat) (s : State) : Host.Outcome State Fault Refusal :=
  done s (put s client (0x3400 + n) (0x85) (leBytes 1 1) off)

/-- LOOP_MODE_CHANGE. A mode for the loop's next boundary (R185). -/
def execLoopModeChange (client : Nat) (n : Nat) (mode : Nat) (off : Nat) (s : State) : Host.Outcome State Fault Refusal :=
  done s (put s client (0x3400 + n) (0x81) (leBytes 1 mode) off)

/-- TRACE_ARM. Trace command 1 (R190). -/
def execTraceArm (client : Nat) (off : Nat) (s : State) : Host.Outcome State Fault Refusal :=
  done s (put s client (0x3E00) (0x10) (leBytes 1 1) off)

/-- TRACE_FORCE_TRIGGER. Trace command 2 (R190). -/
def execTraceForceTrigger (client : Nat) (off : Nat) (s : State) : Host.Outcome State Fault Refusal :=
  done s (put s client (0x3E00) (0x10) (leBytes 1 2) off)

/-- TRACE_STOP. Trace command 3 (R190). -/
def execTraceStop (client : Nat) (off : Nat) (s : State) : Host.Outcome State Fault Refusal :=
  done s (put s client (0x3E00) (0x10) (leBytes 1 3) off)

end Sys2Proof.Machine
end

