-- ==== Sys2Proof/Machine/ExecMeasure.lean ====
section
/-! DEFINITION. The meanings of the commands of measurement and calibration. -/
namespace Sys2Proof.Machine
open Sys2Proof Sys2Proof.OD

/-- CALIBRATION_WINDOW_START. `spCoef`: offset and gain by range that SP's own calibration would give (R88 to R90). -/
def execCalibrationWindowStart (spCoef : List (Real32 × Real32)) (s : State) : Host.Outcome State Fault Refusal :=
  done s (runs s fun s => calWindowStart s spCoef)

/-- CALIBRATION_RECONNECT. `coef`: what the calibration of the slice gave, by range (R89). -/
def execCalibrationReconnect (coef : List (Real32 × Real32)) (s : State) : Host.Outcome State Fault Refusal :=
  done s (runs s fun s => calReconnect s coef)

/-- CALIBRATION_WINDOW_END. The slice takes its inputs back, or the failure handling follows (R89, R90). -/
def execCalibrationWindowEnd (s : State) : Host.Outcome State Fault Refusal :=
  done s (runs s fun s => calWindowEnd s)

/-- SPARE_SELF_CALIBRATION. `coef`: what the calibration of SP gives, by range (R88). -/
def execSpareSelfCalibration (coef : List (Real32 × Real32)) (s : State) : Host.Outcome State Fault Refusal :=
  done s (runs s fun s => spareCal s coef)

/-- INJECTION_DETECTED. A clamp detector of a channel becomes active or inactive; `strong`: above 1 mA (R83, R84). -/
def execInjectionDetected (ch : Nat) (above : Bool) (below : Bool) (strong : Bool) (on : Bool) (off : Nat) (s : State) : Host.Outcome State Fault Refusal :=
  done s (runs s fun s => injection s ch above below strong on off)

end Sys2Proof.Machine
end

