-- ==== Sys2Proof/Machine/ExecNetwork.lean ====
section
/-! DEFINITION. The meanings of the commands of the network services. -/
namespace Sys2Proof.Machine
open Sys2Proof Sys2Proof.OD

/-- NMT_START. NMT command 0x01 for a node, or 0 for all (R296). -/
def execNmtStart (node : Nat) (off : Nat) (s : State) : Host.Outcome State Fault Refusal :=
  done s (act s fun s => nmtCommand s 0x01 node off)

/-- NMT_STOP. NMT command 0x02 for a node, or 0 for all (R296). -/
def execNmtStop (node : Nat) (off : Nat) (s : State) : Host.Outcome State Fault Refusal :=
  done s (act s fun s => nmtCommand s 0x02 node off)

/-- NMT_ENTER_PRE_OPERATIONAL. NMT command 0x80 for a node, or 0 for all (R296). -/
def execNmtEnterPreOperational (node : Nat) (off : Nat) (s : State) : Host.Outcome State Fault Refusal :=
  done s (act s fun s => nmtCommand s 0x80 node off)

/-- NMT_RESET_APPLICATION. NMT command 0x81 for a node, or 0 for all (R296). -/
def execNmtResetApplication (node : Nat) (off : Nat) (s : State) : Host.Outcome State Fault Refusal :=
  done s (act s fun s => nmtCommand s 0x81 node off)

/-- NMT_RESET_COMMUNICATION. NMT command 0x82 for a node, or 0 for all (R296). -/
def execNmtResetCommunication (node : Nat) (off : Nat) (s : State) : Host.Outcome State Fault Refusal :=
  done s (act s fun s => nmtCommand s 0x82 node off)

/-- RPDO_RECEIVED. RPDO n arrives (R302). -/
def execRpdoReceived (n : Nat) (data : List Byte) (off : Nat) (s : State) : Host.Outcome State Fault Refusal :=
  done s (act s fun s => rpdoReceived s n data off)

/-- RPDO_TIMEOUT. The event timer of RPDO n (R302). -/
def execRpdoTimeout (n : Nat) (s : State) : Host.Outcome State Fault Refusal :=
  done s (act s fun s => rpdoTimeout s n)

/-- REMOTE_SLOT_TIMEOUT. The timeout of a remote signal slot (R303). -/
def execRemoteSlotTimeout (n : Nat) (s : State) : Host.Outcome State Fault Refusal :=
  done s (act s fun s => slotTimeout s n)

/-- SYNC_RECEIVED. A SYNC with its counter, if it carries one (R312). -/
def execSyncReceived (ctr : Option Nat) (off : Nat) (s : State) : Host.Outcome State Fault Refusal :=
  done s (act s fun s => syncReceived s ctr off)

/-- TIME_RECEIVED. A TIME frame, as ms since 2000-01-01 (R313). -/
def execTimeReceived (ms : Int) (s : State) : Host.Outcome State Fault Refusal :=
  done s (act s fun s => if booted s then timeFrame s ms else s)

/-- TPDO_ASSEMBLY. TPDO n is assembled at the present tick (R301). -/
def execTpdoAssembly (n : Nat) (s : State) : Host.Outcome State Fault Refusal :=
  done s (act s fun s => tpdoAssembly s n)

/-- HEARTBEAT_PRODUCE. The heartbeat falls due (R311). -/
def execHeartbeatProduce (s : State) : Host.Outcome State Fault Refusal :=
  done s (act s fun s => heartbeatProduce s)

/-- HEARTBEAT_RECEIVED. Node k's heartbeat, on the building pair or the field bus (R311). -/
def execHeartbeatReceived (field : Bool) (k : Nat) (st : Nat) (s : State) : Host.Outcome State Fault Refusal :=
  done s (act s fun s => heartbeatReceived s field k st)

/-- HEARTBEAT_CONSUMER_TIMEOUT. The time of an entry of 0x1016 (R311). -/
def execHeartbeatConsumerTimeout (entry : Nat) (s : State) : Host.Outcome State Fault Refusal :=
  done s (act s fun s => heartbeatTimeout s entry)

/-- EMCY_SEND. The oldest EMCY is sent (R309). -/
def execEmcySend (s : State) : Host.Outcome State Fault Refusal :=
  done s (act s fun s => emcySend s)

/-- USDO_REQUEST. A node's request (R306). -/
def execUsdoRequest (client : Nat) (op : UsdoOp) (off : Nat) (s : State) : Host.Outcome State Fault Refusal :=
  done s (act s fun s => storeHash s (usdoRequest s client op off))

/-- USDO_SEGMENT_TIMEOUT. A segmented transfer is idle (R308). -/
def execUsdoSegmentTimeout (client : Nat) (s : State) : Host.Outcome State Fault Refusal :=
  done s (act s fun s => usdoSegmentTimeout s client)

/-- FIELD_NODE_BOOT. 200 ms after boot-up (R314). -/
def execFieldNodeBoot (s : State) : Host.Outcome State Fault Refusal :=
  done s (act s fun s => fieldNodeBoot s)

/-- FIELD_NODE_BOOT_UP. Node k's boot-up, and its answers to the transfers that follow (R314). -/
def execFieldNodeBootUp (k : Nat) (resp : NodeResp) (s : State) : Host.Outcome State Fault Refusal :=
  done s (act s fun s => fieldNodeBootUp s k resp)

/-- FIELD_NODE_BOOT_TIMEOUT. Node k is not checked within the boot time (R314). -/
def execFieldNodeBootTimeout (k : Nat) (s : State) : Host.Outcome State Fault Refusal :=
  done s (act s fun s => fieldNodeBootTimeout s k)

/-- FIELD_NODE_LOST. Node k's heartbeat times out, or its boot-up comes unexpectedly (R315). -/
def execFieldNodeLost (k : Nat) (bootUp : Bool) (s : State) : Host.Outcome State Fault Refusal :=
  done s (act s fun s => fieldNodeLost s k bootUp)

/-- FIELD_NODE_RETRY. The steps are repeated for a lost node (R315). -/
def execFieldNodeRetry (k : Nat) (resp : NodeResp) (s : State) : Host.Outcome State Fault Refusal :=
  done s (act s fun s => fieldNodeRetry s k resp)

/-- CLIENT_TRANSFER_TIMEOUT. A client transfer without response (R316). -/
def execClientTransferTimeout (k : Nat) (resp : NodeResp) (s : State) : Host.Outcome State Fault Refusal :=
  done s (act s fun s => clientTransferTimeout s k resp)

/-- FIELD_NODE_NMT_START. 0x1F82:k = 0x01 (R317). -/
def execFieldNodeNmtStart (client : Nat) (k : Nat) (off : Nat) (s : State) : Host.Outcome State Fault Refusal :=
  done s (put s client (0x1F82) (k) (leBytes 1 0x01) off)

/-- FIELD_NODE_NMT_STOP. 0x1F82:k = 0x02 (R317). -/
def execFieldNodeNmtStop (client : Nat) (k : Nat) (off : Nat) (s : State) : Host.Outcome State Fault Refusal :=
  done s (put s client (0x1F82) (k) (leBytes 1 0x02) off)

/-- FIELD_NODE_NMT_PRE_OPERATIONAL. 0x1F82:k = 0x80 (R317). -/
def execFieldNodeNmtPreOperational (client : Nat) (k : Nat) (off : Nat) (s : State) : Host.Outcome State Fault Refusal :=
  done s (put s client (0x1F82) (k) (leBytes 1 0x80) off)

/-- FIELD_NODE_NMT_RESET_APPLICATION. 0x1F82:k = 0x81 (R317). -/
def execFieldNodeNmtResetApplication (client : Nat) (k : Nat) (off : Nat) (s : State) : Host.Outcome State Fault Refusal :=
  done s (put s client (0x1F82) (k) (leBytes 1 0x81) off)

/-- FIELD_NODE_NMT_RESET_COMMUNICATION. 0x1F82:k = 0x82 (R317). -/
def execFieldNodeNmtResetCommunication (client : Nat) (k : Nat) (off : Nat) (s : State) : Host.Outcome State Fault Refusal :=
  done s (put s client (0x1F82) (k) (leBytes 1 0x82) off)

/-- WORK_ITEM_DEADLINE. The deadline of the item of object 0x2020 + item (R287). -/
def execWorkItemDeadline (item : Nat) (s : State) : Host.Outcome State Fault Refusal :=
  done s (act s fun s => workItemDeadline s item)

/-- USDO_SERVICE_START. Requests that waited start to be served (R307). -/
def execUsdoServiceStart (off : Nat) (s : State) : Host.Outcome State Fault Refusal :=
  done s (act s fun s => storeHash s (usdoServiceStart s off))

end Sys2Proof.Machine
end

