-- ==== Sys2Proof/Machine/ExecPanel.lean ====
section
/-! DEFINITION. The meanings of the commands of the panel ports. -/
namespace Sys2Proof.Machine
open Sys2Proof Sys2Proof.OD

/-- RAIL_VERIFY_TIMEOUT. A rail is not verified in time (R255). -/
def execRailVerifyTimeout (p : Nat) (s : State) : Host.Outcome State Fault Refusal :=
  done s (act s fun s => railVerifyTimeout s p)

/-- PANEL_POWER_OFF_STEP. A timed step of power-off or discharge (R256, R257). -/
def execPanelPowerOffStep (p : Nat) (s : State) : Host.Outcome State Fault Refusal :=
  done s (powerOffStep s p)

/-- LIGHT_RAMP_START. 20 ms after PSU_EN2 (R255). -/
def execLightRampStart (p : Nat) (s : State) : Host.Outcome State Fault Refusal :=
  done s (act s fun s => lightRampStart s p)

/-- PANEL_RECORD_PERIODIC. The record of every 3 600 s (R259). -/
def execPanelRecordPeriodic (p : Nat) (s : State) : Host.Outcome State Fault Refusal :=
  done s (act s fun s => panelRecordPeriodic s p)

/-- PANEL_UPDATE_REQUEST. Port command 1 (R245). -/
def execPanelUpdateRequest (client : Nat) (p : Nat) (off : Nat) (s : State) : Host.Outcome State Fault Refusal :=
  done s (put s client (0x3300 + p) (0x81) (leBytes 1 1) off)

/-- PANEL_CLEAR_UPDATE_REQUEST. Port command 2 (R245). -/
def execPanelClearUpdateRequest (client : Nat) (p : Nat) (off : Nat) (s : State) : Host.Outcome State Fault Refusal :=
  done s (put s client (0x3300 + p) (0x81) (leBytes 1 2) off)

/-- PANEL_POWER_ON. Port command 3 (R255). -/
def execPanelPowerOn (client : Nat) (p : Nat) (off : Nat) (s : State) : Host.Outcome State Fault Refusal :=
  done s (put s client (0x3300 + p) (0x81) (leBytes 1 3) off)

/-- PANEL_POWER_OFF. Port command 4 (R256). -/
def execPanelPowerOff (client : Nat) (p : Nat) (off : Nat) (s : State) : Host.Outcome State Fault Refusal :=
  done s (put s client (0x3300 + p) (0x81) (leBytes 1 4) off)

/-- TARGET_IMAGE_WRITE. A target image (R245). -/
def execTargetImageWrite (client : Nat) (p : Nat) (image : Nat) (off : Nat) (s : State) : Host.Outcome State Fault Refusal :=
  done s (put s client (0x3300 + p) (0x80) (leBytes 8 image) off)

/-- ACCUMULATOR_ZERO. 0x3340+p:B0 = 1 (R265). -/
def execAccumulatorZero (client : Nat) (p : Nat) (off : Nat) (s : State) : Host.Outcome State Fault Refusal :=
  done s (put s client (0x3340 + p) (0xB0) (leBytes 1 1) off)

end Sys2Proof.Machine
end

