-- ==== Sys2Proof/Machine/ExecPorts.lean ====
section
/-! DEFINITION. The meanings of the commands of the field ports. -/
namespace Sys2Proof.Machine
open Sys2Proof Sys2Proof.OD

/-- PORT_FAULT_RETRY. `agrees`: the readback met the level driven for one tick (R103). DEDUCED, unsafe: log entry 48. -/
def execPortFaultRetry (n : Nat) (agrees : Bool) (s : State) : Host.Outcome State Fault Refusal :=
  done s (portsRun s fun s => portRetry s n agrees)

/-- PWM_CYCLE_START. A PWM cycle starts (R112). -/
def execPwmCycleStart (n : Nat) (off : Nat) (s : State) : Host.Outcome State Fault Refusal :=
  done s (portsRun s fun s => pwmCycleStart s n off)

/-- FIELD_PORT_EDGE. The pin changes to `level` and stays there for `held` CLK_POS cycles; `off` is when the glitch filter's time
after the edge ends (R105). -/
def execFieldPortEdge (n : Nat) (level : Bool) (held : Nat) (off : Nat) (s : State) : Host.Outcome State Fault Refusal :=
  done s (portsRun s fun s => if witness s && n ≤ 6 then witnessEdge s n off else fieldPortEdge s n level held off)

/-- DEBOUNCE_EXPIRED. A level has differed for the debounce time (R105). -/
def execDebounceExpired (n : Nat) (off : Nat) (s : State) : Host.Outcome State Fault Refusal :=
  done s (portsRun s fun s => debounceExpired s n off)

/-- PRESENCE_STRETCH_EXPIRED. The stretch timer of a presence input (R107). -/
def execPresenceStretchExpired (n : Nat) (off : Nat) (s : State) : Host.Outcome State Fault Refusal :=
  done s (portsRun s fun s => stretchExpired s n off)

/-- COUNT_PRESET. A counter is preset at tick s + 1 (R106). -/
def execCountPreset (client : Nat) (n : Nat) (value : Nat) (off : Nat) (s : State) : Host.Outcome State Fault Refusal :=
  done s (put s client (0x3000 + n) (0x81) (leBytes 4 value) off)

end Sys2Proof.Machine
end

