-- ==== Sys2Proof/Machine/ExecPosition.lean ====
section
/-! DEFINITION. The meanings of the commands of the position channels. -/
namespace Sys2Proof.Machine
open Sys2Proof Sys2Proof.OD

/-- STANDSTILL_TIMEOUT. The standstill timeout of a channel (R133). -/
def execStandstillTimeout (c : Nat) (off : Nat) (s : State) : Host.Outcome State Fault Refusal :=
  done s (portsRun s fun s => standstill s c off)

/-- SSI_FRAME_COMPLETE. The bits shifted in, and the levels of PB at the start and the end of the frame (R126, R127). -/
def execSsiFrameComplete (c : Nat) (value : Nat) (startHigh : Bool) (endLow : Bool) (off : Nat) (s : State) : Host.Outcome State Fault Refusal :=
  done s (portsRun s fun s => ssiComplete s c value startHigh endLow off)

/-- ENCODER_EDGE. New levels of the inputs, how long they last, and whether the direction level was stable around the edge (R121 to R125). -/
def execEncoderEdge (c : Nat) (a : Bool) (b : Bool) (z : Bool) (stable : Bool) (held : Nat) (off : Nat) (s : State) : Host.Outcome State Fault Refusal :=
  done s (act s fun s => encoderEdge s c a b z stable held off)

/-- INDEX_EVENT. An edge of the index input (R130). -/
def execIndexEvent (c : Nat) (edge : IndexEdge) (off : Nat) (s : State) : Host.Outcome State Fault Refusal :=
  done s (act s fun s => indexEdge s c edge.level edge.held off)

/-- COMPARE_PULSE_END. The compare pulse ends (R138). -/
def execComparePulseEnd (c : Nat) (off : Nat) (s : State) : Host.Outcome State Fault Refusal :=
  done s (portsRun s fun s => pulseEnd s c off)

/-- POSITION_PRESET. A count is preset at the next latch (R129). -/
def execPositionPreset (client : Nat) (c : Nat) (value : Int) (off : Nat) (s : State) : Host.Outcome State Fault Refusal :=
  done s (put s client (0x3200 + c) (0x80) (leBytes 4 (unsignedOf 4 value)) off)

/-- RE_REFERENCE. 0x3200+c:89 = 1 (R131). -/
def execReReference (client : Nat) (c : Nat) (off : Nat) (s : State) : Host.Outcome State Fault Refusal :=
  done s (put s client (0x3200 + c) (0x89) (leBytes 1 1) off)

/-- COMPARE_ARM. 0x3210+c:84 = 1 (R137). -/
def execCompareArm (client : Nat) (c : Nat) (off : Nat) (s : State) : Host.Outcome State Fault Refusal :=
  done s (put s client (0x3210 + c) (0x84) (leBytes 1 1) off)

/-- COMPARE_DISARM. 0x3210+c:84 = 2 (R137). -/
def execCompareDisarm (client : Nat) (c : Nat) (off : Nat) (s : State) : Host.Outcome State Fault Refusal :=
  done s (put s client (0x3210 + c) (0x84) (leBytes 1 2) off)

end Sys2Proof.Machine
end

