-- ==== Sys2Proof/Machine/ExecPower.lean ====
section
/-! DEFINITION. The meanings of the commands of supply, mains feeds, zero-crossing outputs and power states. -/
namespace Sys2Proof.Machine
open Sys2Proof Sys2Proof.OD

/-- HALF_CYCLE_CLOSE_TIMEOUT. A close falls due on a feed without crossings (R395). -/
def execHalfCycleCloseTimeout (f : Nat) (s : State) : Host.Outcome State Fault Refusal :=
  done s (runs s fun s => closeTimeout s f)

/-- CROSSING_LOSS. No accepted crossing of a feed for 25 ms (R392). -/
def execCrossingLoss (f : Nat) (off : Nat) (s : State) : Host.Outcome State Fault Refusal :=
  done s (runs s fun s => crossingLoss s f off)

/-- SHED_LEVEL_FALL. The hold time of a lower target has passed (R397). -/
def execShedLevelFall (s : State) : Host.Outcome State Fault Refusal :=
  done s (act s fun s => shedFall s)

/-- ZXO_DECISION_POINT. A decision point of a burst port (R115). -/
def execZxoDecisionPoint (n : Nat) (off : Nat) (s : State) : Host.Outcome State Fault Refusal :=
  done s (portsRun s fun s => zxoDecide s n off)

/-- ZXO_CROSSING_LOST. No crossing of a port's feed for 25 ms (R113). -/
def execZxoCrossingLost (n : Nat) (off : Nat) (s : State) : Host.Outcome State Fault Refusal :=
  done s (portsRun s fun s => zxoLost s n off)

/-- PFW_ASSERTED. PFW_n low; `finishes`: a bank write in progress ends within 4.0 ms (R387). -/
def execPfwAsserted (finishes : Bool) (s : State) : Host.Outcome State Fault Refusal :=
  done s (if alive s then powerFail s finishes else { s with pfw := true })

/-- PFW_RELEASED. PFW_n high for 100 ms (R389). -/
def execPfwReleased (s : State) : Host.Outcome State Fault Refusal :=
  done s (if alive s && rdN s 0x2100 0x80 == 3 then pfwReleased s else { s with pfw := false })

/-- FEED_BROWN_OUT. A feed below its threshold for 10 µs (R386). -/
def execFeedBrownOut (f : Nat) (s : State) : Host.Outcome State Fault Refusal :=
  done s (supply s fun s => feedBrownOut s f)

/-- FEED_RESTORED. A feed above its threshold for 10 ms; `prefer`: the feed with the higher voltage (R386). -/
def execFeedRestored (f : Nat) (prefer : Nat) (s : State) : Host.Outcome State Fault Refusal :=
  done s (supply s fun s => feedRestored s f prefer)

/-- POWER_CMD_RUN. 0x2100:10 = 0 (R399). -/
def execPowerCmdRun (client : Nat) (off : Nat) (s : State) : Host.Outcome State Fault Refusal :=
  done s (put s client (0x2100) (0x10) (leBytes 1 0) off)

/-- POWER_CMD_DOZE. 0x2100:10 = 1 (R399). -/
def execPowerCmdDoze (client : Nat) (off : Nat) (s : State) : Host.Outcome State Fault Refusal :=
  done s (put s client (0x2100) (0x10) (leBytes 1 1) off)

/-- POWER_CMD_SLEEP. 0x2100:10 = 4 (R400). -/
def execPowerCmdSleep (client : Nat) (off : Nat) (s : State) : Host.Outcome State Fault Refusal :=
  done s (put s client (0x2100) (0x10) (leBytes 1 4) off)

/-- POWER_CMD_SHIP. 0x2100:10 = 5 (R400). -/
def execPowerCmdShip (client : Nat) (off : Nat) (s : State) : Host.Outcome State Fault Refusal :=
  done s (put s client (0x2100) (0x10) (leBytes 1 5) off)

/-- PWRON_DEASSERT. The delay of 0x2300:22 has passed (R379). -/
def execPwronDeassert (s : State) : Host.Outcome State Fault Refusal :=
  done s (backup s fun s => pwronDeassert s)

/-- ZXO_LEVEL_SWITCH. The edge of a level-mode port (R114). -/
def execZxoLevelSwitch (n : Nat) (off : Nat) (s : State) : Host.Outcome State Fault Refusal :=
  done s (portsRun s fun s => zxoLevel s n off)

end Sys2Proof.Machine
end

