-- ==== Sys2Proof/Machine/ExecRtc.lean ====
section
/-! DEFINITION. The meanings of the commands of the backup domain. -/
namespace Sys2Proof.Machine
open Sys2Proof Sys2Proof.OD

/-- SECONDS_PULSE. The prescaler wraps (R374). -/
def execSecondsPulse (s : State) : Host.Outcome State Fault Refusal :=
  done s (backup s fun s => secondsPulse s)

/-- TRIM_PERIOD. A trim period of 32 s begins (R381). -/
def execTrimPeriod (s : State) : Host.Outcome State Fault Refusal :=
  done s (backup s fun s => trimPeriod s)

/-- TRIM_TEMPERATURE_SAMPLE. The temperature for the trim (R381). -/
def execTrimTemperatureSample (s : State) : Host.Outcome State Fault Refusal :=
  done s (act s fun s => trimTemperature s)

/-- RTC_OSC_FAIL. CLK_RTC stopped or ran out of tolerance (R382). -/
def execRtcOscFail (s : State) : Host.Outcome State Fault Refusal :=
  done s (backup s (if alive s then oscFail else oscStopped))

/-- BACKUP_RESET. The backup supply fell below its threshold (R361). -/
def execBackupReset (s : State) : Host.Outcome State Fault Refusal :=
  done s (backup s fun s => backupReset s)

/-- WAKE_EVENT. WAKE has held its active level (R378). -/
def execWakeEvent (s : State) : Host.Outcome State Fault Refusal :=
  done s (backup s fun s => wakeEvent s)

end Sys2Proof.Machine
end

