-- ==== Sys2Proof/Machine/ExecSecurity.lean ====
section
/-! DEFINITION. The meanings of the commands of security and the TAP. -/
namespace Sys2Proof.Machine
open Sys2Proof Sys2Proof.OD

/-- KEY_LOAD. A customer key for slot k (R439). -/
def execKeyLoad (client : Nat) (k : Nat) (data : List Byte) (entry : Bool) (off : Nat) (s : State) : Host.Outcome State Fault Refusal :=
  done s (keyWrite s client (0x2601 + k) (1) (data) entry off)

/-- KEY_REVOKE. 0x2601+k:10 = 1 (R439). -/
def execKeyRevoke (client : Nat) (k : Nat) (entry : Bool) (off : Nat) (s : State) : Host.Outcome State Fault Refusal :=
  done s (keyWrite s client (0x2601 + k) (0x10) (leBytes 1 1) entry off)

/-- SIGNATURE_POLICY_WRITE. A signature policy is set (R440). -/
def execSignaturePolicyWrite (client : Nat) (sub : Nat) (entry : Bool) (off : Nat) (s : State) : Host.Outcome State Fault Refusal :=
  done s (keyWrite s client (0x2600) (sub) (leBytes 1 1) entry off)

/-- SIGNED_CONFIGURATION_IMAGE. A signed image (R443). -/
def execSignedConfigurationImage (client : Nat) (data : List Byte) (off : Nat) (s : State) : Host.Outcome State Fault Refusal :=
  done s (put s client (0x2608) (1) (data) off)

/-- ATTESTATION_NONCE. A nonce (R444). -/
def execAttestationNonce (client : Nat) (data : List Byte) (off : Nat) (s : State) : Host.Outcome State Fault Refusal :=
  done s (put s client (0x2610) (1) (data) off)

/-- DEBUG_CHALLENGE. A read of 0x260C:01 (R445). -/
def execDebugChallenge (client : Nat) (s : State) : Host.Outcome State Fault Refusal :=
  done s (up s fun s => readAnswer s client 0x260C 1)

/-- DEBUG_RESPONSE. A signed response (R446). -/
def execDebugResponse (client : Nat) (data : List Byte) (off : Nat) (s : State) : Host.Outcome State Fault Refusal :=
  done s (put s client (0x260C) (2) (data) off)

/-- LOCK_COMMAND. 0x260C:03 = 1 (R446). -/
def execLockCommand (client : Nat) (off : Nat) (s : State) : Host.Outcome State Fault Refusal :=
  done s (put s client (0x260C) (3) (leBytes 1 1) off)

/-- TAP_EXTEST. Instruction 0 is loaded (R447). -/
def execTapExtest (s : State) : Host.Outcome State Fault Refusal :=
  done s (tapped s fun s => tapHold s 0)

/-- TAP_CLAMP. Instruction 4 is loaded (R447). -/
def execTapClamp (s : State) : Host.Outcome State Fault Refusal :=
  done s (tapped s fun s => tapHold s 4)

/-- TAP_HIGHZ. Instruction 5 is loaded (R447). -/
def execTapHighz (s : State) : Host.Outcome State Fault Refusal :=
  done s (tapped s fun s => tapHold s 5)

/-- TAP_IDCODE. IDCODE is loaded (R490). -/
def execTapIdcode (s : State) : Host.Outcome State Fault Refusal :=
  done s (tapped s fun s => tapIdcode s)

/-- TAP_SAMPLE_PRELOAD. The cells captured, and preloaded (R447). -/
def execTapSamplePreload (capture : Nat) (preload : Nat) (s : State) : Host.Outcome State Fault Refusal :=
  done s (tapped s fun s => tapSample s capture preload)

/-- TAP_BYPASS. BYPASS is loaded (R490). -/
def execTapBypass (s : State) : Host.Outcome State Fault Refusal :=
  done s (tapped s fun s => tapBypass s)

/-- TAP_PRIVATE_DEBUG. A private instruction, 0x10 + code (R490). -/
def execTapPrivateDebug (code : Nat) (s : State) : Host.Outcome State Fault Refusal :=
  done s (tapped s fun s => tapPrivate s code)

/-- REPORT_SIGNED. The signature of the report (R444). -/
def execReportSigned (sig : List Byte) (s : State) : Host.Outcome State Fault Refusal :=
  done s (act s fun s => reportSigned s sig)

end Sys2Proof.Machine
end

