-- ==== Sys2Proof/Machine/ExecStartup.lean ====
section
/-! DEFINITION. The meanings of the commands of reset, start-up and the losses of clocks and memory. -/
namespace Sys2Proof.Machine
open Sys2Proof Sys2Proof.OD

/-- SRAM_SCRUB. The scrubber finds an error at a location; `fatal`: uncorrectable (R36). -/
def execSramScrub (region : Region) (loc : Nat) (fatal : Bool) (s : State) : Host.Outcome State Fault Refusal :=
  done s (act s fun s => sramScrub s region loc fatal)

/-- TRST_RELEASE. TRST_n ends a hold (R470). -/
def execTrstRelease (s : State) : Host.Outcome State Fault Refusal :=
  done s (if s.pw.off then s else trstRelease s)

/-- KILL_ASSERTED. KILL_n low (R470). -/
def execKillAsserted (s : State) : Host.Outcome State Fault Refusal :=
  done s (killAsserted s)

/-- POWER_ON_RESET. The internal rail comes up or fell below 2.70 V (R470). -/
def execPowerOnReset (s : State) : Host.Outcome State Fault Refusal :=
  done s (powerOn s)

/-- WATCHDOG_EXPIRED. No watchdog write for 100 ms (R470). -/
def execWatchdogExpired (s : State) : Host.Outcome State Fault Refusal :=
  done s (act s fun s => watchdogExpired s)

/-- RESET_RELEASE. The straps and the decayed banks, what the boot ROM finds of the images and the OTP and the time it took, and the start-up calibration (R474). -/
def execResetRelease (straps : StartStraps) (duplexId : Bool) (okA : Bool) (okB : Bool) (us : Nat) (otp : Option (Nat × Bool)) (cals : List (List (Real32 × Real32))) (s : State) : Host.Outcome State Fault Refusal :=
  done s (resetRelease s straps duplexId okA okB us otp cals)

/-- BOOT_ROM_RETRY. The boot ROM verifies again (R438). -/
def execBootRomRetry (okA : Bool) (okB : Bool) (us : Nat) (otp : Option (Nat × Bool)) (cals : List (List (Real32 × Real32))) (s : State) : Host.Outcome State Fault Refusal :=
  done s (starting s fun s => bootRomRetry s okA okB us otp cals)

/-- CONFIGURATION_LOAD. The stored configuration is loaded (R60). -/
def execConfigurationLoad (s : State) : Host.Outcome State Fault Refusal :=
  done s (starting s fun s => configurationLoad s)

/-- CONTROLLERS_ENABLED. Step 7 (R289). -/
def execControllersEnabled (s : State) : Host.Outcome State Fault Refusal :=
  done s (act s fun s => controllersEnabled s)

/-- STARTUP_RECORD. Step 8; `selfTest`: the engine passed its test (R467, R475). -/
def execStartupRecord (selfTest : Bool) (s : State) : Host.Outcome State Fault Refusal :=
  done s (act s fun s => startupRecordBuild s selfTest)

/-- BOOT_UP. Step 9 (R319). -/
def execBootUp (s : State) : Host.Outcome State Fault Refusal :=
  done s (act s fun s => bootUp s)

/-- AUTOSTART. The operational tick without a network command (R478). -/
def execAutostart (s : State) : Host.Outcome State Fault Refusal :=
  done s (act s fun s => autostart s)

/-- OPERATIONAL_TICK. The operational tick is the one to come (R477). -/
def execOperationalTick (s : State) : Host.Outcome State Fault Refusal :=
  done s (act s fun s => operationalTick s)

/-- CLK_REF_LOSS. No edge of CLK_REF for 2 µs (R14). -/
def execClkRefLoss (s : State) : Host.Outcome State Fault Refusal :=
  done s (act s fun s => clkRefLoss s)

/-- CLK_POS_LOST. CLK_POS stops (R102). -/
def execClkPosLost (s : State) : Host.Outcome State Fault Refusal :=
  done s (act s fun s => clkPosLoss s)

/-- CLK_PANEL_LOST. CLK_PANEL stops (R244). -/
def execClkPanelLost (s : State) : Host.Outcome State Fault Refusal :=
  done s (act s fun s => clkPanelLoss s)

end Sys2Proof.Machine
end

