-- ==== Sys2Proof/Machine/ExecStore.lean ====
section
/-! DEFINITION. The meanings of the commands of the persistent store and the bunting log. -/
namespace Sys2Proof.Machine
open Sys2Proof Sys2Proof.OD

/-- STORE_PARAMETERS. The signature "save" (R61). -/
def execStoreParameters (client : Nat) (sub : Nat) (off : Nat) (s : State) : Host.Outcome State Fault Refusal :=
  done s (put s client (0x1010) (sub) (leBytes 4 0x65766173) off)

/-- RESTORE_DEFAULTS. The signature "load" (R62). -/
def execRestoreDefaults (client : Nat) (sub : Nat) (off : Nat) (s : State) : Host.Outcome State Fault Refusal :=
  done s (put s client (0x1011) (sub) (leBytes 4 0x64616F6C) off)

/-- BANK_WRITE_COMPLETE. Header and payload as read back, whose CRCs check or not (R418). -/
def execBankWriteComplete (bank : BankBytes) (s : State) : Host.Outcome State Fault Refusal :=
  done s (act s fun s => storeHash s (bankWriteComplete s (bankCrcsOk bank.header bank.payload)))

/-- LOG_MIRROR. The mirror of every 10 s (R457). -/
def execLogMirror (s : State) : Host.Outcome State Fault Refusal :=
  done s (act s fun s => logMirror s)

/-- LOG_READ_ENTRY. A read of 0x2710:02 (R458). -/
def execLogReadEntry (client : Nat) (s : State) : Host.Outcome State Fault Refusal :=
  done s (up s fun s => readAnswer s client 0x2710 2)

/-- LOG_READ_ENTRIES. A read of 0x2710:03 (R458). -/
def execLogReadEntries (client : Nat) (s : State) : Host.Outcome State Fault Refusal :=
  done s (up s fun s => readAnswer s client 0x2710 3)

end Sys2Proof.Machine
end

