-- ==== Sys2Proof/Machine/ExecThermal.lean ====
section
/-! DEFINITION. The meanings of the commands of the thermal unit. -/
namespace Sys2Proof.Machine
open Sys2Proof Sys2Proof.OD

/-- THERMAL_MEASUREMENT. The trimmed readings of the twelve sensors in steps of 0.25 K (R405). -/
def execThermalMeasurement (temps : List Int) (finishes : Bool) (s : State) : Host.Outcome State Fault Refusal :=
  done s (if s.pw.off || (s.inReset && s.th.hold == 0) then s else thermal s temps finishes)

/-- STAGE_ADD_INTERVAL. The add interval ends (R409). -/
def execStageAddInterval (s : State) : Host.Outcome State Fault Refusal :=
  done s (act s fun s => stageAdd s)

/-- STAGE_REMOVE_INTERVAL. The remove interval ends (R409). -/
def execStageRemoveInterval (s : State) : Host.Outcome State Fault Refusal :=
  done s (act s fun s => stageRemove s)

/-- THERMAL_SHUTDOWN. The budget has run out (R411). -/
def execThermalShutdown (s : State) : Host.Outcome State Fault Refusal :=
  done s (act s fun s => thermalShutdown s)

/-- THERMAL_TRIP. Two sensors at T_trip (R412). -/
def execThermalTrip (s : State) : Host.Outcome State Fault Refusal :=
  done s (if s.pw.off then s else thermalTrip s)

/-- THERMAL_RELEASE. H below 100 °C for 10 s (R411, R412). -/
def execThermalRelease (s : State) : Host.Outcome State Fault Refusal :=
  done s (if s.pw.off then s else thermalRelease s)

end Sys2Proof.Machine
end

