-- ==== Sys2Proof/Machine/ExecTick.lean ====
section
/-! DEFINITION. The meanings of the commands of the base tick. -/
namespace Sys2Proof.Machine
open Sys2Proof Sys2Proof.OD

/-- BASE_TICK. Tick k and base period k; `inp` is what the outside world gives in the period (R20). DESIGN CHOICE, safe: log
entry 3. -/
def execBaseTick (inp : TickIn) (s : State) : Host.Outcome State Fault Refusal :=
  done (ticked s) (act s fun s => baseTick s inp)

end Sys2Proof.Machine
end

