-- ==== Sys2Proof/Machine/ExecTimetable.lean ====
section
/-! DEFINITION. The meanings of the commands of the timetable. -/
namespace Sys2Proof.Machine
open Sys2Proof Sys2Proof.OD

/-- TIMETABLE_WALK. The walk of the current second (R229). -/
def execTimetableWalk (s : State) : Host.Outcome State Fault Refusal :=
  done s (runs s fun s => timetableWalk s)

/-- WALK_RESULTS_DUE. A walk's results come into force at the tick to come (R228). -/
def execWalkResultsDue (s : State) : Host.Outcome State Fault Refusal :=
  done s (runs s fun s => atTick s (s.now + 1) fun s => walkDue s s.now)

/-- TIMETABLE_ENTRY_WRITE. An entry, profile, shape or offset (R238). -/
def execTimetableEntryWrite (client : Nat) (idx : Nat) (sub : Nat) (data : List Byte) (off : Nat) (s : State) : Host.Outcome State Fault Refusal :=
  done s (put s client (idx) (sub) (data) off)

/-- TIMETABLE_COMMIT. 0x4F00:80 = 1 (R239). -/
def execTimetableCommit (client : Nat) (off : Nat) (s : State) : Host.Outcome State Fault Refusal :=
  done s (put s client (0x4F00) (0x80) (leBytes 1 1) off)

/-- TIMETABLE_DISCARD. 0x4F00:80 = 2 (R239). -/
def execTimetableDiscard (client : Nat) (off : Nat) (s : State) : Host.Outcome State Fault Refusal :=
  done s (put s client (0x4F00) (0x80) (leBytes 1 2) off)

end Sys2Proof.Machine
end

