-- ==== Sys2Proof/Machine/ExecZones.lean ====
section
/-! DEFINITION. The meanings of the commands of the zones. -/
namespace Sys2Proof.Machine
open Sys2Proof Sys2Proof.OD

/-- ESTIMATOR_REINIT_COMMAND. 0x3C00+z:86 = 1 (R206). -/
def execEstimatorReinitCommand (client : Nat) (z : Nat) (off : Nat) (s : State) : Host.Outcome State Fault Refusal :=
  done s (put s client (0x3C00 + z) (0x86) (leBytes 1 1) off)

/-- LEARNING_RESET. 0x3C80+i:89 = 1 (R215). -/
def execLearningReset (client : Nat) (z : Nat) (off : Nat) (s : State) : Host.Outcome State Fault Refusal :=
  done s (put s client (0x3C80 + z) (0x89) (leBytes 1 1) off)

/-- LEARNING_SAVE. 0x3C80+i:89 = 2 (R216). -/
def execLearningSave (client : Nat) (z : Nat) (off : Nat) (s : State) : Host.Outcome State Fault Refusal :=
  done s (put s client (0x3C80 + z) (0x89) (leBytes 1 2) off)

/-- LEARNED_COUPLING_PERIODIC. The save of every 3 600 s while any zone learns (R216). DESIGN CHOICE, safe: log entry 230. -/
def execLearnedCouplingPeriodic (s : State) : Host.Outcome State Fault Refusal :=
  done s (runs s couplingPeriodic)

end Sys2Proof.Machine
end

