-- ==== Sys2Proof/Machine/Dispatch.lean ====
section
/-! DEFINITION. One arm per command, in the table's order. -/
namespace Sys2Proof.Machine
open Sys2Proof

/-- The effect of a command on everything but the queue. DESIGN CHOICE, unsafe: log entry 13. DEDUCED, safe: log entry 148.
DESIGN CHOICE, safe: log entry 160. -/
def exec (i : Instr) (s : State) : Host.Outcome State Fault Refusal :=
  match i with
  | .baseTick inp => Sys2Proof.Machine.execBaseTick inp s
  | .portFaultRetry n agrees => Sys2Proof.Machine.execPortFaultRetry n agrees s
  | .standstillTimeout c off => Sys2Proof.Machine.execStandstillTimeout c off s
  | .ssiFrameComplete c value startHigh endLow off => Sys2Proof.Machine.execSsiFrameComplete c value startHigh endLow off s
  | .halfCycleCloseTimeout f => Sys2Proof.Machine.execHalfCycleCloseTimeout f s
  | .crossingLoss f off => Sys2Proof.Machine.execCrossingLoss f off s
  | .shedLevelFall => Sys2Proof.Machine.execShedLevelFall s
  | .zxoDecisionPoint n off => Sys2Proof.Machine.execZxoDecisionPoint n off s
  | .zxoCrossingLost n off => Sys2Proof.Machine.execZxoCrossingLost n off s
  | .pwmCycleStart n off => Sys2Proof.Machine.execPwmCycleStart n off s
  | .fieldPortEdge n level held off => Sys2Proof.Machine.execFieldPortEdge n level held off s
  | .debounceExpired n off => Sys2Proof.Machine.execDebounceExpired n off s
  | .presenceStretchExpired n off => Sys2Proof.Machine.execPresenceStretchExpired n off s
  | .encoderEdge c a b z stable held off => Sys2Proof.Machine.execEncoderEdge c a b z stable held off s
  | .indexEvent c edge off => Sys2Proof.Machine.execIndexEvent c edge off s
  | .comparePulseEnd c off => Sys2Proof.Machine.execComparePulseEnd c off s
  | .railVerifyTimeout p => Sys2Proof.Machine.execRailVerifyTimeout p s
  | .panelPowerOffStep p => Sys2Proof.Machine.execPanelPowerOffStep p s
  | .lightRampStart p => Sys2Proof.Machine.execLightRampStart p s
  | .panelRecordPeriodic p => Sys2Proof.Machine.execPanelRecordPeriodic p s
  | .calibrationWindowStart spCoef => Sys2Proof.Machine.execCalibrationWindowStart spCoef s
  | .calibrationReconnect coef => Sys2Proof.Machine.execCalibrationReconnect coef s
  | .calibrationWindowEnd => Sys2Proof.Machine.execCalibrationWindowEnd s
  | .spareSelfCalibration coef => Sys2Proof.Machine.execSpareSelfCalibration coef s
  | .injectionDetected ch above below strong on off => Sys2Proof.Machine.execInjectionDetected ch above below strong on off s
  | .sramScrub region loc fatal => Sys2Proof.Machine.execSramScrub region loc fatal s
  | .secondsPulse => Sys2Proof.Machine.execSecondsPulse s
  | .timetableWalk => Sys2Proof.Machine.execTimetableWalk s
  | .walkResultsDue => Sys2Proof.Machine.execWalkResultsDue s
  | .trimPeriod => Sys2Proof.Machine.execTrimPeriod s
  | .trimTemperatureSample => Sys2Proof.Machine.execTrimTemperatureSample s
  | .rtcOscFail => Sys2Proof.Machine.execRtcOscFail s
  | .backupReset => Sys2Proof.Machine.execBackupReset s
  | .wakeEvent => Sys2Proof.Machine.execWakeEvent s
  | .calendarFieldWrite client sub value off => Sys2Proof.Machine.execCalendarFieldWrite client sub value off s
  | .calendarCommit client value off => Sys2Proof.Machine.execCalendarCommit client value off s
  | .calendarStageTimeout client => Sys2Proof.Machine.execCalendarStageTimeout client s
  | .calendarRead client sub => Sys2Proof.Machine.execCalendarRead client sub s
  | .calendarShadowTimeout client => Sys2Proof.Machine.execCalendarShadowTimeout client s
  | .adjustmentRequest client ms off => Sys2Proof.Machine.execAdjustmentRequest client ms off s
  | .alarmWrite client a sub data off => Sys2Proof.Machine.execAlarmWrite client a sub data off s
  | .dictionaryWrite client idx sub data off => Sys2Proof.Machine.execDictionaryWrite client idx sub data off s
  | .structuralWrite client idx sub data off => Sys2Proof.Machine.execStructuralWrite client idx sub data off s
  | .configurationCommit client off => Sys2Proof.Machine.execConfigurationCommit client off s
  | .commitTick => Sys2Proof.Machine.execCommitTick s
  | .discardStaging client off => Sys2Proof.Machine.execDiscardStaging client off s
  | .openWriteGroup client off => Sys2Proof.Machine.execOpenWriteGroup client off s
  | .applyWriteGroup client off => Sys2Proof.Machine.execApplyWriteGroup client off s
  | .discardWriteGroup client off => Sys2Proof.Machine.execDiscardWriteGroup client off s
  | .writeGroupTimeout client => Sys2Proof.Machine.execWriteGroupTimeout client s
  | .storeParameters client sub off => Sys2Proof.Machine.execStoreParameters client sub off s
  | .restoreDefaults client sub off => Sys2Proof.Machine.execRestoreDefaults client sub off s
  | .bankWriteComplete bank => Sys2Proof.Machine.execBankWriteComplete bank s
  | .logMirror => Sys2Proof.Machine.execLogMirror s
  | .logReadEntry client => Sys2Proof.Machine.execLogReadEntry client s
  | .logReadEntries client => Sys2Proof.Machine.execLogReadEntries client s
  | .clearPennants client j mask off => Sys2Proof.Machine.execClearPennants client j mask off s
  | .swapRequest client n off => Sys2Proof.Machine.execSwapRequest client n off s
  | .swapTick n => Sys2Proof.Machine.execSwapTick n s
  | .clearLaneFault client n off => Sys2Proof.Machine.execClearLaneFault client n off s
  | .loopModeChange client n mode off => Sys2Proof.Machine.execLoopModeChange client n mode off s
  | .traceArm client off => Sys2Proof.Machine.execTraceArm client off s
  | .traceForceTrigger client off => Sys2Proof.Machine.execTraceForceTrigger client off s
  | .traceStop client off => Sys2Proof.Machine.execTraceStop client off s
  | .countPreset client n value off => Sys2Proof.Machine.execCountPreset client n value off s
  | .positionPreset client c value off => Sys2Proof.Machine.execPositionPreset client c value off s
  | .reReference client c off => Sys2Proof.Machine.execReReference client c off s
  | .compareArm client c off => Sys2Proof.Machine.execCompareArm client c off s
  | .compareDisarm client c off => Sys2Proof.Machine.execCompareDisarm client c off s
  | .estimatorReinitCommand client z off => Sys2Proof.Machine.execEstimatorReinitCommand client z off s
  | .learningReset client z off => Sys2Proof.Machine.execLearningReset client z off s
  | .learningSave client z off => Sys2Proof.Machine.execLearningSave client z off s
  | .learnedCouplingPeriodic => Sys2Proof.Machine.execLearnedCouplingPeriodic s
  | .timetableEntryWrite client idx sub data off => Sys2Proof.Machine.execTimetableEntryWrite client idx sub data off s
  | .timetableCommit client off => Sys2Proof.Machine.execTimetableCommit client off s
  | .timetableDiscard client off => Sys2Proof.Machine.execTimetableDiscard client off s
  | .panelUpdateRequest client p off => Sys2Proof.Machine.execPanelUpdateRequest client p off s
  | .panelClearUpdateRequest client p off => Sys2Proof.Machine.execPanelClearUpdateRequest client p off s
  | .panelPowerOn client p off => Sys2Proof.Machine.execPanelPowerOn client p off s
  | .panelPowerOff client p off => Sys2Proof.Machine.execPanelPowerOff client p off s
  | .targetImageWrite client p image off => Sys2Proof.Machine.execTargetImageWrite client p image off s
  | .accumulatorZero client p off => Sys2Proof.Machine.execAccumulatorZero client p off s
  | .frameReceived x f start opened => Sys2Proof.Machine.execFrameReceived x f start opened s
  | .bufferRelease x n => Sys2Proof.Machine.execBufferRelease x n s
  | .filterTableSwitch x filters => Sys2Proof.Machine.execFilterTableSwitch x filters s
  | .frameSubmitted x f pdo => Sys2Proof.Machine.execFrameSubmitted x f pdo s
  | .frameTransmitted x sent => Sys2Proof.Machine.execFrameTransmitted x sent s
  | .canError x tx kind dataPhase count => Sys2Proof.Machine.execCanError x tx kind dataPhase count s
  | .busOffHoldoffExpired x => Sys2Proof.Machine.execBusOffHoldoffExpired x s
  | .startRecovery client x off => Sys2Proof.Machine.execStartRecovery client x off s
  | .recoveryComplete x => Sys2Proof.Machine.execRecoveryComplete x s
  | .solitaryRetry x attempt => Sys2Proof.Machine.execSolitaryRetry x attempt s
  | .canModeChange x => Sys2Proof.Machine.execCanModeChange x s
  | .canModeRequest client x mode off => Sys2Proof.Machine.execCanModeRequest client x mode off s
  | .nmtStart node off => Sys2Proof.Machine.execNmtStart node off s
  | .nmtStop node off => Sys2Proof.Machine.execNmtStop node off s
  | .nmtEnterPreOperational node off => Sys2Proof.Machine.execNmtEnterPreOperational node off s
  | .nmtResetApplication node off => Sys2Proof.Machine.execNmtResetApplication node off s
  | .nmtResetCommunication node off => Sys2Proof.Machine.execNmtResetCommunication node off s
  | .rpdoReceived n data off => Sys2Proof.Machine.execRpdoReceived n data off s
  | .rpdoTimeout n => Sys2Proof.Machine.execRpdoTimeout n s
  | .remoteSlotTimeout n => Sys2Proof.Machine.execRemoteSlotTimeout n s
  | .syncReceived ctr off => Sys2Proof.Machine.execSyncReceived ctr off s
  | .timeReceived ms => Sys2Proof.Machine.execTimeReceived ms s
  | .tpdoAssembly n => Sys2Proof.Machine.execTpdoAssembly n s
  | .heartbeatProduce => Sys2Proof.Machine.execHeartbeatProduce s
  | .heartbeatReceived field k st => Sys2Proof.Machine.execHeartbeatReceived field k st s
  | .heartbeatConsumerTimeout entry => Sys2Proof.Machine.execHeartbeatConsumerTimeout entry s
  | .emcySend => Sys2Proof.Machine.execEmcySend s
  | .usdoRequest client op off => Sys2Proof.Machine.execUsdoRequest client op off s
  | .usdoSegmentTimeout client => Sys2Proof.Machine.execUsdoSegmentTimeout client s
  | .fieldNodeBoot => Sys2Proof.Machine.execFieldNodeBoot s
  | .fieldNodeBootUp k resp => Sys2Proof.Machine.execFieldNodeBootUp k resp s
  | .fieldNodeBootTimeout k => Sys2Proof.Machine.execFieldNodeBootTimeout k s
  | .fieldNodeLost k bootUp => Sys2Proof.Machine.execFieldNodeLost k bootUp s
  | .fieldNodeRetry k resp => Sys2Proof.Machine.execFieldNodeRetry k resp s
  | .clientTransferTimeout k resp => Sys2Proof.Machine.execClientTransferTimeout k resp s
  | .fieldNodeNmtStart client k off => Sys2Proof.Machine.execFieldNodeNmtStart client k off s
  | .fieldNodeNmtStop client k off => Sys2Proof.Machine.execFieldNodeNmtStop client k off s
  | .fieldNodeNmtPreOperational client k off => Sys2Proof.Machine.execFieldNodeNmtPreOperational client k off s
  | .fieldNodeNmtResetApplication client k off => Sys2Proof.Machine.execFieldNodeNmtResetApplication client k off s
  | .fieldNodeNmtResetCommunication client k off => Sys2Proof.Machine.execFieldNodeNmtResetCommunication client k off s
  | .hostNop mode3 => Sys2Proof.Machine.execHostNop mode3 s
  | .hostRead mode3 tag idx sub payload off => Sys2Proof.Machine.execHostRead mode3 tag idx sub payload off s
  | .hostWrite mode3 tag idx sub payload off => Sys2Proof.Machine.execHostWrite mode3 tag idx sub payload off s
  | .readRecord mode3 tag idx sub payload off => Sys2Proof.Machine.execReadRecord mode3 tag idx sub payload off s
  | .writeRecord mode3 tag idx sub payload off => Sys2Proof.Machine.execWriteRecord mode3 tag idx sub payload off s
  | .segWrite mode3 tag idx sub payload off => Sys2Proof.Machine.execSegWrite mode3 tag idx sub payload off s
  | .segWriteGapTimeout => Sys2Proof.Machine.execSegWriteGapTimeout s
  | .bulkRead mode3 tag idx sub payload off => Sys2Proof.Machine.execBulkRead mode3 tag idx sub payload off s
  | .bulkCopyTimeout => Sys2Proof.Machine.execBulkCopyTimeout s
  | .fetch mode3 tag => Sys2Proof.Machine.execFetch mode3 tag s
  | .release mode3 tag => Sys2Proof.Machine.execRelease mode3 tag s
  | .piRead mode3 first count updates ecc => Sys2Proof.Machine.execPiRead mode3 first count updates ecc s
  | .processPageUpdate => Sys2Proof.Machine.execProcessPageUpdate s
  | .ackIrq mode3 mask => Sys2Proof.Machine.execAckIrq mode3 mask s
  | .hostFrameDiscard mode3 result tag => Sys2Proof.Machine.execHostFrameDiscard mode3 result tag s
  | .halyardLinkUp => Sys2Proof.Machine.execHalyardLinkUp s
  | .halyardLinkDown => Sys2Proof.Machine.execHalyardLinkDown s
  | .tickFrameReceived count duties sps aligned frame => Sys2Proof.Machine.execTickFrameReceived count duties sps aligned frame s
  | .mirrorItemReceived seq m frame => Sys2Proof.Machine.execMirrorItemReceived seq m frame s
  | .mirrorAckTimeout => Sys2Proof.Machine.execMirrorAckTimeout s
  | .logFrameReceived e frame => Sys2Proof.Machine.execLogFrameReceived e frame s
  | .controlJoin hash version serials => Sys2Proof.Machine.execControlJoin hash version serials s
  | .hoistCapture => Sys2Proof.Machine.execHoistCapture s
  | .hoistSegmentReceived hoist frame => Sys2Proof.Machine.execHoistSegmentReceived hoist frame s
  | .hoistAckTimeout => Sys2Proof.Machine.execHoistAckTimeout s
  | .healthFrameSend => Sys2Proof.Machine.execHealthFrameSend s
  | .healthFrameReceived h => Sys2Proof.Machine.execHealthFrameReceived h s
  | .beaconReceived => Sys2Proof.Machine.execBeaconReceived s
  | .beaconTimeout => Sys2Proof.Machine.execBeaconTimeout s
  | .orderGrant unit num e => Sys2Proof.Machine.execOrderGrant unit num e s
  | .orderRevoke unit num e => Sys2Proof.Machine.execOrderRevoke unit num e s
  | .orderSwap unit num w urgent off => Sys2Proof.Machine.execOrderSwap unit num w urgent off s
  | .orderResync unit num => Sys2Proof.Machine.execOrderResync unit num s
  | .reportReceived r off => Sys2Proof.Machine.execReportReceived r off s
  | .armTimeout => Sys2Proof.Machine.execArmTimeout s
  | .ensignInAsserted => Sys2Proof.Machine.execEnsignInAsserted s
  | .ensignInDeasserted => Sys2Proof.Machine.execEnsignInDeasserted s
  | .takeoverLoaded => Sys2Proof.Machine.execTakeoverLoaded s
  | .swallowtailStart => Sys2Proof.Machine.execSwallowtailStart s
  | .swallowtailEnd => Sys2Proof.Machine.execSwallowtailEnd s
  | .withdrawnTimeout off => Sys2Proof.Machine.execWithdrawnTimeout off s
  | .unitFailed u off => Sys2Proof.Machine.execUnitFailed u off s
  | .killHoldExpired u => Sys2Proof.Machine.execKillHoldExpired u s
  | .coldStartWait off => Sys2Proof.Machine.execColdStartWait off s
  | .requestSwap client off => Sys2Proof.Machine.execRequestSwap client off s
  | .requestResync client off => Sys2Proof.Machine.execRequestResync client off s
  | .witnessOrderSwap client off => Sys2Proof.Machine.execWitnessOrderSwap client off s
  | .releaseKillLatches client off => Sys2Proof.Machine.execReleaseKillLatches client off s
  | .pfwAsserted finishes => Sys2Proof.Machine.execPfwAsserted finishes s
  | .pfwReleased => Sys2Proof.Machine.execPfwReleased s
  | .feedBrownOut f => Sys2Proof.Machine.execFeedBrownOut f s
  | .feedRestored f prefer => Sys2Proof.Machine.execFeedRestored f prefer s
  | .powerCmdRun client off => Sys2Proof.Machine.execPowerCmdRun client off s
  | .powerCmdDoze client off => Sys2Proof.Machine.execPowerCmdDoze client off s
  | .powerCmdSleep client off => Sys2Proof.Machine.execPowerCmdSleep client off s
  | .powerCmdShip client off => Sys2Proof.Machine.execPowerCmdShip client off s
  | .pwronDeassert => Sys2Proof.Machine.execPwronDeassert s
  | .thermalMeasurement temps finishes => Sys2Proof.Machine.execThermalMeasurement temps finishes s
  | .stageAddInterval => Sys2Proof.Machine.execStageAddInterval s
  | .stageRemoveInterval => Sys2Proof.Machine.execStageRemoveInterval s
  | .thermalShutdown => Sys2Proof.Machine.execThermalShutdown s
  | .thermalTrip => Sys2Proof.Machine.execThermalTrip s
  | .thermalRelease => Sys2Proof.Machine.execThermalRelease s
  | .imageHeader client data off => Sys2Proof.Machine.execImageHeader client data off s
  | .imageBlock client data off => Sys2Proof.Machine.execImageBlock client data off s
  | .firmwareCommit client off => Sys2Proof.Machine.execFirmwareCommit client off s
  | .firmwareClose client off => Sys2Proof.Machine.execFirmwareClose client off s
  | .firmwareConfirm client off => Sys2Proof.Machine.execFirmwareConfirm client off s
  | .selectOtherImage client off => Sys2Proof.Machine.execSelectOtherImage client off s
  | .restartCommand client unit off => Sys2Proof.Machine.execRestartCommand client unit off s
  | .keyLoad client k data entry off => Sys2Proof.Machine.execKeyLoad client k data entry off s
  | .keyRevoke client k entry off => Sys2Proof.Machine.execKeyRevoke client k entry off s
  | .signaturePolicyWrite client sub entry off => Sys2Proof.Machine.execSignaturePolicyWrite client sub entry off s
  | .signedConfigurationImage client data off => Sys2Proof.Machine.execSignedConfigurationImage client data off s
  | .attestationNonce client data off => Sys2Proof.Machine.execAttestationNonce client data off s
  | .debugChallenge client => Sys2Proof.Machine.execDebugChallenge client s
  | .debugResponse client data off => Sys2Proof.Machine.execDebugResponse client data off s
  | .lockCommand client off => Sys2Proof.Machine.execLockCommand client off s
  | .tapExtest => Sys2Proof.Machine.execTapExtest s
  | .tapClamp => Sys2Proof.Machine.execTapClamp s
  | .tapHighz => Sys2Proof.Machine.execTapHighz s
  | .tapIdcode => Sys2Proof.Machine.execTapIdcode s
  | .tapSamplePreload capture preload => Sys2Proof.Machine.execTapSamplePreload capture preload s
  | .tapBypass => Sys2Proof.Machine.execTapBypass s
  | .tapPrivateDebug code => Sys2Proof.Machine.execTapPrivateDebug code s
  | .trstRelease => Sys2Proof.Machine.execTrstRelease s
  | .killAsserted => Sys2Proof.Machine.execKillAsserted s
  | .powerOnReset => Sys2Proof.Machine.execPowerOnReset s
  | .watchdogExpired => Sys2Proof.Machine.execWatchdogExpired s
  | .resetRelease straps duplexId okA okB us otp cals => Sys2Proof.Machine.execResetRelease straps duplexId okA okB us otp cals s
  | .bootRomRetry okA okB us otp cals => Sys2Proof.Machine.execBootRomRetry okA okB us otp cals s
  | .configurationLoad => Sys2Proof.Machine.execConfigurationLoad s
  | .controllersEnabled => Sys2Proof.Machine.execControllersEnabled s
  | .startupRecord selfTest => Sys2Proof.Machine.execStartupRecord selfTest s
  | .bootUp => Sys2Proof.Machine.execBootUp s
  | .autostart => Sys2Proof.Machine.execAutostart s
  | .operationalTick => Sys2Proof.Machine.execOperationalTick s
  | .clkRefLoss => Sys2Proof.Machine.execClkRefLoss s
  | .clkPosLost => Sys2Proof.Machine.execClkPosLost s
  | .clkPanelLost => Sys2Proof.Machine.execClkPanelLost s
  | .zxoLevelSwitch n off => Sys2Proof.Machine.execZxoLevelSwitch n off s
  | .busIntegrationComplete x => Sys2Proof.Machine.execBusIntegrationComplete x s
  | .workItemDeadline item => Sys2Proof.Machine.execWorkItemDeadline item s
  | .usdoServiceStart off => Sys2Proof.Machine.execUsdoServiceStart off s
  | .beaconSend off => Sys2Proof.Machine.execBeaconSend off s
  | .controlAcknowledgement hoist n => Sys2Proof.Machine.execControlAcknowledgement hoist n s
  | .noValidHoist => Sys2Proof.Machine.execNoValidHoist s
  | .firmwareBlockVerified fault => Sys2Proof.Machine.execFirmwareBlockVerified fault s
  | .commitVerificationDone bad sigOk => Sys2Proof.Machine.execCommitVerificationDone bad sigOk s
  | .reportSigned sig => Sys2Proof.Machine.execReportSigned sig s

end Sys2Proof.Machine
end

