-- ==== Sys2Proof/Machine/Balls.lean ====
section
/-! DEFINITION. The pulls of the balls (R484, R485). -/
namespace Sys2Proof.Machine
open Sys2Proof Sys2Proof.OD

/-- Balls with an internal pull (R484). -/
inductive PulledBall where
  | pfwN | csN | tck | tms | tdi | trstN | canRxd (x : Nat) | ensignIn | killN | duplexId | startMode | testen
deriving DecidableEq, Repr

/-- What an internal pull does to its ball. -/
inductive Pull where
  | removed | up | down
deriving DecidableEq, Repr

/-- The pull that a ball has by the ball map (R484). -/
def pullByMap : PulledBall → Pull
  | .pfwN | .csN | .tms | .tdi | .trstN | .canRxd _ | .killN => .up
  | .tck | .ensignIn | .duplexId | .startMode | .testen => .down

/-- The pull in place (R485): it stays after reset, but on CS_n while that is low (`csLow`; a transaction is one command, so CS_n is
high between commands), on PFW_n in SLEEP and SHIP, and on the straps once reset is released. DESIGN CHOICE, unsafe: log entry
233. -/
def pullOf (s : State) (csLow : Bool) (b : PulledBall) : Pull :=
  match b with
  | .csN => if csLow then .removed else .up
  | .pfwN => if s.pw.off then .removed else .up
  | .duplexId | .startMode => if s.strapPulls then .down else .removed
  | b => pullByMap b

end Sys2Proof.Machine
end

