-- ==== Sys2Proof/Safety.lean ====
section
/-! DEFINITION. What counts as a safe state and a safe run of the block, and when a command meets the conditions under which
it has its own effect, in the terms that statements use. -/
namespace Sys2Proof.Machine
open Sys2Proof Sys2Proof.OD

/-- The command answers a next state that satisfies `P`. -/
def Reaches (c : Instr) (s : State) (P : State → Prop) : Prop := ∃ t, exec c s = .next t ∧ P t

/-- The invariant of the dictionary: its values stand in canonical form (log entry 4). -/
abbrev Inv (s : State) : Prop := dictWf s.dict

/-- No pin of a field port is driven. -/
def quiet (s : State) : Prop := ∀ n t, pinDrive s n t = none

/-- The device is out of reset, has supply and no thermal hold. -/
abbrev Alive (s : State) : Prop := alive s = true
/-- Its clients are served: it has sent its boot-up (R319). -/
abbrev Served (s : State) : Prop := alive s = true ∧ booted s = true
/-- Its units run: in RUN or DOZE, and not a sleeping standby (R337, R399). -/
abbrev UnitsOn (s : State) : Prop := alive s = true ∧ unitsRun s = true
/-- Its field ports and position channels are clocked, CLK_POS being present (R101, R102, R140, R400). -/
abbrev PortsOn (s : State) : Prop := alive s = true ∧ portsOn s = true ∧ s.clkPosLost = false

/-- A write that the checks of R63 let through, by a client (a node or the host port) without an open write group. -/
abbrev Accepts (s : State) (client idx sub : Nat) (data : List Byte) : Prop :=
  Served s ∧ client ≤ 0x80 ∧ groupOf s client = none ∧ writeRefusal s client idx sub data .one = 0

/-- `s` with the answer of success to a client. -/
def answered (s : State) (client : Nat) : State :=
  { s with answers := Tab.put (Tab.del s.answers client) client { code := 0, data := [] } }

/-- What an accepted write does beside its effect in a duplex pair: the holder's mirror item (R342), or the standby's mark. -/
def paired (t : State) (client idx sub : Nat) (data : List Byte) : State :=
  let t := standbyWrite t client idx sub
  if mirrored idx sub then mirrorPut t (.write idx sub data) else t

/-- `s` once a transaction of the host port has begun: the status prefix is out (R323) and the SPI mode noted. -/
def transacted (s : State) (mode3 : Bool) : State :=
  wrN { s with answers := Tab.put s.answers prefixKey { code := 0, data := statusPrefix s } } 0x2810 0x86 (if mode3 then 3 else 0)

/-- The port's frame is taken (R323): byte 3 of the prefix is 1, and 0x2810:81 counts it. -/
def frameTaken (s : State) (mode3 : Bool) : State :=
  let u := transacted s mode3
  inc { u with host := { u.host with last := 1 } } 0x2810 0x81

/-- The same for a request, whose tag is in use from then on (R325). -/
def tagTaken (s : State) (mode3 : Bool) (tag idx sub : Nat) : State :=
  let u := frameTaken s mode3
  { u with host := { u.host with tags := Tab.put u.host.tags tag { idx := idx, sub := sub } } }

/-- The host port answers: its controller runs and boot-up has been sent (R332). -/
abbrev PortReady (s : State) : Prop := Served s ∧ 3 ≤ s.rst.phase

/-- Sub-indices whose writes are commands of their owning rules, or special values; every other write goes by its Effect. -/
def commandSub (idx sub : Nat) : Bool :=
  idx == 0x1003 || idx == 0x1010 || idx == 0x1011 || idx == 0x1F82 || idx == 0x2000 || idx == 0x2400 || idx == 0x2608 || idx == 0x260C ||
  idx == 0x2610 || idx == 0x2700 || idx == 0x2710 || within idx 0x2601 0x2604 || (idx == 0x2300 && (within sub 1 6 || sub == 0x0B)) ||
  (idx == 0x2500 && sub == 0x10) || (within idx 0x2800 0x2803 && sub == 0x11) || (within idx 0x3000 0x303F && sub == 0x81) ||
  (within idx 0x3200 0x3207 && (sub == 0x80 || sub == 0x89)) || (within idx 0x3210 0x3217 && sub == 0x84) ||
  (within idx 0x3300 0x3301 && (sub == 0x80 || sub == 0x81)) || (within idx 0x3340 0x3341 && sub == 0xB0) ||
  (within idx 0x3400 0x37FF && (sub == 0x84 || sub == 0x85)) || (idx == 0x3E00 && sub == 0x10) || (idx == 0x4F00 && sub == 0x80)

/-- A write that goes by the Effect of its row: it is neither staged nor a command. -/
abbrev Plain (idx sub : Nat) (r : Row) : Prop :=
  rowOf idx sub = some r ∧ structural idx sub = false ∧ ttStaged idx sub = false ∧ commandSub idx sub = false

/-- Commands that act in a device held in reset, shut down or without supply too: what the supplies, the backup domain, the TAP,
the thermal monitor and the resets do, and the level of ENSIGN_IN. Of them each unit's own rules say what is left to do. -/
def livesOn (c : Instr) : Bool :=
  match c with
  | .ensignInAsserted | .ensignInDeasserted | .pfwAsserted _ | .pfwReleased | .feedBrownOut _ | .feedRestored _ _
  | .pwronDeassert | .secondsPulse | .trimPeriod | .rtcOscFail | .backupReset | .wakeEvent | .tapExtest | .tapClamp | .tapHighz
  | .tapIdcode | .tapSamplePreload _ _ | .tapBypass | .tapPrivateDebug _ | .trstRelease | .killAsserted | .powerOnReset
  | .resetRelease _ _ _ _ _ _ _ | .bootRomRetry _ _ _ _ _ | .configurationLoad | .thermalMeasurement _ _ | .thermalTrip
  | .thermalRelease => true
  | _ => false

/-- A command that is a client's write of one sub-index: client, index, sub-index and the bytes written. -/
def writes (c : Instr) : Option (Nat × Nat × Nat × List Byte) :=
  match c with
  | .startRecovery client x _ => some (client, 0x2800 + x, 0x11, leBytes 1 1)
  | .canModeRequest client x mode _ => some (client, 0x2800 + x, 0x0C, leBytes 1 mode)
  | .calendarFieldWrite client sub value _ => some (client, 0x2300, sub, leBytes (if sub == 1 then 2 else 1) value)
  | .calendarCommit client value _ => some (client, 0x2300, 6, leBytes 1 value)
  | .adjustmentRequest client ms _ => some (client, 0x2300, 0x0B, leBytes 4 (unsignedOf 4 ms))
  | .alarmWrite client a sub data _ => some (client, 0x2310 + a, sub, data)
  | .dictionaryWrite client idx sub data _ => some (client, idx, sub, data)
  | .structuralWrite client idx sub data _ => some (client, idx, sub, data)
  | .configurationCommit client _ => some (client, 0x2000, 0x10, leBytes 1 1)
  | .discardStaging client _ => some (client, 0x2000, 0x10, leBytes 1 2)
  | .openWriteGroup client _ => some (client, 0x2000, 0x17, leBytes 1 1)
  | .applyWriteGroup client _ => some (client, 0x2000, 0x17, leBytes 1 2)
  | .discardWriteGroup client _ => some (client, 0x2000, 0x17, leBytes 1 3)
  | .clearPennants client j mask _ => some (client, 0x2700, 0x11 + j, leBytes 4 mask)
  | .requestSwap client _ => some (client, 0x2500, 0x10, leBytes 1 1)
  | .requestResync client _ => some (client, 0x2500, 0x10, leBytes 1 2)
  | .witnessOrderSwap client _ => some (client, 0x2500, 0x10, leBytes 1 3)
  | .releaseKillLatches client _ => some (client, 0x2500, 0x10, leBytes 1 4)
  | .imageHeader client data _ => some (client, 0x2400, 0x20, data)
  | .imageBlock client data _ => some (client, 0x2400, 0x21, data)
  | .firmwareCommit client _ => some (client, 0x2400, 0x10, leBytes 1 1)
  | .firmwareClose client _ => some (client, 0x2400, 0x10, leBytes 1 2)
  | .firmwareConfirm client _ => some (client, 0x2400, 0x10, leBytes 1 3)
  | .selectOtherImage client _ => some (client, 0x2400, 0x10, leBytes 1 4)
  | .restartCommand client unit _ => some (client, 0x2400, 0x11, leBytes 1 unit)
  | .swapRequest client n _ => some (client, 0x3400 + n, 0x84, leBytes 1 1)
  | .clearLaneFault client n _ => some (client, 0x3400 + n, 0x85, leBytes 1 1)
  | .loopModeChange client n mode _ => some (client, 0x3400 + n, 0x81, leBytes 1 mode)
  | .traceArm client _ => some (client, 0x3E00, 0x10, leBytes 1 1)
  | .traceForceTrigger client _ => some (client, 0x3E00, 0x10, leBytes 1 2)
  | .traceStop client _ => some (client, 0x3E00, 0x10, leBytes 1 3)
  | .fieldNodeNmtStart client k _ => some (client, 0x1F82, k, leBytes 1 0x01)
  | .fieldNodeNmtStop client k _ => some (client, 0x1F82, k, leBytes 1 0x02)
  | .fieldNodeNmtPreOperational client k _ => some (client, 0x1F82, k, leBytes 1 0x80)
  | .fieldNodeNmtResetApplication client k _ => some (client, 0x1F82, k, leBytes 1 0x81)
  | .fieldNodeNmtResetCommunication client k _ => some (client, 0x1F82, k, leBytes 1 0x82)
  | .panelUpdateRequest client p _ => some (client, 0x3300 + p, 0x81, leBytes 1 1)
  | .panelClearUpdateRequest client p _ => some (client, 0x3300 + p, 0x81, leBytes 1 2)
  | .panelPowerOn client p _ => some (client, 0x3300 + p, 0x81, leBytes 1 3)
  | .panelPowerOff client p _ => some (client, 0x3300 + p, 0x81, leBytes 1 4)
  | .targetImageWrite client p image _ => some (client, 0x3300 + p, 0x80, leBytes 8 image)
  | .accumulatorZero client p _ => some (client, 0x3340 + p, 0xB0, leBytes 1 1)
  | .countPreset client n value _ => some (client, 0x3000 + n, 0x81, leBytes 4 value)
  | .positionPreset client c value _ => some (client, 0x3200 + c, 0x80, leBytes 4 (unsignedOf 4 value))
  | .reReference client c _ => some (client, 0x3200 + c, 0x89, leBytes 1 1)
  | .compareArm client c _ => some (client, 0x3210 + c, 0x84, leBytes 1 1)
  | .compareDisarm client c _ => some (client, 0x3210 + c, 0x84, leBytes 1 2)
  | .powerCmdRun client _ => some (client, 0x2100, 0x10, leBytes 1 0)
  | .powerCmdDoze client _ => some (client, 0x2100, 0x10, leBytes 1 1)
  | .powerCmdSleep client _ => some (client, 0x2100, 0x10, leBytes 1 4)
  | .powerCmdShip client _ => some (client, 0x2100, 0x10, leBytes 1 5)
  | .keyLoad client k data false _ => some (client, 0x2601 + k, 1, data)
  | .keyRevoke client k false _ => some (client, 0x2601 + k, 0x10, leBytes 1 1)
  | .signaturePolicyWrite client sub false _ => some (client, 0x2600, sub, leBytes 1 1)
  | .signedConfigurationImage client data _ => some (client, 0x2608, 1, data)
  | .attestationNonce client data _ => some (client, 0x2610, 1, data)
  | .debugResponse client data _ => some (client, 0x260C, 2, data)
  | .lockCommand client _ => some (client, 0x260C, 3, leBytes 1 1)
  | .storeParameters client sub _ => some (client, 0x1010, sub, leBytes 4 0x65766173)
  | .restoreDefaults client sub _ => some (client, 0x1011, sub, leBytes 4 0x64616F6C)
  | .timetableEntryWrite client idx sub data _ => some (client, idx, sub, data)
  | .timetableCommit client _ => some (client, 0x4F00, 0x80, leBytes 1 1)
  | .timetableDiscard client _ => some (client, 0x4F00, 0x80, leBytes 1 2)
  | .estimatorReinitCommand client z _ => some (client, 0x3C00 + z, 0x86, leBytes 1 1)
  | .learningReset client z _ => some (client, 0x3C80 + z, 0x89, leBytes 1 1)
  | .learningSave client z _ => some (client, 0x3C80 + z, 0x89, leBytes 1 2)
  | _ => none

/-- What a reset of cause `c` leaves of `s` (R470 to R472): the cause recorded, every pin of the field ports high-Z, every
sub-index at its Default but those of other memories; the store, the calendar's second, and without loss of power the work table. -/
structure ResetBy (c : Nat) (s t : State) : Prop where
  asserted : t.inReset = true ∧ t.rst.phase = 0 ∧ t.rst.causes.head? = some c
  pins : quiet t
  defaults : ∀ k, resetKeeps k = false → dictGet t.dict k = defaultAt k
  backup : ∀ k, resetKeeps k = true → backupKey k = true → dictGet t.dict k = dictGet s.dict k
  stored : t.store.recs = s.store.recs ∧ t.logStore = s.logStore ∧ t.cal.secs = s.cal.secs
  work : t.work = if c ≤ 2 then [] else s.work
  ensign : t.ensign = false

end Sys2Proof.Machine
end

