-- ==== Sys2Proof/Certificates/Slice0/Obligations.lean ====
section
/-! DEFINITION. The statements for the provers, one kind of command and state after another. A statement with one clause for
each command names in its docstring the rules that the clauses follow. -/
open Sys2Proof Sys2Proof.Machine Sys2Proof.OD

-- The block and its commands ------------------------------------------------------------------------------------------

/-- A step takes the command at the front of the queue, and what it does is exec on the state with the queue's rest. On an
empty queue the block idles: the model's choice (log entry 3), time passing by BASE_TICK alone. -/
def Obligations.StepTakesFrontCommand : Prop :=
  (∀ s c rest, s.pending = c :: rest → step s = exec c { s with pending := rest }) ∧
  (∀ s, s.pending = [] → step s = .next s)

/-- R60, R100, R470: right after reset every sub-index reads its Default and the dictionary is canonical, no pin is driven,
the reset is asserted with cause 0, the power-on, and nothing waits. The fields that the spec gives no reset value are the
model's (log entries 1 and 2). -/
def Obligations.ResetHoldsTheDefaults : Prop :=
  Inv State.reset ∧ quiet State.reset ∧ (∀ idx sub, rdB State.reset idx sub = defaultAt (key idx sub)) ∧
  State.reset.inReset = true ∧ State.reset.rst.causes = [0] ∧ State.reset.pending = [] ∧ State.reset.net.bootAt = none

/-- Every step answers a next state, whatever waits at the front: the rest of the queue and the fuses stand, own time stands
still but for BASE_TICK's one tick, and the canonical form of the dictionary is kept (log entry 4). -/
def Obligations.StepKeepsInvariant : Prop :=
  ∀ s, ∃ t, step s = .next t ∧ t.pending = s.pending.tail ∧ t.zh6432 = s.zh6432 ∧
    (Inv s → Inv t) ∧ (s.now ≤ t.now ∧ t.now ≤ s.now + 1) ∧
    (t.now ≠ s.now → ∃ inp, s.pending.head? = some (.baseTick inp))

/-- R472, R447, R361, R386: in a device held in reset, shut down or without supply no unit acts: every command leaves the
state as it is, but those of the supplies, the backup domain, the TAP, the thermal monitor, the resets and the level of
ENSIGN_IN. -/
def Obligations.DeadDeviceIgnoresCommands : Prop :=
  ∀ c s, alive s = false → livesOn c = false → exec c s = .next (settled s s)

/-- R63 and R64, for every command that is a client's write: refused by one of the checks it changes nothing but the
client's answer, the abort code of the first check that fails; before boot-up it is not served at all (R319, R332). -/
def Obligations.RefusedWritesOnlyAnswer : Prop :=
  ∀ c s client idx sub data, writes c = some (client, idx, sub, data) → alive s = true →
    (booted s = false → exec c s = .next (settled s s)) ∧
    (booted s = true → client ≤ 0x80 → writeRefusal s client idx sub data .one ≠ 0 →
      exec c s = .next (settled s (abort s client (writeRefusal s client idx sub data .one))))

/-- R451 to R456, R461, R38: the first cause of a condition starts it, with its bits, its log entry 0x0002 and IRQ source 3,
and the last one's end ends it with 0x0003; a further cause enters nothing. The log keeps 4 096 entries, numbered on. An
item that has ended keeps its state; one that fails enters 0x0020 and sets IRQ source 7. -/
def Obligations.ConditionsLogAndWorkItems : Prop :=
  (∀ s p c loc src, p < 128 → pennantAbsent s p = false → s.conds.any (·.1 == p) = false →
    let t := condStart s p c loc src
    (p, c) ∈ t.conds ∧ condHolds t p = true ∧ pennantSet t p = true ∧ rdBit t 0x2810 0x80 3 = true ∧
    rdN t 0x2700 0x84 = (rdN s 0x2700 0x84 + 1) % 2 ^ 32 ∧
    (t.log.head?.map fun e => (e.num, e.code, e.loc, e.qual)) = some (rdN s 0x2710 0x80, 2, loc, p)) ∧
  (∀ s p c d loc src, pennantAbsent s p = false → (p, d) ∈ s.conds → (p, c) ∉ s.conds →
    condStart s p c loc src = { s with conds := (p, c) :: s.conds }) ∧
  (∀ s p c loc, p < 128 → (p, c) ∈ s.conds → (s.conds.filter (· != (p, c))).any (·.1 == p) = false →
    let t := condEnd s p c loc
    t.conds = s.conds.filter (· != (p, c)) ∧ condHolds t p = false ∧ pennantSet t p = pennantSet s p ∧
    (t.log.head?.map fun e => (e.num, e.code, e.loc, e.qual)) = some (rdN s 0x2710 0x80, 3, loc, p)) ∧
  (∀ s code loc qual data,
    let t := logAdd s code loc qual data
    t.log.length = min 4096 (s.log.length + 1) ∧ t.log.tail = s.log.take 4095 ∧
    rdN t 0x2710 0x80 = (rdN s 0x2710 0x80 + 1) % 2 ^ 32 ∧ rdBit t 0x2810 0x80 2 = true) ∧
  (∀ s i w reason code, Tab.find s.work i = some w →
    (2 ≤ w.state → itemDone s i = s ∧ itemFail s i reason code = s) ∧
    (w.state < 2 →
      Tab.find (itemDone s i).work i = some { w with state := 2, ended := s.tick } ∧
      Tab.find (itemFail s i reason code).work i = some { w with state := 3, reason := reason, ended := s.tick, abort := code } ∧
      rdBit (itemFail s i reason code) 0x2810 0x80 7 = true ∧
      ((itemFail s i reason code).log.head?.map fun e => (e.code, e.loc, e.qual, e.data)) =
        some (0x0020, 0, reason, (0x2020 + i) % 65536)))

-- Field ports ---------------------------------------------------------------------------------------------------------

/-- R105 to R108: what the filters and the timers of a field port do, each leaving everything else as it stands. An edge held
as long as the filter asks, and 250 ns at least, is counted by DI_COUNT where its direction is selected, starts or ends the
debounce of DI where it has one, is counted by FREQ with its stamp at 5 ns where it rises, and sets DI_PIR with its stretch time where it
rises. A debounce that has run out takes the level; a stretch that has run out ends. R105: whether the filter passes a pulse
between its set time and 250 ns is undefined. The model uses one free bit (log entry 9): after the command the port counted
one edge, or nothing but the free value's counter changed. A pulse shorter than the filter changes nothing. -/
def Obligations.FieldPortInputEvents : Prop :=
  (
  (∀ s n level held off, PortsOn s → (witness s && decide (n ≤ 6)) = false → (port s n).lvl ≠ level →
    50 ≤ held → rdN s (0x3000 + n) 0x20 ≤ held →
    (rdN s (0x3000 + n) 1 = 3 →
      exec (.fieldPortEdge n level held off) s = .next (settled s (setPort s n { port s n with
        lvl := level,
        count := if rdN s (0x3000 + n) 8 = 2 ∨ (rdN s (0x3000 + n) 8 = 0 ∧ level ≠ rdF s (0x3000 + n) 3) ∨
                    (rdN s (0x3000 + n) 8 = 1 ∧ level = rdF s (0x3000 + n) 3)
                 then ((port s n).count + 1) % 2 ^ 32 else (port s n).count }))) ∧
    (rdN s (0x3000 + n) 1 = 2 → rdN s (0x3000 + n) 0x21 ≠ 0 →
      exec (.fieldPortEdge n level held off) s = .next (settled s (setPort s n { port s n with
        lvl := level, debSince := if level = (port s n).deb then none else some (nowNs s off / 5 * 5) }))) ∧
    (rdN s (0x3000 + n) 1 = 8 → level ≠ rdF s (0x3000 + n) 3 →
      exec (.fieldPortEdge n level held off) s = .next (settled s (setPort s n { port s n with
        lvl := level, edgeCount := (port s n).edgeCount + 1,
        stamps := (nowNs s off / 5 * 5 :: (port s n).stamps).take 65 }))) ∧
    (rdN s (0x3000 + n) 1 = 4 → level ≠ rdF s (0x3000 + n) 3 →
      exec (.fieldPortEdge n level held off) s = .next (settled s (wrBit (setPort s n { port s n with
        lvl := level, count := ((port s n).count + 1) % 2 ^ 32, stretched := true,
        stretchEnd := nowNs s off / 5 * 5 + rdN s (0x3000 + n) 0x28 * 1000000000 }) (0x3000 + n) 0x87 1 true)))) ∧
  (∀ s n off t, PortsOn s → rdN s (0x3000 + n) 1 = 2 → (port s n).debSince = some t →
    t + rdN s (0x3000 + n) 0x21 * 1000000 ≤ nowNs s off →
    exec (.debounceExpired n off) s =
      .next (settled s (setPort s n { port s n with deb := (port s n).lvl, debSince := none }))) ∧
  (∀ s n off, PortsOn s → rdN s (0x3000 + n) 1 = 4 → (port s n).stretched = true → (port s n).stretchEnd ≤ nowNs s off →
    exec (.presenceStretchExpired n off) s =
      .next (settled s (wrBit (setPort s n { port s n with stretched := false }) (0x3000 + n) 0x87 1 false)))) ∧
  (
  (∀ s n level held off, PortsOn s → (witness s && decide (n ≤ 6)) = false → rdN s (0x3000 + n) 1 = 8 →
    (port s n).lvl ≠ level → level ≠ rdF s (0x3000 + n) 3 → held < 50 → rdN s (0x3000 + n) 0x20 ≤ held →
    exec (.fieldPortEdge n level held off) s = .next (settled s
      (if Config.freeBit s.freeCount then
        setPort { s with freeCount := s.freeCount + 1 } n { port s n with
          lvl := level, edgeCount := (port s n).edgeCount + 1,
          stamps := (nowNs s off / 5 * 5 :: (port s n).stamps).take 65 }
       else { s with freeCount := s.freeCount + 1 }))) ∧
  (∀ s n level held off, PortsOn s → (witness s && decide (n ≤ 6)) = false → held < rdN s (0x3000 + n) 0x20 →
    exec (.fieldPortEdge n level held off) s = .next (settled s s)))

/-- R111 and R112: a PWM cycle that is over gives way to the next, which takes up the duty due and the frequency in use; in a
safe state it keeps its own length (R101). R103: a faulted port that agrees at its retry is in service again, its status bit
and its condition ended; one that does not is tried again 10 s later. R106: a preset of the counter waits for tick s + 1. -/
def Obligations.FieldPortOutputEvents : Prop :=
  (∀ s n off, PortsOn s → (rdN s (0x3000 + n) 1 = 6 ∨ rdN s (0x3000 + n) 1 = 10) → 0 < (port s n).pwmC →
    (port s n).pwmC ≤ pwmCount (port s n) (nowNs s off) →
    let c := if safeCond s = true ∨ (port s n).waiting = true then (port s n).pwmC else pwmCycle s n
    let h := pwmActive (port s n).pwmDuty c
    exec (.pwmCycleStart n off) s = .next (settled s (setPort s n { port s n with
      pwmStart := (port s n).pwmStart + (port s n).pwmC, pwmC := c, pwmH := h,
      edgeAt := if (port s n).pwmC ≤ (port s n).pwmH ↔ 0 < h then (port s n).edgeAt else nowNs s off }))) ∧
  (∀ s n, PortsOn s → (port s n).faulted = true → (port s n).retryAt ≤ s.now →
    exec (.portFaultRetry n true) s = .next (settled s (condEnd
      (wrBit (setPort s n { port s n with faulted := false, mismatch := 0 }) (0x3000 + n) 0x87 4 false)
      16 n (0x0A500000 + n))) ∧
    exec (.portFaultRetry n false) s =
      .next (settled s (setPort s n { port s n with retryAt := s.now + 100000 }))) ∧
  (∀ s client n value off, Accepts s client (0x3000 + n) 0x81 (leBytes 4 value) → n < 64 → value < 2 ^ 32 →
    exec (.countPreset client n value off) s = .next (settled s (paired
      (setPort (answered s client) n { port s n with preset := (port s n).preset ++ [(stamp s off + 1, value)] })
      client (0x3000 + n) 0x81 (leBytes 4 value))))

/-- R100 and R101: what a pin does, by the first line that applies: high-Z in reset, before the configuration is loaded and
without CLK_POS, with ENSIGN_IN deasserted where the device has it (a ZH6432 has none), without an output function and under a
port fault but for the tick of its retry (R103); the safe state under a condition of R102 or while no value is due; the function's level otherwise. The lines are
those of a pin that no boundary scan holds and no witness drives. What a CMPO drives under HOLD is the model's choice (log
entry 226). -/
def Obligations.PinsFollowTheOrderOfR100 : Prop :=
  ∀ s n t, s.tap.hold = false → (witness s && decide (n ≤ 6)) = false →
    (s.inReset = true ∨ s.cfgLoaded = false ∨ s.clkPosLost = true → pinDrive s n t = none) ∧
    (s.ensignIn = false → s.zh6432 = false → pinDrive s n t = none) ∧
    (isOut (rdN s (0x3000 + n) 1) = false → pinDrive s n t = none) ∧
    ((port s n).faulted = true → retryTick s (port s n) = false → pinDrive s n t = none) ∧
    (outputsOff s = false → s.clkPosLost = false → (s.ensignIn = true ∨ s.zh6432 = true) →
      isOut (rdN s (0x3000 + n) 1) = true → ((port s n).faulted = false ∨ retryTick s (port s n) = true) →
      ((safeCond s = true ∨ ((port s n).waiting = true ∧ rdN s (0x3000 + n) 1 ≠ 9)) →
        (rdN s (0x3000 + n) 2 = 0 → pinDrive s n t = some false) ∧ (rdN s (0x3000 + n) 2 = 1 → pinDrive s n t = some true) ∧
        (rdN s (0x3000 + n) 2 = 2 → pinDrive s n t =
          if rdN s (0x3000 + n) 1 = 9 then some (rdF s (0x3000 + n) 3)
          else if (port s n).applied = true then some (functionLevel s n t) else none) ∧
        (rdN s (0x3000 + n) 2 = 3 → pinDrive s n t = none)) ∧
      (safeCond s = false → (port s n).waiting = false → pinDrive s n t = some (functionLevel s n t)))

-- Position and speed --------------------------------------------------------------------------------------------------

/-- R121 to R125: an edge that the filter passes. In quadrature an edge of A alone or of B alone counts as the mode says, x1 at
an edge of A with B low, x2 at every edge of A, x4 at every edge, up where A leads B; both at once are an illegal transition: a
signal fault that clears the speed history. Pulse and direction counts at the rising edge of A, in the direction of B, or in
one that a free bit gives where B was not stable (log entry 55). A Hall step to a neighbour counts, any other is illegal. A
channel that does not count only follows the levels. Every counted edge moves the count by one. R130, R131: the first index
event references the channel; a later one in tolerance moves the count by minus the deviation; one out of tolerance is an
index mismatch. -/
def Obligations.PositionEvents : Prop :=
  (
  (∀ s c a b z stable held off, Alive s → rdN s (0x3200 + c) 0x20 ≤ held →
    let q := pos s c
    let ab := setPos s c { q with a := a, b := b }
    let abz := setPos s c { q with a := a, b := b, z := z }
    let back := rdF s (0x3200 + c) 2
    let t := nowNs s off / 5 * 5
    let faulted (u : State) : State :=
      signalFault (setPos u c { pos u c with stamps := [], edges := 0, stopped := false, starting := false, reversal := false }) c
    let answers (u : State) : Prop := exec (.encoderEdge c a b z stable held off) s = .next (settled s u)
    (posCounts s = true →
      (1 ≤ rdN s (0x3200 + c) 1 → rdN s (0x3200 + c) 1 ≤ 3 →
        (a ≠ q.a → b = q.b →
          answers (if rdN s (0x3200 + c) 1 = 1 ∧ b = true then ab else countEdge ab c ((a == b) != back) t)) ∧
        (a = q.a → b ≠ q.b → answers (if rdN s (0x3200 + c) 1 = 3 then countEdge ab c ((a != b) != back) t else ab)) ∧
        (a ≠ q.a → b ≠ q.b → answers (faulted ab)) ∧
        (a = q.a → b = q.b → answers s)) ∧
      (rdN s (0x3200 + c) 1 = 4 →
        (a = true → q.a = false → stable = true → answers (countEdge ab c (!b != back) t)) ∧
        (a = true → q.a = false → stable = false →
          answers (countEdge { ab with freeCount := s.freeCount + 1 } c (Config.freeBit s.freeCount) t)) ∧
        (a = false ∨ q.a = true → answers ab)) ∧
      (rdN s (0x3200 + c) 1 = 5 → ¬ (a = q.a ∧ b = q.b ∧ z = q.z) →
        (∀ i j, hallPlace q.a q.b q.z = some i → hallPlace a b z = some j →
          (j = (i + 1) % 6 → answers (countEdge abz c back t)) ∧
          (i = (j + 1) % 6 → answers (countEdge abz c (!back) t)) ∧
          (j ≠ (i + 1) % 6 → i ≠ (j + 1) % 6 → answers (faulted abz))) ∧
        (hallPlace q.a q.b q.z = none ∨ hallPlace a b z = none → answers (faulted abz)))) ∧
    (rdN s (0x3200 + c) 1 = 0 ∨ (posCounts s = false ∧ rdN s (0x3200 + c) 1 = 5) → answers abz) ∧
    (posCounts s = false → 1 ≤ rdN s (0x3200 + c) 1 → rdN s (0x3200 + c) 1 ≤ 4 → answers ab)) ∧
  (∀ s c down t,
    let p := pos (countEdge s c down t) c
    p.count = add32 (pos s c).count (if down then -1 else 1) ∧ p.down = down ∧ p.stopped = false ∧
    p.stamps.head? = some t)) ∧
  (
  (∀ s c level held off, Alive s → posCounts s = true → rdN s (0x3200 + c) 0x20 ≤ held → rdF s (0x3200 + c) 3 = true →
    1 ≤ rdN s (0x3200 + c) 1 → rdN s (0x3200 + c) 1 ≤ 4 → (pos s c).z ≠ level → level = (rdN s (0x3200 + c) 4 == 0) →
    (pos s c).referenced = false →
    exec (.indexEvent c ⟨level, held⟩ off) s = .next (settled s (
      let cnt := if rdN s (0x3200 + c) 5 = 1 then rdN s (0x3200 + c) 0x23 else (pos s c).count
      setPos s c { pos s c with z := level, indexCount := (pos s c).indexCount + 1, count := cnt, idxRef := cnt,
                                referenced := true }))) ∧
  (∀ s c level held off, Alive s → posCounts s = true → rdN s (0x3200 + c) 0x20 ≤ held → rdF s (0x3200 + c) 3 = true →
    1 ≤ rdN s (0x3200 + c) 1 → rdN s (0x3200 + c) 1 ≤ 4 → (pos s c).z ≠ level → level = (rdN s (0x3200 + c) 4 == 0) →
    (pos s c).referenced = true →
    let m := (diff32 (pos s c).count (pos s c).idxRef % (rdN s (0x3200 + c) 0x21 : Int)).toNat
    let e : Int := if m > rdN s (0x3200 + c) 0x21 / 2 then (m : Int) - rdN s (0x3200 + c) 0x21 else m
    let p := { pos s c with z := level, indexCount := (pos s c).indexCount + 1 }
    (e = 0 →
      exec (.indexEvent c ⟨level, held⟩ off) s = .next (settled s (setPos s c { p with idxRef := p.count }))) ∧
    (e ≠ 0 → e.natAbs ≤ rdN s (0x3200 + c) 0x22 →
      exec (.indexEvent c ⟨level, held⟩ off) s = .next (settled s (compareMove
        (inc (setPos s c { p with count := add32 p.count (-e), idxRef := add32 p.count (-e), corrected := true })
          (0x3200 + c) 0x86) c p.count (add32 p.count (-e)) (nowNs s off / 5 * 5)))) ∧
    (rdN s (0x3200 + c) 0x22 < e.natAbs →
      exec (.indexEvent c ⟨level, held⟩ off) s = .next (settled s (condStart
        (inc (wrN (setPos s c { p with mismatch := true }) (0x3200 + c) 0x85 p.count) (0x3200 + c) 0x87)
        19 c (0x0A604000 + c) 0xFF)))))

/-- R129, R131, R137: a preset, a re-reference and the arming of a compare list take effect at tick s + 1, s being the stamp
of the write, after those that wait for theirs already. -/
def Obligations.PositionRequestsWaitForTick : Prop :=
  ∀ s client c off, c < 8 →
    (∀ value : Int, Accepts s client (0x3200 + c) 0x80 (leBytes 4 (unsignedOf 4 value)) →
      exec (.positionPreset client c value off) s = .next (settled s (paired
        (setPos (answered s client) c { pos s c with preset := (pos s c).preset ++ [(stamp s off + 1, unsignedOf 4 value)] })
        client (0x3200 + c) 0x80 (leBytes 4 (unsignedOf 4 value))))) ∧
    (Accepts s client (0x3200 + c) 0x89 (leBytes 1 1) →
      exec (.reReference client c off) s = .next (settled s (paired
        (setPos (answered s client) c { pos s c with reRef := (pos s c).reRef ++ [stamp s off + 1] })
        client (0x3200 + c) 0x89 (leBytes 1 1)))) ∧
    (Accepts s client (0x3210 + c) 0x84 (leBytes 1 1) →
      exec (.compareArm client c off) s = .next (settled s (paired
        (setPos (answered s client) c { pos s c with arm := (pos s c).arm ++ [(stamp s off + 1, 1)] })
        client (0x3210 + c) 0x84 (leBytes 1 1)))) ∧
    (Accepts s client (0x3210 + c) 0x84 (leBytes 1 2) →
      exec (.compareDisarm client c off) s = .next (settled s (paired
        (setPos (answered s client) c { pos s c with arm := (pos s c).arm ++ [(stamp s off + 1, 2)] })
        client (0x3210 + c) 0x84 (leBytes 1 2))))

/-- The timed events of the position channels. R133: a channel whose last counted edge lies the standstill timeout back
stands still: its speed history is empty and STOPPED holds. R138: a compare pulse whose width has run out ends, and the port
that serves it has its edge at that instant. R126 and R127: an SSI frame is complete when all its clock edges are out. With
PA's levels right it gives its count: the first one as it stands, a later one by its signed difference modulo 2 to the
frame's width, which the compare list follows; with a wrong level it is a signal fault and leaves the count. -/
def Obligations.PositionTimersRunOut : Prop :=
  (∀ s c off t l, PortsOn s → (pos s c).stamps = t :: l → 1 ≤ rdN s (0x3200 + c) 1 → rdN s (0x3200 + c) 1 ≤ 5 →
    t + rdN s (0x3200 + c) 0x25 * 1000000 ≤ nowNs s off →
    exec (.standstillTimeout c off) s = .next (settled s (setPos s c { pos s c with
      stamps := [], edges := 0, stopped := true, starting := false, reversal := false }))) ∧
  (∀ s c off e, PortsOn s → (pos s c).pulseEnd = some e → e ≤ nowNs s off →
    exec (.comparePulseEnd c off) s = .next (settled s (
      let s' := setPos s c { pos s c with pulseEnd := none }
      match cmpPort s c with
      | some n => setPort s' n { port s n with edgeAt := e }
      | none => s'))) ∧
  (
  ∀ s c value startHigh endLow off, PortsOn s → rdN s (0x3200 + c) 1 = 6 → (pos s c).frameBusy = true →
    (pos s c).frameAt + 10 * ssiHalf s c * (rdN s (0x3200 + c) 8 + 1) + 5 * rdN s (0x3200 + c) 0x0C ≤ nowNs s off →
    let t := nowNs s off
    let p := { pos s c with frameBusy := false, frameFree := t + rdN s (0x3200 + c) 0x0B * 1000 }
    let b := rdN s (0x3200 + c) 8
    let v := if rdN s (0x3200 + c) 9 = 1 then grayDecode (value % 2 ^ b) b else value % 2 ^ b
    ((startHigh && endLow) = false →
      exec (.ssiFrameComplete c value startHigh endLow off) s =
        .next (settled s (signalFault (setPos s c { p with ssiErrors := p.ssiErrors + 1 }) c))) ∧
    ((startHigh && endLow) = true → (pos s c).vPrev = none →
      exec (.ssiFrameComplete c value startHigh endLow off) s = .next (settled s (setPos s c
        { p with count := v, vPrev := some v, ssiErrors := 0, frames := [v],
                 changedAt := if v = p.count then p.changedAt else some t }))) ∧
    ((startHigh && endLow) = true → ∀ w, (pos s c).vPrev = some w →
      let m := (v + 2 ^ b - w % 2 ^ b) % 2 ^ b
      let d : Int := if 2 ^ (b - 1) ≤ m then (m : Int) - 2 ^ b else m
      let c1 := add32 p.count d
      exec (.ssiFrameComplete c value startHigh endLow off) s = .next (settled s (
        let s' := setPos s c { p with
          count := c1, vPrev := some v, ssiErrors := 0, frames := (c1 :: p.frames).take 65,
          down := if d = 0 then p.down else decide (d < 0), changedAt := if d = 0 then p.changedAt else some t }
        if d = 0 then s' else compareMove s' c p.count c1 t))))

-- Measurement ---------------------------------------------------------------------------------------------------------

/-- R88 to R90: the calibration window. At T − 1 SP is compared and substituted; at T + 199 the slice is back in parallel
with the coefficients that its calibration gave; at T + 200 it takes its inputs back when the comparison held and the
coefficients lie in their bounds, and otherwise goes back to its previous coefficients for one more comparison. SP's own
calibration starts at t + 8 500 and gives its coefficients 200 ticks later. R83 and R84: an injection that a detector sees
marks the input and the next 20 conversions of its slice, those that start later in its period anew (the model's reading, log
entry 22); one above 1 mA marks the next 20 of all sixteen slices and is condition 11, and the end of the last one ends the
condition. -/
def Obligations.CalibrationAndInjection : Prop :=
  (
  (∀ s spCoef, UnitsOn s → s.meas.calPhase = 1 → s.meas.calT = s.tick + 1 → s.meas.calSlice < 16 → quiescing s = false →
    (freeItem s).isSome = true → s.meas.cmpFail = false →
    Reaches (.calibrationWindowStart spCoef) s fun t =>
      t.meas = { s.meas with
        calItem := freeItem s, calPhase := 2, calFails := 0, calRetry := none, calPrev := coefsOf s s.meas.calSlice } ∧
      rdN t (0x3160 + s.meas.calSlice) 0x80 = 1 ∧ rdN t (0x3160 + s.meas.calSlice) 0x81 = 16 ∧ rdN t 0x3170 0x80 = 5) ∧
  (∀ s coef, UnitsOn s → s.meas.calPhase = 2 → s.meas.calT + 198 = s.tick →
    exec (.calibrationReconnect coef) s = .next (settled s (
      let s' := wrN (setCoefs s s.meas.calSlice coef) (0x3160 + s.meas.calSlice) 0x80 7
      { s' with meas := { s'.meas with calPhase := 3, calOob := coefOob coef } }))) ∧
  (∀ s, UnitsOn s → s.meas.calPhase = 3 → s.meas.calT + 199 = s.tick → s.meas.calSlice < 16 →
    (s.meas.cmpFail = false → s.meas.calOob = false →
      Reaches .calibrationWindowEnd s fun t =>
        t.meas.calPhase = 0 ∧ t.meas.coef = s.meas.coef ∧ rdN t (0x3160 + s.meas.calSlice) 0x80 = 0 ∧
        rdN t 0x3170 0x80 = 4 ∧ rdN t 0x3180 0x81 = (s.meas.calSlice + 1) % 16) ∧
    ((s.meas.cmpFail || s.meas.calOob) = true →
      Reaches .calibrationWindowEnd s fun t =>
        t.meas = { (setCoefs s s.meas.calSlice s.meas.calPrev).meas with calPhase := 4 })) ∧
  (∀ s coef, UnitsOn s → s.counting = true → rdF s 0x3180 0x24 = true → s.meas.calStopped = false → 17000 < s.tick + 1 →
    (s.tick + 1) % 17000 = 8500 → rdN s 0x3170 0x80 = 4 →
    exec (.spareSelfCalibration coef) s = .next (settled s
      (wrN { s with meas := { s.meas with spCal := some (s.tick + 201, coef) } } 0x3170 0x80 6)))) ∧
  (
  (∀ s ch above below off, UnitsOn s → injStrong s = false → (11, 0) ∉ s.conds →
    exec (.injectionDetected ch above below false true off) s = .next (settled s (
      let s' := { s with meas := { s.meas with
        inj := Tab.put s.meas.inj ch ((if above then 1 else 0) + (if below then 2 else 0)),
        suspTail := Tab.put s.meas.suspTail (ch / 6) 20 } }
      { s' with meas := { s'.meas with chans := remarked s' [ch / 6] off } }))) ∧
  (∀ s ch above below off, UnitsOn s →
    exec (.injectionDetected ch above below true true off) s = .next (settled s (
      let s' := { s with meas := { s.meas with
        inj := Tab.put s.meas.inj ch ((if above then 1 else 0) + (if below then 2 else 0) + 4),
        suspTail := Tab.put s.meas.suspTail (ch / 6) 20 } }
      condStart { s' with meas := { s'.meas with
        chans := remarked s' (List.range 16) off, suspTail := (List.range 16).map fun i => (i, 20) } }
        11 0 (0x06404000 + ch) 0xFF))) ∧
  (∀ s ch above below strong off, UnitsOn s →
    Reaches (.injectionDetected ch above below strong false off) s fun t =>
      t.meas.inj = Tab.del s.meas.inj ch ∧
      (injStrong t = false → t.conds = s.conds.filter (· != (11, 0)))))

-- Thermal -------------------------------------------------------------------------------------------------------------

/-- R405, R407: a measurement leaves the twelve readings, in kelvin quarters, in 0x2200:84 to 8F. -/
def Obligations.ThermalReadingsStand : Prop :=
  ∀ s temps finishes, Alive s →
    Reaches (.thermalMeasurement temps finishes) s fun t =>
      ∀ n, n < 12 → rdR t 0x2200 (0x84 + n) = F32.ofRat (mkRat (temps.getD n 0) 4)

/-- R409, R411 and R412: an add interval adds a stage while H is at its threshold and falls by less than 0.5 K; a remove
interval takes one away; the budget of an orderly stop ends in the thermal hold; two sensors at T_trip hold the device in
reset. -/
def Obligations.ThermalStages : Prop :=
  (∀ s, Alive s → rdN s 0x2200 0x94 ≠ 0 → s.th.addAt + msT (rdN s 0x2200 0x20) ≤ s.now →
    exec .stageAddInterval s = .next (settled s (
      let s' := { s with th := { s.th with addAt := s.now, addH := lastH s } }
      thState (if thAt s 115 ≤ lastH s ∧ s.th.addH - lastH s < 2 ∧ rdN s 0x2200 0x94 < 5
        then stageSet s' (rdN s 0x2200 0x94 + 1) else s')))) ∧
  (∀ s r, Alive s → s.th.removeAt = some r → rdN s 0x2200 0x94 ≠ 0 →
    4 ≤ ((List.range 12).filter fun n => bit (rdN s 0x2200 0x92) n).length → r + msT (rdN s 0x2200 0x21) ≤ s.now →
    lastH s < thAt s 110 →
    exec .stageRemoveInterval s = .next (settled s
      (thState (stageSet { s with th := { s.th with removeAt := some s.now } } (rdN s 0x2200 0x94 - 1))))) ∧
  (∀ s a, Alive s → s.th.stopAt = some a → rdN s 0x2200 0x9C ≤ (s.now - a) * 100 →
    Reaches .thermalShutdown s fun t => t.th = { s.th with hold := 1, cool := 0 } ∧ alive t = false) ∧
  (∀ s, Alive s → 2 ≤ ((List.range 12).filter fun n => decide (mkRat (thAt s 135) 4 ≤ F32.toRat (rdR s 0x2200 (0x84 + n)))).length →
    exec .thermalTrip s = .next (settled s (
      let s' := inc s 0x2200 0x9B
      { s' with th := { s'.th with hold := 2, cool := 0 }, cal := { s'.cal with trip := true }, inReset := true }))) ∧
  (∀ s, s.pw.off = false → s.th.hold ≠ 0 → 1000 ≤ s.th.cool →
    Reaches .thermalRelease s fun t => t.th.hold = 0)

-- Calendar and backup domain ------------------------------------------------------------------------------------------

/-- R362 to R365, R374, R382: a seconds pulse counts the UTC second, also while the rest of the device is dead; the walk and
the alarms follow it while the calendar is valid. A failed oscillator makes the calendar invalid. R374: an absolute alarm
whose instant is the second that the pulse carries, and after its latch, fires: its latch and its last instant take the
second, and its counter goes up. -/
def Obligations.SecondsPulseAndAlarms : Prop :=
  (
  (∀ s, s.cal.stopped = false → s.cal.secs < calMax →
    Reaches .secondsPulse s fun t => t.cal.secs = s.cal.secs + 1 ∧ t.cal.pulseAt = s.now ∧ t.cal.sub0 = 0) ∧
  (∀ s, Alive s → s.cal.stopped = false → s.cal.secs < calMax → calValid s = true →
    Reaches .secondsPulse s fun t => t.tt.pulse = true) ∧
  (∀ s, Reaches .rtcOscFail s fun t => calValid t = false) ∧
  (∀ s, Alive s → Reaches .rtcOscFail s fun t => (64, 0) ∈ t.conds ∧ pennantSet t 65 = true)) ∧
  (
  ∀ s a, a < 8 → s.cal.stopped = false → s.cal.secs < calMax → calValid s = true → rdN s (0x2310 + a) 1 = 1 →
    rdN s (0x2310 + a) 2 = s.cal.secs + 1 → rdN s (0x2310 + a) 0x85 < s.cal.secs + 1 →
    Reaches .secondsPulse s fun t =>
      rdN t (0x2310 + a) 0x85 = s.cal.secs + 1 ∧ rdN t (0x2310 + a) 0x80 = s.cal.secs + 1 ∧
      rdN t (0x2310 + a) 0x83 = (rdN s (0x2310 + a) 0x83 + 1) % 2 ^ 32)

/-- R361, R378, R379, R381: what the backup domain does by itself: the trim of a period, a wake event, the deassertion of
PWRON and the domain's own reset. The temperature for the trim comes from the thermal monitor. -/
def Obligations.BackupDomainEvents : Prop :=
  (∀ s, Reaches .trimPeriod s fun t =>
    let q (n : Nat) : Rat := F32.toRat (rdR s 0x2300 n)
    rdI t 0x2300 0x33 = max (-127) (min 127
      (roundRat ((q 0x30 - q 0x31 * (q 0x34 - q 0x32) * (q 0x34 - q 0x32)) * mkRat 1048576 1000000)))) ∧
  (∀ s, Reaches .wakeEvent s fun t =>
    rdN t 0x2300 0x83 = (rdN s 0x2300 0x83 + 1) % 2 ^ 32 ∧
    (rdN s 0x2100 0x80 = 4 ∨ rdN s 0x2100 0x80 = 5 → t.cal.pwron = true ∧ rdN t 0x2300 0x82 = 1)) ∧
  (∀ s ship, s.cal.offDue = some ship → Reaches .pwronDeassert s fun t =>
    t.cal.pwron = false ∧ t.cal.offDue = none ∧ (ship = true → t.cal.stopped = true ∧ calValid t = false)) ∧
  (∀ s, Reaches .backupReset s fun t =>
    t.cal.secs = 0 ∧ t.cal.pwron = true ∧ calValid t = false ∧ rdN t 0x2300 0x82 = 0 ∧
    ∀ a, a < 8 → rdN t (0x2310 + a) 0x85 = 0) ∧
  (∀ s, Alive s → (rdBit s 0x2100 0x81 0 || rdBit s 0x2100 0x81 1) = true →
    let v := (List.range 12).filter fun n => bit (rdN s 0x2200 0x92) n
    v ≠ [] →
    exec .trimTemperatureSample s = .next (settled s (wrR s 0x2300 0x34
      (F32.ofRat ((v.foldl (fun a n => a + F32.toRat (rdR s 0x2200 (0x84 + n))) 0) / (v.length : Rat))))))

/-- R368: a field from year to minute is staged for its client alone; ten seconds without one discard what is staged. R366:
a read freezes the second for the client's further reads, and 500 ms release it. R369: the write of the second sets the
calendar to the staged fields, with the running ones where none is staged, makes it valid, and starts the second at the
write. -/
def Obligations.CalendarStagingAndCommit : Prop :=
  (
  (∀ s client sub value off, 1 ≤ sub → sub ≤ 5 → value < (if sub = 1 then 65536 else 256) →
    let data := leBytes (if sub == 1 then 2 else 1) value
    Accepts s client 0x2300 sub data →
    let mine := (sub, value) :: (Tab.get s.cal.stage client ([], 0)).1.filter (·.1 != sub)
    exec (.calendarFieldWrite client sub value off) s = .next (settled s (paired
      { answered s client with cal := { s.cal with stage := Tab.put s.cal.stage client (mine, s.now) } }
      client 0x2300 sub data))) ∧
  (∀ s client f t, Served s → Tab.find s.cal.stage client = some (f, t) → t + 100000 ≤ s.now →
    exec (.calendarStageTimeout client) s =
      .next (settled s { s with cal := { s.cal with stage := Tab.del s.cal.stage client } })) ∧
  (∀ s client, Served s → client ≤ 0x80 → s.cal.shadows.find? (·.client == client) = none →
    Reaches (.calendarRead client 0x0A) s fun t =>
      Tab.find t.answers client = some { code := 0, data := leBytes 8 s.cal.secs } ∧
      t.cal.shadows.find? (·.client == client) =
        some { client := client, at_ := s.now, secs := s.cal.secs, sub := subSecond s }) ∧
  (∀ s client x sub, Served s → client ≤ 0x80 → 1 ≤ sub → sub ≤ 6 → s.cal.shadows.find? (·.client == client) = some x →
    Reaches (.calendarRead client sub) s fun t =>
      Tab.find t.answers client = some { code := 0, data := leBytes (if sub = 1 then 2 else 1) (calField x.secs sub) }) ∧
  (∀ s client, Served s →
    exec (.calendarShadowTimeout client) s = .next (settled s { s with cal := { s.cal with
      shadows := s.cal.shadows.filter fun x => !(x.client == client && decide (x.at_ + 5000 ≤ s.now)) } }))) ∧
  (
  ∀ s client value off, value < 256 → Accepts s client 0x2300 6 (leBytes 1 value) →
    let mine := (Tab.get s.cal.stage client ([], 0)).1
    let f (n : Nat) : Nat := match mine.find? (·.1 == n) with | some p => p.2 | none => calField s.cal.secs n
    2000 ≤ f 1 → f 1 ≤ 2399 → 1 ≤ f 2 → f 2 ≤ 12 → 1 ≤ f 3 → f 3 ≤ monthDays (f 1) (f 2) →
    Reaches (.calendarCommit client value off) s fun t =>
      t.cal.secs = (yearStart (f 1) + monthStart (f 1) (f 2) + (f 3 - 1)) * 86400 + f 4 * 3600 + f 5 * 60 + value ∧
      t.cal.pulseAt = s.now ∧ t.cal.sub0 = 0 ∧ t.cal.stage = [] ∧ t.cal.slew = none ∧ calValid t = true ∧
      Tab.find t.answers client = some { code := 0, data := [] })

/-- R370 and R371: an adjustment of at most 2 s is slewed, a greater one steps the calendar. R375: a write of an alarm's
mode or time sets its latch to the running second. -/
def Obligations.AdjustmentsAndAlarmWrites : Prop :=
  (∀ s client (ms : Int) off, -2 ^ 31 ≤ ms → ms < 2 ^ 31 → Accepts s client 0x2300 0x0B (leBytes 4 (unsignedOf 4 ms)) →
    let d : Rat := (ms : Rat) + slewLeft s
    (-2000 ≤ d → d ≤ 2000 →
      Reaches (.adjustmentRequest client ms off) s fun t =>
        t.cal.secs = s.cal.secs ∧
        t.cal.slew = some { c := roundRat (d * 32768 / 1000), d := d, i := 0, begun := false } ∧
        Tab.find t.answers client = some { code := 0, data := [] }) ∧
    (let n := calCounts s + roundRat (d * 32768 / 1000)
     (d < -2000 ∨ 2000 < d) → 0 ≤ n → n < ((calMax : Int) + 1) * 32768 →
      Reaches (.adjustmentRequest client ms off) s fun t =>
        t.cal.secs = (n / 32768).toNat ∧ t.cal.sub0 = (n % 32768).toNat ∧ t.cal.slew = none ∧
        Tab.find t.answers client = some { code := 0, data := [] })) ∧
  (∀ s client a sub data off, a < 8 → sub = 1 ∨ sub = 2 → Accepts s client (0x2310 + a) sub data →
    exec (.alarmWrite client a sub data off) s = .next (settled s (paired
      (wrN (wrB (eccMended (answered s client) [key (0x2310 + a) sub]) (0x2310 + a) sub data) (0x2310 + a) 0x85 s.cal.secs)
      client (0x2310 + a) sub data)))

-- Reset, start-up, losses ---------------------------------------------------------------------------------------------

/-- R470 to R472: KILL_n, the fall of the internal rail, a watchdog that expired, TRST_n in a boundary-scan hold, the end of
a thermal hold and the release of PFW_n assert a reset, each with its cause. -/
def Obligations.ResetsLeaveTheResetState : Prop :=
  (∀ s, s.pw.off = false → Reaches .killAsserted s (ResetBy 3 s)) ∧
  (∀ s, s.pw.off = false → Reaches .powerOnReset s (ResetBy 0 s)) ∧
  (∀ s, s.pw.off = true → s.cal.pwron = true → rdN s 0x2300 0x82 ≤ 2 →
    Reaches .powerOnReset s (ResetBy (rdN s 0x2300 0x82) s)) ∧
  (∀ s, Alive s → 1000 ≤ s.rst.wdAge → Reaches .watchdogExpired s (ResetBy 5 s)) ∧
  (∀ s, s.pw.off = false → s.tap.hold = true → Reaches .trstRelease s fun t => ResetBy 9 s t ∧ t.tap = { dr := idcode s }) ∧
  (∀ s, s.pw.off = false → s.th.hold ≠ 0 → 1000 ≤ s.th.cool →
    Reaches .thermalRelease s fun t => ResetBy (if s.th.hold = 2 then 8 else 7) s t ∧ t.th.hold = 0) ∧
  (∀ s, Alive s → rdN s 0x2100 0x80 = 3 → s.pw.recordAt = none →
    Reaches .pfwReleased s fun t => ResetBy 6 s t ∧ t.pfw = false)

/-- R470, R474, R438: the release latches the straps, whose pull-downs are then removed (R485), records the lowest cause and
runs the boot ROM; without a good image the device stays there and verifies again; with one it boots that image. R487: with
TESTEN high at the release the boot ROM does not start, and the device stays in reset. -/
def Obligations.ReleaseRunsTheBootRom : Prop :=
  (∀ s startMode decayed duplexId okA okB us otp cals, s.inReset = true → s.rst.phase = 0 → s.rst.causes ≠ [] → s.th.hold = 0 →
    s.tap.hold = false → s.pw.off = false →
    Reaches (.resetRelease ⟨startMode, false, decayed⟩ duplexId okA okB us otp cals) s fun t =>
      t.rst.phase = 1 ∧ t.rst.causes = [] ∧ t.rst.cause = s.rst.causes.foldl Nat.min 9 ∧ t.rst.prevCause = s.rst.cause ∧
      t.rst.startMode = startMode ∧ rdN t 0x2500 0x80 = (if duplexId then 1 else 0) ∧
      pullOf t false .duplexId = .removed ∧ pullOf t false .startMode = .removed) ∧
  (∀ s startMode decayed duplexId okA okB us otp cals, s.inReset = true → s.rst.phase = 0 → s.rst.causes ≠ [] → s.th.hold = 0 →
    s.tap.hold = false → s.pw.off = false →
    Reaches (.resetRelease ⟨startMode, true, decayed⟩ duplexId okA okB us otp cals) s fun t =>
      t.inReset = true ∧ t.rst.phase = 0 ∧ t.rst.causes = [] ∧ t.strapPulls = s.strapPulls) ∧
  (∀ s us otp cals, s.rst.phase = 1 → s.rst.romHold = true → s.th.hold = 0 → s.pw.off = false →
    Reaches (.bootRomRetry false false us otp cals) s fun t =>
      t.rst.romHold = true ∧ t.rst.bootResult = 3 ∧ t.rst.retries = s.rst.retries + 1) ∧
  (∀ s okA okB us cals i fallback, s.rst.phase = 1 → s.rst.romHold = true → s.th.hold = 0 → s.pw.off = false →
    (bootChoice { s with rst := { s.rst with retries := s.rst.retries + 1 } } okA okB).2 = some (i, fallback) →
    Reaches (.bootRomRetry okA okB us none cals) s fun t =>
      t.rst.romHold = false ∧ t.rst.imageBooted = i ∧ t.rst.retries = 0 ∧ t.rst.starts = s.rst.starts + 1)

/-- R60, R289, R467, R474, R319: the steps of start-up after the boot ROM, each in its place. -/
def Obligations.StartUpStepsFollow : Prop :=
  (∀ s, s.rst.phase = 1 → s.rst.romHold = false → s.th.hold = 0 → s.pw.off = false →
    Reaches .configurationLoad s fun t =>
      t.rst.phase = 2 ∧ t.cfgLoaded = true ∧ t.inReset = false ∧ t.tickRun = true) ∧
  (∀ s, Alive s → s.rst.phase = 2 → Reaches .controllersEnabled s fun t =>
    t.rst.phase = 3 ∧ ∀ x, x < 3 → canState s x = 0 → canState t x = 1) ∧
  (∀ s selfTest, Alive s → s.rst.phase = 3 → Reaches (.startupRecord selfTest) s fun t =>
    t.rst.phase = 4 ∧ t.rst.recBuilt = true ∧ t.store.journal = []) ∧
  (∀ s, Alive s → s.rst.phase = 4 → s.rst.nmtReset = false → inPair s = false → Reaches .bootUp s fun t =>
    t.rst.phase = 5 ∧ t.net.bootAt = some s.now ∧ nmt t = 0x7F)

/-- R477 and R478: an NMT start that is due, or the autostart, makes the tick to come the operational tick: the device is
operational and its base ticks count from there. R20, R430, R446: BASE_TICK moves own time by one tick, the model's own
clock (log entry 8), while the tick generator runs; at the tick of a restart ordered the device is reset, with cause 4, and
does nothing else. -/
def Obligations.OperationalTickStartsTheCount : Prop :=
  (∀ s, Alive s → s.counting = false → (s.net.nmtDue.any fun p => decide (p.1 ≤ s.now + 1) && p.2 == 1) = true →
    Reaches .operationalTick s fun t => t.counting = true ∧ nmt t = 5 ∧ t.rst.opAt = some (s.now + 1)) ∧
  (∀ s t0, Alive s → autostartAt s = some t0 → t0 ≤ s.now + 1 →
    Reaches .autostart s fun t => t.counting = true ∧ nmt t = 5 ∧ t.rst.opAt = some (s.now + 1)) ∧
  (∀ s inp, Alive s → s.tickRun = true → Reaches (.baseTick inp) s fun t => t.now = s.now + 1) ∧
  (∀ s inp t₀, Alive s → s.tickRun = true → s.fw.restartAt = some t₀ → t₀ ≤ s.now + 1 →
    Reaches (.baseTick inp) s fun t => ResetBy 4 s t ∧ t.now = s.now + 1) ∧
  (∀ s inp, s.tickRun = false → exec (.baseTick inp) s = .next (settled s s))

/-- R14, R102, R244: the losses of the clocks: CLK_REF's is condition 0, with the fallback to the internal oscillator in
0x2010:0A; without CLK_POS every port waits for a value; without CLK_PANEL each panel port is high-Z. R36: an error that the
SRAM scrubber corrects is counted and logged; an uncorrectable one is an event with its log entry 0x0011, beside what its
region suffers: the field ports' safe state, a value or a log entry that readers are refused (R58), a frame lost from a CAN
buffer or FIFO; one in a loop's word is that loop's ECC error (R171, R174), with the event and the entry of its own rule. -/
def Obligations.LossesOfClocksAndMemory : Prop :=
  (∀ s, Alive s → exec .clkRefLoss s = .next (settled s (condStart (wrN s 0x2010 0x0A 2) 0 0 0x02004000 0xFF))) ∧
  (∀ s, Alive s → exec .clkPosLost s = .next (settled s { s with
    clkPosLost := true, ports := s.ports.map fun p => (p.1, { p.2 with waiting := true }) })) ∧
  (∀ s, Alive s → Reaches .clkPanelLost s fun t => t.clkPanelLost = true ∧
    ∀ p, p < 2 → (panel s p).cls ≠ 0 → (panel t p).hiZ = true ∧ (panel t p).lightAt = none) ∧
  (∀ s region loc, Alive s →
    exec (.sramScrub region loc false) s =
      .next (settled s (logAdd { s with eccCount := s.eccCount + 1 } 0x0010 loc 0xFF 0))) ∧
  (∀ s loc, Alive s → exec (.sramScrub .other loc true) s = .next (settled s (eventWith s 1 loc 0x0011 0 0xFF))) ∧
  (∀ s loc, Alive s → exec (.sramScrub .ports loc true) s =
    .next (settled s (eventWith { s with portEcc := true } 1 loc 0x0011 0 0xFF))) ∧
  (∀ s idx sub loc, Alive s → exec (.sramScrub (.value idx sub) loc true) s = .next (settled s
    (eventWith { s with eccBad := Tab.put s.eccBad (key idx sub) (rdB s idx sub) } 1 loc 0x0011 0 0xFF))) ∧
  (∀ s n loc, Alive s → exec (.sramScrub (.log n) loc true) s =
    .next (settled s (eventWith { s with eccLog := n :: s.eccLog.filter (· != n) } 1 loc 0x0011 0 0xFF))) ∧
  (∀ s x n loc, Alive s →
    let b := Tab.get (can s x).bufs n {}
    exec (.sramScrub (.canBuffer x n false) loc true) s = .next (settled s (eventWith
      (setCan s x { can s x with bufs := Tab.put (can s x).bufs n { b with frame := none, isNew := false } }) 1 (canLoc x 1 0 n) 0x0011 0 0xFF)) ∧
    exec (.sramScrub (.canBuffer x n true) loc true) s = .next (settled s (eventWith
      (setCan s x { can s x with bufs := Tab.put (can s x).bufs n { b with shadow := none } }) 1 (canLoc x 1 1 n) 0x0011 0 0xFF))) ∧
  (∀ s x k loc, Alive s →
    let l := (can s x).fifo.eraseIdx k
    exec (.sramScrub (.canFifo x k) loc true) s = .next (settled s (eventWith
      (wrN (setCan s x { can s x with fifo := l }) (0x2800 + x) 0x93 l.length) 1 (canLoc x 2 0 k) 0x0011 0 0xFF))) ∧
  (∀ s n bank w loc, Alive s → exec (.sramScrub (.loop n bank w) loc true) s = .next (settled s (loopEccError s n bank w)))

-- The test access port ------------------------------------------------------------------------------------------------

/-- R447, R490, R491: the TAP's instructions. EXTEST, CLAMP and HIGHZ hold every unit in reset; the others leave the device
running and only load the TAP's registers; on the ZH6432 the cells of fused-off balls capture 0. -/
def Obligations.TapInstructions : Prop :=
  ∀ s, s.pw.off = false →
    (exec .tapIdcode s = .next (settled s { s with tap := { s.tap with ir := 1, dr := idcode s, access := false } })) ∧
    (∀ capture preload, exec (.tapSamplePreload capture preload) s = .next (settled s { s with tap := { s.tap with
      ir := 2, dr := scanCapture s capture, cells := preload % 2 ^ 402, access := false } })) ∧
    (exec .tapBypass s = .next (settled s { s with tap := { s.tap with ir := 0x1F, dr := 0, access := false } })) ∧
    (∀ code, code < 8 → exec (.tapPrivateDebug code) s = .next (settled s { s with tap := { s.tap with
      ir := 0x10 + code, access := rdN s 0x2600 0x82 == 1 } })) ∧
    (Reaches .tapHighz s fun t => t.tap.ir = 5 ∧ t.tap.hold = true ∧ t.inReset = true ∧ quiet t) ∧
    (Reaches .tapExtest s fun t => t.tap = { s.tap with ir := 0, hold := true, access := false } ∧ t.inReset = true ∧
      ∀ n x, pinDrive t n x = if ensignGated s || !bit s.tap.cells (3 * n) then none else some (bit s.tap.cells (3 * n + 1))) ∧
    (Reaches .tapClamp s fun t => t.tap = { s.tap with ir := 4, hold := true, access := false } ∧ t.inReset = true ∧
      ∀ n x, pinDrive t n x = if ensignGated s || !bit s.tap.cells (3 * n) then none else some (bit s.tap.cells (3 * n + 1))) ∧
    (s.tap.hold = false → exec .trstRelease s =
      .next (settled s { s with tap := { s.tap with ir := 1, dr := idcode s, access := false } }))

-- Writing the dictionary ----------------------------------------------------------------------------------------------

/-- R48 to R50: a write that the checks let through takes effect by its row's Effect: a TICK or PERIOD value waits for tick
s + 1 or its boundary, s being the stamp; a RESTART value is only read back; any other is in use at once. -/
def Obligations.WritesGoByTheirEffect : Prop :=
  ∀ s client idx sub data off r, Accepts s client idx sub data → Plain idx sub r →
    (r.eff = .tick ∨ r.eff = .period →
      exec (.dictionaryWrite client idx sub data off) s = .next (settled s (paired { answered s client with
        pendingWrites := s.pendingWrites ++ [{ client := client, due := stamp s off + 1, period := r.eff == .period, idx := idx,
                                               sub := sub, data := stored r data }] } client idx sub data))) ∧
    (r.eff = .restart →
      exec (.dictionaryWrite client idx sub data off) s =
        .next (settled s (paired (writeRestart (answered s client) idx sub (stored r data)) client idx sub data))) ∧
    (r.eff = .imm ∨ r.eff = .none →
      exec (.dictionaryWrite client idx sub data off) s =
        .next (settled s (paired (putValue (answered s client) idx sub (stored r data)) client idx sub data)))

/-- R51 and R52: a write to a structural sub-index only enters the staging copy, which 0x2000:11 and 12 show; a discard
empties it. A commit with nothing staged succeeds at once. -/
def Obligations.StructuralWritesAreStaged : Prop :=
  (∀ s client idx sub data off r, Accepts s client idx sub data → structural idx sub = true → rowOf idx sub = some r →
    let st := Tab.put s.staged (key idx sub) (stored r data)
    exec (.structuralWrite client idx sub data off) s = .next (settled s (paired
      (wrN (wrN { answered s client with staged := st } 0x2000 0x11 1) 0x2000 0x12 st.length) client idx sub data)) ∧
    exec (.dictionaryWrite client idx sub data off) s = exec (.structuralWrite client idx sub data off) s) ∧
  (∀ s client off, Accepts s client 0x2000 0x10 (leBytes 1 2) →
    exec (.discardStaging client off) s = .next (settled s (paired
      (wrN (wrN { answered s client with staged := [] } 0x2000 0x11 0) 0x2000 0x12 0) client 0x2000 0x10 (leBytes 1 2)))) ∧
  (∀ s client off, Accepts s client 0x2000 0x10 (leBytes 1 1) → s.staged = [] →
    exec (.configurationCommit client off) s = .next (settled s (paired
      (wrN (answered s client) 0x2000 0x15 0) client 0x2000 0x10 (leBytes 1 1))))

/-- R52 and R53: a commit whose checks pass is due at tick s + 1 and is answered there; a failing check answers its abort
code and leaves the staging copy. At the commit tick the staging copy empties, 0x2000:13 counts, and the client has its
answer. -/
def Obligations.CommitIsCheckedThenDue : Prop :=
  (∀ s client off, Accepts s client 0x2000 0x10 (leBytes 1 1) → s.staged ≠ [] →
    ((commitRefusal s).1 = 0 →
      Reaches (.configurationCommit client off) s fun t =>
        t.commitDue = some (stamp s off + 1, client) ∧ t.staged = s.staged ∧ rdN t 0x2000 0x11 = 2 ∧
        Tab.find t.answers client = none) ∧
    ((commitRefusal s).1 ≠ 0 → (commitRefusal s).1 < 2 ^ 32 →
      Reaches (.configurationCommit client off) s fun t =>
        t.commitDue = s.commitDue ∧ t.staged = s.staged ∧ rdN t 0x2000 0x15 = (commitRefusal s).1 ∧
        Tab.find t.answers client = some { code := (commitRefusal s).1, data := [] })) ∧
  (∀ s due client, Alive s → s.commitDue = some (due, client) → due ≤ s.now + 1 → quiescing s = false → controlDue s = false →
    client ≤ 0x80 →
    Reaches .commitTick s fun t =>
      t.commitDue = none ∧ t.staged = [] ∧ rdN t 0x2000 0x11 = 0 ∧ rdN t 0x2000 0x12 = 0 ∧ rdN t 0x2000 0x15 = 0 ∧
      rdN t 0x2000 0x13 = (rdN s 0x2000 0x13 + 1) % 2 ^ 32 ∧
      Tab.find t.answers client = some { code := 0, data := [] })

/-- R54 to R56: a write group. R54: while its client has a write group open, a write that the checks let through is held in
the group, and nothing of it takes effect; the 65th write, or more than 4 096 bytes, is refused. R55, whole: a write to a
structural or timetable-staged sub-index, or to a commit or store command, is refused with 0x06010000 while its client's
group is open, whatever its value and length; and a read answers the same whatever the groups hold. -/
def Obligations.WriteGroups : Prop :=
  (
  (∀ s client off, Accepts s client 0x2000 0x17 (leBytes 1 1) →
    exec (.openWriteGroup client off) s = .next (settled s { answered s client with
      groups := s.groups ++ [{ client := client, items := [], lastAt := s.now }],
      lapsed := s.lapsed.filter (· != client) })) ∧
  (∀ s client off g, Served s → client ≤ 0x80 → groupOf s client = some g →
    writeRefusal s client 0x2000 0x17 (leBytes 1 3) .one = 0 →
    exec (.discardWriteGroup client off) s = .next (settled s { answered s client with
      groups := s.groups.filter fun x => x.client != client })) ∧
  (∀ s client off g, Served s → client ≤ 0x80 → groupOf s client = some g →
    writeRefusal s client 0x2000 0x17 (leBytes 1 2) .one = 0 →
    let s' := { s with groups := s.groups.filter fun x => x.client != client }
    (listBroken s' g.items = true →
      Reaches (.applyWriteGroup client off) s fun t =>
        t.groups = s'.groups ∧ t.pendingWrites = s.pendingWrites ∧
        Tab.find t.answers client = some { code := 0x06090036, data := [] }) ∧
    (∀ c, listBroken s' g.items = false → heldRefusal s' client off g.items = some c → c < 2 ^ 32 →
      Reaches (.applyWriteGroup client off) s fun t =>
        t.groups = s'.groups ∧ t.pendingWrites = s.pendingWrites ∧
        Tab.find t.answers client = some { code := c, data := [] }) ∧
    (listBroken s' g.items = false → heldRefusal s' client off g.items = none →
      Reaches (.applyWriteGroup client off) s fun t =>
        t.groups = s'.groups ∧ Tab.find t.answers client = none ∧
        t.pendingWrites.getLast? = some { client := client, due := stamp s off + 1, period := false, idx := 0x2000, sub := 0x17,
                                          data := [] })) ∧
  (∀ s client g, Served s → groupOf s client = some g → g.lastAt + 100000 ≤ s.now →
    exec (.writeGroupTimeout client) s = .next (settled s { s with
      groups := s.groups.filter fun x => x.client != client, lapsed := client :: s.lapsed.filter (· != client) }))) ∧
  (
  (∀ s client idx sub data off g, Served s → client ≤ 0x80 → groupOf s client = some g → ¬ (idx = 0x2000 ∧ sub = 0x17) →
    writeRefusal s client idx sub data .one = 0 →
    let bytes := ((g.items ++ [(idx, sub, data)]).map fun i => i.2.2.length).foldl (· + ·) 0
    (g.items.length < 64 → bytes ≤ 4096 →
      exec (.dictionaryWrite client idx sub data off) s = .next (settled s { answered s client with
        groups := s.groups.map fun x =>
          if x.client == client then { g with items := g.items ++ [(idx, sub, data)], lastAt := s.now } else x })) ∧
    (64 ≤ g.items.length ∨ 4096 < bytes →
      exec (.dictionaryWrite client idx sub data off) s = .next (settled s { s with
        answers := Tab.put (Tab.del s.answers client) client { code := 0x05040005, data := [] } }))) ∧
  (∀ s client idx sub data off g, Served s → client ≤ 0x80 → groupOf s client = some g → existence s idx sub = 0 →
    (structural idx sub = true ∨ ttStaged idx sub = true ∨ (idx = 0x2000 ∧ sub = 0x10) ∨ (idx = 0x4F00 ∧ sub = 0x80) ∨
      idx = 0x1010 ∨ idx = 0x1011) →
    exec (.dictionaryWrite client idx sub data off) s = .next (settled s (abort s client 0x06010000))) ∧
  (∀ s client idx sub gs, gs.length = s.groups.length →
    (readOne { s with groups := gs } client idx sub).2 = (readOne s client idx sub).2))

/-- R452: a clear takes the named pennants whose event is not of this tick and whose condition does not hold, and no other.
-/
def Obligations.ClearTakesSettledPennants : Prop :=
  ∀ s client j mask off, j < 4 → mask < 2 ^ 32 → Accepts s client 0x2700 (0x11 + j) (leBytes 4 mask) →
    Reaches (.clearPennants client j mask off) s fun t =>
      (∀ b, b < 32 → bit mask b = true → pennantCurrent s (32 * j + b) (stamp s off) = false →
        pennantSet t (32 * j + b) = false) ∧
      (∀ p, p < 128 → (p / 32 ≠ j ∨ bit mask (p % 32) = false ∨ pennantCurrent s p (stamp s off) = true) →
        pennantSet t p = pennantSet s p) ∧
      t.conds = s.conds

-- Store and log -------------------------------------------------------------------------------------------------------

/-- R61, R418, R421: with the store free, a store command begins the bank writes of its areas in a work item of kind 2 and
is answered when they are done; a restore erases the areas' records and succeeds at once; with the store busy both wait. -/
def Obligations.StoreCommandsBegin : Prop :=
  ∀ s client sub off, 1 ≤ sub → sub ≤ 4 →
    let areas := if sub = 1 then [2, 3, 4] else [sub]
    (∀ i, Accepts s client 0x1010 sub (leBytes 4 0x65766173) → freeItem s = some i → s.store.active = none → s.store.queue = [] →
      Reaches (.storeParameters client sub off) s fun t =>
        t.store.active = some { item := some i, client := some client, work := .save areas } ∧
        t.store.writes.map (·.1) = areas.flatMap areaTags ∧ Tab.find t.answers client = none ∧
        (Tab.find t.work i).map (fun w => (w.kind, w.state, w.idx, w.sub)) = some (2, 1, 0x1010, sub)) ∧
    (∀ i, Accepts s client 0x1011 sub (leBytes 4 0x64616F6C) → freeItem s = some i → s.store.active = none → s.store.queue = [] →
      Reaches (.restoreDefaults client sub off) s fun t =>
        t.store.active = none ∧ (∀ a ∈ areas, ∀ tag ∈ areaTags a, newest (storeRecord t tag) = none) ∧
        Tab.find t.answers client = some { code := 0, data := [] }) ∧
    (∀ i q, Accepts s client 0x1010 sub (leBytes 4 0x65766173) → freeItem s = some i → s.store.active = some q →
      Reaches (.storeParameters client sub off) s fun t =>
        t.store.queue = s.store.queue ++ [{ item := some i, client := some client, work := .save areas }] ∧
        t.store.active = some q ∧ Tab.find t.answers client = none) ∧
    (∀ i q, Accepts s client 0x1011 sub (leBytes 4 0x64616F6C) → freeItem s = some i → s.store.active = some q →
      Reaches (.restoreDefaults client sub off) s fun t =>
        t.store.queue = s.store.queue ++ [{ item := some i, client := some client, work := .restore areas }] ∧
        t.store.active = some q ∧ Tab.find t.answers client = none)

/-- R417 to R420: a bank whose header and payload are read back with good CRC-32s is the record's newest valid copy, and the last
one ends its item DONE; one that fails first goes to a spare sector, and fails its item when it fails again. R417: the CRC-32 of
"123456789" is 0xCBF43926. -/
def Obligations.BankWriteCompletes : Prop :=
  crc32 [0x31#8, 0x32#8, 0x33#8, 0x34#8, 0x35#8, 0x36#8, 0x37#8, 0x38#8, 0x39#8] = 0xCBF43926 ∧
  ∀ s q tag serial p rest header payload, Alive s → s.store.active = some q → s.store.writes = (tag, serial, p) :: rest →
    (bankCrcsOk header payload = true → rest ≠ [] → (∀ b, newest (storeRecord s tag) = some b → b.seq < 2 ^ 32) →
      Reaches (.bankWriteComplete ⟨header, payload⟩) s fun t =>
        t.store.writes = rest ∧ t.store.active = some q ∧ t.store.attempt = 0 ∧
        (newest (storeRecord t tag)).map (fun b => (b.serial, b.payload)) = some (serial, p)) ∧
    (bankCrcsOk header payload = true → rest = [] → s.store.queue = [] →
      ∀ i w, q.item = some i → Tab.find s.work i = some w → w.state < 2 →
      Reaches (.bankWriteComplete ⟨header, payload⟩) s fun t =>
        t.store.active = none ∧ t.store.writes = [] ∧ (Tab.find t.work i).map (·.state) = some 2) ∧
    (bankCrcsOk header payload = false → s.store.attempt = 0 → bankKB tag ≤ rdN s 0x2400 0x99 →
      exec (.bankWriteComplete ⟨header, payload⟩) s = .next (settled s
        (wrN { s with store := { s.store with attempt := 1 } } 0x2400 0x99 (rdN s 0x2400 0x99 - bankKB tag)))) ∧
    (bankCrcsOk header payload = false → s.store.attempt ≠ 0 → s.store.queue = [] →
      ∀ i w, q.item = some i → Tab.find s.work i = some w → w.state < 2 →
      Reaches (.bankWriteComplete ⟨header, payload⟩) s fun t =>
        t.store.active = none ∧ (Tab.find t.work i).map (fun w => (w.state, w.reason)) = some (3, 11) ∧ pennantSet t 73 = true)

/-- R423, R457, R458: the mirror moves what is new into the store ring; a read of an entry moves the client's own position
on. -/
def Obligations.LogMirrorAndReads : Prop :=
  (∀ s, Alive s →
    let fresh := s.log.filter fun e => s.logStore.isEmpty || decide (rdN s 0x2710 0x84 < e.num)
    fresh ≠ [] →
    Reaches .logMirror s fun t => t.logStore = (fresh ++ s.logStore).take 7936 ∧ t.log = s.log) ∧
  (∀ s client e, Served s → client ≤ 0x80 → logEntry s (logPosOf s client) = some e →
    Reaches (.logReadEntry client) s fun t =>
      Tab.find t.answers client = some { code := 0, data := logBytes e } ∧
      logPosOf t client = (logPosOf s client + 1) % 2 ^ 32 ∧ t.log = s.log) ∧
  (∀ s client, Served s → client ≤ 0x80 → logRun s (logPosOf s client) 256 ≠ [] →
    let l := logRun s (logPosOf s client) 256
    Reaches (.logReadEntries client) s fun t =>
      Tab.find t.answers client = some { code := 0, data := l.flatMap logBytes } ∧
      logPosOf t client = (logPosOf s client + l.length) % 2 ^ 32 ∧ t.log = s.log)

-- Loops, zones, trace -------------------------------------------------------------------------------------------------

/-- R179 to R181: an accepted swap request marks every loop it names with the bank that is not active, due at tick s + 1;
the swap tick makes that bank active and leaves no swap pending. -/
def Obligations.BankSwapsAreMarkedThenMade : Prop :=
  (∀ s client n off, n < 1024 → Accepts s client (0x3400 + n) 0x84 (leBytes 1 1) → swapRefusal s n = 0 →
    (∀ k ∈ swapMembers s n, k < 1024) →
    Reaches (.swapRequest client n off) s fun t =>
      (∀ k ∈ swapMembers s n,
        (loopOf t k).swap = some { bank := 1 - activeBank s k, kdOld := bankR s k (activeBank s k) 2, due := stamp s off + 1,
                                   inSet := rdN s (0x3400 + n) 0x63 != 0 } ∧
        rdBit t (0x3400 + k) 0x9C 15 = true ∧ activeBank t k = activeBank s k) ∧
      (∀ k, k ∉ swapMembers s n → loopOf t k = loopOf s k) ∧
      Tab.find t.answers client = some { code := 0, data := [] }) ∧
  (∀ s n w, UnitsOn s → evaluates s = true → controlDue s = false → commitNext s = false → n < 1024 →
    (loopOf s n).swap = some w → w.due ≤ s.now + 1 → w.bank < 2 → loopState s n ≠ 4 → loopState s n ≠ 5 →
    (w.inSet = true ∨ (loopBoundary s n (tickAt s (s.now + 1)) = true ∧ loopState s n ≠ 6)) →
    Reaches (.swapTick n) s fun t =>
      activeBank t n = w.bank ∧ loopOf t n = { loopOf s n with swap := none, swapEval := some w.kdOld } ∧
      ∀ k, k ≠ n → loopOf t k = loopOf s k)

/-- R171, R185, R190, R206, R215, R216: requests on loops, zones and the trace wait for tick s + 1, or for the boundary of
the owner's rate group where the Effect is PERIOD. -/
def Obligations.LoopAndZoneRequestsWait : Prop :=
  ∀ s client off,
    (∀ n, n < 1024 → Accepts s client (0x3400 + n) 0x85 (leBytes 1 1) → bankFault s n (activeBank s n) = 0 →
      exec (.clearLaneFault client n off) s = .next (settled s (paired
        (setLoop (answered s client) n { loopOf s n with restart := some ((loopOf s n).restart.getD (stamp s off + 1)) })
        client (0x3400 + n) 0x85 (leBytes 1 1)))) ∧
    (∀ n mode, n < 1024 → Accepts s client (0x3400 + n) 0x81 (leBytes 1 mode) →
      exec (.loopModeChange client n mode off) s = .next (settled s (paired { answered s client with
        pendingWrites := s.pendingWrites ++ [{ client := client, due := stamp s off + 1, period := true, idx := 0x3400 + n,
                                               sub := 0x81, data := leBytes 1 mode }] }
        client (0x3400 + n) 0x81 (leBytes 1 mode)))) ∧
    (∀ z, z < 64 → Accepts s client (0x3C00 + z) 0x86 (leBytes 1 1) →
      exec (.estimatorReinitCommand client z off) s = .next (settled s (paired { answered s client with
        pendingWrites := s.pendingWrites ++ [{ client := client, due := stamp s off + 1, period := true, idx := 0x3C00 + z,
                                               sub := 0x86, data := leBytes 1 1 }] }
        client (0x3C00 + z) 0x86 (leBytes 1 1)))) ∧
    (∀ z, z < 64 → Accepts s client (0x3C80 + z) 0x89 (leBytes 1 1) →
      exec (.learningReset client z off) s = .next (settled s (paired { answered s client with
        pendingWrites := s.pendingWrites ++ [{ client := client, due := stamp s off + 1, period := false, idx := 0x3C80 + z,
                                               sub := 0x89, data := leBytes 1 1 }] }
        client (0x3C80 + z) 0x89 (leBytes 1 1)))) ∧
    (∀ z, z < 64 → Accepts s client (0x3C80 + z) 0x89 (leBytes 1 2) →
      exec (.learningSave client z off) s = .next (settled s (paired { answered s client with
        pendingWrites := s.pendingWrites ++ [{ client := client, due := stamp s off + 1, period := false, idx := 0x3C80 + z,
                                               sub := 0x89, data := leBytes 1 2 }] }
        client (0x3C80 + z) 0x89 (leBytes 1 2)))) ∧
    (Accepts s client 0x3E00 0x10 (leBytes 1 1) →
      exec (.traceArm client off) s = .next (settled s (paired { answered s client with
        trace := { s.trace with cmds := s.trace.cmds ++ [(stamp s off + 1, 1)] } } client 0x3E00 0x10 (leBytes 1 1)))) ∧
    (Accepts s client 0x3E00 0x10 (leBytes 1 2) →
      exec (.traceForceTrigger client off) s = .next (settled s (paired { answered s client with
        trace := { s.trace with cmds := s.trace.cmds ++ [(stamp s off + 1, 2)] } } client 0x3E00 0x10 (leBytes 1 2)))) ∧
    (Accepts s client 0x3E00 0x10 (leBytes 1 3) →
      exec (.traceStop client off) s = .next (settled s (paired { answered s client with
        trace := { s.trace with cmds := s.trace.cmds ++ [(stamp s off + 1, 3)] } } client 0x3E00 0x10 (leBytes 1 3))))

/-- What a waiting write does when its tick or boundary has come: R48 and R49 for a value, R56 for the end of a group's
writes, R206 for the estimator, R215 for the learned coefficients. R216: the save of the learned
coefficients, every 3 600 s while a zone's learning mode is 1, is a store item of the device's own. -/
def Obligations.DueWritesAndLearnedSaves : Prop :=
  (
  (∀ s w idx sub r, w.idx = idx → w.sub = sub → Plain idx sub r → (r.eff = .tick ∨ r.eff = .period) →
    ¬ (idx = 0x2100 ∧ sub = 0x10) → ¬ (within idx 0x3C00 0x3C3F = true ∧ sub = 0x86) →
    ¬ (within idx 0x3C80 0x3CBF = true ∧ sub = 0x89) → ¬ (within idx 0x3300 0x3301 = true ∧ sub = 0x80) →
    applyDue s w = putValue s idx sub w.data) ∧
  (∀ s w z, z < 64 → w.idx = 0x3C00 + z → w.sub = 0x86 → (zoneOf (applyDue s w) z).init = false) ∧
  (∀ s w z, z < 64 → w.idx = 0x3C80 + z → w.sub = 0x89 → leNat w.data = 1 →
    (∀ l, l < 8 → rdR (applyDue s w) (0x3C80 + z) (0x80 + l) = rdR s (0x3C80 + z) (0x20 + l)) ∧
    rdN (applyDue s w) (0x3C80 + z) 0x8E = 0 ∧ (zoneOf (applyDue s w) z).prev = none) ∧
  (∀ s w, w.idx = 0x2000 → w.sub = 0x17 → w.client ≤ 0x80 →
    Tab.find (applyDue s w).answers w.client = some { code := 0, data := [] }) ∧
  (∀ s (w : PendingWrite), s.now < w.due → w ∈ s.pendingWrites → w ∈ (writesDue s).pendingWrites)) ∧
  (
  ∀ s i z, UnitsOn s → z < (if s.zh6432 then 32 else 64) → rdN s (0x3C80 + z) 0x2F = 1 →
    s.store.couplingAt + 36000000 ≤ s.now → quiescing s = false → freeItem s = some i → s.store.active = none →
    s.store.queue = [] →
    Reaches .learnedCouplingPeriodic s fun t =>
      t.store.couplingAt = s.now ∧ t.store.active = some { item := some i, client := none, work := .coupling } ∧
      (Tab.find t.work i).map (fun w => (w.kind, w.origin, w.idx)) = some (2, 0x100, 0x3C80))

-- Timetable -----------------------------------------------------------------------------------------------------------

/-- R228, R229, R236: the walk of a second takes the pulse and has its results due 200 ticks later; the walker that may not
walk stops, supplies mode 2 and no profile, and keeps of what is due only that a commit is to be answered (the model's reading,
log entry 83); results that are due supply mode, profile and profile in force to every zone. -/
def Obligations.WalksComeIntoForceLater : Prop :=
  (∀ s, UnitsOn s → s.tt.pulse = true → walks s = true → s.tt.commit = none →
    Reaches .timetableWalk s fun t =>
      t.tt.pulse = false ∧ t.tt.last = s.cal.secs ∧ t.tt.due.map (·.at_) = s.tt.due.map (·.at_) ++ [s.now + 200]) ∧
  (∀ s, UnitsOn s → s.tt.pulse = true → walks s = false →
    Reaches .timetableWalk s fun t => t.tt.pulse = false ∧ t.tt.nothing = true ∧
      t.tt.due.map (·.at_) = (s.tt.due.filter (·.commits)).map (·.at_) ∧ (∀ d ∈ t.tt.due, d.supply = []) ∧
      ∀ z, z < 64 → (zoneOf t z).ttMode = 2 ∧ (zoneOf t z).ttProfile = 255) ∧
  (∀ s d rest, UnitsOn s → s.tt.due = d :: rest → d.at_ ≤ s.now + 1 →
    Reaches .walkResultsDue s fun t =>
      t.tt.due = rest ∧ ∀ z, z < 64 →
        let q := d.supply.getD z (2, false, 255, 255)
        (zoneOf t z).ttMode = q.1 ∧ (zoneOf t z).ttEntry = q.2.1 ∧ (zoneOf t z).ttProfile = q.2.2.1 ∧
        (zoneOf t z).ttInForce = q.2.2.2)

/-- R238 and R239: timetable writes enter a staging copy of their own; a discard empties it; a commit whose checks pass
waits for the walker and is answered there. -/
def Obligations.TimetableIsStagedAndCommitted : Prop :=
  ∀ s client off,
    (∀ idx sub data, Accepts s client idx sub data → ttStaged idx sub = true →
      let st := Tab.put s.ttStaged (key idx sub) data
      exec (.timetableEntryWrite client idx sub data off) s = .next (settled s (paired
        (wrN (wrN { answered s client with ttStaged := st } 0x4F00 0x83 1) 0x4F00 0x84 st.length) client idx sub data))) ∧
    (Accepts s client 0x4F00 0x80 (leBytes 1 2) →
      exec (.timetableDiscard client off) s = .next (settled s (paired
        (wrN (wrN { answered s client with ttStaged := [] } 0x4F00 0x83 0) 0x4F00 0x84 0) client 0x4F00 0x80 (leBytes 1 2)))) ∧
    (Accepts s client 0x4F00 0x80 (leBytes 1 1) → s.ttStaged = [] →
      exec (.timetableCommit client off) s = .next (settled s (paired (answered s client) client 0x4F00 0x80 (leBytes 1 1)))) ∧
    (Accepts s client 0x4F00 0x80 (leBytes 1 1) → s.ttStaged ≠ [] → ttCommitRefusal s = 0 →
      Reaches (.timetableCommit client off) s fun t =>
        t.tt.commit = some client ∧ rdN t 0x4F00 0x83 = 2 ∧ t.ttStaged = s.ttStaged ∧ Tab.find t.answers client = none) ∧
    (Accepts s client 0x4F00 0x80 (leBytes 1 1) → s.ttStaged ≠ [] → ttCommitRefusal s ≠ 0 → ttCommitRefusal s < 2 ^ 32 →
      Reaches (.timetableCommit client off) s fun t =>
        t.tt.commit = s.tt.commit ∧ rdN t 0x4F00 0x85 = ttCommitRefusal s ∧ t.ttStaged = s.ttStaged ∧
        Tab.find t.answers client = some { code := ttCommitRefusal s, data := [] })

-- Panels --------------------------------------------------------------------------------------------------------------

/-- R245, R255, R256, R265: requests to a panel port. An update request takes a work item of kind 4 and is queued for tick s
+ 1; one that finds a request queued joins it; powering on and off and zeroing the account wait for tick s + 1. R245: with
0x3300+p:24 = 1 a target image that differs is an update request too, at the same stamp. -/
def Obligations.PanelRequestsAreQueued : Prop :=
  (
  ∀ s client p off, p < 2 →
    (∀ i, Accepts s client (0x3300 + p) 0x81 (leBytes 1 1) → freeItem s = some i → (panel s p).queued = none →
      Reaches (.panelUpdateRequest client p off) s fun t =>
        panel t p = { panel s p with queued := some (some i, false, stamp s off + 1) } ∧ rdBit t (0x3300 + p) 0x87 4 = true ∧
        (Tab.find t.work i).map (fun w => (w.kind, w.state, w.origin)) = some (4, 0, client) ∧
        Tab.find t.answers client = some { code := 0, data := [] }) ∧
    (∀ i, Accepts s client (0x3300 + p) 0x81 (leBytes 1 2) → freeItem s = some i → (panel s p).queued = none →
      Reaches (.panelClearUpdateRequest client p off) s fun t =>
        panel t p = { panel s p with queued := some (some i, true, stamp s off + 1) } ∧ rdBit t (0x3300 + p) 0x87 4 = true ∧
        (Tab.find t.work i).map (fun w => (w.kind, w.state, w.origin)) = some (4, 0, client) ∧
        Tab.find t.answers client = some { code := 0, data := [] }) ∧
    (∀ q, Accepts s client (0x3300 + p) 0x81 (leBytes 1 2) → (panel s p).queued = some q →
      Reaches (.panelClearUpdateRequest client p off) s fun t =>
        panel t p = { panel s p with queued := some (q.1, true, q.2.2) } ∧ t.work = s.work) ∧
    (Accepts s client (0x3300 + p) 0x81 (leBytes 1 3) →
      exec (.panelPowerOn client p off) s = .next (settled s (paired
        (setPanel (answered s client) p { panel s p with onReq := some (stamp s off + 1) })
        client (0x3300 + p) 0x81 (leBytes 1 3)))) ∧
    (Accepts s client (0x3300 + p) 0x81 (leBytes 1 4) →
      exec (.panelPowerOff client p off) s = .next (settled s (paired
        (setPanel (answered s client) p { panel s p with offReq := some (stamp s off + 1) })
        client (0x3300 + p) 0x81 (leBytes 1 4)))) ∧
    (∀ image, image < 2 ^ 64 → Accepts s client (0x3300 + p) 0x80 (leBytes 8 image) →
      rdF s (0x3300 + p) 0x24 = false ∨ image = rdN s (0x3300 + p) 0x80 →
      exec (.targetImageWrite client p image off) s = .next (settled s (paired { answered s client with
        pendingWrites := s.pendingWrites ++ [{ client := client, due := stamp s off + 1, period := false, idx := 0x3300 + p,
                                               sub := 0x80, data := leBytes 8 image }] }
        client (0x3300 + p) 0x80 (leBytes 8 image)))) ∧
    (Accepts s client (0x3340 + p) 0xB0 (leBytes 1 1) →
      exec (.accumulatorZero client p off) s = .next (settled s (paired
        (setPanel (answered s client) p { panel s p with zeroAt := some (stamp s off + 1) })
        client (0x3340 + p) 0xB0 (leBytes 1 1))))) ∧
  (
  ∀ s client p image off i, p < 2 → image < 2 ^ 64 → Accepts s client (0x3300 + p) 0x80 (leBytes 8 image) →
    rdF s (0x3300 + p) 0x24 = true → image ≠ rdN s (0x3300 + p) 0x80 → ppState s p ≠ 0 → freeItem s = some i →
    (panel s p).queued = none →
    Reaches (.targetImageWrite client p image off) s fun t =>
      (panel t p).queued = some (some i, false, stamp s off + 1) ∧
      t.pendingWrites = s.pendingWrites ++ [{ client := client, due := stamp s off + 1, period := false, idx := 0x3300 + p,
                                              sub := 0x80, data := leBytes 8 image }] ∧
      Tab.find t.answers client = some { code := 0, data := [] })

/-- R255 to R257, R259: the timed steps of a panel port. A rail that is not verified in time is a rail fault; a power-off
goes high-Z after 1 ms and leaves its supply 11 ms after it began; the light's ramp starts 20 ms after its supply; the
account is stored when 3 600 s have passed. -/
def Obligations.PanelTimersStep : Prop :=
  (∀ s p, Alive s → p < 2 → ppState s p = 2 → ((panel s p).onStep = 1 ∨ (panel s p).onStep = 2) →
    (panel s p).onAt + rdN s (0x3300 + p) 0x26 * 10 ≤ s.now →
    exec (.railVerifyTimeout p) s = .next (settled s (railFault s p ((panel s p).onStep - 1)))) ∧
  (∀ s p rail, p < 2 → s.zh6432 = false →
    ppState (railFault s p rail) p = 7 ∧ (29, p) ∈ (railFault s p rail).conds) ∧
  (∀ s p, Alive s → (panel s p).offKind = 1 → (panel s p).offStep = 2 → (panel s p).offAt + 10 ≤ s.now →
    exec (.panelPowerOffStep p) s = .next (settled s (setPanel s p { panel s p with
      offStep := 3, hiZ := true, en := setBit (panel s p).en 1 false }))) ∧
  (∀ s p, Alive s → p < 2 → (panel s p).offKind = 1 → (panel s p).offStep = 3 → (panel s p).offAt + 110 ≤ s.now → ppState s p ≠ 7 →
    rdN s (0x3300 + p) 1 ≠ 0 →
    Reaches (.panelPowerOffStep p) s fun t =>
      (panel t p).offKind = 0 ∧ (panel t p).offStep = 0 ∧ (panel t p).en = setBit (panel s p).en 0 false ∧ ppState t p = 1) ∧
  (∀ s p a, Alive s → p < 2 → (panel s p).lightAt = some a → a + 200 ≤ s.now →
    exec (.lightRampStart p) s = .next (settled s (
      let s' := setPanel s p { panel s p with lightAt := none, rampAt := some s.now }
      if rdN s (0x3300 + p) 0x25 = 0 then wrR s' (0x3300 + p) 0x8E F32.one else s'))) ∧
  (∀ s p i, Alive s → p < 2 → 2 ≤ ppState s p → ppState s p ≤ 4 → (panel s p).recAt + 36000000 ≤ s.now → quiescing s = false →
    freeItem s = some i → s.store.active = none → s.store.queue = [] →
    Reaches (.panelRecordPeriodic p) s fun t =>
      t.store.active = some { item := some i, client := none, work := .panel p true } ∧ (panel t p).recAt = s.now)

-- Power ---------------------------------------------------------------------------------------------------------------

/-- R399 and R400: a power-state command waits for tick s + 1. There RUN and DOZE are entered from each other; SLEEP and
SHIP are entered in steps, the last of them 310 ms later. -/
def Obligations.PowerCommandsWaitThenAct : Prop :=
  (∀ s client off, ∀ c ∈ [(Instr.powerCmdRun client off, 0), (.powerCmdDoze client off, 1), (.powerCmdSleep client off, 4),
      (.powerCmdShip client off, 5)],
    Accepts s client 0x2100 0x10 (leBytes 1 c.2) →
    exec c.1 s = .next (settled s (paired { answered s client with
      pendingWrites := s.pendingWrites ++ [{ client := client, due := stamp s off + 1, period := false, idx := 0x2100,
                                             sub := 0x10, data := leBytes 1 c.2 }] } client 0x2100 0x10 (leBytes 1 c.2)))) ∧
  (∀ s w v, w.idx = 0x2100 → w.sub = 0x10 → w.data = leBytes 1 v → rdN s 0x2100 0x80 ≤ 1 →
    (v ≤ 1 → rdN (applyDue s w) 0x2100 0x80 = v) ∧
    (v = 4 ∨ v = 5 → rdN (applyDue s w) 0x2100 0x80 = v ∧ (applyDue s w).pw.entry = some (s.now, v == 5))) ∧
  (∀ s a ship, s.pw.entry = some (a, ship) → a + 3100 ≤ s.now →
    (powerEntryStep s).pw.entry = none ∧ (powerEntryStep s).pw.off = true ∧ (powerEntryStep s).cal.offDue = some ship)

/-- R386 to R389: PFW_n puts the device into POWER_FAIL with its condition and the record due 8 ms later; its release
without that only sets the pin; the feeds' status follows the thresholds, also in a dead device. -/
def Obligations.SupplyEvents : Prop :=
  (∀ s finishes, Alive s → rdN s 0x2100 0x80 ≠ 3 → s.pw.recordAt = none →
    Reaches (.pfwAsserted finishes) s fun t =>
      rdN t 0x2100 0x80 = 3 ∧ t.pfw = true ∧ t.pw.recordAt = some (s.now + 80) ∧ (58, 0) ∈ t.conds ∧ t.store.queue = [] ∧
      t.net.reqs = [] ∧ t.host.queue = []) ∧
  (∀ s finishes, alive s = false → exec (.pfwAsserted finishes) s = .next (settled s { s with pfw := true })) ∧
  (∀ s, (alive s && rdN s 0x2100 0x80 == 3) = false → exec .pfwReleased s = .next (settled s { s with pfw := false })) ∧
  (∀ s f, f < 2 → rdBit s 0x2100 0x81 f = true →
    Reaches (.feedBrownOut f) s fun t => rdBit t 0x2100 0x81 f = false ∧ rdBit t 0x2100 0x81 (1 - f) = rdBit s 0x2100 0x81 (1 - f)) ∧
  (∀ s f, f < 2 → Alive s → rdBit s 0x2100 0x81 f = true →
    Reaches (.feedBrownOut f) s fun t => (56 + f, 0) ∈ t.conds ∧ rdN t 0x2100 (0x88 + f) = (rdN s 0x2100 (0x88 + f) + 1) % 2 ^ 32) ∧
  (∀ s f prefer, f < 2 →
    Reaches (.feedRestored f prefer) s fun t => rdBit t 0x2100 0x81 f = true ∧ rdBit t 0x2100 0x81 (1 - f) = rdBit s 0x2100 0x81 (1 - f)) ∧
  (∀ s f prefer, f < 2 → Alive s →
    Reaches (.feedRestored f prefer) s fun t => t.conds = s.conds.filter (· != (56 + f, 0)))

/-- The mains monitor's timers, and a ZXO port at its crossings. R395: a close that falls due without a crossing closes the
half-cycle, leaves its RMS value in 0x2110+f:80, and the next one falls due half a mean period later. R392: a feed without an
accepted crossing for 25 ms loses its crossing status, frequency and periods, and 0x2110+f:8F counts. R397: the shed level falls
by one when a lower target has stood for the hold time. R113: a ZXO port whose feed has no crossing for 25 ms is lost, with its
status bit and condition 17. R115: at a decision point the accumulator gains K, and the port is on for a period when it reaches
50. R114: in level mode the edge that is due switches the output at the first crossing. -/
def Obligations.MainsAndCrossingEvents : Prop :=
  (∀ s f x, UnitsOn s → feedOn s f = true → (feed s f).nextClose = some x → x ≤ (nowNs s 0 : Rat) →
    exec (.halfCycleCloseTimeout f) s = .next (settled s (halfCycleClose (setFeed s f { feed s f with
      nextClose := some (x + (feed s f).pbar.getD 20000000 / 2) }) f))) ∧
  (∀ s f x, f < 2 → UnitsOn s → feedOn s f = true → (feed s f).nextClose = some x → x ≤ (nowNs s 0 : Rat) →
    Reaches (.halfCycleCloseTimeout f) s fun t =>
      (feed t f).nextClose = some (x + (feed s f).pbar.getD 20000000 / 2) ∧ (feed t f).closed = true ∧
      rdR t (0x2110 + f) 0x80 = F32.ofRat (rmsOf (feed s f).xs)) ∧
  (∀ s f off, f < 2 → UnitsOn s → rdBit s (0x2110 + f) 0x84 0 = true → (feed s f).last.getD 0 + 25000000 ≤ (nowNs s off : Rat) →
    Reaches (.crossingLoss f off) s fun t =>
      rdBit t (0x2110 + f) 0x84 0 = false ∧ rdBit t (0x2110 + f) 0x84 1 = false ∧ (feed t f).periods = [] ∧
      (f * 8 + 1) ∉ t.mainsValid ∧ rdN t (0x2110 + f) 0x8F = (rdN s (0x2110 + f) 0x8F + 1) % 2 ^ 32) ∧
  (∀ s, Alive s → shedTarget s < rdN s 0x2100 0x85 → rdN s 0x2100 0x20 * 10000 ≤ s.pw.shedLow →
    Reaches .shedLevelFall s fun t => rdN t 0x2100 0x85 = rdN s 0x2100 0x85 - 1 ∧ t.pw.shedLow = 0) ∧
  (∀ s n off, PortsOn s → rdN s (0x3000 + n) 1 = 7 → (port s n).zxLost = false →
    (feed s (rdN s (0x3000 + n) 4)).seen + 25000000 ≤ nowNs s off →
    exec (.zxoCrossingLost n off) s = .next (settled s (condStart
      (wrBit (setPort s n { port s n with zxLost := true, zxOn := false, zxRun := 0, zxDue := none }) (0x3000 + n) 0x87 2 true)
      17 n (0x0A500000 + n) 0xFF))) ∧
  (∀ s n off b per c, PortsOn s → rdN s (0x3000 + n) 1 = 7 → rdN s (0x3000 + n) 7 = 1 → (port s n).zxLost = false →
    rdBit s (0x2110 + rdN s (0x3000 + n) 4) 0x84 4 = false → (feed s (rdN s (0x3000 + n) 4)).lastPos = some b →
    meanPeriod (feed s (rdN s (0x3000 + n) 4)) = some per →
    edgeDue b per ((rdN s (0x3000 + n) 0x27 * 1000 : Nat) : Rat) (nowNs s off : Rat) ((port s n).zxUsed + per / 2) = some c →
    exec (.zxoDecisionPoint n off) s = .next (settled s (
      let a := (port s n).zxAcc + (port s n).zxK
      let on := decide (50 ≤ a)
      setPort s n { port s n with
        zxAcc := if on then a - 50 else a, zxOn := on, zxUsed := c,
        edgeAt := if on = (port s n).zxOn then (port s n).edgeAt else nowNs s off }))) ∧
  (∀ s n off d b per c, PortsOn s → rdN s (0x3000 + n) 1 = 7 → rdN s (0x3000 + n) 7 ≠ 1 → (port s n).zxLost = false →
    rdBit s (0x2110 + rdN s (0x3000 + n) 4) 0x84 4 = false → (port s n).zxDue = some d →
    (feed s (rdN s (0x3000 + n) 4)).last = some b → meanPeriod (feed s (rdN s (0x3000 + n) 4)) = some per →
    edgeDue b (per / 2) ((rdN s (0x3000 + n) 0x27 * 1000 : Nat) : Rat) (nowNs s off : Rat)
      ((d : Rat) + ((rdN s (0x3000 + n) 0x27 * 1000 : Nat) : Rat)) = some c →
    exec (.zxoLevelSwitch n off) s = .next (settled s (setPort s n { port s n with
      zxOn := !(port s n).zxOn, zxDue := none, zxUsed := c, edgeAt := nowNs s off })))

-- CAN -----------------------------------------------------------------------------------------------------------------

/-- R272 to R275: an accepted frame goes where its filter directs it. R274, whole: a buffer that its reader does not have
open takes the frame with NEW set, and one that is open keeps its own and takes it in its shadow; where an unread frame or a
full shadow is replaced, OVERWRITE is set and 0x2800+x:89 counts; a release brings a full shadow forward with NEW set, or
marks the buffer read, and ends OVERWRITE; an open in the cycle of the store comes after it. The FIFO takes a frame with its
stamp and gives its oldest one. At bus idle a new filter allocation fills the table that is not in use, which then is. -/
def Obligations.CanReceptionAndRelease : Prop :=
  (∀ s x f back cycle opened q, Alive s → x < 4 → (canState s x = 2 ∨ canState s x = 3 ∨ canState s x = 6) → f.rtr = false →
    (f.fd = true → rdF s (0x2800 + x) 9 = true) → (filtersInUse (can s x)).find? (matches_ f) = some q →
    let b := Tab.get (can s x).bufs q.target {}
    (q.target ≤ 63 → b.isOpen = false →
      Reaches (.frameReceived x f ⟨back, cycle⟩ opened) s fun t =>
        let b' := Tab.get (can t x).bufs q.target {}
        b'.frame = some f ∧ b'.stamp = ((s.tick - back) % 2 ^ 32, cycle) ∧ b'.isNew = true ∧ b'.shadow = b.shadow ∧ b'.overrun = (b.overrun || b.isNew) ∧ b'.isOpen = opened ∧
        b'.reader = q.reader ∧ rdN t (0x2800 + x) 0x89 = (rdN s (0x2800 + x) 0x89 + if b.isNew then 1 else 0) % 2 ^ 32 ∧
        ∀ n, n ≠ q.target → Tab.get (can t x).bufs n {} = Tab.get (can s x).bufs n {}) ∧
    (q.target ≤ 63 → b.isOpen = true →
      Reaches (.frameReceived x f ⟨back, cycle⟩ opened) s fun t =>
        let b' := Tab.get (can t x).bufs q.target {}
        b'.frame = b.frame ∧ b'.isNew = b.isNew ∧ b'.shadow = some f ∧ b'.shadowStamp = ((s.tick - back) % 2 ^ 32, cycle) ∧ b'.overrun = (b.overrun || b.shadow.isSome) ∧
        b'.isOpen = true ∧
        rdN t (0x2800 + x) 0x89 = (rdN s (0x2800 + x) 0x89 + if b.shadow.isSome then 1 else 0) % 2 ^ 32 ∧
        ∀ n, n ≠ q.target → Tab.get (can t x).bufs n {} = Tab.get (can s x).bufs n {}) ∧
    (q.target = 64 → (can s x).fifo.length < 256 →
      Reaches (.frameReceived x f ⟨back, cycle⟩ opened) s fun t =>
        (can t x).fifo = (can s x).fifo ++ [{ frame := f, tick := (s.tick - back) % 2 ^ 32, cycle := cycle }])) ∧
  (∀ s x n, Alive s → n < 64 →
    exec (.bufferRelease x n) s = .next (settled s (setCan s x { can s x with
      bufs := Tab.put (can s x).bufs n (
        match (Tab.get (can s x).bufs n {}).shadow with
        | some f => { Tab.get (can s x).bufs n {} with
            frame := some f, stamp := (Tab.get (can s x).bufs n {}).shadowStamp, shadow := none, isNew := true, isOpen := false,
            overrun := false }
        | none => { Tab.get (can s x).bufs n {} with isNew := false, isOpen := false, overrun := false }) }))) ∧
  (∀ s x, Alive s →
    exec (.bufferRelease x 64) s = .next (settled s
      (wrN (setCan s x { can s x with fifo := (can s x).fifo.drop 1 }) (0x2800 + x) 0x93 ((can s x).fifo.length - 1)))) ∧
  (∀ s x l, Alive s → (can s x).realloc = true →
    exec (.filterTableSwitch x l) s = .next (settled s (setCan s x (
      if (can s x).inUse = 0 then { can s x with table1 := l.take 128, inUse := 1, realloc := false }
      else { can s x with table0 := l.take 128, inUse := 0, realloc := false }))))

/-- R280: a frame submitted joins the queue of at most 32, with its time, as a classical frame where FD is off (R268); in
listen-only (R281), a remote frame (R267), and a frame of more than 8 bytes without FD are discarded and counted. R277: the frame
that wins arbitration leaves the queue when it is sent, and 0x2800+x:88 counts it; in SOLITARY a retry that is acknowledged
sends it too (R286). What FD off makes of a frame is the model's reading (log entry 100). -/
def Obligations.CanTransmission : Prop :=
  (∀ s x f pdo, Alive s → (s.zh6432 && x == 3) = false → canState s x ≠ 0 → canMode s x ≠ 1 → f.rtr = false →
    (can s x).txq.length + (if (can s x).held.isSome then 1 else 0) < 32 →
    (rdF s (0x2800 + x) 9 = true ∨ f.fd = false ∨ f.data.length ≤ 8) →
    let g := if rdF s (0x2800 + x) 9 then f else { f with fd := false, brs := false, esi := false }
    exec (.frameSubmitted x f pdo) s = .next (settled s (wrN
      (setCan s x { can s x with txq := (can s x).txq ++ [{ frame := g, pdo := pdo, at_ := s.now }] })
      (0x2800 + x) 0x92 ((can s x).txq.length + 1 + (if (can s x).held.isSome then 1 else 0))))) ∧
  (∀ s x f pdo, Alive s → (s.zh6432 && x == 3) = false → canState s x ≠ 0 →
    (canMode s x = 1 ∨ f.rtr = true ∨ (rdF s (0x2800 + x) 9 = false ∧ f.fd = true ∧ 8 < f.data.length)) →
    exec (.frameSubmitted x f pdo) s = .next (settled s (inc s (0x2800 + x) 0x8B))) ∧
  (∀ s x delay back cycle f, Alive s → x < 4 → solitary s x = false → (canState s x = 2 ∨ canState s x = 3) →
    canMode s x ≠ 1 → (can s x).held = none → winner (can s x).txq = some f → tooOld s x f false = false →
    Reaches (.frameTransmitted x ⟨delay, back, cycle⟩) s fun t =>
      (can t x).txq = dropFirst f (can s x).txq ∧ (can t x).held = none ∧
      rdN t (0x2800 + x) 0x88 = (rdN s (0x2800 + x) 0x88 + 1) % 2 ^ 32) ∧
  (∀ s x f delay back cycle, Alive s → x < 4 → solitary s x = true → (can s x).tryAt + rdN s (0x2800 + x) 0x0F * 10 ≤ s.now →
    (canState s x = 2 ∨ canState s x = 3) → canMode s x ≠ 1 → (can s x).held = none → winner (can s x).txq = some f →
    tooOld s x f false = false →
    Reaches (.solitaryRetry x ⟨true, delay, back, cycle⟩) s fun t =>
      (can t x).txq = dropFirst f (can s x).txq ∧ (can t x).tryAt = s.now ∧
      rdN t (0x2800 + x) 0x88 = (rdN s (0x2800 + x) 0x88 + 1) % 2 ^ 32)

/-- R282 to R286, R289: errors count in the error counters of ISO 11898-1, and a transmitter above 255 goes bus-off with its
condition; the hold-off or the command starts recovery, whose end clears both counters; the mode wanted comes into use at
bus idle; integration ends error-active, or in listen-only. -/
def Obligations.CanErrorsAndModes : Prop :=
  (∀ s x kind dataPhase eight delay, Alive s → x < 4 → (canState s x = 2 ∨ canState s x = 3) → canMode s x ≠ 1 →
    Reaches (.canError x false kind dataPhase ⟨eight, delay⟩) s fun t =>
      rdN t (0x2800 + x) 0x84 = min 255 (rdN s (0x2800 + x) 0x84 + if eight then 8 else 1)) ∧
  (∀ s x kind dataPhase eight delay, Alive s → x < 4 → s.zh6432 = false → (canState s x = 2 ∨ canState s x = 3) → canMode s x ≠ 1 →
    kind ≠ 3 →
    Reaches (.canError x true kind dataPhase ⟨eight, delay⟩) s fun t =>
      rdN t (0x2800 + x) 0x83 = min 256 (rdN s (0x2800 + x) 0x83 + 8) ∧
      (255 < rdN s (0x2800 + x) 0x83 + 8 → canState t x = 4 ∧ (36 + x, 0) ∈ t.conds)) ∧
  (∀ s x, Alive s → canState s x = 4 → rdN s (0x2800 + x) 0x0D = 1 → (can s x).offAt + rdN s (0x2800 + x) 0x0E * 10 ≤ s.now →
    exec (.busOffHoldoffExpired x) s = .next (settled s (wrN s (0x2800 + x) 0x80 5))) ∧
  (∀ s client x off, x < 4 → Accepts s client (0x2800 + x) 0x11 (leBytes 1 1) →
    exec (.startRecovery client x off) s = .next (settled s (paired (wrN (answered s client) (0x2800 + x) 0x80 5)
      client (0x2800 + x) 0x11 (leBytes 1 1)))) ∧
  (∀ s x, Alive s → x < 4 → canState s x = 5 →
    Reaches (.recoveryComplete x) s fun t =>
      canState t x = 2 ∧ rdN t (0x2800 + x) 0x83 = 0 ∧ rdN t (0x2800 + x) 0x84 = 0 ∧
      t.conds = s.conds.filter (· != (36 + x, 0))) ∧
  (∀ s x, Alive s → x < 4 → canState s x ≠ 0 → canMode s x ≠ modeWanted s x → modeWanted s x ≤ 3 →
    Reaches (.canModeChange x) s fun t =>
      canMode t x = modeWanted s x ∧ (can t x).modeDue = false ∧ (modeWanted s x = 1 → canState t x = 6) ∧
      (canMode s x = 1 → canState t x = 1)) ∧
  (∀ s client x mode off, x < 4 → mode < 256 → Accepts s client (0x2800 + x) 0x0C (leBytes 1 mode) →
    exec (.canModeRequest client x mode off) s = .next (settled s (paired
      (setCan (wrN (eccMended (answered s client) [key (0x2800 + x) 0x0C]) (0x2800 + x) 0x0C mode) x
        { can s x with modeDue := true })
      client (0x2800 + x) 0x0C (leBytes 1 mode)))) ∧
  (∀ s x, Alive s → canState s x = 1 →
    exec (.busIntegrationComplete x) s = .next (settled s (wrN s (0x2800 + x) 0x80 (if canMode s x = 1 then 6 else 2))))

-- Network services ----------------------------------------------------------------------------------------------------

/-- R296: an NMT command to the device's node-ID or to node 0 waits for tick s + 1, s being its stamp (R48); a command to
another node does nothing. R312: a SYNC that lacks the counter it should carry, or carries one it should not, counts in
0x1FF0:82; a counter that repeats is a duplicate; any other sets the tick after it as the tick of the synchronous PDOs.
R313: a TIME frame sets an invalid calendar to its own instant, and one within 5 ms of the calendar is ignored; one out of
range counts. -/
def Obligations.NmtSyncAndTimeFrames : Prop :=
  (∀ s node off, Alive s →
    ∀ p ∈ [(Instr.nmtStart node off, 0x01), (.nmtStop node off, 0x02), (.nmtEnterPreOperational node off, 0x80),
           (.nmtResetApplication node off, 0x81), (.nmtResetCommunication node off, 0x82)],
      (booted s = true → (inPair s = true → s.ensign = true) → (node = 0 ∨ node = nodeId s) →
        exec p.1 s = .next (settled s { s with net := { s.net with
          nmtDue := s.net.nmtDue ++ [(s.now + (if 99000 ≤ off then 1 else 0) + 1, p.2)], nmtSeen := true } })) ∧
      (node ≠ 0 → node ≠ nodeId s → exec p.1 s = .next (settled s s))) ∧
  (∀ s ctr off, Served s → ctr.isSome = !(rdN s 0x1019 0 != 0) →
    exec (.syncReceived ctr off) s = .next (settled s (inc s 0x1FF0 0x82))) ∧
  (∀ s c off, Served s → rdN s 0x1019 0 ≠ 0 → s.net.syncCtr = some c →
    exec (.syncReceived (some c) off) s = .next (settled s (inc s 0x1FF0 0x81))) ∧
  (∀ s ctr off, Served s → ctr.isSome = (rdN s 0x1019 0 != 0) → (ctr.isSome = true → s.net.syncCtr ≠ ctr) →
    Reaches (.syncReceived ctr off) s fun t =>
      t.net.syncDue = some (s.now + 1) ∧ (ctr.isSome = true → t.net.syncCtr = ctr) ∧
      (∀ p ∈ t.net.rpdo, p.2.pend = none) ∧ t.dict = dictCanon s.dict ∧
      (nmt s = 5 → ∀ n x vs v, (n, x) ∈ s.net.rpdo → x.pend = some vs → v ∈ vs →
        { client := 0x100, due := stamp s off + 1, period := periodic v.1 v.2.1, idx := v.1, sub := v.2.1, data := v.2.2 } ∈
          t.pendingWrites)) ∧
  (∀ s ms, Served s → rdBit s 0x1012 0 31 = true → (ms < 0 ∨ 12622780800000 ≤ ms) →
    exec (.timeReceived ms) s = .next (settled s (inc s 0x1FF0 0x82))) ∧
  (∀ s (ms : Int), Served s → rdBit s 0x1012 0 31 = true → 0 ≤ ms → ms < 12622780800000 → calValid s = true →
    (-5 : Rat) < (ms : Rat) - (calCounts s : Rat) * 1000 / 32768 → (ms : Rat) - (calCounts s : Rat) * 1000 / 32768 < 5 →
    exec (.timeReceived ms) s = .next (settled s s)) ∧
  (∀ s (ms : Int), Served s → rdBit s 0x1012 0 31 = true → 0 ≤ ms → ms + 1000 < 12622780800000 → calValid s = false →
    Reaches (.timeReceived ms) s fun t =>
      t.cal.secs = (ms / 1000).toNat ∧ calValid t = true ∧ rdN t 0x2300 0x0F = (rdN s 0x2300 0x0F + 1) % 2 ^ 32 ∧ t.cal.shadows = [])

/-- R298, R300, R302, R303: an RPDO is one write of all its mapped values: at tick s + 1 for the types 0xFE and 0xFF, held
for the next SYNC for the others; a sequenced one that is not new is a duplicate, and one shorter than its mapping sends
EMCY 0x8210; both are counted. Silence for its event timer sends EMCY 0x8250 and restarts its sequence, and a slot goes
invalid by its own timeout. R301: a TPDO carries its sequence number k mod 65 536 and the values in force, once per assembly
wanted. -/
def Obligations.PdosComeAndGo : Prop :=
  (∀ s n data off, Served s → s.net.rValid.contains n = true → entries s (rMap n) ≠ [] → takesRpdos s = true →
    (sequenced s n = true → 2 ≤ data.length → seqNew s n (leNat (data.take 2)) = true) →
    ((entries s (rMap n)).map (·.2.2)).foldl (· + ·) 0 ≤ data.length →
    let x := { Tab.get s.net.rpdo n {} with
      rxAt := some s.now, timed := false,
      seq := if sequenced s n && 2 ≤ data.length then some (leNat (data.take 2), s.now) else (Tab.get s.net.rpdo n {}).seq }
    let u := setNet s { s.net with rpdo := Tab.put s.net.rpdo n x }
    let vs := ((cutValues (entries s (rMap n)) data).filter fun v => !dummy v.1).map fun v =>
      (v.1, v.2.1, match rowOf v.1 v.2.1 with | some r => stored r v.2.2 | none => v.2.2)
    (∀ v ∈ vs, writeRefusal u 0x100 v.1 v.2.1 v.2.2 .rpdo = 0 ∧
      ¬ (within v.1 0x3300 0x3301 = true ∧ v.2.1 = 0x80 ∧ holdsEnsign u = true ∧ targetRefused u (v.1 - 0x3300) v.2.2 = true)) →
    exec (.rpdoReceived n data off) s = .next (settled s (
      if 0xFE ≤ rdN s (rComm n) 2 then foldS u vs fun t v => pend t 0x100 (stamp s off + 1) v.1 v.2.1 v.2.2
      else setNet u { u.net with rpdo := Tab.put u.net.rpdo n { x with pend := some vs } }))) ∧
  (∀ s n data off, Served s → s.net.rValid.contains n = true → entries s (rMap n) ≠ [] → takesRpdos s = true →
    sequenced s n = true → 2 ≤ data.length → seqNew s n (leNat (data.take 2)) = false →
    exec (.rpdoReceived n data off) s = .next (settled s (inc s 0x1FF0 0x81))) ∧
  (∀ s n data off, Served s → s.net.rValid.contains n = true → entries s (rMap n) ≠ [] → takesRpdos s = true →
    sequenced s n = false → data.length < ((entries s (rMap n)).map (·.2.2)).foldl (· + ·) 0 → s.emcyQ.length < 32 →
    Reaches (.rpdoReceived n data off) s fun t =>
      t.emcyQ = s.emcyQ ++ [{ code := 0x8210, loc := 0, pennant := 0xFF, source := 0xFF, obj := 0 }] ∧
      rdN t 0x1FF0 0x82 = (rdN s 0x1FF0 0x82 + 1) % 2 ^ 32 ∧ t.pendingWrites = s.pendingWrites) ∧
  (∀ s n x t₀, Alive s → takesRpdos s = true → s.net.rValid.contains n = true → Tab.find s.net.rpdo n = some x → x.rxAt = some t₀ → x.timed = false →
    rdN s (rComm n) 5 ≠ 0 → t₀ + 10 * rdN s (rComm n) 5 ≤ s.now → s.emcyQ.length < 32 →
    exec (.rpdoTimeout n) s = .next (settled s { s with
      net := { s.net with rpdo := Tab.put s.net.rpdo n { x with timed := true, seq := none } },
      emcyQ := s.emcyQ ++ [{ code := 0x8250, loc := 0, pennant := 0xFF, source := 0xFF, obj := 0 }] })) ∧
  (∀ s n t₀, Alive s → Tab.find s.net.slotAt n = some t₀ → rdN s (0x4000 + n) 0x22 ≠ 0 →
    t₀ + 10 * rdN s (0x4000 + n) 0x22 ≤ s.now →
    exec (.remoteSlotTimeout n) s = .next (settled s { s with remoteValid := s.remoteValid.filter (· != n) })) ∧
  (∀ s n, Alive s → operational s = true → speaks s = true → s.net.tValid.contains n = true →
    (Tab.get s.net.tpdo n {}).want = true →
    (Tab.get s.net.tpdo n {}).sentAt.all (fun t₀ => t₀ + rdN s (tComm n) 3 ≤ s.now) = true →
    let x := Tab.get s.net.tpdo n {}
    let data := leBytes 2 s.tick ++ tpdoValues s n
    let f : Frame := { ide := bit (rdN s (tComm n) 1) 29, id := rdN s (tComm n) 1 % 2 ^ 29, data := data }
    let u := setNet s { s.net with tpdo := Tab.put s.net.tpdo n { x with
      k0 := some (x.k0.getD s.tick), sentAt := some s.now, last := some (tpdoValues s n), want := false } }
    exec (.tpdoAssembly n) s = .next (settled s (pageData
      (if 256 < n then submit u 2 f true else submit (submit u 0 f true) 1 f true) (0x8000 + n) data)))

/-- R311: the heartbeat falls due 0x1017 ms after the last and carries the NMT state on CAN0, CAN1 and CAN2; a producer's
heartbeat restarts its time and ends HB_CONSUMER_TIMEOUT's cause; silence for that time starts it. R309: the oldest EMCY
waits for the inhibit time and then leaves the queue, and 0x1003 keeps its code first. -/
def Obligations.HeartbeatsAndEmcys : Prop :=
  (∀ s, Served s → speaks s = true → rdN s 0x1017 0 ≠ 0 → s.net.hbAt + 10 * rdN s 0x1017 0 ≤ s.now →
    let d : List Byte := [BitVec.ofNat 8 (nmt s)]
    let u := { s with net := { s.net with hbAt := s.now } }
    let v := submit (submit u 0 { id := 0x700 + nodeId s, data := d } false) 1 { id := 0x700 + nodeId s, data := d } false
    exec .heartbeatProduce s = .next (settled s (submit v 2 { id := 0x700 + rdN v 0x1FF0 2, data := d } false))) ∧
  (∀ s, Alive s → (rdN s 0x1017 0 = 0 ∨ s.now < s.net.hbAt + 10 * rdN s 0x1017 0) →
    exec .heartbeatProduce s = .next (settled s s)) ∧
  (∀ s e k st, Served s → standby s = false → 1 ≤ e → e ≤ 8 → rdN s 0x1016 e / 65536 % 256 = k → rdN s 0x1016 e % 65536 ≠ 0 →
    Reaches (.heartbeatReceived false k st) s fun t => Tab.find t.net.heard e = some s.now ∧ (48, e) ∉ t.conds) ∧
  (∀ s k st, Served s → 1 ≤ k → k ≤ 127 → assigned s k = true →
    exec (.heartbeatReceived true k st) s = .next (settled s (wrN
      (setNode s k { fieldNode s k with heardAt := some s.now }) 0x1F82 k st))) ∧
  (∀ s e t₀, Alive s → standby s = false → rdN s 0x1016 e % 65536 ≠ 0 → Tab.find s.net.heard e = some t₀ →
    t₀ + 10 * (rdN s 0x1016 e % 65536) ≤ s.now →
    Reaches (.heartbeatConsumerTimeout e) s fun t => (48, e) ∈ t.conds ∧
      (s.conds.contains (48, e) = false → s.conds.any (·.1 == 48) = false → s.emcyQ.length < 32 →
        (t.emcyQ.map (·.code)) = (s.emcyQ.map (·.code)) ++ [0x8130] ∧ condHolds t 48 = true ∧ pennantSet t 48 = true)) ∧
  (∀ s e rest, Served s → speaks s = true → (nmt s = 5 ∨ nmt s = 0x7F) → s.emcyQ = e :: rest →
    s.emcyAt.all (fun t₀ => t₀ + rdN s 0x1015 0 ≤ s.now) = true →
    Reaches .emcySend s fun t =>
      t.emcyQ = rest ∧ t.emcyAt = some s.now ∧ rdN t 0x1003 1 = e.code % 2 ^ 32 ∧
      rdN t 0x1003 0 = min 16 (rdN s 0x1003 0 + 1) ∧ (∀ j, 1 ≤ j → j ≤ 15 → rdN t 0x1003 (j + 1) = rdN s 0x1003 j % 2 ^ 32) ∧
      rdBit t 0x2810 0x80 6 = true)

/-- R306 to R308: a read takes a work item and is answered in its turn, with what was read or with its abort code; beyond 8
items of its client or 96 in all it is refused with 0x060A0023 and counted; before service starts it waits. A silent
segmented transfer is aborted with 0x05040000, counted, its item FAILED. R287: an item that needs frames of controllers cut
off fails at its deadline with reason ALONE. -/
def Obligations.UsdoRequestsAndTheirEnds : Prop :=
  (∀ s client op off, Served s → 1 ≤ client → client ≤ 127 → speaks s = true → (nmt s = 5 ∨ nmt s = 0x7F) →
    (∀ i j, op = .read i j → quiescing s = false → noCapacity s client = true →
      exec (.usdoRequest client op off) s = .next (settled s (abort (inc s 0x1FF0 0x84) client 0x060A0023))) ∧
    (∀ i j u n, op = .read i j → quiescing s = false → noCapacity s client = false → newItem s 1 client i j = (u, some n) →
      s.net.serving = false →
      exec (.usdoRequest client op off) s = .next (settled s (storeHash s
        { u with net := { u.net with reqs := u.net.reqs ++ [{ client := client, item := n, op := op }] } }))) ∧
    (∀ i j u n, op = .read i j → quiescing s = false → noCapacity s client = false → newItem s 1 client i j = (u, some n) →
      s.net.serving = true →
      Reaches (.usdoRequest client op off) s fun t =>
        Tab.find t.answers client = some { code := (readOne (itemActive u n) client i j).2.1,
                                           data := (readOne (itemActive u n) client i j).2.2 }) ∧
    (∀ d last bus, op = .segment d last bus → Tab.find s.net.xfers client = none →
      exec (.usdoRequest client op off) s = .next (settled s (abort s client 0x05040001)))) ∧
  (∀ s client op off, Alive s → (nmt s ≠ 5 ∧ nmt s ≠ 0x7F ∨ booted s = false ∨ speaks s = false) →
    exec (.usdoRequest client op off) s = .next (settled s s)) ∧
  (∀ s client x w, Alive s → client ≤ 0x80 → Tab.find s.net.xfers client = some x → x.at_ + 10 * rdN s 0x1FF0 4 ≤ s.now →
    Tab.find s.work x.item = some w → w.state < 2 → cutOff s 0 = false →
    Reaches (.usdoSegmentTimeout client) s fun t =>
      Tab.find t.net.xfers client = none ∧ Tab.find t.answers client = some { code := 0x05040000, data := [] } ∧
      Tab.find t.work x.item = some { w with state := 3, reason := 9, ended := s.tick, abort := 0x05040000 } ∧
      rdN t 0x1FF0 0x85 = (rdN s 0x1FF0 0x85 + 1) % 2 ^ 32) ∧
  (∀ s i w k, Alive s → 1 ≤ k → k ≤ 127 → Tab.find s.work i = some w → w.state < 2 → w.origin = 0x200 + k → cutOff s 2 = true →
    (fieldNode s k).item = some i → (fieldNode s k).xfer ≠ 0 → (fieldNode s k).at_ + 10 * rdN s 0x1FF0 6 ≤ s.now →
    Reaches (.workItemDeadline i) s fun t =>
      Tab.find t.work i = some { w with state := 3, reason := 7, ended := s.tick, abort := 0 } ∧ rdN t 0x1F83 k = 5) ∧
  (∀ s off t₀, Alive s → s.net.bootAt = some t₀ → s.net.serving = false → t₀ + 2000 ≤ s.now →
    exec (.usdoServiceStart off) s = .next (settled s (storeHash s (
      foldS { s with net := { s.net with serving := true } } (List.range 8) fun s _ => serveRound s off)))) ∧
  (∀ s off t₀, Alive s → s.net.bootAt = some t₀ → s.now < t₀ + 2000 →
    exec (.usdoServiceStart off) s = .next (settled s s))

/-- R314 to R317: 200 ms after its boot-up the holder begins with the nodes of CAN2, each assigned one being waited for; its
boot-up starts its check, and a node that answers as expected, without a configuration to load, is checked; another identity
makes it mismatched, silence missing, an unexpected boot-up lost with a retry at once, a missing heartbeat lost with a retry
in 10 s; a client transfer is repeated twice. A write of 0x1F82 sends its command to an assigned node. -/
def Obligations.FieldNodesAreChecked : Prop :=
  (∀ s t₀ k, Alive s → s.net.bootAt = some t₀ → s.net.fieldBoot = false → speaks s = true → (nmt s = 5 ∨ nmt s = 0x7F) →
    t₀ + 2000 ≤ s.now → 1 ≤ k → k ≤ 127 →
    Reaches .fieldNodeBoot s fun t => t.net.fieldBoot = true ∧ rdN t 0x1F83 k = (if assigned s k then 1 else 0) ∧
      (assigned s k = true → (fieldNode t k).deadline = s.now + 10 * rdN s 0x1FF0 5)) ∧
  (∀ s k r v1 v2 v3, Alive s → 1 ≤ k → k ≤ 127 → s.net.fieldBoot = true → assigned s k = true → (bootStatus s k = 1) →
    (fieldNode s k).item = none → xfersInFlight s < 8 → quiescing s = false → freeItem s ≠ none →
    r = { r with type := some v1, vendor := some v2, product := some v3 } →
    (identityOk s 0x1F84 k v1 = true → identityOk s 0x1F85 k v2 = true → identityOk s 0x1F86 k v3 = true → rdB s 0x1F22 k = [] →
      Reaches (.fieldNodeBootUp k r) s fun t => rdN t 0x1F83 k = 4 ∧ (fieldNode t k).item = none) ∧
    (identityOk s 0x1F84 k v1 = false → Reaches (.fieldNodeBootUp k r) s fun t => rdN t 0x1F83 k = 5)) ∧
  (∀ s k, Alive s → 1 ≤ k → k ≤ 127 → s.net.fieldBoot = true → (bootStatus s k = 1 ∨ bootStatus s k = 2 ∨ bootStatus s k = 3) →
    (fieldNode s k).deadline ≠ 0 → (fieldNode s k).deadline ≤ s.now →
    Reaches (.fieldNodeBootTimeout k) s fun t => rdN t 0x1F83 k = 6 ∧ (mandatory s k = true → (49, k) ∈ t.conds)) ∧
  (∀ s k, Alive s → 1 ≤ k → k ≤ 127 → s.net.fieldBoot = true → bootStatus s k = 4 →
    Reaches (.fieldNodeLost k true) s fun t => rdN t 0x1F83 k = 7 ∧ (fieldNode t k).retryAt = s.now ∧
      (mandatory s k = true → (49, k) ∈ t.conds)) ∧
  (∀ s k h, Alive s → 1 ≤ k → k ≤ 127 → s.net.fieldBoot = true → bootStatus s k = 4 → (fieldNode s k).heardAt = some h →
    rdN s 0x1F81 k / 65536 ≠ 0 → h + 10 * (rdN s 0x1F81 k / 65536) ≤ s.now →
    Reaches (.fieldNodeLost k false) s fun t => rdN t 0x1F83 k = 7 ∧ (fieldNode t k).retryAt = s.now + 100000) ∧
  (∀ s k r, Alive s → bootStatus s k = 7 → (fieldNode s k).retryAt ≤ s.now →
    exec (.fieldNodeRetry k r) s = .next (settled s (nodeCheck
      (setNode s k { fieldNode s k with retryAt := s.now + 100000, heardAt := some s.now }) k r))) ∧
  (∀ s k r n, Alive s → (fieldNode s k).waiting = false → (fieldNode s k).item = some n → (fieldNode s k).xfer ≠ 0 →
    (fieldNode s k).at_ + 10 * rdN s 0x1FF0 6 ≤ s.now → (fieldNode s k).tries < 2 →
    exec (.clientTransferTimeout k r) s = .next (settled s (nodeSteps
      (setNode s k { fieldNode s k with tries := (fieldNode s k).tries + 1 }) k r 5 (fieldNode s k).xfer))) ∧
  (∀ s k r n, Alive s → 1 ≤ k → k ≤ 127 → (fieldNode s k).waiting = false → (fieldNode s k).item = some n →
    (fieldNode s k).xfer ≠ 0 → (fieldNode s k).at_ + 10 * rdN s 0x1FF0 6 ≤ s.now → 2 ≤ (fieldNode s k).tries →
    Reaches (.clientTransferTimeout k r) s fun t => rdN t 0x1F83 k = 5 ∧ (fieldNode t k).item = none) ∧
  (∀ s client k off, speaks s = true → assigned s k = true → 1 ≤ k → k ≤ 127 →
    ∀ p ∈ [(Instr.fieldNodeNmtStart client k off, 0x01), (.fieldNodeNmtStop client k off, 0x02),
           (.fieldNodeNmtPreOperational client k off, 0x80), (.fieldNodeNmtResetApplication client k off, 0x81),
           (.fieldNodeNmtResetCommunication client k off, 0x82)],
      Accepts s client 0x1F82 k (leBytes 1 p.2) →
      exec p.1 s = .next (settled s (paired (success (submit { s with answers := Tab.del s.answers client } 2
        { id := 0, fd := false, data := [BitVec.ofNat 8 p.2, BitVec.ofNat 8 k] } false) client) client 0x1F82 k (leBytes 1 p.2))))

-- The host port -------------------------------------------------------------------------------------------------------

/-- R324 to R328: a request under a free tag is taken; one whose fields break the table is answered with 0x05040001; it
takes an item of kind 1 and waits for the start of service, or is served as a USDO request of the same client would be. A
read's response is the value, or the abort code. A first segment opens the transfer, and the gap between two of them ends
its item. A tag in use gives result 5. -/
def Obligations.HostRequestsTakeTags : Prop :=
  (∀ s m tag idx sub payload off, PortReady s → Tab.find s.host.tags tag = none →
    let v := tagTaken s m tag idx sub
    (payload ≠ [] →
      exec (.hostRead m tag idx sub payload off) s = .next (settled s (respond v tag 0x05040001 []))) ∧
    (payload = [] ∨ 4096 < payload.length →
      exec (.hostWrite m tag idx sub payload off) s = .next (settled s (respond v tag 0x05040001 []))) ∧
    (payload ≠ [] ∨ sub ≠ 0 →
      exec (.readRecord m tag idx sub payload off) s = .next (settled s (respond v tag 0x05040001 []))) ∧
    (sub ≠ 0 →
      exec (.writeRecord m tag idx sub payload off) s = .next (settled s (respond v tag 0x05040001 []))) ∧
    (payload.length ≠ 6 →
      exec (.bulkRead m tag idx sub payload off) s = .next (settled s (respond v tag 0x05040001 []))) ∧
    (payload.length < 8 →
      exec (.segWrite m tag idx sub payload off) s = .next (settled s (respond v tag 0x05040001 [])))) ∧
  (∀ s m tag idx sub off u n, PortReady s → Tab.find s.host.tags tag = none →
    takeItem (tagTaken s m tag idx sub) 0x80 idx sub 0 = (u, some n, 0) →
    ∀ p ∈ [(Instr.hostRead m tag idx sub [] off, HostOp.read idx sub)] ++
          (if sub = 0 then [(.readRecord m tag idx sub [] off, .readRecord idx)] else []) ++
          [(.bulkRead m tag idx sub (leBytes 4 0 ++ leBytes 2 4096) off, .bulk idx sub 0 4096)],
      exec p.1 s = .next (settled s (
        if s.net.serving then serveHost u tag n p.2 off
        else { u with host := { u.host with queue := u.host.queue ++ [(tag, n, p.2)] } }))) ∧
  (∀ s m tag idx sub payload off u n, PortReady s → Tab.find s.host.tags tag = none → payload ≠ [] → payload.length ≤ 4096 →
    takeItem (tagTaken s m tag idx sub) 0x80 idx sub 0 = (u, some n, 0) →
    ∀ p ∈ [(Instr.hostWrite m tag idx sub payload off, HostOp.write idx sub payload)] ++
          (if sub = 0 then [(.writeRecord m tag idx sub payload off, .writeRecord idx payload)] else []),
      exec p.1 s = .next (settled s (storeHash (transacted s m) (
        if s.net.serving then serveHost u tag n p.2 off
        else { u with host := { u.host with queue := u.host.queue ++ [(tag, n, p.2)] } })))) ∧
  (∀ s m tag idx sub off u n, PortReady s → Tab.find s.host.tags tag = none → s.net.serving = true →
    takeItem (tagTaken s m tag idx sub) 0x80 idx sub 0 = (u, some n, 0) →
    let r := readOne (itemActive u n) 0x80 idx sub
    r.2.2.length ≤ 4096 →
    Reaches (.hostRead m tag idx sub [] off) s fun t =>
      Tab.find t.host.tags tag = some (HostTag.mk idx sub (some (r.2.1 == 0, if r.2.1 = 0 then r.2.2 else leBytes 4 r.2.1))) ∧
      rdBit t 0x2810 0x80 0 = true) ∧
  (∀ s m tag idx sub total data off u n, PortReady s → Tab.find s.host.tags tag = none → s.host.seg = none →
    s.net.serving = true → total < 2 ^ 32 → data.length < total →
    takeItem (tagTaken s m tag idx sub) 0x80 idx sub 0 = (u, some n, 0) →
    Reaches (.segWrite m tag idx sub (leBytes 4 total ++ leBytes 4 0 ++ data) off) s fun t =>
      t.host.seg = some { idx := idx, sub := sub, total := total, data := data, at_ := s.now, item := some n, late := false } ∧
      Tab.find t.host.tags tag = some { idx := idx, sub := sub, resp := some (true, []) }) ∧
  (∀ s g n w, Alive s → s.host.seg = some g → g.late = false → g.item = some n → g.at_ + 10 * rdN s 0x1FF0 4 < s.now →
    Tab.find s.work n = some w → w.state < 2 →
    Reaches .segWriteGapTimeout s fun t =>
      t.host.seg = some { g with item := none, late := true } ∧
      Tab.find t.work n = some { w with state := 3, reason := 9, ended := s.tick, abort := 0x05040000 }) ∧
  (∀ s i j d t₀, Alive s → s.host.bulk = some (i, j, d, t₀) → t₀ + 100000 ≤ s.now →
    exec .bulkCopyTimeout s = .next (settled s { s with host := { s.host with bulk := none } })) ∧
  (∀ s m tag idx sub payload off, PortReady s → (Tab.find s.host.tags tag).isSome = true →
    ∀ c ∈ [Instr.hostRead m tag idx sub payload off, .readRecord m tag idx sub payload off, .bulkRead m tag idx sub payload off,
           .hostWrite m tag idx sub payload off, .writeRecord m tag idx sub payload off, .segWrite m tag idx sub payload off,
           .hostFrameDiscard m 5 tag],
      exec c s = .next (settled s (inc (setHost (transacted s m) { s.host with last := 5 }) 0x2810 0x84)))

/-- R323, R325, R326, R331: every transaction sends the prefix; NOP does nothing else. FETCH sends the tag's response in its
frame and leaves it; RELEASE frees a tag that has its response; ACK_IRQ clears the sources of its mask; a discarded frame
leaves its result and its counter, and before boot-up every frame has result 4 (R332). R329, R330: the oldest page data is
written to its page, or to the shadow of an open one, and a page read alone goes out with its CRC. -/
def Obligations.HostTransactionsAndPages : Prop :=
  (∀ s m, PortReady s → exec (.hostNop m) s = .next (settled s (transacted s m))) ∧
  (∀ s m, s.rst.phase < 3 → exec (.hostNop m) s = .next (settled s s)) ∧
  (∀ s m tag x ok d, PortReady s → tag < 8 → Tab.find s.host.tags tag = some x → x.resp = some (ok, d) →
    let f := leBytes 1 (32 * tag + (if ok then 0x10 else 0x11)) ++ leBytes 2 x.idx ++ leBytes 1 x.sub ++ leBytes 2 d.length ++ d
    let v := frameTaken s m
    exec (.fetch m tag) s = .next (settled s { v with
      answers := Tab.put v.answers inlineKey { code := 0, data := f ++ leBytes 2 (crc16 f) } })) ∧
  (∀ s m tag x, PortReady s → Tab.find s.host.tags tag = some x → x.resp.isSome = true →
    Reaches (.release m tag) s fun t =>
      t.host.tags = Tab.del s.host.tags tag ∧ t.host.last = 1 ∧
      rdBit t 0x2810 0x80 0 = (Tab.del s.host.tags tag).any fun p => p.2.resp.isSome) ∧
  (∀ s m tag x, PortReady s → Tab.find s.host.tags tag = some x → x.resp = none →
    exec (.release m tag) s = .next (settled s (frameTaken s m))) ∧
  (∀ s m mask, PortReady s →
    Reaches (.ackIrq m mask) s fun t =>
      rdBit t 0x2810 0x80 0 = rdBit s 0x2810 0x80 0 ∧
      ∀ i, 1 ≤ i → i ≤ 10 → rdBit t 0x2810 0x80 i = (rdBit s 0x2810 0x80 i && !bit mask i)) ∧
  (∀ s m result tag, Alive s → 3 ≤ s.rst.phase → booted s = false →
    ∀ c ∈ [Instr.hostNop m, .hostFrameDiscard m result tag],
      exec c s = .next (settled s (setHost (transacted s m) { s.host with last := 4 }))) ∧
  (∀ s m tag, PortReady s →
    exec (.hostFrameDiscard m 2 tag) s = .next (settled s (inc (setHost (transacted s m) { s.host with last := 2 }) 0x2810 0x82)) ∧
    exec (.hostFrameDiscard m 3 tag) s = .next (settled s (inc (setHost (transacted s m) { s.host with last := 3 }) 0x2810 0x83)) ∧
    exec (.hostFrameDiscard m 6 tag) s = .next (settled s (setHost (transacted s m) { s.host with last := 6 }))) ∧
  (∀ s p d rest, Alive s → s.host.pageDue = (p, d) :: rest → 1 ≤ p → p ≤ 63 → (pageOf s p).isOpen = false → (pageOf s 0).isOpen = false →
    Reaches .processPageUpdate s fun t =>
      pageOf t p = { pageOf s p with data := d, count := ((pageOf s p).count + 1) % 256 } ∧ t.host.pageDue = rest ∧
      rdBit t 0x2810 0x80 1 = true) ∧
  (∀ s p d rest, Alive s → s.host.pageDue = (p, d) :: rest → (pageOf s p).isOpen = true → (pageOf s p).shadow.isSome = true →
    Reaches .processPageUpdate s fun t =>
      pageOf t p = { pageOf s p with shadow := some d } ∧ t.host.lost = true ∧
      rdN t 0x2810 0x85 = (rdN s 0x2810 0x85 + 1) % 2 ^ 32 ∧ rdBit t 0x2810 0x80 8 = true) ∧
  (∀ s m p, PortReady s → 1 ≤ p → p ≤ 63 → (pageOf s p).data.length = 64 → (pageOf s p).shadow = none →
    Reaches (.piRead m p 1 [] []) s fun t =>
      Tab.find t.answers inlineKey =
        some { code := 0, data := (pageOf s p).data ++ leBytes 2 (crc16 (pageOf s p).data) } ∧
      pageOf t p = { pageOf s p with isOpen := false }) ∧
  (∀ s m first count updates ecc, PortReady s → (count = 0 ∨ 64 < first + count) →
    exec (.piRead m first count updates ecc) s =
      .next (settled s (inc (setHost (transacted s m) { s.host with last := 3 }) 0x2810 0x83)))

-- The duplex pair and the witness -------------------------------------------------------------------------------------

/-- R340 to R345, R357: the link's state follows its events with HALYARD_DOWN, and a standby joins the pair when the link
comes up; a bad frame counts in 0x2500:89 and does nothing else. A TICK frame sets the partner's count and output mirror, a
mirror item is applied once in its order, a later number than the next starts a resynchronisation (the model's reading, log
entry 134), a log entry enters the holder's ring with package 1, and a JOIN is noted by the holder. A hoist is a work item
of kind 6 until it is acknowledged or fails with NO_ACK at h + 20 ms; the receiver keeps the two newest valid ones; without
one the standby is not ready. -/
def Obligations.HalyardCarriesThePair : Prop :=
  (∀ s, Alive s → inPair s = true → s.cfgLoaded = true → linkUp s = false →
    Reaches .halyardLinkUp s fun t => linkUp t = true ∧ (53, 0) ∉ t.conds ∧
      (standby s = true → (role s ≠ 1 ∨ within (rdN s 0x2500 0x83) 5 6 = true) → role t = 2 ∧ t.dup.hoists = [] ∧ t.dup.mirrorSync = true)) ∧
  (∀ s, Alive s → inPair s = true → s.cfgLoaded = true → linkUp s = true →
    Reaches .halyardLinkDown s fun t => linkUp t = false ∧ (53, 0) ∈ t.conds ∧ t.dup.joined = false ∧ t.dup.mirrorQ = []) ∧
  (∀ s count duties sps aligned raw crc, Alive s → inPair s = true → s.cfgLoaded = true → linkUp s = true → s.ensign = false →
    (crc32 raw = crc → Reaches (.tickFrameReceived count duties sps aligned ⟨raw, crc⟩) s fun t =>
      t.tick = count % 2 ^ 64 ∧ t.counting = true ∧ t.dup.mirrorOut = some (duties, sps) ∧
      rdBit t 0x2500 0x8C 7 = !aligned) ∧
    (crc32 raw ≠ crc →
      exec (.tickFrameReceived count duties sps aligned ⟨raw, crc⟩) s = .next (settled s (inc s 0x2500 0x89)))) ∧
  (∀ s seq m raw crc, Alive s → standby s = true → s.ensign = false → linkUp s = true → crc32 raw = crc →
    ((s.dup.mirrorSync = true ∨ seq = (rdN s 0x2500 0x8E + 1) % 2 ^ 32) →
      exec (.mirrorItemReceived seq m ⟨raw, crc⟩) s = .next (settled s (storeHash s (readyCheck (wrN
        (mirrorApply { s with dup := { s.dup with mirrorSync := false } } m) 0x2500 0x8E seq))))) ∧
    (s.dup.mirrorSync = false → seq ≠ (rdN s 0x2500 0x8E + 1) % 2 ^ 32 → seq ≤ rdN s 0x2500 0x8E →
      exec (.mirrorItemReceived seq m ⟨raw, crc⟩) s = .next (settled s s)) ∧
    (s.dup.mirrorSync = false → rdN s 0x2500 0x8E + 1 < seq →
      exec (.mirrorItemReceived seq m ⟨raw, crc⟩) s = .next (settled s (storeHash s (mirrorTake (notReady (join s) 1 true) seq m))))) ∧
  (∀ s, Alive s → s.dup.mirrorQ ≠ [] → s.dup.mirrorAt + 10 ≤ s.now →
    exec .mirrorAckTimeout s = .next (settled s (
      if s.dup.mirrorTries < 3 then { s with dup := { s.dup with mirrorTries := s.dup.mirrorTries + 1, mirrorAt := s.now } }
      else joinItems { s with dup := { s.dup with mirrorQ := [], mirrorTries := 0 } } [2, 3, 4]))) ∧
  (∀ s e raw crc, Alive s → inPair s = true → s.cfgLoaded = true → s.ensign = true → linkUp s = true → crc32 raw = crc →
    Reaches (.logFrameReceived e ⟨raw, crc⟩) s fun t =>
      t.log.head? = some { e with num := rdN s 0x2710 0x80, loc := e.loc % 2 ^ 30 + 2 ^ 30, data := e.data % 65536 } ∧
      rdN t 0x2710 0x85 = (rdN s 0x2710 0x85 + 1) % 2 ^ 32) ∧
  (∀ s hash version serials, Alive s → inPair s = true → s.cfgLoaded = true → s.ensign = true → linkUp s = true →
    Reaches (.controlJoin hash version serials) s fun t => t.dup.joined = true) ∧
  (∀ s h i, Alive s → s.dup.snap = some h → h.tick = s.tick → linkUp s = true → s.dup.joined = true → transferring s = false →
    quiescing s = false → freeItem s = some i →
    Reaches .hoistCapture s fun t => t.dup.sent = (h, some i, s.now) :: s.dup.sent ∧ t.dup.snap = none ∧ t.dup.number = h.number ∧
      rdN t 0x2500 0x87 = (rdN s 0x2500 0x87 + 1) % 2 ^ 32 ∧
      ∃ w, Tab.find t.work i = some w ∧ w.kind = 6 ∧ w.state = 1) ∧
  (∀ s h image raw crc, Alive s → inPair s = true → s.cfgLoaded = true → linkUp s = true → s.ensign = false → role s ≠ 4 →
    crc32 raw = crc → trailerOk image = true → hoistValid s h = true →
    Reaches (.hoistSegmentReceived (some (h, image)) ⟨raw, crc⟩) s fun t =>
      t.dup.hoists = h :: s.dup.hoists.take 1 ∧ rdN t 0x2500 0x85 = h.number % 2 ^ 32 ∧ rdN t 0x2500 0x86 = h.tick % 2 ^ 64 ∧
      rdN t 0x2500 0x88 = (rdN s 0x2500 0x88 + 1) % 2 ^ 32) ∧
  (∀ s h image raw crc, Alive s → inPair s = true → s.cfgLoaded = true → linkUp s = true → s.ensign = false → role s ≠ 4 →
    crc32 raw ≠ crc →
    Reaches (.hoistSegmentReceived (some (h, image)) ⟨raw, crc⟩) s fun t =>
      t.dup.hoists = s.dup.hoists ∧ rdN t 0x2500 0x89 = (rdN s 0x2500 0x89 + 1) % 2 ^ 32) ∧
  (∀ s h i t₀ w, Alive s → s.dup.sent = [(h, some i, t₀)] → t₀ + 200 ≤ s.now → Tab.find s.work i = some w → w.state < 2 →
    Reaches .hoistAckTimeout s fun t => t.dup.sent = [] ∧
      Tab.find t.work i = some { w with state := 3, reason := 10, ended := s.tick, abort := 0 }) ∧
  (∀ s h i t₀ w, Alive s → s.dup.sent = [(h, some i, t₀)] → Tab.find s.work i = some w → w.state < 2 →
    Reaches (.controlAcknowledgement true h.number) s fun t => t.dup.sent = [] ∧
      Tab.find t.work i = some { w with state := 2, ended := s.tick }) ∧
  (∀ s n, Alive s → (s.dup.mirrorQ.any fun p => p.1 == n) = true →
    exec (.controlAcknowledgement false n) s = .next (settled s { s with dup := { s.dup with
      mirrorQ := s.dup.mirrorQ.filter fun p => !(p.1 ≤ n), mirrorTries := 0, mirrorAt := s.now } })) ∧
  (∀ s t₀, Alive s → standby s = true → s.dup.hoistAt = some t₀ → t₀ + 10 * (rdN s 0x2500 2 + 20) ≤ s.now →
    Reaches .noValidHoist s fun t => rdBit t 0x2500 0x8C 2 = true ∧ role t ≠ 3)

/-- R348, R351, R352: a GRANT naming the unit, of a newer epoch, arms it in roles 1, 3 and 4, and it is refused in role 2
and of an old epoch; ENSIGN_IN then gives it the ensign with the epoch, role 5, EMCY 0xFF03 and IRQ source 5; without arming
the pin only sets ENSIGN_UNEXPECTED. The deassertion, a REVOKE, or a partner in role 5 of a newer epoch takes the ensign:
role 2. Five ms without the pin disarm. The armed unit loads its newest hoist. BEACON and HEALTH keep WITNESS_LOST and the
partner's role. -/
def Obligations.TheEnsignChangesHands : Prop :=
  (∀ s unit num e, Alive s → inPair s = true → unit = unitNo s → newer e (epoch s) = true →
    ((role s = 1 ∧ rdN s 0x2500 0x83 ≠ 5) ∨ role s = 3 ∨ role s = 4) → s.dup.armed = none →
    Reaches (.orderGrant unit num e) s fun t => t.dup.armed = some (e, s.now, role s) ∧ role t = 4 ∧ t.ensign = s.ensign) ∧
  (∀ s unit num e, Alive s → inPair s = true → unit = unitNo s → newer e (epoch s) = true →
    (role s = 2 ∨ (role s = 1 ∧ rdN s 0x2500 0x83 = 5)) →
    exec (.orderGrant unit num e) s = .next (settled s (answerOrder s 1 1 num))) ∧
  (∀ s unit num e, Alive s → inPair s = true → unit = unitNo s → newer e (epoch s) = false →
    exec (.orderGrant unit num e) s = .next (settled s (answerOrder s 1 2 num))) ∧
  (∀ s e t₀ prev, Alive s → inPair s = true → s.dup.armed = some (e, t₀, prev) → s.emcyQ.length < 32 → s.dup.swap = none →
    Reaches .ensignInAsserted s fun t =>
      t.ensign = true ∧ t.ensignIn = true ∧ t.dup.armed = none ∧ epoch t = e % 65536 ∧ role t = 5 ∧
      rdN t 0x2500 0x8A = (rdN s 0x2500 0x8A + 1) % 2 ^ 32 ∧ rdN t 0x2500 0x8D = s.tick % 2 ^ 64 ∧
      rdBit t 0x2810 0x80 5 = true ∧ (t.emcyQ.any fun x => x.code == 0xFF03) = true) ∧
  (∀ s, Alive s → inPair s = true → s.dup.armed = none → s.ensign = false →
    Reaches .ensignInAsserted s fun t => t.ensignIn = true ∧ t.ensign = false ∧ (52, 0) ∈ t.conds) ∧
  (∀ s, Alive s → inPair s = true → s.ensign = true →
    Reaches .ensignInDeasserted s fun t => t.ensignIn = false ∧ t.ensign = false ∧ role t = 2 ∧ t.dup.hoists = [] ∧
      t.net.reqs = [] ∧ t.net.xfers = []) ∧
  (∀ s, alive s = false → exec .ensignInDeasserted s = .next (settled s { s with ensignIn := false })) ∧
  (∀ s num e, Alive s → inPair s = true → s.ensign = true → newer e (epoch s) = true →
    Reaches (.orderRevoke (unitNo s) num e) s fun t => t.ensign = false ∧ epoch t = e % 65536 ∧ role t = 2) ∧
  (∀ s num e, Alive s → inPair s = true → s.ensign = false →
    exec (.orderRevoke (unitNo s) num e) s = .next (settled s (answerOrder s 2 3 num))) ∧
  (∀ s e t₀ prev, Alive s → s.dup.armed = some (e, t₀, prev) → prev < 8 → t₀ + 50 ≤ s.now →
    Reaches .armTimeout s fun t => t.dup.armed = none ∧ role t = prev) ∧
  (∀ s h l, Alive s → inPair s = true → s.dup.loaded = false → s.dup.swap = none → (role s = 4 ∨ role s = 5) →
    s.dup.hoists = h :: l →
    Reaches .takeoverLoaded s fun t => t.dup.loaded = true ∧ nmt t = h.nmt % 256) ∧
  (∀ s, Alive s → inPair s = true →
    Reaches .beaconReceived s fun t => t.dup.beaconAt = some s.now ∧ (54, 0) ∉ t.conds) ∧
  (∀ s t₀, Alive s → inPair s = true → s.dup.beaconAt = some t₀ → t₀ + 10 * rdN s 0x2500 6 ≤ s.now →
    Reaches .beaconTimeout s fun t => (54, 0) ∈ t.conds) ∧
  (∀ s h, Alive s → inPair s = true → h.unit ≠ unitNo s →
    Reaches (.healthFrameReceived h) s fun t => rdN t 0x2500 0x83 = h.role % 8 ∧ t.dup.heardAt = some s.now ∧
      (h.role = 5 → newer h.epoch (epoch s) = true → t.ensign = false ∧ epoch t = h.epoch % 65536)) ∧
  (∀ s, Alive s → inPair s = true → canState s 3 ≠ 0 → s.dup.healthAt + 100 ≤ s.now →
    Reaches .healthFrameSend s fun t => t.dup.healthAt = s.now ∧ t.dup.healthCtr = (s.dup.healthCtr + 1) % 256) ∧
  (∀ s num, Alive s → inPair s = true → (role s = 2 ∨ role s = 3) →
    Reaches (.orderResync (unitNo s) num) s fun t => role t = 2 ∧ t.dup.hoists = [])

/-- R353: a SWAP to the holder whose partner is ready makes it role 6, with the final hoist at the first tick h that is a
multiple of 10 at or after s + 10 and the window from h + 100; it is refused by one that does not hold the ensign, that is
in a swap already or whose partner is not ready; the unit named arms. At h' each unit's controllers take the modes of the
window, or the holder is back in role 5 without a final hoist; at e the holder withdraws and its clients' items end. R360:
the commands of 0x2500:10. -/
def Obligations.PlannedSwapRunsItsSteps : Prop :=
  (∀ s unit num w off, Alive s → inPair s = true → unit ≠ unitNo s → s.ensign = true → role s = 5 → rdN s 0x2500 0x83 = 3 →
    let h := (tickAt s (stamp s off) + 10 + 9) / 10 * 10
    Reaches (.orderSwap unit num w false off) s fun t =>
      role t = 6 ∧ t.dup.swap = some { unit := unit, h := h, hp := h + 100, e := h + 100 + w }) ∧
  (∀ s unit num w off urgent, Alive s → inPair s = true → unit ≠ unitNo s →
    (s.ensign = false ∨ role s = 6 ∨ rdN s 0x2500 0x83 ≠ 3) →
    exec (.orderSwap unit num w urgent off) s = .next (settled s (answerOrder s 3
      (if s.ensign = false then 3 else if role s = 6 then 4 else 1) num))) ∧
  (∀ s num w off, Alive s → inPair s = true → role s = 3 →
    Reaches (.orderSwap (unitNo s) num w false off) s fun t =>
      role t = 4 ∧ t.dup.swap = some { unit := unitNo s, h := 0, hp := 0, e := w }) ∧
  (∀ s w, Alive s → inPair s = true → s.dup.swap = some w → w.started = false → w.hp ≠ 0 → w.hp ≤ s.tick + 1 →
    (role s = 6 → w.finalDone = true →
      Reaches .swallowtailStart s fun t => t.dup.modes = [(1, 1)] ∧ t.dup.swap = some { w with started := true } ∧ role t = 6) ∧
    (role s = 6 → w.finalDone = false →
      Reaches .swallowtailStart s fun t => t.dup.swap = none ∧ t.dup.modes = [] ∧ role t = 5) ∧
    (role s = 4 → w.finalDone = true →
      Reaches .swallowtailStart s fun t => t.dup.modes = [(0, 1), (1, 0), (2, 1)] ∧ t.dup.loaded = true ∧
        t.dup.swap = some { w with started := true })) ∧
  (∀ s w, Alive s → inPair s = true → s.dup.swap = some w → w.started = true → w.withdrawn = false → w.e ≤ s.tick + 1 →
    (role s = 6 →
      Reaches .swallowtailEnd s fun t => t.dup.modes = [(0, 1), (1, 1), (2, 1)] ∧ t.dup.swap = some { w with withdrawn := true } ∧
        t.net.reqs = [] ∧ t.net.xfers = []) ∧
    (role s = 4 →
      Reaches .swallowtailEnd s fun t => t.dup.modes = [(0, 0), (1, 0), (2, 0)] ∧ t.dup.swap = some { w with withdrawn := true })) ∧
  (∀ s client off, Accepts s client 0x2500 0x10 (leBytes 1 1) → exec (.requestSwap client off) s = .next (settled s (paired
    { answered s client with dup := { s.dup with swapReq := true } } client 0x2500 0x10 (leBytes 1 1)))) ∧
  (∀ s client off, Accepts s client 0x2500 0x10 (leBytes 1 2) → Reaches (.requestResync client off) s fun t =>
    Tab.find t.answers client = some { code := 0, data := [] } ∧ role t = 2 ∧ t.dup.hoists = []) ∧
  (∀ s client off, Accepts s client 0x2500 0x10 (leBytes 1 3) → Reaches (.witnessOrderSwap client off) s fun t =>
    Tab.find t.answers client = some { code := 0, data := [] } ∧
    (holder s ≤ 1 → s.dup.wit.swap = none → s.dup.wit.grant = none →
      t.dup.wit.swap = some (1 - holder s, rdN s 0x2500 3, none) ∧ t.dup.wit.num = (s.dup.wit.num + 1) % 256)) ∧
  (∀ s client off, Accepts s client 0x2500 0x10 (leBytes 1 4) → Reaches (.releaseKillLatches client off) s fun t =>
    Tab.find t.answers client = some { code := 0, data := [] } ∧ rdN t 0x2500 0x92 = 0 ∧
    ∀ u, u < 2 → killLatched s u = true → bit t.dup.wit.kill u = false)

/-- R349, R354, R356: a holder without an edge of HEALTH_OUT for 3.0 ms is taken over by a partner that qualifies: a GRANT
of the next epoch, and its REPORT within 1.0 ms moves the lines, the old holder's with its kill; a refusal moves none. The
kill is held for its time. A window end without REPORT withdrawn is forced with a kill. A cold start grants the preferred
unit if it qualifies. -/
def Obligations.WitnessKeepsItsRules : Prop :=
  (∀ s u off, Alive s → witness s = true → u = holder s → u ≤ 1 → toggles s u off = false → s.dup.wit.grant = none →
    qualifies s (1 - u) off false = true →
    Reaches (.unitFailed u off) s fun t =>
      t.dup.wit.grant = some { unit := 1 - u, num := (s.dup.wit.num + 1) % 256, epoch := (s.dup.wit.epoch + 1) % 65536,
                               at_ := now10 s off, old := some u, kill := true } ∧
      t.dup.wit.swap = none ∧ t.dup.wit.ensign = s.dup.wit.ensign ∧
      rdN t 0x2500 0x93 = (rdN s 0x2500 0x93 + 1) % 2 ^ 32) ∧
  (∀ s r off g o, Alive s → witness s = true → s.dup.wit.grant = some g → r.cmd = 1 → r.unit = g.unit → g.unit < 2 → r.num = g.num →
    g.old = some o → o = 1 - g.unit →
    (r.result = 0 → now10 s off ≤ g.at_ + 100 →
      Reaches (.reportReceived r off) s fun t =>
        holder t = g.unit ∧ epoch t = g.epoch % 65536 ∧ t.dup.wit.grant = none ∧ t.dup.wit.latch = true ∧
        bit t.dup.wit.ensign g.unit = true ∧ bit t.dup.wit.ensign o = false ∧
        (g.kill = true → bit t.dup.wit.kill o = true ∧ rdN t 0x2500 0x91 = (rdN s 0x2500 0x91 + 1) % 2 ^ 32)) ∧
    (r.result ≠ 0 →
      Reaches (.reportReceived r off) s fun t =>
        t.dup.wit.grant = none ∧ t.dup.wit.ensign = s.dup.wit.ensign ∧ t.dup.wit.kill = s.dup.wit.kill)) ∧
  (∀ s u t₀, Alive s → witness s = true → u ≤ 1 → (witUnit s u).killAt = some t₀ → t₀ + 10 * rdN s 0x2500 0x21 ≤ s.now →
    killLatched s u = false →
    Reaches (.killHoldExpired u) s fun t => bit t.dup.wit.kill u = false ∧ (witUnit t u).killAt = none) ∧
  (∀ s off v w e, Alive s → witness s = true → s.dup.wit.swap = some (v, w, some e) → e + 200 ≤ s.now → s.dup.wit.grant = none →
    toggles s v off = true → fresh s v = true →
    Reaches (.withdrawnTimeout off) s fun t =>
      t.dup.wit.grant = some { unit := v, num := (s.dup.wit.num + 1) % 256, epoch := (s.dup.wit.epoch + 1) % 65536,
                               at_ := now10 s off, old := some (1 - v), kill := true } ∧
      rdN t 0x2500 0x93 = (rdN s 0x2500 0x93 + 1) % 2 ^ 32) ∧
  (∀ s off, Alive s → witness s = true → 1 < holder s → s.dup.wit.grant = none → rdN s 0x2500 0x22 ≤ 1 →
    (witUnit s 0).role = 1 → (witUnit s 1).role = 1 → fresh s 0 = true → fresh s 1 = true →
    qualifies s (rdN s 0x2500 0x22) off true = true →
    Reaches (.coldStartWait off) s fun t =>
      t.dup.wit.grant = some { unit := rdN s 0x2500 0x22, num := (s.dup.wit.num + 1) % 256,
                               epoch := (s.dup.wit.epoch + 1) % 65536, at_ := now10 s off, old := none, kill := false }) ∧
  (∀ s off, Alive s → witness s = true → s.dup.wit.sentAt + 100 ≤ s.now →
    Reaches (.beaconSend off) s fun t => t.dup.wit.sentAt = s.now ∧ t.dup.wit.ctr = (s.dup.wit.ctr + 1) % 256)

-- Firmware and security -----------------------------------------------------------------------------------------------

/-- R425 to R428: a header is an item of kind 3; refused, its reason stands in 0x2400:93 and the answer is 0x08000020; else
it opens a session on the image that does not run. A block is a job with the hash of its data; when its read-back agrees
with the header's hash its bit of 0x2400:84 is set, and a wrong hash or a failed flash leaves reason 5 or 6. -/
def Obligations.ImagesArriveByBlocks : Prop :=
  (∀ s client data off i, Accepts s client 0x2400 0x20 data → rdN s 0x2400 0x90 = 0 → sessionState s = 0 → quiescing s = false →
    freeItem s = some i →
    Reaches (.imageHeader client data off) s fun t =>
      Tab.find t.answers client = some { code := if headerRefusal s data = 0 then 0 else 0x08000020, data := [] } ∧
      (headerRefusal s data ≠ 0 → rdN t 0x2400 0x93 = headerRefusal s data ∧ t.fw = s.fw) ∧
      (headerRefusal s data = 0 →
        sessionState t = 1 ∧ rdN t 0x2400 0x81 = 1 - running s ∧ rdN t 0x2400 0x84 = 0 ∧
        rdN t 0x2400 0x82 = (headerImage data).n ∧ image t (1 - running s) = headerImage data ∧ t.fw.jobs = s.fw.jobs)) ∧
  (∀ s client n data off i, n < 64 → Accepts s client 0x2400 0x21 (leBytes 4 n ++ data) →
    (sessionState s = 1 ∨ sessionState s = 2) → n < rdN s 0x2400 0x82 → rdBit s 0x2400 0x84 n = false → quiescing s = false →
    freeItem s = some i →
    Reaches (.imageBlock client (leBytes 4 n ++ data) off) s fun t =>
      t.fw = { s.fw with jobs := s.fw.jobs ++ [{ client := client, item := some i, num := n, hash := Sha.digest data }] } ∧
      ∃ w, Tab.find t.work i = some w ∧ w.kind = 3 ∧ w.state ≤ 1) ∧
  (∀ s j rest, Alive s → s.fw.jobs = j :: rest → j.num < 64 → j.client ≤ 0x80 → rdN s 0x2400 0x81 ≤ 1 →
    let x := image s (rdN s 0x2400 0x81)
    (Reaches (.firmwareBlockVerified true) s fun t =>
      rdN t 0x2400 0x93 = 6 ∧ t.fw = { s.fw with jobs := rest } ∧
      Tab.find t.answers j.client = some { code := 0x08000020, data := [] }) ∧
    (j.hash ≠ x.wanted.getD j.num [] → Reaches (.firmwareBlockVerified false) s fun t =>
      rdN t 0x2400 0x93 = 5 ∧ t.fw = { s.fw with jobs := rest } ∧
      Tab.find t.answers j.client = some { code := 0x08000020, data := [] }) ∧
    (j.hash = x.wanted.getD j.num [] → Reaches (.firmwareBlockVerified false) s fun t =>
      rdBit t 0x2400 0x84 j.num = true ∧ t.fw.jobs = rest ∧
      image t (rdN s 0x2400 0x81) = { x with have_ := Tab.put x.have_ j.num j.hash } ∧
      Tab.find t.answers j.client = some { code := 0, data := [] }))

/-- R429 to R431: a commit verifies a full image again: good, it becomes the selected image on trial; bad, the session is
open again with the reason. A close makes the slot partial and drops what waits; the selection goes to the other valid
image; confirmation ends the trial; a restart comes at tick s + 1, on the unit it names. -/
def Obligations.ImagesAreCommittedAndConfirmed : Prop :=
  (∀ s client off, Accepts s client 0x2400 0x10 (leBytes 1 1) → sessionState s = 2 →
    Reaches (.firmwareCommit client off) s fun t =>
      sessionState t = 4 ∧ t.fw = { s.fw with jobs := s.fw.jobs ++ [{ client := client, item := none, num := 64, hash := [] }] }) ∧
  (∀ s j rest bad sigOk, Alive s → s.fw.jobs = j :: rest → 64 ≤ j.num → j.client ≤ 0x80 → rdN s 0x2400 0x81 ≤ 1 → bad.all (· < 63) = true →
    let x := image s (rdN s 0x2400 0x81)
    let wrong := bad.filter (· < x.n)
    (wrong = [] → sigOk = true → rollbackC s ≤ x.level →
      Reaches (.commitVerificationDone bad sigOk) s fun t =>
        sessionState t = 3 ∧ (image t (rdN s 0x2400 0x81)).state = 1 ∧
        t.fw.boot = some { selected := rdN s 0x2400 0x81, previous := running s, trial := 1, starts := 0 } ∧
        Tab.find t.answers j.client = some { code := 0, data := [] }) ∧
    ((wrong ≠ [] ∨ sigOk = false ∨ x.level < rollbackC s) →
      Reaches (.commitVerificationDone bad sigOk) s fun t =>
        sessionState t = 1 ∧ rdN t 0x2400 0x93 = (if wrong ≠ [] then 5 else if sigOk = false then 3 else 4) ∧
        (∀ n ∈ wrong, rdBit t 0x2400 0x84 n = false) ∧ t.fw.boot = s.fw.boot ∧
        Tab.find t.answers j.client = some { code := 0x08000020, data := [] })) ∧
  (∀ s client off, Accepts s client 0x2400 0x10 (leBytes 1 2) → (sessionState s = 1 ∨ sessionState s = 2) → rdN s 0x2400 0x81 ≤ 1 →
    Reaches (.firmwareClose client off) s fun t =>
      sessionState t = 0 ∧ t.fw.jobs = [] ∧ (image t (rdN s 0x2400 0x81)).state = 2 ∧ t.fw.boot = s.fw.boot ∧
      Tab.find t.answers client = some { code := 0, data := [] }) ∧
  (∀ s client off, Accepts s client 0x2400 0x10 (leBytes 1 3) → rdN s 0x2400 0x90 = 2 →
    Reaches (.firmwareConfirm client off) s fun t =>
      rdN t 0x2400 0x90 = 0 ∧ t.fw.boot = some { bootOf s with trial := 0, starts := 0 } ∧
      Tab.find t.answers client = some { code := 0, data := [] }) ∧
  (∀ s client off, Accepts s client 0x2400 0x10 (leBytes 1 4) →
    Reaches (.selectOtherImage client off) s fun t =>
      let o := 1 - (bootOf s).selected
      if (image s o).state = 1 ∧ rollbackC s ≤ (image s o).level then
        t.fw.boot = some { selected := o, previous := (bootOf s).selected, trial := 0, starts := 0 } ∧
        Tab.find t.answers client = some { code := 0, data := [] }
      else t.fw = s.fw ∧ Tab.find t.answers client = some { code := 0x08000022, data := [] }) ∧
  (∀ s client unit off, unit < 256 → Accepts s client 0x2400 0x11 (leBytes 1 unit) →
    exec (.restartCommand client unit off) s = .next (settled s (paired
      (if inPair s && unit != unitNo s + 1 then answered s client
       else { answered s client with fw := { s.fw with restartAt := some (stamp s off + 1) } }) client 0x2400 0x11 (leBytes 1 unit))))

/-- R439, R440, R442, R444 to R446: a key is loaded with its hash; once one is loaded, a slot is revoked and the policy set
only by the entries of a signed image, applied last, and a client's own write changes no slot; a configuration image that is
refused leaves its reason in 0x2600:85, and one whose entries hold and ask for no commit is applied from tick s + 1. A nonce
waits its turn, and the signed report is its client's. A challenge is fresh bytes, the serial number and the tick; a
response uses it up and unlocks at tick s + 1 if it verifies; the lock command orders a restart at tick s + 1. -/
def Obligations.KeysReportsAndUnlock : Prop :=
  (∀ s client k data off, k < 4 → Accepts s client (0x2601 + k) 1 data →
    Reaches (.keyLoad client k data false off) s fun t =>
      rdB t (0x2601 + k) 1 = data ∧ slotState t k = 1 ∧ rdB t (0x2601 + k) 0x81 = Sha.digest data ∧
      Tab.find t.answers client = some { code := 0, data := [] } ∧ ∀ j, j < 4 → j ≠ k → slotState t j = slotState s j) ∧
  (∀ s client off, Accepts s client 0x2600 0x21 (leBytes 1 1) →
    Reaches (.signaturePolicyWrite client 0x21 false off) s fun t => rdN t 0x2600 0x21 = 1 ∧
      Tab.find t.answers client = some { code := 0, data := [] }) ∧
  (∀ s client k off j rest, Served s → k < 4 → s.sec.job = some j → j.keys = (0x2601 + k, 0x10, leBytes 1 1) :: rest →
    j.due ≤ s.now + 1 → s.commitDue = none → s.tt.commit = none → s.tt.answerTo = none → j.storeItem = none →
    Reaches (.keyRevoke client k true off) s fun t =>
      slotState t k = 2 ∧ t.sec = { s.sec with job := some { j with keys := rest } } ∧
      ∀ i, i < 4 → i ≠ k → slotState t i = slotState s i) ∧
  (∀ s client off j rest, Served s → s.sec.job = some j → j.keys = (0x2600, 0x20, leBytes 1 1) :: rest →
    j.due ≤ s.now + 1 → s.commitDue = none → s.tt.commit = none → s.tt.answerTo = none → j.storeItem = none →
    Reaches (.signaturePolicyWrite client 0x20 true off) s fun t =>
      rdN t 0x2600 0x20 = 1 ∧ t.sec = { s.sec with job := some { j with keys := rest } }) ∧
  (∀ s client k off, Served s → client ≤ 0x80 → groupOf s client = none → k < 4 → anyLoaded s = true →
    Reaches (.keyRevoke client k false off) s fun t => ∀ i, i < 4 → slotState t i = slotState s i) ∧
  (∀ s client data off u, Accepts s client 0x2608 1 data → s.sec.job = none →
    let es := (imageForm data).getD []
    let held := es.filter fun e => !structural e.1 e.2.1 && !ttStaged e.1 e.2.1 && !keyEntry e
    bit (num data 7 1) 0 = false → bit (num data 7 1) 1 = false →
    imageCheck client es { s with answers := Tab.del s.answers client } { s with answers := Tab.del s.answers client } = (0, u) →
    listBroken u held = false → heldRefusal u client off held = none →
    imageRefusal s data = 0 →
    Reaches (.signedConfigurationImage client data off) s fun t =>
      t.sec.job = some { client := client, seq := num data 28 4, slot := num data 6 1, due := stamp s off + 1,
                         keys := es.filter keyEntry, store := bit (num data 7 1) 2 }) ∧
  (∀ s client data off, Accepts s client 0x2608 1 data → s.sec.job = none → imageRefusal s data ≠ 0 →
    Reaches (.signedConfigurationImage client data off) s fun t =>
      rdN t 0x2600 0x85 = imageRefusal s data ∧ t.sec = s.sec ∧
      Tab.find t.answers client = some { code := 0x08000020, data := [] }) ∧
  (∀ s client data off, Accepts s client 0x2610 1 data →
    exec (.attestationNonce client data off) s = .next (settled s (paired { s with
      answers := Tab.del s.answers client,
      sec := { s.sec with nonces := s.sec.nonces ++ [(client, data, none)] } } client 0x2610 1 data))) ∧
  (∀ s sig body client nonce item rest, Alive s → client ≤ 0x80 → s.sec.signing = some body → s.sec.nonces = (client, nonce, item) :: rest →
    Reaches (.reportSigned sig) s fun t =>
      t.sec.signing = none ∧ t.sec.nonces = rest ∧ reportOf t client = some (body ++ sig) ∧
      Tab.find t.answers client = some { code := 0, data := [] }) ∧
  (∀ s client, Served s → client ≤ 0x80 →
    let c := ((List.range 8).flatMap fun i => leBytes 4 (Config.freeWord (s.freeCount + i)).toNat) ++ serialBytes ++ leBytes 8 s.tick
    exec (.debugChallenge client) s = .next (settled s { s with
      freeCount := s.freeCount + 8, sec := { s.sec with challenge := some (c, s.now) },
      answers := Tab.put s.answers client { code := 0, data := c } })) ∧
  (∀ s client sig off, Accepts s client 0x260C 2 sig → rdF s 0x2600 0x21 = true → rdN s 0x2600 0x82 ≠ 1 → s.sec.unlockAt = none →
    Reaches (.debugResponse client sig off) s fun t =>
      t.sec = { s.sec with challenge := none, unlockAt := if debugRefusal s sig = 0 then some (stamp s off + 1) else none } ∧
      Tab.find t.answers client = some { code := debugRefusal s sig, data := [] }) ∧
  (∀ s client off, Accepts s client 0x260C 3 (leBytes 1 1) →
    exec (.lockCommand client off) s = .next (settled s (paired
      { answered s client with fw := { s.fw with restartAt := some (stamp s off + 1) } } client 0x260C 3 (leBytes 1 1))))
end

