-- ==== Sys2Proof/Laws/Table.lean ====
section
/-! SUPPORT. Laws of sparse tables and of the dictionary's canonical form: what a lookup gives after each change, and that every
change keeps the form. -/
namespace Sys2Proof.Tab

variable {α : Type}

@[simp] theorem find_nil (x : Nat) : find ([] : Tab α) x = none := rfl

@[simp] theorem find_put_self (t : Tab α) (x : Nat) (v : α) : find (put t x v) x = some v := by
  induction t with
  | nil => simp [put, find]
  | cons p t ih =>
    obtain ⟨k, w⟩ := p
    simp only [put]
    split
    · simp [find]
    · split
      · simp [find]
      · have : ¬ k = x := fun h => by simp_all
        simp [find, ih, this]

theorem find_put_ne (t : Tab α) {x y : Nat} (v : α) (h : x ≠ y) : find (put t x v) y = find t y := by
  induction t with
  | nil => simp [put, find, h]
  | cons p t ih =>
    obtain ⟨k, w⟩ := p
    simp only [put]
    split
    · rename_i e
      have e : x = k := by simpa using e
      subst e
      simp [find, h]
    · split
      · simp [find, h]
      · simp only [find, ih]

@[simp] theorem find_del_self (t : Tab α) (x : Nat) : find (del t x) x = none := by
  induction t with
  | nil => rfl
  | cons p t ih =>
    obtain ⟨k, w⟩ := p
    by_cases h : k = x
    · subst h
      simpa [del] using ih
    · simp only [del, List.filter_cons, bne_iff_ne, ne_eq, h, not_false_eq_true, if_true, find, beq_iff_eq, if_false]
      simpa [del] using ih

theorem find_del_ne (t : Tab α) {x y : Nat} (h : x ≠ y) : find (del t x) y = find t y := by
  induction t with
  | nil => rfl
  | cons p t ih =>
    obtain ⟨k, w⟩ := p
    by_cases e : k = x
    · subst e
      simp [del, find, h] at ih ⊢
      exact ih
    · simp only [del, List.filter_cons, bne_iff_ne, ne_eq, e, not_false_eq_true, if_true, find]
      simp only [del] at ih
      rw [ih]

theorem find_put (t : Tab α) (x y : Nat) (v : α) : find (put t x v) y = if x = y then some v else find t y := by
  split
  · rename_i h
    subst h
    simp
  · rename_i h
    exact find_put_ne t v h

@[simp] theorem get_put_self (t : Tab α) (x : Nat) (v d : α) : get (put t x v) x d = v := by simp [get]
theorem get_put_ne (t : Tab α) {x y : Nat} (v d : α) (h : x ≠ y) : get (put t x v) y d = get t y d := by
  simp [get, find_put_ne t v h]
@[simp] theorem get_nil (x : Nat) (d : α) : get ([] : Tab α) x d = d := rfl

/-- Every key of a table is above `x`. -/
def above (t : Tab α) (x : Nat) : Prop := ∀ p ∈ t, x < p.1

theorem sorted_cons {p : Nat × α} {t : Tab α} : sorted (p :: t) = true ↔ above t p.1 ∧ sorted t = true := by
  induction t generalizing p with
  | nil => simp [sorted, above]
  | cons q t ih =>
    obtain ⟨a, v⟩ := p
    obtain ⟨b, w⟩ := q
    simp only [sorted, Bool.and_eq_true, decide_eq_true_eq]
    constructor
    · intro h
      refine ⟨?_, h.2⟩
      intro r hr
      rcases List.mem_cons.mp hr with rfl | hr
      · exact h.1
      · exact Nat.lt_trans h.1 ((ih.mp h.2).1 r hr)
    · intro h
      exact ⟨h.1 (b, w) (List.mem_cons_self ..), h.2⟩

theorem mem_put {t : Tab α} {x : Nat} {v : α} {p : Nat × α} (h : p ∈ put t x v) : p = (x, v) ∨ p ∈ t := by
  induction t with
  | nil => simpa [put] using h
  | cons q t ih =>
    obtain ⟨k, w⟩ := q
    simp only [put] at h
    split at h
    · simp at h
      rcases h with h | h
      · exact .inl h
      · exact .inr (List.mem_cons_of_mem _ h)
    · split at h
      · simpa using h
      · rcases List.mem_cons.mp h with h | h
        · exact .inr (h ▸ List.mem_cons_self ..)
        · rcases ih h with h | h
          · exact .inl h
          · exact .inr (List.mem_cons_of_mem _ h)

theorem sorted_put (t : Tab α) (x : Nat) (v : α) (h : sorted t = true) : sorted (put t x v) = true := by
  induction t with
  | nil => rfl
  | cons q t ih =>
    obtain ⟨k, w⟩ := q
    have hc := sorted_cons.mp h
    simp only [put]
    split
    · rename_i e
      have e : x = k := by simpa using e
      exact sorted_cons.mpr ⟨e ▸ hc.1, hc.2⟩
    · split
      · rename_i e
        refine sorted_cons.mpr ⟨?_, h⟩
        intro p hp
        rcases List.mem_cons.mp hp with rfl | hp
        · exact e
        · exact Nat.lt_trans e (hc.1 p hp)
      · rename_i e1 e2
        refine sorted_cons.mpr ⟨?_, ih hc.2⟩
        intro p hp
        rcases mem_put hp with rfl | hp
        · have : x ≠ k := by simpa using e1
          simp only [Nat.not_lt] at e2
          exact Nat.lt_of_le_of_ne e2 (Ne.symm this)
        · exact hc.1 p hp

theorem sorted_del (t : Tab α) (x : Nat) (h : sorted t = true) : sorted (del t x) = true := by
  induction t with
  | nil => rfl
  | cons q t ih =>
    have hc := sorted_cons.mp h
    have ht := ih hc.2
    simp only [del, List.filter_cons]
    split
    · refine sorted_cons.mpr ⟨?_, ht⟩
      intro p hp
      exact hc.1 p (List.mem_filter.mp hp).1
    · exact ht

/-- A value put in front of a table whose keys are all above it. -/
theorem put_above {t : Tab α} {x : Nat} (v : α) (h : above t x) : put t x v = (x, v) :: t := by
  cases t with
  | nil => rfl
  | cons q t =>
    obtain ⟨k, w⟩ := q
    have hk : x < k := h (k, w) (List.mem_cons_self ..)
    have : ¬ x = k := Nat.ne_of_lt hk
    simp [put, this, hk]

end Sys2Proof.Tab

namespace Sys2Proof.Machine
open Sys2Proof Sys2Proof.OD

-- The dictionary --------------------------------------------------------------------------------------------------

@[simp] theorem dictGet_dictPut_self (d : Tab (List Byte)) (k : Nat) (v : List Byte) : dictGet (dictPut d k v) k = v := by
  unfold dictPut dictGet Tab.get
  split
  · rename_i h
    have h : v = defaultAt k := by simpa using h
    simp [h]
  · simp

theorem dictGet_dictPut_ne (d : Tab (List Byte)) {k j : Nat} (v : List Byte) (h : k ≠ j) :
    dictGet (dictPut d k v) j = dictGet d j := by
  unfold dictPut dictGet Tab.get
  split
  · rw [Tab.find_del_ne d h]
  · rw [Tab.find_put_ne d v h]

theorem dictGet_dictPut (d : Tab (List Byte)) (k j : Nat) (v : List Byte) :
    dictGet (dictPut d k v) j = if k = j then v else dictGet d j := by
  split
  · rename_i h
    subst h
    simp
  · rename_i h
    exact dictGet_dictPut_ne d v h

/-- The canonical form reads as the table did. -/
@[simp] theorem dictGet_dictCanon (d : Tab (List Byte)) (k : Nat) : dictGet (dictCanon d) k = dictGet d k := by
  induction d with
  | nil => rfl
  | cons p t ih =>
    have e : dictCanon (p :: t) = dictPut (dictCanon t) p.1 p.2 := rfl
    rw [e, dictGet_dictPut]
    unfold dictGet Tab.get at ih ⊢
    obtain ⟨a, v⟩ := p
    by_cases h : a = k
    · simp [Tab.find, h]
    · simp only [Tab.find, beq_iff_eq, h, if_false]
      exact ih

theorem dictWf_nil : dictWf [] := ⟨rfl, rfl⟩

/-- A value put in its place keeps the canonical form. -/
theorem dictWf_dictPut {d : Tab (List Byte)} (k : Nat) (v : List Byte) (h : dictWf d) : dictWf (dictPut d k v) := by
  have hall := List.all_eq_true.mp h.2
  unfold dictPut
  split
  · refine ⟨Tab.sorted_del d k h.1, List.all_eq_true.mpr ?_⟩
    intro p hp
    exact hall p (List.mem_filter.mp hp).1
  · rename_i hv
    refine ⟨Tab.sorted_put d k v h.1, List.all_eq_true.mpr ?_⟩
    intro p hp
    rcases Tab.mem_put hp with rfl | hp
    · simpa using hv
    · exact hall p hp

/-- Whatever the table, its canonical form is canonical. -/
theorem dictWf_dictCanon (d : Tab (List Byte)) : dictWf (dictCanon d) := by
  induction d with
  | nil => exact dictWf_nil
  | cons p t ih => exact dictWf_dictPut p.1 p.2 ih

/-- A canonical table is its own canonical form. -/
theorem dictCanon_of_wf {d : Tab (List Byte)} (h : dictWf d) : dictCanon d = d := by
  induction d with
  | nil => rfl
  | cons p t ih =>
    have hs := Tab.sorted_cons.mp h.1
    have hall := List.all_eq_true.mp h.2
    have ht : dictWf t := ⟨hs.2, List.all_eq_true.mpr fun q hq => hall q (List.mem_cons_of_mem _ hq)⟩
    have hp : p.2 != defaultAt p.1 := hall p (List.mem_cons_self ..)
    have e : dictCanon (p :: t) = dictPut (dictCanon t) p.1 p.2 := rfl
    rw [e, ih ht]
    unfold dictPut
    have hne : ¬ (p.2 == defaultAt p.1) = true := by simpa using hp
    rw [if_neg hne, Tab.put_above p.2 hs.1]

-- The bytes of numbers ----------------------------------------------------------------------------------------------

theorem leNat_leBytes (w n : Nat) : leNat (leBytes w n) = n % 256 ^ w := by
  induction w generalizing n with
  | zero => simp [leBytes, leNat, Nat.mod_one]
  | succ w ih =>
    have e : 256 ^ (w + 1) = 256 * 256 ^ w := by rw [Nat.pow_succ, Nat.mul_comm]
    simp only [leBytes, leNat, ih, BitVec.toNat_ofNat]
    rw [e, Nat.mod_mul]

end Sys2Proof.Machine
end

