-- ==== Sys2Proof/Laws/State.lean ====
section
/-! SUPPORT. What each shared update leaves of every field of State, and what the dictionary reads as after it. -/
namespace Sys2Proof.Machine
open Sys2Proof Sys2Proof.OD

-- A write to the dictionary changes nothing but the dictionary ----------------------------------------------------

@[simp] theorem wrB_pending (s : State) (i j : Nat) (v : List Byte) : (wrB s i j v).pending = s.pending := rfl
@[simp] theorem wrB_zh6432 (s : State) (i j : Nat) (v : List Byte) : (wrB s i j v).zh6432 = s.zh6432 := rfl
@[simp] theorem wrB_now (s : State) (i j : Nat) (v : List Byte) : (wrB s i j v).now = s.now := rfl
@[simp] theorem wrB_tick (s : State) (i j : Nat) (v : List Byte) : (wrB s i j v).tick = s.tick := rfl
@[simp] theorem wrB_tickRun (s : State) (i j : Nat) (v : List Byte) : (wrB s i j v).tickRun = s.tickRun := rfl
@[simp] theorem wrB_counting (s : State) (i j : Nat) (v : List Byte) : (wrB s i j v).counting = s.counting := rfl
@[simp] theorem wrB_written (s : State) (i j : Nat) (v : List Byte) : (wrB s i j v).written = s.written := rfl
@[simp] theorem wrB_staged (s : State) (i j : Nat) (v : List Byte) : (wrB s i j v).staged = s.staged := rfl
@[simp] theorem wrB_ttStaged (s : State) (i j : Nat) (v : List Byte) : (wrB s i j v).ttStaged = s.ttStaged := rfl
@[simp] theorem wrB_pendingWrites (s : State) (i j : Nat) (v : List Byte) : (wrB s i j v).pendingWrites = s.pendingWrites := rfl
@[simp] theorem wrB_commitDue (s : State) (i j : Nat) (v : List Byte) : (wrB s i j v).commitDue = s.commitDue := rfl
@[simp] theorem wrB_hashed (s : State) (i j : Nat) (v : List Byte) : (wrB s i j v).hashed = s.hashed := rfl
@[simp] theorem wrB_answers (s : State) (i j : Nat) (v : List Byte) : (wrB s i j v).answers = s.answers := rfl
@[simp] theorem wrB_waiting (s : State) (i j : Nat) (v : List Byte) : (wrB s i j v).waiting = s.waiting := rfl
@[simp] theorem wrB_groups (s : State) (i j : Nat) (v : List Byte) : (wrB s i j v).groups = s.groups := rfl
@[simp] theorem wrB_lapsed (s : State) (i j : Nat) (v : List Byte) : (wrB s i j v).lapsed = s.lapsed := rfl
@[simp] theorem wrB_conds (s : State) (i j : Nat) (v : List Byte) : (wrB s i j v).conds = s.conds := rfl
@[simp] theorem wrB_penTick (s : State) (i j : Nat) (v : List Byte) : (wrB s i j v).penTick = s.penTick := rfl
@[simp] theorem wrB_announced (s : State) (i j : Nat) (v : List Byte) : (wrB s i j v).announced = s.announced := rfl
@[simp] theorem wrB_emcyQ (s : State) (i j : Nat) (v : List Byte) : (wrB s i j v).emcyQ = s.emcyQ := rfl
@[simp] theorem wrB_emcyAt (s : State) (i j : Nat) (v : List Byte) : (wrB s i j v).emcyAt = s.emcyAt := rfl
@[simp] theorem wrB_log (s : State) (i j : Nat) (v : List Byte) : (wrB s i j v).log = s.log := rfl
@[simp] theorem wrB_logStore (s : State) (i j : Nat) (v : List Byte) : (wrB s i j v).logStore = s.logStore := rfl
@[simp] theorem wrB_logPos (s : State) (i j : Nat) (v : List Byte) : (wrB s i j v).logPos = s.logPos := rfl
@[simp] theorem wrB_work (s : State) (i j : Nat) (v : List Byte) : (wrB s i j v).work = s.work := rfl
@[simp] theorem wrB_nextId (s : State) (i j : Nat) (v : List Byte) : (wrB s i j v).nextId = s.nextId := rfl
@[simp] theorem wrB_idFloor (s : State) (i j : Nat) (v : List Byte) : (wrB s i j v).idFloor = s.idFloor := rfl
@[simp] theorem wrB_cal (s : State) (i j : Nat) (v : List Byte) : (wrB s i j v).cal = s.cal := rfl
@[simp] theorem wrB_meas (s : State) (i j : Nat) (v : List Byte) : (wrB s i j v).meas = s.meas := rfl
@[simp] theorem wrB_ensign (s : State) (i j : Nat) (v : List Byte) : (wrB s i j v).ensign = s.ensign := rfl
@[simp] theorem wrB_ports (s : State) (i j : Nat) (v : List Byte) : (wrB s i j v).ports = s.ports := rfl
@[simp] theorem wrB_pos (s : State) (i j : Nat) (v : List Byte) : (wrB s i j v).pos = s.pos := rfl
@[simp] theorem wrB_loops (s : State) (i j : Nat) (v : List Byte) : (wrB s i j v).loops = s.loops := rfl
@[simp] theorem wrB_engineStop (s : State) (i j : Nat) (v : List Byte) : (wrB s i j v).engineStop = s.engineStop := rfl
@[simp] theorem wrB_laneFaults (s : State) (i j : Nat) (v : List Byte) : (wrB s i j v).laneFaults = s.laneFaults := rfl
@[simp] theorem wrB_reserveUsed (s : State) (i j : Nat) (v : List Byte) : (wrB s i j v).reserveUsed = s.reserveUsed := rfl
@[simp] theorem wrB_trace (s : State) (i j : Nat) (v : List Byte) : (wrB s i j v).trace = s.trace := rfl
@[simp] theorem wrB_zones (s : State) (i j : Nat) (v : List Byte) : (wrB s i j v).zones = s.zones := rfl
@[simp] theorem wrB_tt (s : State) (i j : Nat) (v : List Byte) : (wrB s i j v).tt = s.tt := rfl
@[simp] theorem wrB_panels (s : State) (i j : Nat) (v : List Byte) : (wrB s i j v).panels = s.panels := rfl
@[simp] theorem wrB_store (s : State) (i j : Nat) (v : List Byte) : (wrB s i j v).store = s.store := rfl
@[simp] theorem wrB_cans (s : State) (i j : Nat) (v : List Byte) : (wrB s i j v).cans = s.cans := rfl
@[simp] theorem wrB_pw (s : State) (i j : Nat) (v : List Byte) : (wrB s i j v).pw = s.pw := rfl
@[simp] theorem wrB_net (s : State) (i j : Nat) (v : List Byte) : (wrB s i j v).net = s.net := rfl
@[simp] theorem wrB_dup (s : State) (i j : Nat) (v : List Byte) : (wrB s i j v).dup = s.dup := rfl
@[simp] theorem wrB_fw (s : State) (i j : Nat) (v : List Byte) : (wrB s i j v).fw = s.fw := rfl
@[simp] theorem wrB_sec (s : State) (i j : Nat) (v : List Byte) : (wrB s i j v).sec = s.sec := rfl
@[simp] theorem wrB_host (s : State) (i j : Nat) (v : List Byte) : (wrB s i j v).host = s.host := rfl
@[simp] theorem wrB_rst (s : State) (i j : Nat) (v : List Byte) : (wrB s i j v).rst = s.rst := rfl
@[simp] theorem wrB_tap (s : State) (i j : Nat) (v : List Byte) : (wrB s i j v).tap = s.tap := rfl
@[simp] theorem wrB_th (s : State) (i j : Nat) (v : List Byte) : (wrB s i j v).th = s.th := rfl
@[simp] theorem wrB_outside (s : State) (i j : Nat) (v : List Byte) : (wrB s i j v).outside = s.outside := rfl
@[simp] theorem wrB_outsideNext (s : State) (i j : Nat) (v : List Byte) : (wrB s i j v).outsideNext = s.outsideNext := rfl
@[simp] theorem wrB_remoteValid (s : State) (i j : Nat) (v : List Byte) : (wrB s i j v).remoteValid = s.remoteValid := rfl
@[simp] theorem wrB_tpdoValid (s : State) (i j : Nat) (v : List Byte) : (wrB s i j v).tpdoValid = s.tpdoValid := rfl
@[simp] theorem wrB_ttChan (s : State) (i j : Nat) (v : List Byte) : (wrB s i j v).ttChan = s.ttChan := rfl
@[simp] theorem wrB_mainsValid (s : State) (i j : Nat) (v : List Byte) : (wrB s i j v).mainsValid = s.mainsValid := rfl
@[simp] theorem wrB_freeCount (s : State) (i j : Nat) (v : List Byte) : (wrB s i j v).freeCount = s.freeCount := rfl
@[simp] theorem wrB_ensignIn (s : State) (i j : Nat) (v : List Byte) : (wrB s i j v).ensignIn = s.ensignIn := rfl
@[simp] theorem wrB_pfw (s : State) (i j : Nat) (v : List Byte) : (wrB s i j v).pfw = s.pfw := rfl
@[simp] theorem wrB_inReset (s : State) (i j : Nat) (v : List Byte) : (wrB s i j v).inReset = s.inReset := rfl
@[simp] theorem wrB_cfgLoaded (s : State) (i j : Nat) (v : List Byte) : (wrB s i j v).cfgLoaded = s.cfgLoaded := rfl
@[simp] theorem wrB_clkPosLost (s : State) (i j : Nat) (v : List Byte) : (wrB s i j v).clkPosLost = s.clkPosLost := rfl
@[simp] theorem wrB_clkPanelLost (s : State) (i j : Nat) (v : List Byte) : (wrB s i j v).clkPanelLost = s.clkPanelLost := rfl
@[simp] theorem wrB_portEcc (s : State) (i j : Nat) (v : List Byte) : (wrB s i j v).portEcc = s.portEcc := rfl
@[simp] theorem wrB_strapPulls (s : State) (i j : Nat) (v : List Byte) : (wrB s i j v).strapPulls = s.strapPulls := rfl
@[simp] theorem wrB_eccCount (s : State) (i j : Nat) (v : List Byte) : (wrB s i j v).eccCount = s.eccCount := rfl
@[simp] theorem wrB_eccBad (s : State) (i j : Nat) (v : List Byte) : (wrB s i j v).eccBad = s.eccBad := rfl
@[simp] theorem wrB_eccLog (s : State) (i j : Nat) (v : List Byte) : (wrB s i j v).eccLog = s.eccLog := rfl

@[simp] theorem wrN_pending (s : State) (i j v : Nat) : (wrN s i j v).pending = s.pending := by unfold wrN; split <;> rfl
@[simp] theorem wrN_zh6432 (s : State) (i j v : Nat) : (wrN s i j v).zh6432 = s.zh6432 := by unfold wrN; split <;> rfl
@[simp] theorem wrN_now (s : State) (i j v : Nat) : (wrN s i j v).now = s.now := by unfold wrN; split <;> rfl
@[simp] theorem wrN_tick (s : State) (i j v : Nat) : (wrN s i j v).tick = s.tick := by unfold wrN; split <;> rfl
@[simp] theorem wrN_tickRun (s : State) (i j v : Nat) : (wrN s i j v).tickRun = s.tickRun := by unfold wrN; split <;> rfl
@[simp] theorem wrN_counting (s : State) (i j v : Nat) : (wrN s i j v).counting = s.counting := by unfold wrN; split <;> rfl
@[simp] theorem wrN_written (s : State) (i j v : Nat) : (wrN s i j v).written = s.written := by unfold wrN; split <;> rfl
@[simp] theorem wrN_staged (s : State) (i j v : Nat) : (wrN s i j v).staged = s.staged := by unfold wrN; split <;> rfl
@[simp] theorem wrN_ttStaged (s : State) (i j v : Nat) : (wrN s i j v).ttStaged = s.ttStaged := by unfold wrN; split <;> rfl
@[simp] theorem wrN_pendingWrites (s : State) (i j v : Nat) : (wrN s i j v).pendingWrites = s.pendingWrites := by unfold wrN; split <;> rfl
@[simp] theorem wrN_commitDue (s : State) (i j v : Nat) : (wrN s i j v).commitDue = s.commitDue := by unfold wrN; split <;> rfl
@[simp] theorem wrN_hashed (s : State) (i j v : Nat) : (wrN s i j v).hashed = s.hashed := by unfold wrN; split <;> rfl
@[simp] theorem wrN_answers (s : State) (i j v : Nat) : (wrN s i j v).answers = s.answers := by unfold wrN; split <;> rfl
@[simp] theorem wrN_waiting (s : State) (i j v : Nat) : (wrN s i j v).waiting = s.waiting := by unfold wrN; split <;> rfl
@[simp] theorem wrN_groups (s : State) (i j v : Nat) : (wrN s i j v).groups = s.groups := by unfold wrN; split <;> rfl
@[simp] theorem wrN_lapsed (s : State) (i j v : Nat) : (wrN s i j v).lapsed = s.lapsed := by unfold wrN; split <;> rfl
@[simp] theorem wrN_conds (s : State) (i j v : Nat) : (wrN s i j v).conds = s.conds := by unfold wrN; split <;> rfl
@[simp] theorem wrN_penTick (s : State) (i j v : Nat) : (wrN s i j v).penTick = s.penTick := by unfold wrN; split <;> rfl
@[simp] theorem wrN_announced (s : State) (i j v : Nat) : (wrN s i j v).announced = s.announced := by unfold wrN; split <;> rfl
@[simp] theorem wrN_emcyQ (s : State) (i j v : Nat) : (wrN s i j v).emcyQ = s.emcyQ := by unfold wrN; split <;> rfl
@[simp] theorem wrN_emcyAt (s : State) (i j v : Nat) : (wrN s i j v).emcyAt = s.emcyAt := by unfold wrN; split <;> rfl
@[simp] theorem wrN_log (s : State) (i j v : Nat) : (wrN s i j v).log = s.log := by unfold wrN; split <;> rfl
@[simp] theorem wrN_logStore (s : State) (i j v : Nat) : (wrN s i j v).logStore = s.logStore := by unfold wrN; split <;> rfl
@[simp] theorem wrN_logPos (s : State) (i j v : Nat) : (wrN s i j v).logPos = s.logPos := by unfold wrN; split <;> rfl
@[simp] theorem wrN_work (s : State) (i j v : Nat) : (wrN s i j v).work = s.work := by unfold wrN; split <;> rfl
@[simp] theorem wrN_nextId (s : State) (i j v : Nat) : (wrN s i j v).nextId = s.nextId := by unfold wrN; split <;> rfl
@[simp] theorem wrN_idFloor (s : State) (i j v : Nat) : (wrN s i j v).idFloor = s.idFloor := by unfold wrN; split <;> rfl
@[simp] theorem wrN_cal (s : State) (i j v : Nat) : (wrN s i j v).cal = s.cal := by unfold wrN; split <;> rfl
@[simp] theorem wrN_meas (s : State) (i j v : Nat) : (wrN s i j v).meas = s.meas := by unfold wrN; split <;> rfl
@[simp] theorem wrN_ensign (s : State) (i j v : Nat) : (wrN s i j v).ensign = s.ensign := by unfold wrN; split <;> rfl
@[simp] theorem wrN_ports (s : State) (i j v : Nat) : (wrN s i j v).ports = s.ports := by unfold wrN; split <;> rfl
@[simp] theorem wrN_pos (s : State) (i j v : Nat) : (wrN s i j v).pos = s.pos := by unfold wrN; split <;> rfl
@[simp] theorem wrN_loops (s : State) (i j v : Nat) : (wrN s i j v).loops = s.loops := by unfold wrN; split <;> rfl
@[simp] theorem wrN_engineStop (s : State) (i j v : Nat) : (wrN s i j v).engineStop = s.engineStop := by unfold wrN; split <;> rfl
@[simp] theorem wrN_laneFaults (s : State) (i j v : Nat) : (wrN s i j v).laneFaults = s.laneFaults := by unfold wrN; split <;> rfl
@[simp] theorem wrN_reserveUsed (s : State) (i j v : Nat) : (wrN s i j v).reserveUsed = s.reserveUsed := by unfold wrN; split <;> rfl
@[simp] theorem wrN_trace (s : State) (i j v : Nat) : (wrN s i j v).trace = s.trace := by unfold wrN; split <;> rfl
@[simp] theorem wrN_zones (s : State) (i j v : Nat) : (wrN s i j v).zones = s.zones := by unfold wrN; split <;> rfl
@[simp] theorem wrN_tt (s : State) (i j v : Nat) : (wrN s i j v).tt = s.tt := by unfold wrN; split <;> rfl
@[simp] theorem wrN_panels (s : State) (i j v : Nat) : (wrN s i j v).panels = s.panels := by unfold wrN; split <;> rfl
@[simp] theorem wrN_store (s : State) (i j v : Nat) : (wrN s i j v).store = s.store := by unfold wrN; split <;> rfl
@[simp] theorem wrN_cans (s : State) (i j v : Nat) : (wrN s i j v).cans = s.cans := by unfold wrN; split <;> rfl
@[simp] theorem wrN_pw (s : State) (i j v : Nat) : (wrN s i j v).pw = s.pw := by unfold wrN; split <;> rfl
@[simp] theorem wrN_net (s : State) (i j v : Nat) : (wrN s i j v).net = s.net := by unfold wrN; split <;> rfl
@[simp] theorem wrN_dup (s : State) (i j v : Nat) : (wrN s i j v).dup = s.dup := by unfold wrN; split <;> rfl
@[simp] theorem wrN_fw (s : State) (i j v : Nat) : (wrN s i j v).fw = s.fw := by unfold wrN; split <;> rfl
@[simp] theorem wrN_sec (s : State) (i j v : Nat) : (wrN s i j v).sec = s.sec := by unfold wrN; split <;> rfl
@[simp] theorem wrN_host (s : State) (i j v : Nat) : (wrN s i j v).host = s.host := by unfold wrN; split <;> rfl
@[simp] theorem wrN_rst (s : State) (i j v : Nat) : (wrN s i j v).rst = s.rst := by unfold wrN; split <;> rfl
@[simp] theorem wrN_tap (s : State) (i j v : Nat) : (wrN s i j v).tap = s.tap := by unfold wrN; split <;> rfl
@[simp] theorem wrN_th (s : State) (i j v : Nat) : (wrN s i j v).th = s.th := by unfold wrN; split <;> rfl
@[simp] theorem wrN_outside (s : State) (i j v : Nat) : (wrN s i j v).outside = s.outside := by unfold wrN; split <;> rfl
@[simp] theorem wrN_outsideNext (s : State) (i j v : Nat) : (wrN s i j v).outsideNext = s.outsideNext := by unfold wrN; split <;> rfl
@[simp] theorem wrN_remoteValid (s : State) (i j v : Nat) : (wrN s i j v).remoteValid = s.remoteValid := by unfold wrN; split <;> rfl
@[simp] theorem wrN_tpdoValid (s : State) (i j v : Nat) : (wrN s i j v).tpdoValid = s.tpdoValid := by unfold wrN; split <;> rfl
@[simp] theorem wrN_ttChan (s : State) (i j v : Nat) : (wrN s i j v).ttChan = s.ttChan := by unfold wrN; split <;> rfl
@[simp] theorem wrN_mainsValid (s : State) (i j v : Nat) : (wrN s i j v).mainsValid = s.mainsValid := by unfold wrN; split <;> rfl
@[simp] theorem wrN_freeCount (s : State) (i j v : Nat) : (wrN s i j v).freeCount = s.freeCount := by unfold wrN; split <;> rfl
@[simp] theorem wrN_ensignIn (s : State) (i j v : Nat) : (wrN s i j v).ensignIn = s.ensignIn := by unfold wrN; split <;> rfl
@[simp] theorem wrN_pfw (s : State) (i j v : Nat) : (wrN s i j v).pfw = s.pfw := by unfold wrN; split <;> rfl
@[simp] theorem wrN_inReset (s : State) (i j v : Nat) : (wrN s i j v).inReset = s.inReset := by unfold wrN; split <;> rfl
@[simp] theorem wrN_cfgLoaded (s : State) (i j v : Nat) : (wrN s i j v).cfgLoaded = s.cfgLoaded := by unfold wrN; split <;> rfl
@[simp] theorem wrN_clkPosLost (s : State) (i j v : Nat) : (wrN s i j v).clkPosLost = s.clkPosLost := by unfold wrN; split <;> rfl
@[simp] theorem wrN_clkPanelLost (s : State) (i j v : Nat) : (wrN s i j v).clkPanelLost = s.clkPanelLost := by unfold wrN; split <;> rfl
@[simp] theorem wrN_portEcc (s : State) (i j v : Nat) : (wrN s i j v).portEcc = s.portEcc := by unfold wrN; split <;> rfl
@[simp] theorem wrN_strapPulls (s : State) (i j v : Nat) : (wrN s i j v).strapPulls = s.strapPulls := by unfold wrN; split <;> rfl
@[simp] theorem wrN_eccCount (s : State) (i j v : Nat) : (wrN s i j v).eccCount = s.eccCount := by unfold wrN; split <;> rfl
@[simp] theorem wrN_eccBad (s : State) (i j v : Nat) : (wrN s i j v).eccBad = s.eccBad := by unfold wrN; split <;> rfl
@[simp] theorem wrN_eccLog (s : State) (i j v : Nat) : (wrN s i j v).eccLog = s.eccLog := by unfold wrN; split <;> rfl

@[simp] theorem wrI_pending (s : State) (i j : Nat) (v : Int) : (wrI s i j v).pending = s.pending := by unfold wrI; split <;> rfl
@[simp] theorem wrI_zh6432 (s : State) (i j : Nat) (v : Int) : (wrI s i j v).zh6432 = s.zh6432 := by unfold wrI; split <;> rfl
@[simp] theorem wrI_now (s : State) (i j : Nat) (v : Int) : (wrI s i j v).now = s.now := by unfold wrI; split <;> rfl
@[simp] theorem wrI_tick (s : State) (i j : Nat) (v : Int) : (wrI s i j v).tick = s.tick := by unfold wrI; split <;> rfl
@[simp] theorem wrI_tickRun (s : State) (i j : Nat) (v : Int) : (wrI s i j v).tickRun = s.tickRun := by unfold wrI; split <;> rfl
@[simp] theorem wrI_counting (s : State) (i j : Nat) (v : Int) : (wrI s i j v).counting = s.counting := by unfold wrI; split <;> rfl
@[simp] theorem wrI_written (s : State) (i j : Nat) (v : Int) : (wrI s i j v).written = s.written := by unfold wrI; split <;> rfl
@[simp] theorem wrI_staged (s : State) (i j : Nat) (v : Int) : (wrI s i j v).staged = s.staged := by unfold wrI; split <;> rfl
@[simp] theorem wrI_ttStaged (s : State) (i j : Nat) (v : Int) : (wrI s i j v).ttStaged = s.ttStaged := by unfold wrI; split <;> rfl
@[simp] theorem wrI_pendingWrites (s : State) (i j : Nat) (v : Int) : (wrI s i j v).pendingWrites = s.pendingWrites := by unfold wrI; split <;> rfl
@[simp] theorem wrI_commitDue (s : State) (i j : Nat) (v : Int) : (wrI s i j v).commitDue = s.commitDue := by unfold wrI; split <;> rfl
@[simp] theorem wrI_hashed (s : State) (i j : Nat) (v : Int) : (wrI s i j v).hashed = s.hashed := by unfold wrI; split <;> rfl
@[simp] theorem wrI_answers (s : State) (i j : Nat) (v : Int) : (wrI s i j v).answers = s.answers := by unfold wrI; split <;> rfl
@[simp] theorem wrI_waiting (s : State) (i j : Nat) (v : Int) : (wrI s i j v).waiting = s.waiting := by unfold wrI; split <;> rfl
@[simp] theorem wrI_groups (s : State) (i j : Nat) (v : Int) : (wrI s i j v).groups = s.groups := by unfold wrI; split <;> rfl
@[simp] theorem wrI_lapsed (s : State) (i j : Nat) (v : Int) : (wrI s i j v).lapsed = s.lapsed := by unfold wrI; split <;> rfl
@[simp] theorem wrI_conds (s : State) (i j : Nat) (v : Int) : (wrI s i j v).conds = s.conds := by unfold wrI; split <;> rfl
@[simp] theorem wrI_penTick (s : State) (i j : Nat) (v : Int) : (wrI s i j v).penTick = s.penTick := by unfold wrI; split <;> rfl
@[simp] theorem wrI_announced (s : State) (i j : Nat) (v : Int) : (wrI s i j v).announced = s.announced := by unfold wrI; split <;> rfl
@[simp] theorem wrI_emcyQ (s : State) (i j : Nat) (v : Int) : (wrI s i j v).emcyQ = s.emcyQ := by unfold wrI; split <;> rfl
@[simp] theorem wrI_emcyAt (s : State) (i j : Nat) (v : Int) : (wrI s i j v).emcyAt = s.emcyAt := by unfold wrI; split <;> rfl
@[simp] theorem wrI_log (s : State) (i j : Nat) (v : Int) : (wrI s i j v).log = s.log := by unfold wrI; split <;> rfl
@[simp] theorem wrI_logStore (s : State) (i j : Nat) (v : Int) : (wrI s i j v).logStore = s.logStore := by unfold wrI; split <;> rfl
@[simp] theorem wrI_logPos (s : State) (i j : Nat) (v : Int) : (wrI s i j v).logPos = s.logPos := by unfold wrI; split <;> rfl
@[simp] theorem wrI_work (s : State) (i j : Nat) (v : Int) : (wrI s i j v).work = s.work := by unfold wrI; split <;> rfl
@[simp] theorem wrI_nextId (s : State) (i j : Nat) (v : Int) : (wrI s i j v).nextId = s.nextId := by unfold wrI; split <;> rfl
@[simp] theorem wrI_idFloor (s : State) (i j : Nat) (v : Int) : (wrI s i j v).idFloor = s.idFloor := by unfold wrI; split <;> rfl
@[simp] theorem wrI_cal (s : State) (i j : Nat) (v : Int) : (wrI s i j v).cal = s.cal := by unfold wrI; split <;> rfl
@[simp] theorem wrI_meas (s : State) (i j : Nat) (v : Int) : (wrI s i j v).meas = s.meas := by unfold wrI; split <;> rfl
@[simp] theorem wrI_ensign (s : State) (i j : Nat) (v : Int) : (wrI s i j v).ensign = s.ensign := by unfold wrI; split <;> rfl
@[simp] theorem wrI_ports (s : State) (i j : Nat) (v : Int) : (wrI s i j v).ports = s.ports := by unfold wrI; split <;> rfl
@[simp] theorem wrI_pos (s : State) (i j : Nat) (v : Int) : (wrI s i j v).pos = s.pos := by unfold wrI; split <;> rfl
@[simp] theorem wrI_loops (s : State) (i j : Nat) (v : Int) : (wrI s i j v).loops = s.loops := by unfold wrI; split <;> rfl
@[simp] theorem wrI_engineStop (s : State) (i j : Nat) (v : Int) : (wrI s i j v).engineStop = s.engineStop := by unfold wrI; split <;> rfl
@[simp] theorem wrI_laneFaults (s : State) (i j : Nat) (v : Int) : (wrI s i j v).laneFaults = s.laneFaults := by unfold wrI; split <;> rfl
@[simp] theorem wrI_reserveUsed (s : State) (i j : Nat) (v : Int) : (wrI s i j v).reserveUsed = s.reserveUsed := by unfold wrI; split <;> rfl
@[simp] theorem wrI_trace (s : State) (i j : Nat) (v : Int) : (wrI s i j v).trace = s.trace := by unfold wrI; split <;> rfl
@[simp] theorem wrI_zones (s : State) (i j : Nat) (v : Int) : (wrI s i j v).zones = s.zones := by unfold wrI; split <;> rfl
@[simp] theorem wrI_tt (s : State) (i j : Nat) (v : Int) : (wrI s i j v).tt = s.tt := by unfold wrI; split <;> rfl
@[simp] theorem wrI_panels (s : State) (i j : Nat) (v : Int) : (wrI s i j v).panels = s.panels := by unfold wrI; split <;> rfl
@[simp] theorem wrI_store (s : State) (i j : Nat) (v : Int) : (wrI s i j v).store = s.store := by unfold wrI; split <;> rfl
@[simp] theorem wrI_cans (s : State) (i j : Nat) (v : Int) : (wrI s i j v).cans = s.cans := by unfold wrI; split <;> rfl
@[simp] theorem wrI_pw (s : State) (i j : Nat) (v : Int) : (wrI s i j v).pw = s.pw := by unfold wrI; split <;> rfl
@[simp] theorem wrI_net (s : State) (i j : Nat) (v : Int) : (wrI s i j v).net = s.net := by unfold wrI; split <;> rfl
@[simp] theorem wrI_dup (s : State) (i j : Nat) (v : Int) : (wrI s i j v).dup = s.dup := by unfold wrI; split <;> rfl
@[simp] theorem wrI_fw (s : State) (i j : Nat) (v : Int) : (wrI s i j v).fw = s.fw := by unfold wrI; split <;> rfl
@[simp] theorem wrI_sec (s : State) (i j : Nat) (v : Int) : (wrI s i j v).sec = s.sec := by unfold wrI; split <;> rfl
@[simp] theorem wrI_host (s : State) (i j : Nat) (v : Int) : (wrI s i j v).host = s.host := by unfold wrI; split <;> rfl
@[simp] theorem wrI_rst (s : State) (i j : Nat) (v : Int) : (wrI s i j v).rst = s.rst := by unfold wrI; split <;> rfl
@[simp] theorem wrI_tap (s : State) (i j : Nat) (v : Int) : (wrI s i j v).tap = s.tap := by unfold wrI; split <;> rfl
@[simp] theorem wrI_th (s : State) (i j : Nat) (v : Int) : (wrI s i j v).th = s.th := by unfold wrI; split <;> rfl
@[simp] theorem wrI_outside (s : State) (i j : Nat) (v : Int) : (wrI s i j v).outside = s.outside := by unfold wrI; split <;> rfl
@[simp] theorem wrI_outsideNext (s : State) (i j : Nat) (v : Int) : (wrI s i j v).outsideNext = s.outsideNext := by unfold wrI; split <;> rfl
@[simp] theorem wrI_remoteValid (s : State) (i j : Nat) (v : Int) : (wrI s i j v).remoteValid = s.remoteValid := by unfold wrI; split <;> rfl
@[simp] theorem wrI_tpdoValid (s : State) (i j : Nat) (v : Int) : (wrI s i j v).tpdoValid = s.tpdoValid := by unfold wrI; split <;> rfl
@[simp] theorem wrI_ttChan (s : State) (i j : Nat) (v : Int) : (wrI s i j v).ttChan = s.ttChan := by unfold wrI; split <;> rfl
@[simp] theorem wrI_mainsValid (s : State) (i j : Nat) (v : Int) : (wrI s i j v).mainsValid = s.mainsValid := by unfold wrI; split <;> rfl
@[simp] theorem wrI_freeCount (s : State) (i j : Nat) (v : Int) : (wrI s i j v).freeCount = s.freeCount := by unfold wrI; split <;> rfl
@[simp] theorem wrI_ensignIn (s : State) (i j : Nat) (v : Int) : (wrI s i j v).ensignIn = s.ensignIn := by unfold wrI; split <;> rfl
@[simp] theorem wrI_pfw (s : State) (i j : Nat) (v : Int) : (wrI s i j v).pfw = s.pfw := by unfold wrI; split <;> rfl
@[simp] theorem wrI_inReset (s : State) (i j : Nat) (v : Int) : (wrI s i j v).inReset = s.inReset := by unfold wrI; split <;> rfl
@[simp] theorem wrI_cfgLoaded (s : State) (i j : Nat) (v : Int) : (wrI s i j v).cfgLoaded = s.cfgLoaded := by unfold wrI; split <;> rfl
@[simp] theorem wrI_clkPosLost (s : State) (i j : Nat) (v : Int) : (wrI s i j v).clkPosLost = s.clkPosLost := by unfold wrI; split <;> rfl
@[simp] theorem wrI_clkPanelLost (s : State) (i j : Nat) (v : Int) : (wrI s i j v).clkPanelLost = s.clkPanelLost := by unfold wrI; split <;> rfl
@[simp] theorem wrI_portEcc (s : State) (i j : Nat) (v : Int) : (wrI s i j v).portEcc = s.portEcc := by unfold wrI; split <;> rfl
@[simp] theorem wrI_strapPulls (s : State) (i j : Nat) (v : Int) : (wrI s i j v).strapPulls = s.strapPulls := by unfold wrI; split <;> rfl
@[simp] theorem wrI_eccCount (s : State) (i j : Nat) (v : Int) : (wrI s i j v).eccCount = s.eccCount := by unfold wrI; split <;> rfl
@[simp] theorem wrI_eccBad (s : State) (i j : Nat) (v : Int) : (wrI s i j v).eccBad = s.eccBad := by unfold wrI; split <;> rfl
@[simp] theorem wrI_eccLog (s : State) (i j : Nat) (v : Int) : (wrI s i j v).eccLog = s.eccLog := by unfold wrI; split <;> rfl

-- What a sub-index reads as ---------------------------------------------------------------------------------------

theorem key_inj {i j i' j' : Nat} (hj : j < 256) (hj' : j' < 256) : key i j = key i' j' ↔ i = i' ∧ j = j' := by
  unfold key
  omega

@[simp] theorem rdB_wrB_self (s : State) (i j : Nat) (v : List Byte) : rdB (wrB s i j v) i j = v := by simp [rdB, wrB]

theorem rdB_wrB (s : State) (i j i' j' : Nat) (v : List Byte) :
    rdB (wrB s i j v) i' j' = if key i j = key i' j' then v else rdB s i' j' := by
  simp [rdB, wrB, dictGet_dictPut]

theorem rdB_wrN (s : State) (i j v i' j' : Nat) :
    rdB (wrN s i j v) i' j' =
      if key i j = key i' j' then (match rowOf i j with | some r => leBytes r.ty.width v | none => rdB s i' j') else rdB s i' j' := by
  unfold wrN
  split
  · rename_i r h
    simp only [rdB_wrB, h]
  · rename_i h
    simp [h]

theorem rdN_wrN (s : State) (i j v i' j' : Nat) :
    rdN (wrN s i j v) i' j' =
      if key i j = key i' j' then (match rowOf i j with | some r => v % 256 ^ r.ty.width | none => rdN s i' j') else rdN s i' j' := by
  unfold rdN
  rw [rdB_wrN]
  split
  · split <;> simp [leNat_leBytes]
  · rfl

theorem rdB_wrN_ne (s : State) {i j i' j' : Nat} (v : Nat) (h : key i j ≠ key i' j') : rdB (wrN s i j v) i' j' = rdB s i' j' := by
  rw [rdB_wrN, if_neg h]
theorem rdN_wrN_ne (s : State) {i j i' j' : Nat} (v : Nat) (h : key i j ≠ key i' j') : rdN (wrN s i j v) i' j' = rdN s i' j' := by
  rw [rdN_wrN, if_neg h]
theorem rdN_wrN_self (s : State) {i j : Nat} (v : Nat) {r : Row} (h : rowOf i j = some r) :
    rdN (wrN s i j v) i j = v % 256 ^ r.ty.width := by
  rw [rdN_wrN, if_pos rfl, h]

-- What settles after a command ------------------------------------------------------------------------------------

@[simp] theorem settled_pending (s t : State) : (settled s t).pending = s.pending := rfl
@[simp] theorem settled_zh6432 (s t : State) : (settled s t).zh6432 = s.zh6432 := rfl
@[simp] theorem settled_now (s t : State) : (settled s t).now = s.now := rfl
@[simp] theorem settled_tick (s t : State) : (settled s t).tick = t.tick := rfl
@[simp] theorem settled_tickRun (s t : State) : (settled s t).tickRun = t.tickRun := rfl
@[simp] theorem settled_counting (s t : State) : (settled s t).counting = t.counting := rfl
@[simp] theorem settled_written (s t : State) : (settled s t).written = t.written := rfl
@[simp] theorem settled_staged (s t : State) : (settled s t).staged = t.staged := rfl
@[simp] theorem settled_ttStaged (s t : State) : (settled s t).ttStaged = t.ttStaged := rfl
@[simp] theorem settled_pendingWrites (s t : State) : (settled s t).pendingWrites = t.pendingWrites := rfl
@[simp] theorem settled_commitDue (s t : State) : (settled s t).commitDue = t.commitDue := rfl
@[simp] theorem settled_hashed (s t : State) : (settled s t).hashed = t.hashed := rfl
@[simp] theorem settled_answers (s t : State) : (settled s t).answers = t.answers := rfl
@[simp] theorem settled_waiting (s t : State) : (settled s t).waiting = t.waiting := rfl
@[simp] theorem settled_groups (s t : State) : (settled s t).groups = t.groups := rfl
@[simp] theorem settled_lapsed (s t : State) : (settled s t).lapsed = t.lapsed := rfl
@[simp] theorem settled_conds (s t : State) : (settled s t).conds = t.conds := rfl
@[simp] theorem settled_penTick (s t : State) : (settled s t).penTick = t.penTick := rfl
@[simp] theorem settled_announced (s t : State) : (settled s t).announced = t.announced := rfl
@[simp] theorem settled_emcyQ (s t : State) : (settled s t).emcyQ = t.emcyQ := rfl
@[simp] theorem settled_emcyAt (s t : State) : (settled s t).emcyAt = t.emcyAt := rfl
@[simp] theorem settled_log (s t : State) : (settled s t).log = t.log := rfl
@[simp] theorem settled_logStore (s t : State) : (settled s t).logStore = t.logStore := rfl
@[simp] theorem settled_logPos (s t : State) : (settled s t).logPos = t.logPos := rfl
@[simp] theorem settled_work (s t : State) : (settled s t).work = t.work := rfl
@[simp] theorem settled_nextId (s t : State) : (settled s t).nextId = t.nextId := rfl
@[simp] theorem settled_idFloor (s t : State) : (settled s t).idFloor = t.idFloor := rfl
@[simp] theorem settled_cal (s t : State) : (settled s t).cal = t.cal := rfl
@[simp] theorem settled_meas (s t : State) : (settled s t).meas = t.meas := rfl
@[simp] theorem settled_ensign (s t : State) : (settled s t).ensign = t.ensign := rfl
@[simp] theorem settled_ports (s t : State) : (settled s t).ports = t.ports := rfl
@[simp] theorem settled_pos (s t : State) : (settled s t).pos = t.pos := rfl
@[simp] theorem settled_loops (s t : State) : (settled s t).loops = t.loops := rfl
@[simp] theorem settled_engineStop (s t : State) : (settled s t).engineStop = t.engineStop := rfl
@[simp] theorem settled_laneFaults (s t : State) : (settled s t).laneFaults = t.laneFaults := rfl
@[simp] theorem settled_reserveUsed (s t : State) : (settled s t).reserveUsed = t.reserveUsed := rfl
@[simp] theorem settled_trace (s t : State) : (settled s t).trace = t.trace := rfl
@[simp] theorem settled_zones (s t : State) : (settled s t).zones = t.zones := rfl
@[simp] theorem settled_tt (s t : State) : (settled s t).tt = t.tt := rfl
@[simp] theorem settled_panels (s t : State) : (settled s t).panels = t.panels := rfl
@[simp] theorem settled_store (s t : State) : (settled s t).store = t.store := rfl
@[simp] theorem settled_cans (s t : State) : (settled s t).cans = t.cans := rfl
@[simp] theorem settled_pw (s t : State) : (settled s t).pw = t.pw := rfl
@[simp] theorem settled_net (s t : State) : (settled s t).net = t.net := rfl
@[simp] theorem settled_dup (s t : State) : (settled s t).dup = t.dup := rfl
@[simp] theorem settled_fw (s t : State) : (settled s t).fw = t.fw := rfl
@[simp] theorem settled_sec (s t : State) : (settled s t).sec = t.sec := rfl
@[simp] theorem settled_host (s t : State) : (settled s t).host = t.host := rfl
@[simp] theorem settled_rst (s t : State) : (settled s t).rst = t.rst := rfl
@[simp] theorem settled_tap (s t : State) : (settled s t).tap = t.tap := rfl
@[simp] theorem settled_th (s t : State) : (settled s t).th = t.th := rfl
@[simp] theorem settled_outside (s t : State) : (settled s t).outside = t.outside := rfl
@[simp] theorem settled_outsideNext (s t : State) : (settled s t).outsideNext = t.outsideNext := rfl
@[simp] theorem settled_remoteValid (s t : State) : (settled s t).remoteValid = t.remoteValid := rfl
@[simp] theorem settled_tpdoValid (s t : State) : (settled s t).tpdoValid = t.tpdoValid := rfl
@[simp] theorem settled_ttChan (s t : State) : (settled s t).ttChan = t.ttChan := rfl
@[simp] theorem settled_mainsValid (s t : State) : (settled s t).mainsValid = t.mainsValid := rfl
@[simp] theorem settled_freeCount (s t : State) : (settled s t).freeCount = t.freeCount := rfl
@[simp] theorem settled_ensignIn (s t : State) : (settled s t).ensignIn = t.ensignIn := rfl
@[simp] theorem settled_pfw (s t : State) : (settled s t).pfw = t.pfw := rfl
@[simp] theorem settled_inReset (s t : State) : (settled s t).inReset = t.inReset := rfl
@[simp] theorem settled_cfgLoaded (s t : State) : (settled s t).cfgLoaded = t.cfgLoaded := rfl
@[simp] theorem settled_clkPosLost (s t : State) : (settled s t).clkPosLost = t.clkPosLost := rfl
@[simp] theorem settled_clkPanelLost (s t : State) : (settled s t).clkPanelLost = t.clkPanelLost := rfl
@[simp] theorem settled_portEcc (s t : State) : (settled s t).portEcc = t.portEcc := rfl
@[simp] theorem settled_strapPulls (s t : State) : (settled s t).strapPulls = t.strapPulls := rfl
@[simp] theorem settled_eccCount (s t : State) : (settled s t).eccCount = t.eccCount := rfl
@[simp] theorem settled_eccBad (s t : State) : (settled s t).eccBad = t.eccBad := rfl
@[simp] theorem settled_eccLog (s t : State) : (settled s t).eccLog = t.eccLog := rfl

@[simp] theorem rdB_settled (s t : State) (i j : Nat) : rdB (settled s t) i j = rdB t i j := by simp [rdB, settled]
@[simp] theorem rdN_settled (s t : State) (i j : Nat) : rdN (settled s t) i j = rdN t i j := by simp [rdN]
@[simp] theorem rdR_settled (s t : State) (i j : Nat) : rdR (settled s t) i j = rdR t i j := by simp [rdR]
@[simp] theorem rdF_settled (s t : State) (i j : Nat) : rdF (settled s t) i j = rdF t i j := by simp [rdF]

theorem settled_wf (s t : State) : dictWf (settled s t).dict := dictWf_dictCanon t.dict

/-- A command without effect leaves a canonical state as it was. -/
theorem settled_self {s : State} (h : dictWf s.dict) : settled s s = s := by
  unfold settled
  rw [dictCanon_of_wf h]

end Sys2Proof.Machine
end

