-- ==== Sys2Proof/Laws/Accessors.lean ====
section
/-! SUPPORT. The accessors of the units' records: each setter is one update of State, a record reads back as it was put, the
record of another number stays, and no setter touches the dictionary, the queue or time. -/
namespace Sys2Proof.Machine
open Sys2Proof Sys2Proof.OD

-- Records by number ------------------------------------------------------------------------------------------------

theorem setPort_eq (s : State) (n : Nat) (x : Port) : setPort s n x = { s with ports := Tab.put s.ports n x } := rfl
@[simp] theorem port_setPort_self (s : State) (n : Nat) (x : Port) : port (setPort s n x) n = x := Tab.get_put_self s.ports n x {}
theorem port_setPort_ne (s : State) (n : Nat) (x : Port) {m : Nat} (h : n ≠ m) : port (setPort s n x) m = port s m := Tab.get_put_ne s.ports x {} h
@[simp] theorem setPort_pending (s : State) (n : Nat) (x : Port) : (setPort s n x).pending = s.pending := rfl
@[simp] theorem setPort_now (s : State) (n : Nat) (x : Port) : (setPort s n x).now = s.now := rfl
@[simp] theorem setPort_dict (s : State) (n : Nat) (x : Port) : (setPort s n x).dict = s.dict := rfl
@[simp] theorem setPort_zh6432 (s : State) (n : Nat) (x : Port) : (setPort s n x).zh6432 = s.zh6432 := rfl
@[simp] theorem rdB_setPort (s : State) (n : Nat) (x : Port) (i j : Nat) : rdB (setPort s n x) i j = rdB s i j := rfl
@[simp] theorem rdN_setPort (s : State) (n : Nat) (x : Port) (i j : Nat) : rdN (setPort s n x) i j = rdN s i j := rfl

theorem setPos_eq (s : State) (n : Nat) (x : Pos) : setPos s n x = { s with pos := Tab.put s.pos n x } := rfl
@[simp] theorem pos_setPos_self (s : State) (n : Nat) (x : Pos) : pos (setPos s n x) n = x := Tab.get_put_self s.pos n x {}
theorem pos_setPos_ne (s : State) (n : Nat) (x : Pos) {m : Nat} (h : n ≠ m) : pos (setPos s n x) m = pos s m := Tab.get_put_ne s.pos x {} h
@[simp] theorem setPos_pending (s : State) (n : Nat) (x : Pos) : (setPos s n x).pending = s.pending := rfl
@[simp] theorem setPos_now (s : State) (n : Nat) (x : Pos) : (setPos s n x).now = s.now := rfl
@[simp] theorem setPos_dict (s : State) (n : Nat) (x : Pos) : (setPos s n x).dict = s.dict := rfl
@[simp] theorem setPos_zh6432 (s : State) (n : Nat) (x : Pos) : (setPos s n x).zh6432 = s.zh6432 := rfl
@[simp] theorem rdB_setPos (s : State) (n : Nat) (x : Pos) (i j : Nat) : rdB (setPos s n x) i j = rdB s i j := rfl
@[simp] theorem rdN_setPos (s : State) (n : Nat) (x : Pos) (i j : Nat) : rdN (setPos s n x) i j = rdN s i j := rfl

theorem setLoop_eq (s : State) (n : Nat) (x : Loop) : setLoop s n x = { s with loops := Tab.put s.loops n x } := rfl
@[simp] theorem loopOf_setLoop_self (s : State) (n : Nat) (x : Loop) : loopOf (setLoop s n x) n = x := Tab.get_put_self s.loops n x {}
theorem loopOf_setLoop_ne (s : State) (n : Nat) (x : Loop) {m : Nat} (h : n ≠ m) : loopOf (setLoop s n x) m = loopOf s m := Tab.get_put_ne s.loops x {} h
@[simp] theorem setLoop_pending (s : State) (n : Nat) (x : Loop) : (setLoop s n x).pending = s.pending := rfl
@[simp] theorem setLoop_now (s : State) (n : Nat) (x : Loop) : (setLoop s n x).now = s.now := rfl
@[simp] theorem setLoop_dict (s : State) (n : Nat) (x : Loop) : (setLoop s n x).dict = s.dict := rfl
@[simp] theorem setLoop_zh6432 (s : State) (n : Nat) (x : Loop) : (setLoop s n x).zh6432 = s.zh6432 := rfl
@[simp] theorem rdB_setLoop (s : State) (n : Nat) (x : Loop) (i j : Nat) : rdB (setLoop s n x) i j = rdB s i j := rfl
@[simp] theorem rdN_setLoop (s : State) (n : Nat) (x : Loop) (i j : Nat) : rdN (setLoop s n x) i j = rdN s i j := rfl

theorem setZone_eq (s : State) (n : Nat) (x : Zone) : setZone s n x = { s with zones := Tab.put s.zones n x } := rfl
@[simp] theorem zoneOf_setZone_self (s : State) (n : Nat) (x : Zone) : zoneOf (setZone s n x) n = x := Tab.get_put_self s.zones n x {}
theorem zoneOf_setZone_ne (s : State) (n : Nat) (x : Zone) {m : Nat} (h : n ≠ m) : zoneOf (setZone s n x) m = zoneOf s m := Tab.get_put_ne s.zones x {} h
@[simp] theorem setZone_pending (s : State) (n : Nat) (x : Zone) : (setZone s n x).pending = s.pending := rfl
@[simp] theorem setZone_now (s : State) (n : Nat) (x : Zone) : (setZone s n x).now = s.now := rfl
@[simp] theorem setZone_dict (s : State) (n : Nat) (x : Zone) : (setZone s n x).dict = s.dict := rfl
@[simp] theorem setZone_zh6432 (s : State) (n : Nat) (x : Zone) : (setZone s n x).zh6432 = s.zh6432 := rfl
@[simp] theorem rdB_setZone (s : State) (n : Nat) (x : Zone) (i j : Nat) : rdB (setZone s n x) i j = rdB s i j := rfl
@[simp] theorem rdN_setZone (s : State) (n : Nat) (x : Zone) (i j : Nat) : rdN (setZone s n x) i j = rdN s i j := rfl

theorem setPanel_eq (s : State) (n : Nat) (x : Panel) : setPanel s n x = { s with panels := Tab.put s.panels n x } := rfl
@[simp] theorem panel_setPanel_self (s : State) (n : Nat) (x : Panel) : panel (setPanel s n x) n = x := Tab.get_put_self s.panels n x {}
theorem panel_setPanel_ne (s : State) (n : Nat) (x : Panel) {m : Nat} (h : n ≠ m) : panel (setPanel s n x) m = panel s m := Tab.get_put_ne s.panels x {} h
@[simp] theorem setPanel_pending (s : State) (n : Nat) (x : Panel) : (setPanel s n x).pending = s.pending := rfl
@[simp] theorem setPanel_now (s : State) (n : Nat) (x : Panel) : (setPanel s n x).now = s.now := rfl
@[simp] theorem setPanel_dict (s : State) (n : Nat) (x : Panel) : (setPanel s n x).dict = s.dict := rfl
@[simp] theorem setPanel_zh6432 (s : State) (n : Nat) (x : Panel) : (setPanel s n x).zh6432 = s.zh6432 := rfl
@[simp] theorem rdB_setPanel (s : State) (n : Nat) (x : Panel) (i j : Nat) : rdB (setPanel s n x) i j = rdB s i j := rfl
@[simp] theorem rdN_setPanel (s : State) (n : Nat) (x : Panel) (i j : Nat) : rdN (setPanel s n x) i j = rdN s i j := rfl

theorem setCan_eq (s : State) (n : Nat) (x : Can) : setCan s n x = { s with cans := Tab.put s.cans n x } := rfl
@[simp] theorem can_setCan_self (s : State) (n : Nat) (x : Can) : can (setCan s n x) n = x := Tab.get_put_self s.cans n x {}
theorem can_setCan_ne (s : State) (n : Nat) (x : Can) {m : Nat} (h : n ≠ m) : can (setCan s n x) m = can s m := Tab.get_put_ne s.cans x {} h
@[simp] theorem setCan_pending (s : State) (n : Nat) (x : Can) : (setCan s n x).pending = s.pending := rfl
@[simp] theorem setCan_now (s : State) (n : Nat) (x : Can) : (setCan s n x).now = s.now := rfl
@[simp] theorem setCan_dict (s : State) (n : Nat) (x : Can) : (setCan s n x).dict = s.dict := rfl
@[simp] theorem setCan_zh6432 (s : State) (n : Nat) (x : Can) : (setCan s n x).zh6432 = s.zh6432 := rfl
@[simp] theorem rdB_setCan (s : State) (n : Nat) (x : Can) (i j : Nat) : rdB (setCan s n x) i j = rdB s i j := rfl
@[simp] theorem rdN_setCan (s : State) (n : Nat) (x : Can) (i j : Nat) : rdN (setCan s n x) i j = rdN s i j := rfl

theorem setChan_eq (s : State) (n : Nat) (x : Chan) : setChan s n x = { s with meas := { s.meas with chans := Tab.put s.meas.chans n x } } := rfl
@[simp] theorem chan_setChan_self (s : State) (n : Nat) (x : Chan) : chan (setChan s n x) n = x := Tab.get_put_self s.meas.chans n x {}
theorem chan_setChan_ne (s : State) (n : Nat) (x : Chan) {m : Nat} (h : n ≠ m) : chan (setChan s n x) m = chan s m := Tab.get_put_ne s.meas.chans x {} h
@[simp] theorem setChan_pending (s : State) (n : Nat) (x : Chan) : (setChan s n x).pending = s.pending := rfl
@[simp] theorem setChan_now (s : State) (n : Nat) (x : Chan) : (setChan s n x).now = s.now := rfl
@[simp] theorem setChan_dict (s : State) (n : Nat) (x : Chan) : (setChan s n x).dict = s.dict := rfl
@[simp] theorem setChan_zh6432 (s : State) (n : Nat) (x : Chan) : (setChan s n x).zh6432 = s.zh6432 := rfl
@[simp] theorem rdB_setChan (s : State) (n : Nat) (x : Chan) (i j : Nat) : rdB (setChan s n x) i j = rdB s i j := rfl
@[simp] theorem rdN_setChan (s : State) (n : Nat) (x : Chan) (i j : Nat) : rdN (setChan s n x) i j = rdN s i j := rfl

theorem setNode_eq (s : State) (n : Nat) (x : FieldNode) : setNode s n x = { s with net := { s.net with nodes := Tab.put s.net.nodes n x } } := rfl
@[simp] theorem fieldNode_setNode_self (s : State) (n : Nat) (x : FieldNode) : fieldNode (setNode s n x) n = x := Tab.get_put_self s.net.nodes n x {}
theorem fieldNode_setNode_ne (s : State) (n : Nat) (x : FieldNode) {m : Nat} (h : n ≠ m) : fieldNode (setNode s n x) m = fieldNode s m := Tab.get_put_ne s.net.nodes x {} h
@[simp] theorem setNode_pending (s : State) (n : Nat) (x : FieldNode) : (setNode s n x).pending = s.pending := rfl
@[simp] theorem setNode_now (s : State) (n : Nat) (x : FieldNode) : (setNode s n x).now = s.now := rfl
@[simp] theorem setNode_dict (s : State) (n : Nat) (x : FieldNode) : (setNode s n x).dict = s.dict := rfl
@[simp] theorem setNode_zh6432 (s : State) (n : Nat) (x : FieldNode) : (setNode s n x).zh6432 = s.zh6432 := rfl
@[simp] theorem rdB_setNode (s : State) (n : Nat) (x : FieldNode) (i j : Nat) : rdB (setNode s n x) i j = rdB s i j := rfl
@[simp] theorem rdN_setNode (s : State) (n : Nat) (x : FieldNode) (i j : Nat) : rdN (setNode s n x) i j = rdN s i j := rfl

theorem setFeed_eq (s : State) (n : Nat) (x : Feed) : setFeed s n x = { s with pw := { s.pw with feeds := Tab.put s.pw.feeds n x } } := rfl
@[simp] theorem feed_setFeed_self (s : State) (n : Nat) (x : Feed) : feed (setFeed s n x) n = x := Tab.get_put_self s.pw.feeds n x {}
theorem feed_setFeed_ne (s : State) (n : Nat) (x : Feed) {m : Nat} (h : n ≠ m) : feed (setFeed s n x) m = feed s m := Tab.get_put_ne s.pw.feeds x {} h
@[simp] theorem setFeed_pending (s : State) (n : Nat) (x : Feed) : (setFeed s n x).pending = s.pending := rfl
@[simp] theorem setFeed_now (s : State) (n : Nat) (x : Feed) : (setFeed s n x).now = s.now := rfl
@[simp] theorem setFeed_dict (s : State) (n : Nat) (x : Feed) : (setFeed s n x).dict = s.dict := rfl
@[simp] theorem setFeed_zh6432 (s : State) (n : Nat) (x : Feed) : (setFeed s n x).zh6432 = s.zh6432 := rfl
@[simp] theorem rdB_setFeed (s : State) (n : Nat) (x : Feed) (i j : Nat) : rdB (setFeed s n x) i j = rdB s i j := rfl
@[simp] theorem rdN_setFeed (s : State) (n : Nat) (x : Feed) (i j : Nat) : rdN (setFeed s n x) i j = rdN s i j := rfl

theorem setWitUnit_eq (s : State) (n : Nat) (x : WitUnit) : setWitUnit s n x = { s with dup := { s.dup with wit := { s.dup.wit with units := Tab.put s.dup.wit.units n x } } } := rfl
@[simp] theorem witUnit_setWitUnit_self (s : State) (n : Nat) (x : WitUnit) : witUnit (setWitUnit s n x) n = x := Tab.get_put_self s.dup.wit.units n x {}
theorem witUnit_setWitUnit_ne (s : State) (n : Nat) (x : WitUnit) {m : Nat} (h : n ≠ m) : witUnit (setWitUnit s n x) m = witUnit s m := Tab.get_put_ne s.dup.wit.units x {} h
@[simp] theorem setWitUnit_pending (s : State) (n : Nat) (x : WitUnit) : (setWitUnit s n x).pending = s.pending := rfl
@[simp] theorem setWitUnit_now (s : State) (n : Nat) (x : WitUnit) : (setWitUnit s n x).now = s.now := rfl
@[simp] theorem setWitUnit_dict (s : State) (n : Nat) (x : WitUnit) : (setWitUnit s n x).dict = s.dict := rfl
@[simp] theorem setWitUnit_zh6432 (s : State) (n : Nat) (x : WitUnit) : (setWitUnit s n x).zh6432 = s.zh6432 := rfl
@[simp] theorem rdB_setWitUnit (s : State) (n : Nat) (x : WitUnit) (i j : Nat) : rdB (setWitUnit s n x) i j = rdB s i j := rfl
@[simp] theorem rdN_setWitUnit (s : State) (n : Nat) (x : WitUnit) (i j : Nat) : rdN (setWitUnit s n x) i j = rdN s i j := rfl

-- Records of one unit ------------------------------------------------------------------------------------------------

theorem setNet_eq (s : State) (x : Net) : setNet s x = { s with net := x } := rfl
@[simp] theorem setNet_net (s : State) (x : Net) : (setNet s x).net = x := rfl
@[simp] theorem setNet_pending (s : State) (x : Net) : (setNet s x).pending = s.pending := rfl
@[simp] theorem setNet_now (s : State) (x : Net) : (setNet s x).now = s.now := rfl
@[simp] theorem setNet_dict (s : State) (x : Net) : (setNet s x).dict = s.dict := rfl
@[simp] theorem setNet_zh6432 (s : State) (x : Net) : (setNet s x).zh6432 = s.zh6432 := rfl
@[simp] theorem rdB_setNet (s : State) (x : Net) (i j : Nat) : rdB (setNet s x) i j = rdB s i j := rfl
@[simp] theorem rdN_setNet (s : State) (x : Net) (i j : Nat) : rdN (setNet s x) i j = rdN s i j := rfl

theorem setPw_eq (s : State) (x : Power) : setPw s x = { s with pw := x } := rfl
@[simp] theorem setPw_pw (s : State) (x : Power) : (setPw s x).pw = x := rfl
@[simp] theorem setPw_pending (s : State) (x : Power) : (setPw s x).pending = s.pending := rfl
@[simp] theorem setPw_now (s : State) (x : Power) : (setPw s x).now = s.now := rfl
@[simp] theorem setPw_dict (s : State) (x : Power) : (setPw s x).dict = s.dict := rfl
@[simp] theorem setPw_zh6432 (s : State) (x : Power) : (setPw s x).zh6432 = s.zh6432 := rfl
@[simp] theorem rdB_setPw (s : State) (x : Power) (i j : Nat) : rdB (setPw s x) i j = rdB s i j := rfl
@[simp] theorem rdN_setPw (s : State) (x : Power) (i j : Nat) : rdN (setPw s x) i j = rdN s i j := rfl

theorem setCal_eq (s : State) (x : Cal) : setCal s x = { s with cal := x } := rfl
@[simp] theorem setCal_cal (s : State) (x : Cal) : (setCal s x).cal = x := rfl
@[simp] theorem setCal_pending (s : State) (x : Cal) : (setCal s x).pending = s.pending := rfl
@[simp] theorem setCal_now (s : State) (x : Cal) : (setCal s x).now = s.now := rfl
@[simp] theorem setCal_dict (s : State) (x : Cal) : (setCal s x).dict = s.dict := rfl
@[simp] theorem setCal_zh6432 (s : State) (x : Cal) : (setCal s x).zh6432 = s.zh6432 := rfl
@[simp] theorem rdB_setCal (s : State) (x : Cal) (i j : Nat) : rdB (setCal s x) i j = rdB s i j := rfl
@[simp] theorem rdN_setCal (s : State) (x : Cal) (i j : Nat) : rdN (setCal s x) i j = rdN s i j := rfl

theorem setTh_eq (s : State) (x : Thermal) : setTh s x = { s with th := x } := rfl
@[simp] theorem setTh_th (s : State) (x : Thermal) : (setTh s x).th = x := rfl
@[simp] theorem setTh_pending (s : State) (x : Thermal) : (setTh s x).pending = s.pending := rfl
@[simp] theorem setTh_now (s : State) (x : Thermal) : (setTh s x).now = s.now := rfl
@[simp] theorem setTh_dict (s : State) (x : Thermal) : (setTh s x).dict = s.dict := rfl
@[simp] theorem setTh_zh6432 (s : State) (x : Thermal) : (setTh s x).zh6432 = s.zh6432 := rfl
@[simp] theorem rdB_setTh (s : State) (x : Thermal) (i j : Nat) : rdB (setTh s x) i j = rdB s i j := rfl
@[simp] theorem rdN_setTh (s : State) (x : Thermal) (i j : Nat) : rdN (setTh s x) i j = rdN s i j := rfl

theorem setTT_eq (s : State) (x : Walker) : setTT s x = { s with tt := x } := rfl
@[simp] theorem setTT_tt (s : State) (x : Walker) : (setTT s x).tt = x := rfl
@[simp] theorem setTT_pending (s : State) (x : Walker) : (setTT s x).pending = s.pending := rfl
@[simp] theorem setTT_now (s : State) (x : Walker) : (setTT s x).now = s.now := rfl
@[simp] theorem setTT_dict (s : State) (x : Walker) : (setTT s x).dict = s.dict := rfl
@[simp] theorem setTT_zh6432 (s : State) (x : Walker) : (setTT s x).zh6432 = s.zh6432 := rfl
@[simp] theorem rdB_setTT (s : State) (x : Walker) (i j : Nat) : rdB (setTT s x) i j = rdB s i j := rfl
@[simp] theorem rdN_setTT (s : State) (x : Walker) (i j : Nat) : rdN (setTT s x) i j = rdN s i j := rfl

theorem setStore_eq (s : State) (x : Store) : setStore s x = { s with store := x } := rfl
@[simp] theorem setStore_store (s : State) (x : Store) : (setStore s x).store = x := rfl
@[simp] theorem setStore_pending (s : State) (x : Store) : (setStore s x).pending = s.pending := rfl
@[simp] theorem setStore_now (s : State) (x : Store) : (setStore s x).now = s.now := rfl
@[simp] theorem setStore_dict (s : State) (x : Store) : (setStore s x).dict = s.dict := rfl
@[simp] theorem setStore_zh6432 (s : State) (x : Store) : (setStore s x).zh6432 = s.zh6432 := rfl
@[simp] theorem rdB_setStore (s : State) (x : Store) (i j : Nat) : rdB (setStore s x) i j = rdB s i j := rfl
@[simp] theorem rdN_setStore (s : State) (x : Store) (i j : Nat) : rdN (setStore s x) i j = rdN s i j := rfl

theorem setDup_eq (s : State) (x : Dup) : setDup s x = { s with dup := x } := rfl
@[simp] theorem setDup_dup (s : State) (x : Dup) : (setDup s x).dup = x := rfl
@[simp] theorem setDup_pending (s : State) (x : Dup) : (setDup s x).pending = s.pending := rfl
@[simp] theorem setDup_now (s : State) (x : Dup) : (setDup s x).now = s.now := rfl
@[simp] theorem setDup_dict (s : State) (x : Dup) : (setDup s x).dict = s.dict := rfl
@[simp] theorem setDup_zh6432 (s : State) (x : Dup) : (setDup s x).zh6432 = s.zh6432 := rfl
@[simp] theorem rdB_setDup (s : State) (x : Dup) (i j : Nat) : rdB (setDup s x) i j = rdB s i j := rfl
@[simp] theorem rdN_setDup (s : State) (x : Dup) (i j : Nat) : rdN (setDup s x) i j = rdN s i j := rfl

theorem setFw_eq (s : State) (x : Fw) : setFw s x = { s with fw := x } := rfl
@[simp] theorem setFw_fw (s : State) (x : Fw) : (setFw s x).fw = x := rfl
@[simp] theorem setFw_pending (s : State) (x : Fw) : (setFw s x).pending = s.pending := rfl
@[simp] theorem setFw_now (s : State) (x : Fw) : (setFw s x).now = s.now := rfl
@[simp] theorem setFw_dict (s : State) (x : Fw) : (setFw s x).dict = s.dict := rfl
@[simp] theorem setFw_zh6432 (s : State) (x : Fw) : (setFw s x).zh6432 = s.zh6432 := rfl
@[simp] theorem rdB_setFw (s : State) (x : Fw) (i j : Nat) : rdB (setFw s x) i j = rdB s i j := rfl
@[simp] theorem rdN_setFw (s : State) (x : Fw) (i j : Nat) : rdN (setFw s x) i j = rdN s i j := rfl

theorem setSec_eq (s : State) (x : Sec) : setSec s x = { s with sec := x } := rfl
@[simp] theorem setSec_sec (s : State) (x : Sec) : (setSec s x).sec = x := rfl
@[simp] theorem setSec_pending (s : State) (x : Sec) : (setSec s x).pending = s.pending := rfl
@[simp] theorem setSec_now (s : State) (x : Sec) : (setSec s x).now = s.now := rfl
@[simp] theorem setSec_dict (s : State) (x : Sec) : (setSec s x).dict = s.dict := rfl
@[simp] theorem setSec_zh6432 (s : State) (x : Sec) : (setSec s x).zh6432 = s.zh6432 := rfl
@[simp] theorem rdB_setSec (s : State) (x : Sec) (i j : Nat) : rdB (setSec s x) i j = rdB s i j := rfl
@[simp] theorem rdN_setSec (s : State) (x : Sec) (i j : Nat) : rdN (setSec s x) i j = rdN s i j := rfl

theorem setTap_eq (s : State) (x : Tap) : setTap s x = { s with tap := x } := rfl
@[simp] theorem setTap_tap (s : State) (x : Tap) : (setTap s x).tap = x := rfl
@[simp] theorem setTap_pending (s : State) (x : Tap) : (setTap s x).pending = s.pending := rfl
@[simp] theorem setTap_now (s : State) (x : Tap) : (setTap s x).now = s.now := rfl
@[simp] theorem setTap_dict (s : State) (x : Tap) : (setTap s x).dict = s.dict := rfl
@[simp] theorem setTap_zh6432 (s : State) (x : Tap) : (setTap s x).zh6432 = s.zh6432 := rfl
@[simp] theorem rdB_setTap (s : State) (x : Tap) (i j : Nat) : rdB (setTap s x) i j = rdB s i j := rfl
@[simp] theorem rdN_setTap (s : State) (x : Tap) (i j : Nat) : rdN (setTap s x) i j = rdN s i j := rfl

theorem setHost_eq (s : State) (x : HostPort) : setHost s x = { s with host := x } := rfl
@[simp] theorem setHost_host (s : State) (x : HostPort) : (setHost s x).host = x := rfl
@[simp] theorem setHost_pending (s : State) (x : HostPort) : (setHost s x).pending = s.pending := rfl
@[simp] theorem setHost_now (s : State) (x : HostPort) : (setHost s x).now = s.now := rfl
@[simp] theorem setHost_dict (s : State) (x : HostPort) : (setHost s x).dict = s.dict := rfl
@[simp] theorem setHost_zh6432 (s : State) (x : HostPort) : (setHost s x).zh6432 = s.zh6432 := rfl
@[simp] theorem rdB_setHost (s : State) (x : HostPort) (i j : Nat) : rdB (setHost s x) i j = rdB s i j := rfl
@[simp] theorem rdN_setHost (s : State) (x : HostPort) (i j : Nat) : rdN (setHost s x) i j = rdN s i j := rfl

theorem setRst_eq (s : State) (x : Rst) : setRst s x = { s with rst := x } := rfl
@[simp] theorem setRst_rst (s : State) (x : Rst) : (setRst s x).rst = x := rfl
@[simp] theorem setRst_pending (s : State) (x : Rst) : (setRst s x).pending = s.pending := rfl
@[simp] theorem setRst_now (s : State) (x : Rst) : (setRst s x).now = s.now := rfl
@[simp] theorem setRst_dict (s : State) (x : Rst) : (setRst s x).dict = s.dict := rfl
@[simp] theorem setRst_zh6432 (s : State) (x : Rst) : (setRst s x).zh6432 = s.zh6432 := rfl
@[simp] theorem rdB_setRst (s : State) (x : Rst) (i j : Nat) : rdB (setRst s x) i j = rdB s i j := rfl
@[simp] theorem rdN_setRst (s : State) (x : Rst) (i j : Nat) : rdN (setRst s x) i j = rdN s i j := rfl

end Sys2Proof.Machine
end

