-- ==== Sys2Proof/Laws/Ops.lean ====
section
/-! SUPPORT. Everything the shared operations of Machine/Ops.lean can do: what each may change, and what it leaves alone. -/
namespace Sys2Proof.Machine
open Sys2Proof Sys2Proof.OD

-- Pennants, log and EMCY ------------------------------------------------------------------------------------------

/-- `t` is `s` but for the pennants, the log, the EMCY queue and dictionary values. -/
def Told (s t : State) : Prop :=
  ∃ d cs pt an eq lg, t = { s with dict := d, conds := cs, penTick := pt, announced := an, emcyQ := eq, log := lg }

theorem Told.refl (s : State) : Told s s := ⟨s.dict, s.conds, s.penTick, s.announced, s.emcyQ, s.log, rfl⟩
theorem Told.trans {s t u : State} (h : Told s t) (k : Told t u) : Told s u := by
  obtain ⟨d, cs, pt, an, eq, lg, rfl⟩ := h
  obtain ⟨d', cs', pt', an', eq', lg', rfl⟩ := k
  exact ⟨d', cs', pt', an', eq', lg', rfl⟩

theorem told_wrN (s : State) (i j v : Nat) : Told s (wrN s i j v) := by
  unfold wrN
  split
  · exact ⟨_, s.conds, s.penTick, s.announced, s.emcyQ, s.log, rfl⟩
  · exact Told.refl s
theorem told_wrB (s : State) (i j : Nat) (v : List Byte) : Told s (wrB s i j v) := ⟨_, s.conds, s.penTick, s.announced, s.emcyQ, s.log, rfl⟩
theorem told_logAdd (s : State) (code loc qual data : Nat) : Told s (logAdd s code loc qual data) := by
  have h : ∀ (s : State) (e : LogEntry), Told s (wrBit (wrN { s with log := (e :: s.log).take 4096 } 0x2710 0x80 (e.num + 1)) 0x2810 0x80 2 true) := by
    intro s e
    refine Told.trans ?_ (told_wrN _ _ _ _)
    refine Told.trans ?_ (told_wrN _ _ _ _)
    exact ⟨s.dict, s.conds, s.penTick, s.announced, s.emcyQ, _, rfl⟩
  unfold logAdd
  simp only
  split
  · exact Told.trans (told_wrN s _ _ _) (h _ _)
  · exact h _ _
theorem told_wrBit (s : State) (i j n : Nat) (b : Bool) : Told s (wrBit s i j n b) := by
  unfold wrBit
  exact told_wrN _ _ _ _
theorem told_inc (s : State) (i j : Nat) : Told s (inc s i j) := by
  unfold inc
  exact told_wrN _ _ _ _
theorem told_irq (s : State) (n : Nat) : Told s (irq s n) := by
  unfold irq
  exact told_wrBit _ _ _ _ _
theorem told_errorRegister (s : State) : Told s (errorRegister s) := by
  unfold errorRegister
  exact told_wrN _ _ _ _
theorem told_emcy (s : State) (e : Emcy) : Told s (emcy s e) := by
  unfold emcy
  split
  · exact told_wrN _ _ _ _
  · exact ⟨s.dict, s.conds, s.penTick, s.announced, _, s.log, rfl⟩
theorem told_announced (s : State) (l : List Nat) : Told s { s with announced := l } :=
  ⟨s.dict, s.conds, s.penTick, l, s.emcyQ, s.log, rfl⟩
theorem told_announce (s : State) (p loc src : Nat) : Told s (announce s p loc src) := by
  unfold announce
  split
  · exact Told.refl s
  · exact ((told_announced s _).trans (told_errorRegister _)).trans (told_emcy _ _)
theorem told_unannounce (s : State) (p : Nat) : Told s (unannounce s p) := by
  unfold unannounce
  have h := (told_announced s (s.announced.filter (· != p))).trans (told_errorRegister _)
  split
  · simp only
    split
    · exact h.trans (told_emcy _ _)
    · exact h
  · exact Told.refl s
theorem told_raiseBit (s : State) (p : Nat) : Told s (raiseBit s p) := by
  unfold raiseBit
  have h := (told_wrBit s 0x2700 (1 + p / 32) (p % 32) true).trans (told_inc _ 0x2700 0x84)
  refine Told.trans h (Told.trans ?_ (told_irq _ _))
  exact ⟨_, _, _, _, _, _, rfl⟩
theorem told_eventWith (s : State) (p loc code data src : Nat) : Told s (eventWith s p loc code data src) := by
  unfold eventWith
  split
  · exact Told.refl s
  · simp only
    split
    · exact Told.trans (Told.trans (told_raiseBit _ _) (told_logAdd _ _ _ _ _)) (told_announce _ _ _ _)
    · exact Told.trans (told_raiseBit _ _) (told_logAdd _ _ _ _ _)
/-- An event changes nothing but pennants, log, EMCYs and values of the dictionary. -/
theorem told_event (s : State) (p loc : Nat) : Told s (event s p loc) := told_eventWith _ _ _ _ _ _
theorem told_condStart (s : State) (p c loc src : Nat) : Told s (condStart s p c loc src) := by
  have h : Told s { s with conds := (p, c) :: s.conds } := ⟨s.dict, _, s.penTick, s.announced, s.emcyQ, s.log, rfl⟩
  unfold condStart
  split
  · exact Told.refl s
  · split
    · exact Told.refl s
    · simp only
      split
      · exact Told.trans h (Told.trans (Told.trans (Told.trans (told_wrN _ _ _ _) (told_raiseBit _ _)) (told_logAdd _ _ _ _ _)) (told_announce _ _ _ _))
      · exact h
theorem told_condEnd (s : State) (p c loc : Nat) : Told s (condEnd s p c loc) := by
  unfold condEnd
  split
  · have h : Told s { s with conds := s.conds.filter (· != (p, c)), penTick := Tab.put s.penTick p s.now } :=
      ⟨s.dict, _, _, s.announced, s.emcyQ, s.log, rfl⟩
    simp only
    split
    · exact h
    · exact Told.trans h (Told.trans (Told.trans (told_wrN _ _ _ _) (told_logAdd _ _ _ _ _)) (told_unannounce _ _))
  · exact Told.refl s
theorem told_cond (s : State) (b : Bool) (p c loc src : Nat) : Told s (cond s b p c loc src) := by
  unfold cond
  split
  · exact told_condStart _ _ _ _ _
  · exact told_condEnd _ _ _ _

/-- The causes that hold after one has ended. -/
theorem condEnd_conds (s : State) (p c loc : Nat) : (condEnd s p c loc).conds = s.conds.filter (· != (p, c)) := by
  have hl : ∀ (s : State) (a b d e : Nat), (logAdd s a b d e).conds = s.conds := by
    intro s a b d e
    unfold logAdd
    simp only
    split <;> simp [wrBit, inc]
  have he : ∀ (s : State) (e : Emcy), (emcy s e).conds = s.conds := by
    intro s e
    unfold emcy
    split <;> simp [inc]
  have hr : ∀ (s : State) (l : List Nat), (errorRegister { s with announced := l }).conds = s.conds := by
    intro s l
    simp [errorRegister]
  have hu : ∀ (s : State) (p : Nat), (unannounce s p).conds = s.conds := by
    intro s p
    unfold unannounce
    split
    · simp only
      split
      · rw [he, hr]
      · rw [hr]
    · rfl
  unfold condEnd
  split
  · simp only
    split
    · rfl
    · rw [hu, hl]
      simp [wrBit]
  · rename_i h
    have h : (p, c) ∉ s.conds := by simpa using h
    symm
    rw [List.filter_eq_self]
    intro q hq
    simp only [bne_iff_ne, ne_eq]
    rintro rfl
    exact h hq

end Sys2Proof.Machine
end

