-- ==== Sys2Proof/Laws/Command.lean ====
section
/-! SUPPORT. When a command finds the device able to act, and what the path of a client's write comes to. -/
namespace Sys2Proof.Machine
open Sys2Proof Sys2Proof.OD

theorem act_alive {s : State} (h : Alive s) (f : State → State) : act s f = f s := by
  unfold act
  exact if_pos h
theorem act_dead {s : State} (h : alive s = false) (f : State → State) : act s f = s := by
  unfold act
  rw [if_neg (by simp [h])]
theorem runs_on {s : State} (h : UnitsOn s) (f : State → State) : runs s f = f s := by
  unfold runs
  rw [act_alive h.1, if_pos h.2]
theorem portsRun_on {s : State} (h : PortsOn s) (f : State → State) : portsRun s f = f s := by
  unfold portsRun
  rw [act_alive h.1, if_pos (by simp [h.2.1, h.2.2])]
theorem up_served {s : State} (h : Served s) (f : State → State) : up s f = f s := by
  unfold up
  rw [act_alive h.1, if_pos h.2]

/-- The store's hash is computed afresh only where work items changed. -/
theorem storeHash_same {s t : State} (h : t.work = s.work) : storeHash s t = t := by
  unfold storeHash
  simp [h]

theorem mirrorPut_work (s : State) (m : MirrorItem) : (mirrorPut s m).work = s.work := by
  unfold mirrorPut
  split <;> simp [inc]
theorem standbyWrite_work (s : State) (client idx sub : Nat) : (standbyWrite s client idx sub).work = s.work := by
  unfold standbyWrite notReady
  split <;> simp [wrBit]
theorem paired_work (t : State) (client idx sub : Nat) (data : List Byte) : (paired t client idx sub data).work = t.work := by
  unfold paired
  simp only
  split
  · rw [mirrorPut_work, standbyWrite_work]
  · rw [standbyWrite_work]

/-- An accepted write that is neither staged nor a command of group or calendar: what the owning rules make of it, and the pair. -/
theorem put_performed {s t : State} {client idx sub : Nat} {data : List Byte} {off : Nat} (h : Accepts s client idx sub data)
    (hs : structural idx sub = false) (ht : ttStaged idx sub = false) (hc : ¬ (idx = 0x2300 ∧ sub = 6))
    (hg : ¬ (idx = 0x2000 ∧ sub = 0x17))
    (he : performAny { s with answers := Tab.del s.answers client } client idx sub data off none = t)
    (ha : aborted t client = false) :
    put s client idx sub data off = storeHash s (paired t client idx sub data) := by
  unfold put
  rw [up_served h.1]
  congr 1
  unfold writeOne accepted
  have hg' : (idx == 0x2000 && sub == 0x17) = false := by
    simpa using hg
  have hc' : (idx == 0x2300 && sub == 6) = false := by
    simpa using hc
  have hgr : groupOf { s with answers := Tab.del s.answers client } client = none := h.2.2.1
  simp [h.2.2.2, hg', hc', hs, ht, hgr, he, ha, paired]

/-- The answer of success, in the copy of the state that a write works on. -/
theorem success_le {s : State} {client : Nat} (h : client ≤ 0x80) :
    success s client = { s with answers := Tab.put s.answers client { code := 0, data := [] } } := by
  unfold success answer
  rw [if_neg (by omega)]
theorem aborted_success {s : State} {client : Nat} (h : client ≤ 0x80) : aborted (success s client) client = false := by
  rw [success_le h]
  simp [aborted, Tab.find_put_self]

end Sys2Proof.Machine
end

