-- ==== Sys2Proof/WellFormed.lean ====
section
/-! DEFINITION. What a sender can send: the numbers of ports, channels, loops, zones and nodes that exist, and operands within the
widths that carry them. -/
namespace Sys2Proof

/-- A client of the dictionary: a node, or the host port. -/
def clientOk (c : Nat) : Bool := decide (1 ≤ c) && decide (c ≤ 0x80)
/-- A time within a base period, in ns. -/
def offOk (off : Nat) : Bool := decide (off < 100000)
/-- The numbers from `lo` to `hi`. -/
def between (x lo hi : Nat) : Bool := decide (lo ≤ x) && decide (x ≤ hi)
/-- A frame that a bus can carry (R267): the identifier fits its format, and the length is one of the format's. -/
def frameOk (f : Frame) : Bool :=
  decide (f.id < if f.ide then 2 ^ 29 else 2 ^ 11) &&
  (if f.fd then (f.data.length ≤ 8 || [12, 16, 20, 24, 32, 48, 64].contains f.data.length) && !f.rtr else f.data.length ≤ 8 && !f.brs)
/-- What the world gives in a base period. -/
def tickOk (i : TickIn) : Bool :=
  decide (i.adc.length ≤ 17) && i.adc.all (fun l => l.all fun a => decide (a.raw < 65536)) && decide (i.pins < 2 ^ 64) &&
  i.lanes.all (fun p => decide (p.1 < 1024)) && i.loopEcc.all fun p => decide (p.1 < 1024) && decide (p.2.1 ≤ 2)
/-- The bytes of a halyard frame, up to its CRC, and the CRC (R340). -/
def halyardOk (f : HalyardFrame) : Bool :=
  decide (5 ≤ f.raw.length) && decide (f.raw.length ≤ 1037) && decide (f.crc < 2 ^ 32)
/-- A start-of-frame edge: a base period has 8 000 CLK_CAN cycles (R272). -/
def startOk (x : FrameStart) : Bool := decide (x.back < 2 ^ 32) && decide (x.cycle < 8000)
/-- A USDO request. -/
def usdoOk (op : UsdoOp) : Bool :=
  match op with
  | .read i j => decide (i < 65536) && decide (j < 256)
  | .write i j _ => decide (i < 65536) && decide (j < 256)
  | .start i j n b => decide (i < 65536) && decide (j < 256) && decide (n < 2 ^ 32) && decide (b < 2)
  | .segment _ _ b => decide (b < 2)

/-- A command that a sender can send. DESIGN CHOICE, unsafe: log entry 218. -/
def Instr.wf (i : Instr) : Bool :=
  match i with
  | .baseTick inp => tickOk inp
  | .portFaultRetry n _ => n < 64
  | .standstillTimeout c off => c < 8 && offOk off
  | .ssiFrameComplete c value _ _ off => c < 8 && value < 2 ^ 32 && offOk off
  | .halfCycleCloseTimeout f => f < 2
  | .crossingLoss f off => f < 2 && offOk off
  | .shedLevelFall => true
  | .zxoDecisionPoint n off => n < 64 && offOk off
  | .zxoCrossingLost n off => n < 64 && offOk off
  | .pwmCycleStart n off => n < 64 && offOk off
  | .fieldPortEdge n _ _ off => n < 64 && offOk off
  | .debounceExpired n off => n < 64 && offOk off
  | .presenceStretchExpired n off => n < 64 && offOk off
  | .encoderEdge c _ _ _ _ _ off => c < 8 && offOk off
  | .indexEvent c _ off => c < 8 && offOk off
  | .comparePulseEnd c off => c < 8 && offOk off
  | .railVerifyTimeout p => p < 2
  | .panelPowerOffStep p => p < 2
  | .lightRampStart p => p < 2
  | .panelRecordPeriodic p => p < 2
  | .calibrationWindowStart spCoef => spCoef.length == 7
  | .calibrationReconnect coef => coef.length == 7
  | .calibrationWindowEnd => true
  | .spareSelfCalibration coef => coef.length == 7
  | .injectionDetected ch _ _ _ _ off => ch < 96 && offOk off
  | .sramScrub _ loc _ => loc < 2 ^ 32
  | .secondsPulse => true
  | .timetableWalk => true
  | .walkResultsDue => true
  | .trimPeriod => true
  | .trimTemperatureSample => true
  | .rtcOscFail => true
  | .backupReset => true
  | .wakeEvent => true
  | .calendarFieldWrite client sub value off => clientOk client && between sub 1 5 && value < 65536 && offOk off
  | .calendarCommit client value off => clientOk client && value < 256 && offOk off
  | .calendarStageTimeout client => clientOk client
  | .calendarRead client sub => clientOk client && between sub 1 7
  | .calendarShadowTimeout client => clientOk client
  | .adjustmentRequest client ms off => clientOk client && decide (-(2 ^ 31) ≤ ms ∧ ms < 2 ^ 31) && offOk off
  | .alarmWrite client a sub _ off => clientOk client && a < 8 && between sub 1 2 && offOk off
  | .dictionaryWrite client idx sub _ off => clientOk client && idx < 65536 && sub < 256 && offOk off
  | .structuralWrite client idx sub _ off => clientOk client && idx < 65536 && sub < 256 && offOk off
  | .configurationCommit client off => clientOk client && offOk off
  | .commitTick => true
  | .discardStaging client off => clientOk client && offOk off
  | .openWriteGroup client off => clientOk client && offOk off
  | .applyWriteGroup client off => clientOk client && offOk off
  | .discardWriteGroup client off => clientOk client && offOk off
  | .writeGroupTimeout client => clientOk client
  | .storeParameters client sub off => clientOk client && between sub 1 4 && offOk off
  | .restoreDefaults client sub off => clientOk client && between sub 1 4 && offOk off
  | .bankWriteComplete bank => bank.header.length == 32 && bank.payload.length ≤ 65536
  | .logMirror => true
  | .logReadEntry client => clientOk client
  | .logReadEntries client => clientOk client
  | .clearPennants client j mask off => clientOk client && j < 4 && mask < 2 ^ 32 && offOk off
  | .swapRequest client n off => clientOk client && n < 1024 && offOk off
  | .swapTick n => n < 1024
  | .clearLaneFault client n off => clientOk client && n < 1024 && offOk off
  | .loopModeChange client n mode off => clientOk client && n < 1024 && mode < 256 && offOk off
  | .traceArm client off => clientOk client && offOk off
  | .traceForceTrigger client off => clientOk client && offOk off
  | .traceStop client off => clientOk client && offOk off
  | .countPreset client n value off => clientOk client && n < 64 && value < 2 ^ 32 && offOk off
  | .positionPreset client c value off => clientOk client && c < 8 && decide (-(2 ^ 31) ≤ value ∧ value < 2 ^ 31) && offOk off
  | .reReference client c off => clientOk client && c < 8 && offOk off
  | .compareArm client c off => clientOk client && c < 8 && offOk off
  | .compareDisarm client c off => clientOk client && c < 8 && offOk off
  | .estimatorReinitCommand client z off => clientOk client && z < 64 && offOk off
  | .learningReset client z off => clientOk client && z < 64 && offOk off
  | .learningSave client z off => clientOk client && z < 64 && offOk off
  | .learnedCouplingPeriodic => true
  | .timetableEntryWrite client idx sub _ off => clientOk client && idx < 65536 && sub < 256 && offOk off
  | .timetableCommit client off => clientOk client && offOk off
  | .timetableDiscard client off => clientOk client && offOk off
  | .panelUpdateRequest client p off => clientOk client && p < 2 && offOk off
  | .panelClearUpdateRequest client p off => clientOk client && p < 2 && offOk off
  | .panelPowerOn client p off => clientOk client && p < 2 && offOk off
  | .panelPowerOff client p off => clientOk client && p < 2 && offOk off
  | .targetImageWrite client p image off => clientOk client && p < 2 && image < 2 ^ 64 && offOk off
  | .accumulatorZero client p off => clientOk client && p < 2 && offOk off
  | .frameReceived x f start _ => x < 4 && frameOk f && startOk start
  | .bufferRelease x n => x < 4 && n ≤ 64
  | .filterTableSwitch x filters => x < 4 && filters.length ≤ 128
  | .frameSubmitted x f _ => x < 4 && frameOk f && !f.rtr
  | .frameTransmitted x sent => x < 4 && sent.delay < 256 && startOk sent.start
  | .canError x _ kind _ count => x < 4 && kind < 8 && count.delay.all (· < 256)
  | .busOffHoldoffExpired x => x < 4
  | .startRecovery client x off => clientOk client && x < 4 && offOk off
  | .recoveryComplete x => x < 4
  | .solitaryRetry x attempt => x < 4 && attempt.sent.delay < 256 && startOk attempt.sent.start
  | .canModeChange x => x < 4
  | .canModeRequest client x mode off => clientOk client && x < 4 && mode < 256 && offOk off
  | .nmtStart node off => node ≤ 127 && offOk off
  | .nmtStop node off => node ≤ 127 && offOk off
  | .nmtEnterPreOperational node off => node ≤ 127 && offOk off
  | .nmtResetApplication node off => node ≤ 127 && offOk off
  | .nmtResetCommunication node off => node ≤ 127 && offOk off
  | .rpdoReceived n data off => between n 1 512 && data.length ≤ 64 && offOk off
  | .rpdoTimeout n => between n 1 512
  | .remoteSlotTimeout n => n < 1024
  | .syncReceived _ off => offOk off
  | .timeReceived _ => true
  | .tpdoAssembly n => between n 1 512
  | .heartbeatProduce => true
  | .heartbeatReceived _ k st => between k 1 127 && st < 128
  | .heartbeatConsumerTimeout entry => between entry 1 8
  | .emcySend => true
  | .usdoRequest client op off => between client 1 127 && usdoOk op && offOk off
  | .usdoSegmentTimeout client => between client 1 127
  | .fieldNodeBoot => true
  | .fieldNodeBootUp k _ => between k 1 127
  | .fieldNodeBootTimeout k => between k 1 127
  | .fieldNodeLost k _ => between k 1 127
  | .fieldNodeRetry k _ => between k 1 127
  | .clientTransferTimeout k _ => between k 1 127
  | .fieldNodeNmtStart client k off => clientOk client && between k 1 127 && offOk off
  | .fieldNodeNmtStop client k off => clientOk client && between k 1 127 && offOk off
  | .fieldNodeNmtPreOperational client k off => clientOk client && between k 1 127 && offOk off
  | .fieldNodeNmtResetApplication client k off => clientOk client && between k 1 127 && offOk off
  | .fieldNodeNmtResetCommunication client k off => clientOk client && between k 1 127 && offOk off
  | .hostNop _ => true
  | .hostRead _ tag idx sub _ off => tag < 8 && idx < 65536 && sub < 256 && offOk off
  | .hostWrite _ tag idx sub _ off => tag < 8 && idx < 65536 && sub < 256 && offOk off
  | .readRecord _ tag idx sub _ off => tag < 8 && idx < 65536 && sub < 256 && offOk off
  | .writeRecord _ tag idx sub _ off => tag < 8 && idx < 65536 && sub < 256 && offOk off
  | .segWrite _ tag idx sub _ off => tag < 8 && idx < 65536 && sub < 256 && offOk off
  | .segWriteGapTimeout => true
  | .bulkRead _ tag idx sub _ off => tag < 8 && idx < 65536 && sub < 256 && offOk off
  | .bulkCopyTimeout => true
  | .fetch _ tag => tag < 8
  | .release _ tag => tag < 8
  | .piRead _ first count _ _ => first < 256 && count < 256
  | .processPageUpdate => true
  | .ackIrq _ mask => mask < 65536
  | .hostFrameDiscard _ result tag => (result == 2 || result == 3 || between result 4 6) && tag < 8
  | .halyardLinkUp => true
  | .halyardLinkDown => true
  | .tickFrameReceived count duties sps _ frame => halyardOk frame && count < 2 ^ 64 && duties.length == 64 && duties.all (· < 65536) && sps.length == 8
  | .mirrorItemReceived seq _ frame => halyardOk frame && seq < 2 ^ 32
  | .mirrorAckTimeout => true
  | .logFrameReceived e frame => halyardOk frame && e.code < 65536 && e.loc < 2 ^ 32
  | .controlJoin hash _ serials => hash.length == 32 && serials.length == 3
  | .hoistCapture => true
  | .hoistSegmentReceived hoist frame => halyardOk frame && hoist.all (·.2.length == 114624)
  | .hoistAckTimeout => true
  | .healthFrameSend => true
  | .healthFrameReceived h => h.unit < 2 && h.role < 256 && h.flags < 256 && h.epoch < 65536
  | .beaconReceived => true
  | .beaconTimeout => true
  | .orderGrant unit num e => unit < 256 && num < 256 && e < 65536
  | .orderRevoke unit num e => unit < 256 && num < 256 && e < 65536
  | .orderSwap unit num w _ off => unit < 256 && num < 256 && w < 65536 && offOk off
  | .orderResync unit num => unit < 256 && num < 256
  | .reportReceived r off => r.unit < 256 && offOk off
  | .armTimeout => true
  | .ensignInAsserted => true
  | .ensignInDeasserted => true
  | .takeoverLoaded => true
  | .swallowtailStart => true
  | .swallowtailEnd => true
  | .withdrawnTimeout off => offOk off
  | .unitFailed u off => u < 2 && offOk off
  | .killHoldExpired u => u < 2
  | .coldStartWait off => offOk off
  | .requestSwap client off => clientOk client && offOk off
  | .requestResync client off => clientOk client && offOk off
  | .witnessOrderSwap client off => clientOk client && offOk off
  | .releaseKillLatches client off => clientOk client && offOk off
  | .pfwAsserted _ => true
  | .pfwReleased => true
  | .feedBrownOut f => f < 2
  | .feedRestored f prefer => f < 2 && prefer < 2
  | .powerCmdRun client off => clientOk client && offOk off
  | .powerCmdDoze client off => clientOk client && offOk off
  | .powerCmdSleep client off => clientOk client && offOk off
  | .powerCmdShip client off => clientOk client && offOk off
  | .pwronDeassert => true
  | .thermalMeasurement temps _ => temps.length == 12
  | .stageAddInterval => true
  | .stageRemoveInterval => true
  | .thermalShutdown => true
  | .thermalTrip => true
  | .thermalRelease => true
  | .imageHeader client _ off => clientOk client && offOk off
  | .imageBlock client _ off => clientOk client && offOk off
  | .firmwareCommit client off => clientOk client && offOk off
  | .firmwareClose client off => clientOk client && offOk off
  | .firmwareConfirm client off => clientOk client && offOk off
  | .selectOtherImage client off => clientOk client && offOk off
  | .restartCommand client unit off => clientOk client && unit < 256 && offOk off
  | .keyLoad client k _ _ off => clientOk client && k < 4 && offOk off
  | .keyRevoke client k _ off => clientOk client && k < 4 && offOk off
  | .signaturePolicyWrite client sub _ off => clientOk client && between sub 0x20 0x21 && offOk off
  | .signedConfigurationImage client _ off => clientOk client && offOk off
  | .attestationNonce client _ off => clientOk client && offOk off
  | .debugChallenge client => clientOk client
  | .debugResponse client _ off => clientOk client && offOk off
  | .lockCommand client off => clientOk client && offOk off
  | .tapExtest => true
  | .tapClamp => true
  | .tapHighz => true
  | .tapIdcode => true
  | .tapSamplePreload capture preload => capture < 2 ^ 402 && preload < 2 ^ 402
  | .tapBypass => true
  | .tapPrivateDebug code => code < 8
  | .trstRelease => true
  | .killAsserted => true
  | .powerOnReset => true
  | .watchdogExpired => true
  | .resetRelease _ _ _ _ us _ cals => us < 2 ^ 32 && cals.length == 17
  | .bootRomRetry _ _ us _ cals => us < 2 ^ 32 && cals.length == 17
  | .configurationLoad => true
  | .controllersEnabled => true
  | .startupRecord _ => true
  | .bootUp => true
  | .autostart => true
  | .operationalTick => true
  | .clkRefLoss => true
  | .clkPosLost => true
  | .clkPanelLost => true
  | .zxoLevelSwitch n off => n < 64 && offOk off
  | .busIntegrationComplete x => x < 4
  | .workItemDeadline item => item < 96
  | .usdoServiceStart off => offOk off
  | .beaconSend off => offOk off
  | .controlAcknowledgement _ n => n < 2 ^ 32
  | .noValidHoist => true
  | .firmwareBlockVerified _ => true
  | .commitVerificationDone bad _ => bad.all (· < 64)
  | .reportSigned sig => sig.length == 384

end Sys2Proof
end

