-- ==== Sys2Proof/Tests/Slice0.lean ====
section
/-! SUPPORT. Tests: the spec's worked examples, well-formedness, and for every statement with hypotheses states and operands that
meet them. -/
namespace Sys2Proof.Tests
open Sys2Proof Sys2Proof.Machine Sys2Proof.OD
set_option Elab.async false

/-- The index error of R129 to R131 at a position channel. -/
def idxErr (s : State) (c : Nat) : Int :=
  let r := rdN s (0x3200 + c) 0x21
  let m := (diff32 (pos s c).count (pos s c).idxRef % (r : Int)).toNat
  if m > r / 2 then (m : Int) - (r : Int) else (m : Int)
/-- A field of the calendar as a client's staged writes and the running count give it (R368). -/
def calWanted (s : State) (client n : Nat) : Nat :=
  match (Tab.get s.cal.stage client ([], 0)).1.find? (·.1 == n) with
  | some p => p.2
  | none => calField s.cal.secs n

-- Hypotheses met --------------------------------------------------------------------------------------------------

/-- A device in operation with the values `l` (index, sub-index, bytes, value) in its dictionary. -/
def st (l : List (Nat × Nat × Nat × Nat)) : State := { State.reset with
  inReset := false, cfgLoaded := true, tickRun := true, counting := true, now := 200000, tick := 100000,
  rst := { State.reset.rst with phase := 5, causes := [] }, ensign := true,
  net := { bootAt := some 0, serving := true },
  dict := l.foldl (fun t p => dictPut t (key p.1 p.2.1) (leBytes p.2.2.1 p.2.2.2)) [(key 0x1FF0 0x80, [5#8])] }
def live : State := st []
/-- The same as a pair member with the ensign, in role 5. -/
def pairL : List (Nat × Nat × Nat × Nat) := [(0x2500, 1, 1, 1), (0x2500, 0x81, 1, 5), (0x2500, 0x84, 1, 1)]
/-- An item of node 5's, ACTIVE. -/
def item : WorkItem := { id := 1, kind := 1, origin := 5, state := 1, reason := 0, idx := 0, sub := 0, accepted := 0, ended := 0, abort := 0, journalled := false }
/-- The row of a sub-index that has one. -/
def row (idx sub : Nat) : Row := (rowOf idx sub).getD { lo := 0, hi := 0, ty := .u8, acc := .ro, per := .v, eff := .none }
/-- A log entry numbered `n`. -/
def entry (n : Nat) : LogEntry := { num := n, time := 5, subSec := 0, code := 1, calInvalid := true, loc := 0, qual := 3, data := 0 }
/-- Open write groups of node 5: one whose limit pair is broken, a good one, and a full one. -/
def gBad : Group := { client := 5, items := [(0x3000, 0x25, leBytes 4 0x40000000), (0x3000, 0x26, leBytes 4 0x3F800000)], lastAt := 199999 }
def gGood : Group := { client := 5, items := [(0x2500, 3, leBytes 2 7)], lastAt := 199999 }
def gFull : Group := { client := 5, items := List.replicate 64 (0x2500, 3, leBytes 2 7), lastAt := 199999 }
/-- A store request whose item stands in object 0x2023. -/
def sreq : StoreReq := { item := some 3, client := some 5, work := .save [2] }

-- Chunk 00
def w00_0 : State := { live with pending := [.hostNop true, .emcySend] }
def w00_1 : State := { live with net := {} }
def w00_2 : State := { live with conds := [(48, 2)] }
def w00_4 : State := { live with work := [(3, { item with state := 2 })] }
def w00_5 : WorkItem := { item with state := 2 }
def w00_6 : State := { live with work := [(3, item)] }

theorem wit_StepTakesFrontCommand :
    w00_0.pending = [Instr.hostNop true, Instr.emcySend] ∧
    live.pending = [] := by decide +kernel

theorem wit_DeadDeviceIgnoresCommands :
    livesOn (Instr.hostNop true) = false ∧ alive State.reset = false := by decide +kernel

theorem wit_RefusedWritesOnlyAnswer :
    writes (Instr.dictionaryWrite 5 0x1003 0 [1#8] 0) = some (5, 0x1003, 0, [1#8]) ∧ alive w00_1 = true ∧ booted w00_1 =
      false ∧
    writes (Instr.dictionaryWrite 5 0x1003 0 [1#8] 0) = some (5, 0x1003, 0, [1#8]) ∧ alive live = true ∧ booted live = true ∧
    writeRefusal live 5 0x1003 0 [1#8] Via.one ≠ 0 := by decide +kernel

theorem wit_ConditionsLogAndWorkItems :
    pennantAbsent live 127 = false ∧ (live.conds.any fun (x : Nat × Nat) => x.fst == 127) = false ∧
    pennantAbsent w00_2 48 = false ∧ (¬(48, 127) ∈ w00_2.conds) ∧
    ((List.filter (fun (x : Nat × Nat) => x != (48, 2)) w00_2.conds).any fun (x : Nat × Nat) => x.fst == 48) = false ∧
    w00_4.work.find 3 = some w00_5 ∧ 2 ≤ w00_5.state ∧
    w00_6.work.find 3 = some item ∧ item.state < 2 := by decide +kernel


-- Chunk 01
def w01_0 : State := st [(0x3000, 1, 1, 3), (0x3000, 0x20, 4, 50)]
def w01_1 : State := st [(0x303F, 1, 1, 2), (0x303F, 0x20, 4, 50), (0x303F, 0x21, 2, 20)]
def w01_3 : State := st [(0x3000, 1, 1, 4), (0x3000, 0x20, 4, 50)]
def w01_4 : State := { st [(0x3000, 1, 1, 2), (0x3000, 0x21, 2, 20)] with
  ports := [(0, { lvl := true, debSince := some 19980000000 })] }
def w01_5 : State := { st [(0x3000, 1, 1, 4)] with ports := [(0, { lvl := true, stretched := true, stretchEnd := 20000000005 })] }
def w01_6 : State := st [(0x3000, 1, 1, 8), (0x3000, 0x20, 4, 49)]
def w01_7 : State := { st [(0x3000, 1, 1, 6)] with ports := [(0, { pwmC := 1000, pwmStart := 3999999000 })] }
def w01_8 : State := { st [(0x303F, 1, 1, 10)] with ports := [(63, { pwmC := 1000, pwmStart := 0 })] }
def w01_9 : State := { st [(0x3000, 1, 1, 5)] with ports := [(0, { faulted := true, retryAt := 200000 })], conds := [(16, 0)] }
def w01_10 : State := st [(0x3000, 1, 1, 3)]
def w01_11 : State := { live with ensignIn := false }
def w01_13 : State := { st [(0x3000, 1, 1, 5), (0x3000, 2, 1, 0)] with pfw := true }
def w01_14 : State := { st [(0x3000, 1, 1, 5), (0x3000, 2, 1, 1)] with pfw := true }
def w01_15 : State := { st [(0x3000, 1, 1, 5), (0x3000, 2, 1, 2)] with pfw := true }
def w01_17 : State := { st [(0x3000, 1, 1, 5), (0x3000, 2, 1, 3)] with pfw := true }

theorem wit_FieldPortInputEvents :
    PortsOn w01_0 ∧ (witness w01_0 && decide (0 ≤ 6)) = false ∧ (port w01_0 0).lvl ≠ true ∧ rdN w01_0 (0x3000 + 0) 32 ≤ 50 ∧
    rdN w01_0 (0x3000 + 0) 1 = 3 ∧
    PortsOn w01_4 ∧ (witness w01_4 && decide (0 ≤ 6)) = false ∧ (port w01_4 0).lvl ≠ false ∧ rdN w01_4 (0x3000 + 0) 32 ≤ 50 ∧
    rdN w01_4 (0x3000 + 0) 1 = 2 ∧ rdN w01_4 (0x3000 + 0) 33 ≠ 0 ∧
    PortsOn w01_6 ∧ (witness w01_6 && decide (0 ≤ 6)) = false ∧ (port w01_6 0).lvl ≠ true ∧ rdN w01_6 (0x3000 + 0) 32 ≤ 50 ∧
    rdN w01_6 (0x3000 + 0) 1 = 8 ∧ true ≠ rdF w01_6 (0x3000 + 0) 3 ∧
    PortsOn w01_3 ∧ (witness w01_3 && decide (0 ≤ 6)) = false ∧ (port w01_3 0).lvl ≠ true ∧ rdN w01_3 (0x3000 + 0) 32 ≤ 50 ∧
    rdN w01_3 (0x3000 + 0) 1 = 4 ∧ true ≠ rdF w01_3 (0x3000 + 0) 3 ∧
    PortsOn w01_4 ∧ rdN w01_4 (0x3000 + 0) 1 = 2 ∧ (port w01_4 0).debSince = some 19980000000 ∧ 19980000000 + rdN w01_4
      (0x3000 + 0) 33 * 1000000 ≤ nowNs w01_4 49 ∧
    PortsOn w01_5 ∧ rdN w01_5 (0x3000 + 0) 1 = 4 ∧ (port w01_5 0).stretched = true ∧ (port w01_5 0).stretchEnd ≤ nowNs w01_5
      49 := by decide +kernel

theorem wit_FieldPortInputEvents_b :
    PortsOn w01_6 ∧ (witness w01_6 && decide (0 ≤ 6)) = false ∧ rdN w01_6 (0x3000 + 0) 1 = 8 ∧ (port w01_6 0).lvl ≠ true ∧
    true ≠ rdF w01_6 (0x3000 + 0) 3 ∧ rdN w01_6 (0x3000 + 0) 32 ≤ 49 ∧
    PortsOn w01_6 ∧ (witness w01_6 && decide (0 ≤ 6)) = false ∧ 0 < rdN w01_6 (0x3000 + 0) 32 := by decide +kernel

/-- The clauses on a port or a channel at the highest number. -/
theorem wit_FieldPortInputEvents_top :
    PortsOn w01_1 ∧ (witness w01_1 && decide (63 ≤ 6)) = false ∧ (port w01_1 63).lvl ≠ true ∧ rdN w01_1 (0x3000 + 63) 32 ≤ 50 ∧
      rdN w01_1 (0x3000 + 63) 1 = 2 ∧ rdN w01_1 (0x3000 + 63) 33 ≠ 0 ∧
    PortsOn w01_8 ∧ (rdN w01_8 (0x3000 + 63) 1 = 6 ∨ rdN w01_8 (0x3000 + 63) 1 = 10) ∧ 0 < (port w01_8 63).pwmC ∧
      (port w01_8 63).pwmC ≤ pwmCount (port w01_8 63) (nowNs w01_8 0) := by decide +kernel

theorem wit_FieldPortOutputEvents :
    PortsOn w01_7 ∧ (rdN w01_7 (0x3000 + 0) 1 = 6 ∨ rdN w01_7 (0x3000 + 0) 1 = 10) ∧ 0 < (port w01_7 0).pwmC ∧ (port w01_7
      0).pwmC ≤ pwmCount (port w01_7 0) (nowNs w01_7 0) ∧
    PortsOn w01_9 ∧ (port w01_9 0).faulted = true ∧ (port w01_9 0).retryAt ≤ w01_9.now ∧
    Accepts w01_10 128 (0x3000 + 0) 129 (leBytes 4 4294967295) := by decide +kernel

def w01_19 : State := { live with clkPosLost := true }
def w01_20 : State := { live with ports := [(0, { faulted := true, retryAt := 100001 })] }
def w01_21 : State := { st [(0x3000, 1, 1, 5)] with ports := [(0, { waiting := false, faulted := true, retryAt := 100000 })] }

theorem wit_PinsFollowTheOrderOfR100 :
    w01_19.tap.hold = false ∧ (witness w01_19 && decide (0 ≤ 6)) = false ∧ (w01_19.inReset = true ∨ w01_19.cfgLoaded = false
      ∨ w01_19.clkPosLost = true) ∧
    w01_11.tap.hold = false ∧ (witness w01_11 && decide (0 ≤ 6)) = false ∧ w01_11.ensignIn = false ∧ w01_11.zh6432 = false ∧
    w01_19.tap.hold = false ∧ (witness w01_19 && decide (0 ≤ 6)) = false ∧ isOut (rdN w01_19 (0x3000 + 0) 1) = false ∧
    w01_20.tap.hold = false ∧ (witness w01_20 && decide (0 ≤ 6)) = false ∧ (port w01_20 0).faulted = true ∧ retryTick w01_20
      (port w01_20 0) = false ∧
    w01_13.tap.hold = false ∧ (witness w01_13 && decide (0 ≤ 6)) = false ∧ outputsOff w01_13 = false ∧ w01_13.clkPosLost =
      false ∧ (w01_13.ensignIn = true ∨ w01_13.zh6432 = true) ∧ isOut (rdN w01_13 (0x3000 + 0) 1) = true ∧ ((port w01_13
      0).faulted = false ∨ retryTick w01_13 (port w01_13 0) = true) ∧ (safeCond w01_13 = true ∨ (port w01_13 0).waiting =
      true ∧ rdN w01_13 (0x3000 + 0) 1 ≠ 9) ∧ rdN w01_13 (0x3000 + 0) 2 = 0 ∧
    w01_14.tap.hold = false ∧ (witness w01_14 && decide (0 ≤ 6)) = false ∧ outputsOff w01_14 = false ∧ w01_14.clkPosLost =
      false ∧ (w01_14.ensignIn = true ∨ w01_14.zh6432 = true) ∧ isOut (rdN w01_14 (0x3000 + 0) 1) = true ∧ ((port w01_14
      0).faulted = false ∨ retryTick w01_14 (port w01_14 0) = true) ∧ (safeCond w01_14 = true ∨ (port w01_14 0).waiting =
      true ∧ rdN w01_14 (0x3000 + 0) 1 ≠ 9) ∧ rdN w01_14 (0x3000 + 0) 2 = 1 := by decide +kernel

theorem wit_PinsFollowTheOrderOfR100_b :
    w01_15.tap.hold = false ∧ (witness w01_15 && decide (0 ≤ 6)) = false ∧ outputsOff w01_15 = false ∧ w01_15.clkPosLost =
      false ∧ (w01_15.ensignIn = true ∨ w01_15.zh6432 = true) ∧ isOut (rdN w01_15 (0x3000 + 0) 1) = true ∧ ((port w01_15
      0).faulted = false ∨ retryTick w01_15 (port w01_15 0) = true) ∧ (safeCond w01_15 = true ∨ (port w01_15 0).waiting =
      true ∧ rdN w01_15 (0x3000 + 0) 1 ≠ 9) ∧ rdN w01_15 (0x3000 + 0) 2 = 2 ∧
    w01_17.tap.hold = false ∧ (witness w01_17 && decide (0 ≤ 6)) = false ∧ outputsOff w01_17 = false ∧ w01_17.clkPosLost =
      false ∧ (w01_17.ensignIn = true ∨ w01_17.zh6432 = true) ∧ isOut (rdN w01_17 (0x3000 + 0) 1) = true ∧ ((port w01_17
      0).faulted = false ∨ retryTick w01_17 (port w01_17 0) = true) ∧ (safeCond w01_17 = true ∨ (port w01_17 0).waiting =
      true ∧ rdN w01_17 (0x3000 + 0) 1 ≠ 9) ∧ rdN w01_17 (0x3000 + 0) 2 = 3 ∧
    w01_21.tap.hold = false ∧ (witness w01_21 && decide (0 ≤ 6)) = false ∧ outputsOff w01_21 = false ∧ w01_21.clkPosLost =
      false ∧ (w01_21.ensignIn = true ∨ w01_21.zh6432 = true) ∧ isOut (rdN w01_21 (0x3000 + 0) 1) = true ∧ ((port w01_21
      0).faulted = false ∨ retryTick w01_21 (port w01_21 0) = true) ∧ safeCond w01_21 = false ∧ (port w01_21 0).waiting =
      false := by decide +kernel


-- Chunk 02
def w02_0 : State := st [(0x3200, 1, 1, 3), (0x3200, 0x20, 4, 20)]
def w02_1 : State := st [(0x3207, 1, 1, 3), (0x3207, 0x20, 4, 20)]
def w02_2 : State := st [(0x3200, 1, 1, 3), (0x3200, 3, 1, 1), (0x3200, 4, 1, 0), (0x3200, 5, 1, 1), (0x3200, 0x23, 4, 77)]
def w02_3 : State := { st [(0x3200, 1, 1, 4), (0x3200, 3, 1, 1), (0x3200, 0x21, 4, 100), (0x3200, 0x22, 4, 2)] with
  pos := [(0, { referenced := true, count := 200, idxRef := 100 })] }
def w02_4 : State := { st [(0x3200, 1, 1, 1), (0x3200, 3, 1, 1), (0x3200, 0x21, 4, 100), (0x3200, 0x22, 4, 2)] with
  pos := [(0, { referenced := true, count := 198, idxRef := 100 })] }
def w02_5 : State := { st [(0x3200, 1, 1, 1), (0x3200, 3, 1, 1), (0x3200, 0x21, 4, 100), (0x3200, 0x22, 4, 2)] with
  pos := [(0, { referenced := true, count := 203, idxRef := 100 })] }
def w02_6 : State := { st [(0x3200, 1, 1, 5), (0x3200, 0x25, 2, 50)] with
  pos := [(0, { stamps := [19950000000, 5], stopped := false })] }
def w02_7 : State := { st [(0x3200, 1, 1, 3)] with pos := [(0, { pulseEnd := some 20000000000 })] }
def w02_8 : State := { st [(0x3200, 1, 1, 6), (0x3200, 8, 1, 13)] with pos := [(0, { frameBusy := true })] }
def w02_10 : State := { st [(0x3200, 1, 1, 6), (0x3200, 8, 1, 13)] with
  pos := [(0, { frameBusy := true, vPrev := some 8000, count := 0 })] }
def w02_12 : State := st [(0x3207, 1, 1, 3)]

def w02_23 : State := st [(0x3200, 1, 1, 4)]
def w02_24 : State := { st [(0x3200, 1, 1, 5), (0x3200, 0x20, 4, 20)] with pos := [(0, { a := true })] }
def w02_27 : State := { st [(0x3200, 1, 1, 3)] with clkPosLost := true }

theorem wit_PositionEvents :
    Alive w02_0 ∧ rdN w02_0 (0x3200 + 0) 32 ≤ 20 ∧ posCounts w02_0 = true ∧ 1 ≤ rdN w02_0 (0x3200 + 0) 1 ∧ rdN w02_0 (0x3200
      + 0) 1 ≤ 3 ∧ true ≠ (pos w02_0 0).a ∧ false = (pos w02_0 0).b ∧
    Alive w02_0 ∧ rdN w02_0 (0x3200 + 0) 32 ≤ 20 ∧ posCounts w02_0 = true ∧ 1 ≤ rdN w02_0 (0x3200 + 0) 1 ∧ rdN w02_0 (0x3200
      + 0) 1 ≤ 3 ∧ false = (pos w02_0 0).a ∧ true ≠ (pos w02_0 0).b ∧
    Alive w02_0 ∧ rdN w02_0 (0x3200 + 0) 32 ≤ 20 ∧ posCounts w02_0 = true ∧ 1 ≤ rdN w02_0 (0x3200 + 0) 1 ∧ rdN w02_0 (0x3200
      + 0) 1 ≤ 3 ∧ true ≠ (pos w02_0 0).a ∧ true ≠ (pos w02_0 0).b ∧
    Alive w02_0 ∧ rdN w02_0 (0x3200 + 0) 32 ≤ 20 ∧ posCounts w02_0 = true ∧ 1 ≤ rdN w02_0 (0x3200 + 0) 1 ∧ rdN w02_0 (0x3200
      + 0) 1 ≤ 3 ∧ false = (pos w02_0 0).a ∧ false = (pos w02_0 0).b ∧
    Alive w02_23 ∧ rdN w02_23 (0x3200 + 0) 32 ≤ 0 ∧ posCounts w02_23 = true ∧ rdN w02_23 (0x3200 + 0) 1 = 4 ∧ true = true ∧
    (pos w02_23 0).a = false ∧
    Alive w02_23 ∧ rdN w02_23 (0x3200 + 0) 32 ≤ 0 ∧ posCounts w02_23 = true ∧ rdN w02_23 (0x3200 + 0) 1 = 4 ∧ true = true ∧
    (pos w02_23 0).a = false := by decide +kernel

theorem wit_PositionEvents_b :
    Alive w02_23 ∧ rdN w02_23 (0x3200 + 0) 32 ≤ 0 ∧ posCounts w02_23 = true ∧ rdN w02_23 (0x3200 + 0) 1 = 4 ∧ (false = false
      ∨ (pos w02_23 0).a = true) ∧
    Alive w02_24 ∧ rdN w02_24 (0x3200 + 0) 32 ≤ 20 ∧ posCounts w02_24 = true ∧ rdN w02_24 (0x3200 + 0) 1 = 5 ∧ (¬(true = (pos
      w02_24 0).a ∧ true = (pos w02_24 0).b ∧ false = (pos w02_24 0).z)) ∧ hallPlace (pos w02_24 0).a (pos w02_24 0).b (pos
      w02_24 0).z = some 0 ∧ hallPlace true true false = some 1 ∧ 1 = (0 + 1) % 6 ∧
    Alive w02_24 ∧ rdN w02_24 (0x3200 + 0) 32 ≤ 20 ∧ posCounts w02_24 = true ∧ rdN w02_24 (0x3200 + 0) 1 = 5 ∧ (¬(true = (pos
      w02_24 0).a ∧ false = (pos w02_24 0).b ∧ true = (pos w02_24 0).z)) ∧ hallPlace (pos w02_24 0).a (pos w02_24 0).b (pos
      w02_24 0).z = some 0 ∧ hallPlace true false true = some 5 ∧ 0 = (5 + 1) % 6 ∧
    Alive w02_24 ∧ rdN w02_24 (0x3200 + 0) 32 ≤ 20 ∧ posCounts w02_24 = true ∧ rdN w02_24 (0x3200 + 0) 1 = 5 ∧ (¬(false =
      (pos w02_24 0).a ∧ true = (pos w02_24 0).b ∧ true = (pos w02_24 0).z)) ∧ hallPlace (pos w02_24 0).a (pos w02_24 0).b
      (pos w02_24 0).z = some 0 ∧ hallPlace false true true = some 3 ∧ 3 ≠ (0 + 1) % 6 ∧ 0 ≠ (3 + 1) % 6 ∧
    Alive w02_24 ∧ rdN w02_24 (0x3200 + 0) 32 ≤ 20 ∧ posCounts w02_24 = true ∧ rdN w02_24 (0x3200 + 0) 1 = 5 ∧ (¬(true = (pos
      w02_24 0).a ∧ true = (pos w02_24 0).b ∧ true = (pos w02_24 0).z)) ∧ (hallPlace (pos w02_24 0).a (pos w02_24 0).b (pos
      w02_24 0).z = none ∨ hallPlace true true true = none) := by decide +kernel

theorem wit_PositionEvents_c :
    Alive w02_0 ∧ rdN w02_0 (0x3200 + 20) 32 ≤ 12800 ∧ (rdN w02_0 (0x3200 + 20) 1 = 0 ∨ posCounts w02_0 = false ∧ rdN w02_0
      (0x3200 + 20) 1 = 5) ∧
    Alive w02_27 ∧ rdN w02_27 (0x3200 + 0) 32 ≤ 0 ∧ posCounts w02_27 = false ∧ 1 ≤ rdN w02_27 (0x3200 + 0) 1 ∧ rdN w02_27
      (0x3200 + 0) 1 ≤ 4 ∧
    Alive w02_2 ∧ posCounts w02_2 = true ∧ rdF w02_2 (0x3200 + 0) 3 = true ∧ 1 ≤ rdN w02_2 (0x3200 + 0) 1 ∧ rdN w02_2 (0x3200
      + 0) 1 ≤ 4 ∧ (pos w02_2 0).referenced = false ∧ (pos w02_2 0).z ≠ true ∧ true = (rdN w02_2 (0x3200 + 0) 4 == 0) ∧ rdN
      w02_2 (0x3200 + 0) 32 ≤ 0 ∧
    Alive w02_3 ∧ posCounts w02_3 = true ∧ rdF w02_3 (0x3200 + 0) 3 = true ∧ 1 ≤ rdN w02_3 (0x3200 + 0) 1 ∧ rdN w02_3 (0x3200
      + 0) 1 ≤ 4 ∧ (pos w02_3 0).referenced = true ∧ (pos w02_3 0).z ≠ true ∧ true = (rdN w02_3 (0x3200 + 0) 4 == 0) ∧ rdN
      w02_3 (0x3200 + 0) 32 ≤ 0 ∧ (idxErr w02_3 0) = 0 := by decide +kernel

theorem wit_PositionEvents_d :
    Alive w02_4 ∧ posCounts w02_4 = true ∧ rdF w02_4 (0x3200 + 0) 3 = true ∧ 1 ≤ rdN w02_4 (0x3200 + 0) 1 ∧ rdN w02_4 (0x3200
      + 0) 1 ≤ 4 ∧ (pos w02_4 0).referenced = true ∧ (pos w02_4 0).z ≠ true ∧ true = (rdN w02_4 (0x3200 + 0) 4 == 0) ∧ rdN
      w02_4 (0x3200 + 0) 32 ≤ 0 ∧ (idxErr w02_4 0) ≠ 0 ∧ (idxErr w02_4 0).natAbs ≤ rdN w02_4 (0x3200 + 0) 34 := by decide +kernel

theorem wit_PositionEvents_e :
    Alive w02_5 ∧ posCounts w02_5 = true ∧ rdF w02_5 (0x3200 + 0) 3 = true ∧ 1 ≤ rdN w02_5 (0x3200 + 0) 1 ∧ rdN w02_5 (0x3200
      + 0) 1 ≤ 4 ∧ (pos w02_5 0).referenced = true ∧ (pos w02_5 0).z ≠ true ∧ true = (rdN w02_5 (0x3200 + 0) 4 == 0) ∧ rdN
      w02_5 (0x3200 + 0) 32 ≤ 0 ∧ rdN w02_5 (0x3200 + 0) 34 < (idxErr w02_5 0).natAbs := by decide +kernel

theorem wit_PositionEvents_top :
    Alive w02_1 ∧ rdN w02_1 (0x3200 + 7) 32 ≤ 20 ∧ posCounts w02_1 = true ∧ 1 ≤ rdN w02_1 (0x3200 + 7) 1 ∧
      rdN w02_1 (0x3200 + 7) 1 ≤ 3 ∧ true ≠ (pos w02_1 7).a ∧ false = (pos w02_1 7).b := by decide +kernel

theorem wit_PositionTimersRunOut :
    PortsOn w02_6 ∧ 1 ≤ rdN w02_6 (0x3200 + 0) 1 ∧ rdN w02_6 (0x3200 + 0) 1 ≤ 5 ∧ (pos w02_6 0).stamps = [19950000000, 5] ∧
    19950000000 + rdN w02_6 (0x3200 + 0) 37 * 1000000 ≤ nowNs w02_6 0 ∧
    PortsOn w02_7 ∧ (pos w02_7 0).pulseEnd = some 20000000000 ∧ 20000000000 ≤ nowNs w02_7 0 ∧
    PortsOn w02_8 ∧ rdN w02_8 (0x3200 + 0) 1 = 6 ∧ (pos w02_8 0).frameBusy = true ∧ (pos w02_8 0).frameAt + 10 * ssiHalf
      w02_8 0 * (rdN w02_8 (0x3200 + 0) 8 + 1) + 5 * rdN w02_8 (0x3200 + 0) 12 ≤ nowNs w02_8 0 ∧ (true && false) = false ∧
    PortsOn w02_8 ∧ rdN w02_8 (0x3200 + 0) 1 = 6 ∧ (pos w02_8 0).frameBusy = true ∧ (pos w02_8 0).frameAt + 10 * ssiHalf
      w02_8 0 * (rdN w02_8 (0x3200 + 0) 8 + 1) + 5 * rdN w02_8 (0x3200 + 0) 12 ≤ nowNs w02_8 0 ∧ (true && true) = true ∧ (pos
      w02_8 0).vPrev = none ∧
    PortsOn w02_10 ∧ rdN w02_10 (0x3200 + 0) 1 = 6 ∧ (pos w02_10 0).frameBusy = true ∧ (pos w02_10 0).frameAt + 10 * ssiHalf
      w02_10 0 * (rdN w02_10 (0x3200 + 0) 8 + 1) + 5 * rdN w02_10 (0x3200 + 0) 12 ≤ nowNs w02_10 0 ∧ (true && true) = true ∧
    (pos w02_10 0).vPrev = some 0x1F40 := by decide +kernel

theorem wit_PositionRequestsWaitForTick :
    Accepts w02_12 128 (0x3200 + 0) 128 (leBytes 4 (unsignedOf 4 (-5))) ∧
    Accepts w02_12 128 (0x3200 + 0) 137 (leBytes 1 1) ∧
    Accepts w02_12 128 (0x3210 + 0) 132 (leBytes 1 1) ∧
    Accepts w02_12 128 (0x3210 + 0) 132 (leBytes 1 2) := by decide +kernel


-- Chunk 03
def w03_0 : State := { live with meas := { calPhase := 1, calT := 100001, calSlice := 15 } }
def w03_1 : State := { live with meas := { calPhase := 2, calT := 99802, calSlice := 15 } }
def w03_2 : State := { live with meas := { calPhase := 3, calT := 99801, calSlice := 15 } }
def w03_3 : State := { live with meas := { calPhase := 3, calT := 99801, calSlice := 15, calOob := true } }
def w03_4 : State := { st [(0x3180, 0x24, 1, 1), (0x3170, 0x80, 1, 4)] with tick := 25499 }
def w03_6 : State := { st [(0x2200, 0x94, 1, 1)] with th := { hs := [(0, 470)], addH := 470 } }
def w03_7 : State := { st [(0x2200, 0x94, 1, 1), (0x2200, 0x92, 2, 15)] with th := { hs := [(0, 400)], removeAt := some 0 } }
def w03_8 : State := { st [(0x2200, 0x9C, 4, 1000)] with th := { stopAt := some 199990 } }
def w03_9 : State := st [(0x2200, 0x84, 4, 0x43070000), (0x2200, 0x85, 4, 0x43070000)]
def w03_10 : State := { live with th := { hold := 1, cool := 1000 } }

theorem wit_CalibrationAndInjection :
    UnitsOn w03_0 ∧ w03_0.meas.calPhase = 1 ∧ w03_0.meas.calT = w03_0.tick + 1 ∧ w03_0.meas.calSlice < 16 ∧ quiescing w03_0 =
      false ∧ (freeItem w03_0).isSome = true ∧ w03_0.meas.cmpFail = false ∧
    UnitsOn w03_1 ∧ w03_1.meas.calPhase = 2 ∧ w03_1.meas.calT + 198 = w03_1.tick ∧
    UnitsOn w03_2 ∧ w03_2.meas.calPhase = 3 ∧ w03_2.meas.calT + 199 = w03_2.tick ∧ w03_2.meas.calSlice < 16 ∧
    w03_2.meas.cmpFail = false ∧ w03_2.meas.calOob = false ∧
    UnitsOn w03_3 ∧ w03_3.meas.calPhase = 3 ∧ w03_3.meas.calT + 199 = w03_3.tick ∧ w03_3.meas.calSlice < 16 ∧
    (w03_3.meas.cmpFail || w03_3.meas.calOob) = true ∧
    UnitsOn w03_4 ∧ w03_4.counting = true ∧ rdF w03_4 0x3180 36 = true ∧ w03_4.meas.calStopped = false ∧ 17000 < w03_4.tick +
      1 ∧ (w03_4.tick + 1) % 17000 = 8500 ∧ rdN w03_4 0x3170 128 = 4 ∧
    UnitsOn w03_4 ∧ injStrong w03_4 = false ∧ (¬(11, 0) ∈ w03_4.conds) := by decide +kernel

theorem wit_CalibrationAndInjection_b :
    UnitsOn w03_4 := by decide +kernel

theorem wit_ThermalReadingsStand :
    Alive live := by decide +kernel

theorem wit_ThermalStages :
    Alive w03_6 ∧ rdN w03_6 0x2200 148 ≠ 0 ∧ w03_6.th.addAt + msT (rdN w03_6 0x2200 32) ≤ w03_6.now ∧
    Alive w03_7 ∧ rdN w03_7 0x2200 148 ≠ 0 ∧ 4 ≤ (List.filter (fun (n : Nat) => bit (rdN w03_7 0x2200 146) n) (List.range
      12)).length ∧ lastH w03_7 < thAt w03_7 110 ∧ w03_7.th.removeAt = some 0 ∧ 0 + msT (rdN w03_7 0x2200 33) ≤ w03_7.now ∧
    Alive w03_8 ∧ w03_8.th.stopAt = some 199990 ∧ rdN w03_8 0x2200 156 ≤ (w03_8.now - 199990) * 100 ∧
    Alive w03_9 ∧ 2 ≤ (List.filter (fun (n : Nat) => decide (mkRat (thAt w03_9 135) 4 ≤ F32.toRat (rdR w03_9 0x2200 (132 +
      n)))) (List.range 12)).length ∧
    w03_10.pw.off = false ∧ w03_10.th.hold ≠ 0 ∧ 1000 ≤ w03_10.th.cool := by decide +kernel


-- Chunk 04
def w04_0 : State := { live with cal := { secs := 12622780798 } }
def w04_1 : State := { st [(0x2300, 9, 1, 1)] with cal := { secs := 700000000 } }
def w04_2 : State := { st [(0x2300, 9, 1, 1), (0x2317, 1, 1, 1), (0x2317, 2, 8, 700000001), (0x2317, 0x85, 8, 700000000)] with
  cal := { secs := 700000000 } }
def w04_5 : State := { live with cal := { offDue := some true } }
def w04_7 : State := st [(0x2100, 0x81, 1, 1), (0x2200, 0x92, 2, 7), (0x2200, 0x84, 4, 0x43960000), (0x2200, 0x85, 4,
  0x43970000), (0x2200, 0x86, 4, 0x43980000)]
def w04_8 : State := { live with cal := { stage := [(5, ([(1, 2026)], 100000))] } }
def w04_10 : State := { live with cal := { secs := 86400, shadows := [{ client := 5, at_ := 199999, secs := 86399, sub := 0 }] } }
def w04_11 : Shadow := { client := 5, at_ := 199999, secs := 86399, sub := 0 }
def w04_14 : State := { st [(0x2300, 9, 1, 1)] with cal := { secs := 86400 } }

theorem wit_SecondsPulseAndAlarms :
    w04_0.cal.stopped = false ∧ w04_0.cal.secs < calMax ∧
    Alive w04_1 ∧ w04_1.cal.stopped = false ∧ w04_1.cal.secs < calMax ∧ calValid w04_1 = true ∧
    Alive w04_0 ∧
    w04_2.cal.stopped = false ∧ w04_2.cal.secs < calMax ∧ calValid w04_2 = true ∧ rdN w04_2 (0x2310 + 7) 1 = 1 ∧ rdN w04_2
      (0x2310 + 7) 2 = w04_2.cal.secs + 1 ∧ rdN w04_2 (0x2310 + 7) 133 < w04_2.cal.secs + 1 := by decide +kernel

theorem wit_BackupDomainEvents :
    w04_5.cal.offDue = some true ∧
    Alive w04_7 ∧ (rdBit w04_7 0x2100 129 0 || rdBit w04_7 0x2100 129 1) = true ∧ List.filter (fun (n : Nat) => bit (rdN
      w04_7 0x2200 146) n) (List.range 12) ≠ [] := by decide +kernel

theorem wit_CalendarStagingAndCommit :
    5 < (if 5 = 1 then 65536 else 256) ∧ Accepts live 5 0x2300 5 (leBytes (if (5 == 1) = true then 2 else 1) 5) ∧
    Served w04_8 ∧ w04_8.cal.stage.find 5 = some ([(1, 2026)], 100000) ∧ 100000 + 100000 ≤ w04_8.now ∧
    Served live ∧ List.find? (fun (x : Shadow) => x.client == 5) live.cal.shadows = none ∧
    Served w04_10 ∧ List.find? (fun (x : Shadow) => x.client == 5) w04_10.cal.shadows = some w04_11 ∧
    Served live := by decide +kernel

theorem wit_CalendarStagingAndCommit_b :
    Accepts live 5 0x2300 6 (leBytes 1 5) ∧ 2000 ≤ (calWanted live 5 1) ∧ (calWanted live 5 1) ≤ 2399 ∧ 1 ≤ (calWanted live 5
      2) ∧ (calWanted live 5 2) ≤ 12 ∧ 1 ≤ (calWanted live 5 3) ∧ (calWanted live 5 3) ≤ monthDays (calWanted live 5 1)
      (calWanted live 5 2) := by decide +kernel

theorem wit_AdjustmentsAndAlarmWrites :
    -2 ^ 31 ≤ 2000 ∧ Accepts w04_14 2 0x2300 11 (leBytes 4 (unsignedOf 4 2000)) ∧ -2000 ≤ ↑2000 + slewLeft w04_14 ∧ ↑2000 +
      slewLeft w04_14 ≤ 2000 ∧
    -2 ^ 31 ≤ 2001 ∧ Accepts w04_14 2 0x2300 11 (leBytes 4 (unsignedOf 4 2001)) ∧ (↑2001 + slewLeft w04_14 < -2000 ∨ 2000 <
      ↑2001 + slewLeft w04_14) ∧ 0 ≤ calCounts w04_14 + roundRat ((↑2001 + slewLeft w04_14) * 32768 / 1000) ∧ calCounts
      w04_14 + roundRat ((↑2001 + slewLeft w04_14) * 32768 / 1000) < (↑calMax + 1) * 32768 ∧
    (2 = 1 ∨ 2 = 2) ∧ Accepts w04_14 2 (0x2310 + 0) 2 (leBytes 8 99) := by decide +kernel


-- Chunk 05
def w05_0 : State := { st [(0x2300, 0x82, 1, 1)] with pw := { off := true }, cal := { pwron := true } }
def w05_1 : State := { live with rst := { phase := 5, causes := [], wdAge := 1000 } }
def w05_2 : State := { live with tap := { hold := true } }
def w05_3 : State := { live with th := { hold := 2, cool := 1000 } }
def w05_4 : State := { st [(0x2100, 0x80, 1, 3)] with pfw := true }
def w05_5 : State := { State.reset with rst := { phase := 1, causes := [], romHold := true } }
def w05_6 : State := { State.reset with rst := { phase := 1, causes := [] } }
def w05_7 : State := { live with rst := { phase := 2, causes := [] } }
def w05_8 : State := { live with rst := { phase := 3, causes := [] } }
def w05_9 : State := { live with rst := { phase := 4, causes := [] } }
def w05_10 : State := { st [(0x1FF0, 0x80, 1, 0x7F)] with
  counting := false,
  net := { bootAt := some 0, nmtDue := [(200001, 1)] } }
def w05_11 : State := { st [(0x1FF0, 0x80, 1, 0x7F)] with
  counting := false,
  rst := { phase := 5, causes := [], startMode := true } }
def w05_12 : State := { live with fw := { restartAt := some 200001 } }
def w05_13 : State := { live with tickRun := false }

theorem wit_ResetsLeaveTheResetState :
    live.pw.off = false ∧
    w05_0.pw.off = true ∧ w05_0.cal.pwron = true ∧ rdN w05_0 0x2300 130 ≤ 2 ∧
    Alive w05_1 ∧ 1000 ≤ w05_1.rst.wdAge ∧
    w05_2.pw.off = false ∧ w05_2.tap.hold = true ∧
    w05_3.pw.off = false ∧ w05_3.th.hold ≠ 0 ∧ 1000 ≤ w05_3.th.cool ∧
    Alive w05_4 ∧ rdN w05_4 0x2100 128 = 3 ∧ w05_4.pw.recordAt = none := by decide +kernel

theorem wit_ReleaseRunsTheBootRom :
    State.reset.inReset = true ∧ State.reset.rst.phase = 0 ∧ State.reset.rst.causes ≠ [] ∧ State.reset.th.hold = 0 ∧
    State.reset.tap.hold = false ∧ State.reset.pw.off = false ∧
    w05_5.rst.phase = 1 ∧ w05_5.rst.romHold = true ∧ w05_5.th.hold = 0 ∧ w05_5.pw.off = false ∧
    w05_5.rst.phase = 1 ∧ w05_5.rst.romHold = true ∧ w05_5.th.hold = 0 ∧ w05_5.pw.off = false ∧ (bootChoice { w05_5 with rst
      := { (w05_5.rst) with retries := w05_5.rst.retries + 1 } } true true).snd = some (0, false) := by decide +kernel

theorem wit_StartUpStepsFollow :
    w05_6.rst.phase = 1 ∧ w05_6.rst.romHold = false ∧ w05_6.th.hold = 0 ∧ w05_6.pw.off = false ∧
    Alive w05_7 ∧ w05_7.rst.phase = 2 ∧
    Alive w05_8 ∧ w05_8.rst.phase = 3 ∧
    Alive w05_9 ∧ w05_9.rst.phase = 4 ∧ w05_9.rst.nmtReset = false ∧ inPair w05_9 = false := by decide +kernel

theorem wit_OperationalTickStartsTheCount :
    Alive w05_10 ∧ w05_10.counting = false ∧ (w05_10.net.nmtDue.any fun (p : Nat × Nat) => decide (p.fst ≤ w05_10.now + 1) &&
      p.snd == 1) = true ∧
    Alive w05_11 ∧ autostartAt w05_11 = some 2000 ∧ 2000 ≤ w05_11.now + 1 ∧
    Alive w05_10 ∧ w05_10.tickRun = true ∧
    Alive w05_12 ∧ w05_12.tickRun = true ∧ w05_12.fw.restartAt = some 200001 ∧ 200001 ≤ w05_12.now + 1 ∧
    w05_13.tickRun = false := by decide +kernel

theorem wit_LossesOfClocksAndMemory :
    Alive live := by decide +kernel

theorem wit_TapInstructions :
    live.pw.off = false ∧
    live.pw.off = false ∧ live.tap.hold = false := by decide +kernel


-- Chunk 06
def w06_0 : State := { live with staged := [(key 0x303F 1, [5#8])] }
def w06_1 : State := { live with staged := [(key 0x303F 5, [1#8])] }
def w06_2 : State := { st [(0x2000, 0x11, 1, 2), (0x2000, 0x12, 4, 1), (0x2000, 0x13, 4, 4294967295)] with
  staged := [(key 0x303F 1, [5#8])],
  commitDue := some (200001, 5) }
def w06_6 : State := { live with groups := [gBad] }
def w06_8 : State := { live with groups := [{ client := 5, items := [], lastAt := 100000 }] }
def w06_10 : State := { live with groups := [gFull] }
def w06_11 : State := { st [(0x2700, 4, 4, 0x80000001), (0x2700, 0x83, 4, 1)] with conds := [(96, 0)] }
def w06_12 : State := { live with store := { active := some { item := none, client := none, work := .coupling } } }
def w06_13 : StoreReq := { item := none, client := none, work := .coupling }
def w06_14 : State := { live with
  store := { active := some sreq, writes := [(0x100, 1, .params []), (0x200, 1, .params [])] },
  work := [(3, item)] }
def w06_15 : State := { live with store := { active := some sreq, writes := [(0x100, 1, .params [])] }, work := [(3, item)] }
def w06_16 : State := { st [(0x2400, 0x99, 2, 200)] with
  store := { active := some sreq, writes := [(0x100, 1, .params [])] },
  work := [(3, item)] }
def w06_17 : State := { live with
  store := { active := some sreq, writes := [(0x100, 1, .params [])], attempt := 1 },
  work := [(3, item)] }
def w06_18 : State := { st [(0x2710, 0x84, 4, 6)] with log := [entry 8, entry 7, entry 6], logStore := [entry 6] }
def w06_19 : State := { st [(0x2710, 0x80, 4, 9)] with log := [entry 8, entry 7, entry 6], logPos := [(5, 7)] }

theorem wit_WritesGoByTheirEffect :
    Accepts live 2 0x2500 2 (leBytes 2 1000) ∧ Plain 0x2500 2 (row 0x2500 2) ∧ ((row 0x2500 2).eff = Eff.tick ∨ (row 0x2500
      2).eff = Eff.period) ∧
    Accepts live 2 0x1005 0 (leBytes 4 129) ∧ Plain 0x1005 0 (row 0x1005 0) ∧ (row 0x1005 0).eff = Eff.restart ∧
    Accepts live 2 0x2500 3 (leBytes 2 1000) ∧ Plain 0x2500 3 (row 0x2500 3) ∧ ((row 0x2500 3).eff = Eff.imm ∨ (row 0x2500
      3).eff = Eff.none) := by decide +kernel

theorem wit_StructuralWritesAreStaged :
    structural 0x303F 1 = true ∧ rowOf 0x303F 1 = some (row 0x303F 1) ∧ Accepts live 1 0x303F 1 (leBytes 1 10) ∧
    Accepts live 1 0x2000 16 (leBytes 1 2) ∧
    live.staged = [] ∧ Accepts live 1 0x2000 16 (leBytes 1 1) := by decide +kernel

theorem wit_CommitIsCheckedThenDue :
    w06_0.staged ≠ [] ∧ Accepts w06_0 5 0x2000 16 (leBytes 1 1) ∧ (commitRefusal w06_0).fst = 0 ∧
    w06_1.staged ≠ [] ∧ Accepts w06_1 5 0x2000 16 (leBytes 1 1) ∧ (commitRefusal w06_1).fst ≠ 0 ∧ (commitRefusal w06_1).fst <
      2 ^ 32 ∧
    Alive w06_2 ∧ quiescing w06_2 = false ∧ controlDue w06_2 = false ∧ 200001 ≤ w06_2.now + 1 ∧ w06_2.commitDue = some
      (200001, 5) := by decide +kernel

/-- A group whose calendar fields name no date that exists. -/
def gHeld : Group := { client := 5, items := [(0x2300, 1, leBytes 2 2026), (0x2300, 2, leBytes 1 2), (0x2300, 3, leBytes 1 30), (0x2300, 6, leBytes 1 0)], lastAt := 199999 }
def w06_20 : State := { live with groups := [gHeld] }
def w06_21 : State := { live with groups := [gGood] }
def gEmpty : Group := { client := 5, items := [], lastAt := 100000 }

theorem wit_WriteGroups :
    Accepts w06_20 1 0x2000 23 (leBytes 1 1) ∧
    Served w06_20 ∧ writeRefusal w06_20 5 0x2000 23 (leBytes 1 3) Via.one = 0 ∧ groupOf w06_20 5 = some gHeld ∧
    Served w06_6 ∧ writeRefusal w06_6 5 0x2000 23 (leBytes 1 2) Via.one = 0 ∧ groupOf w06_6 5 = some gBad ∧ listBroken
      { w06_6 with groups := List.filter (fun (x : Group) => x.client != 5) w06_6.groups } gBad.items = true ∧
    Served w06_20 ∧ writeRefusal w06_20 5 0x2000 23 (leBytes 1 2) Via.one = 0 ∧ groupOf w06_20 5 = some gHeld ∧ listBroken
      { w06_20 with groups := List.filter (fun (x : Group) => x.client != 5) w06_20.groups } gHeld.items = false ∧
      heldRefusal { w06_20 with groups := List.filter (fun (x : Group) => x.client != 5) w06_20.groups } 5 7 gHeld.items =
      some 101253168 ∧
    Served w06_21 ∧ writeRefusal w06_21 5 0x2000 23 (leBytes 1 2) Via.one = 0 ∧ groupOf w06_21 5 = some gGood ∧ listBroken
      { w06_21 with groups := List.filter (fun (x : Group) => x.client != 5) w06_21.groups } gGood.items = false ∧
      heldRefusal { w06_21 with groups := List.filter (fun (x : Group) => x.client != 5) w06_21.groups } 5 7 gGood.items =
      none ∧
    Served w06_8 ∧ groupOf w06_8 5 = some gEmpty ∧ gEmpty.lastAt + 100000 ≤ w06_8.now := by decide +kernel

theorem wit_WriteGroups_b :
    Served w06_20 ∧ groupOf w06_20 5 = some gHeld ∧ (¬(0x2500 = 0x2000 ∧ 1 = 23)) ∧ writeRefusal w06_20 5 0x2500 1 (leBytes 1
      1) Via.one = 0 ∧ gHeld.items.length < 64 ∧ List.foldl (fun (x1 x2 : Nat) => x1 + x2) 0 (List.map (fun (i : Nat × Nat ×
      List Byte) => i.snd.snd.length) (gHeld.items ++ [(0x2500, 1, leBytes 1 1)])) ≤ 4096 ∧
    Served w06_10 ∧ groupOf w06_10 5 = some gFull ∧ (¬(0x2500 = 0x2000 ∧ 1 = 23)) ∧ writeRefusal w06_10 5 0x2500 1 (leBytes 1
      1) Via.one = 0 ∧ (64 ≤ gFull.items.length ∨ 4096 < List.foldl (fun (x1 x2 : Nat) => x1 + x2) 0 (List.map (fun (i : Nat
      × Nat × List Byte) => i.snd.snd.length) (gFull.items ++ [(0x2500, 1, leBytes 1 1)]))) ∧
    Served w06_20 ∧ groupOf w06_20 5 = some gHeld ∧ existence w06_20 0x303F 1 = 0 ∧ (structural 0x303F 1 = true ∨ ttStaged
      0x303F 1 = true ∨ 0x303F = 0x2000 ∧ 1 = 16 ∨ 0x303F = 0x4F00 ∧ 1 = 128 ∨ 0x303F = 0x1010 ∨ 0x303F = 0x1011) ∧
    [gGood].length = w06_20.groups.length := by decide +kernel

theorem wit_ClearTakesSettledPennants :
    Accepts w06_11 2 0x2700 (17 + 0) (leBytes 4 2) := by decide +kernel

theorem wit_StoreCommandsBegin :
    Accepts live 5 0x1010 1 (leBytes 4 1702257011) ∧ live.store.active = none ∧ live.store.queue = [] ∧ freeItem live = some
      0 ∧
    Accepts live 5 0x1011 1 (leBytes 4 1684107116) ∧ live.store.active = none ∧ live.store.queue = [] ∧ freeItem live = some
      0 ∧
    Accepts w06_12 5 0x1010 1 (leBytes 4 1702257011) ∧ freeItem w06_12 = some 0 ∧ w06_12.store.active = some w06_13 ∧
    Accepts w06_12 5 0x1011 1 (leBytes 4 1684107116) ∧ freeItem w06_12 = some 0 ∧ w06_12.store.active = some w06_13 := by decide +kernel

/-- A header whose CRCs check, of an empty payload. -/
def hdrGood : List Byte := List.replicate 28 0#8 ++ leBytes 4 (crc32 (List.replicate 28 0#8))

theorem wit_BankWriteCompletes :
    Alive w06_14 ∧ w06_14.store.active = some sreq ∧ w06_14.store.writes = [(256, 1, Payload.params []), (512, 1,
      Payload.params [])] ∧ bankCrcsOk hdrGood [] = true ∧ [(512, 1, Payload.params [])] ≠ [] ∧ (∀ (b : Bank), newest
      (storeRecord w06_14 256) = some b → b.seq < 2 ^ 32) ∧
    Alive w06_15 ∧ w06_15.store.active = some sreq ∧ w06_15.store.writes = [(256, 1, Payload.params [])] ∧ bankCrcsOk hdrGood
      [] = true ∧ ([] : List Byte) = [] ∧ w06_15.store.queue = [] ∧ sreq.item = some 3 ∧ w06_15.work.find 3 = some item ∧
    item.state < 2 ∧
    Alive w06_16 ∧ w06_16.store.active = some sreq ∧ w06_16.store.writes = [(256, 1, Payload.params [])] ∧ bankCrcsOk hdrGood
      hdrGood = false ∧ w06_16.store.attempt = 0 ∧ bankKB 256 ≤ rdN w06_16 0x2400 153 ∧
    Alive w06_17 ∧ w06_17.store.active = some sreq ∧ w06_17.store.writes = [(256, 1, Payload.params [])] ∧ bankCrcsOk hdrGood
      hdrGood = false ∧ w06_17.store.attempt ≠ 0 ∧ w06_17.store.queue = [] ∧ sreq.item = some 3 ∧ w06_17.work.find 3 = some
      item ∧ item.state < 2 := by decide +kernel

theorem wit_LogMirrorAndReads :
    Alive w06_18 ∧ List.filter (fun (e : LogEntry) => w06_18.logStore.isEmpty || decide (rdN w06_18 0x2710 132 < e.num))
      w06_18.log ≠ [] ∧
    Served w06_19 ∧ logEntry w06_19 (logPosOf w06_19 5) = some (entry 7) ∧
    Served w06_19 ∧ logRun w06_19 (logPosOf w06_19 5) 256 ≠ [] := by decide +kernel


-- Chunk 07
def w07_0 : State := st [(0x3403, 0x87, 1, 1)]
def w07_1 : State := { st [(0x3400, 1, 1, 1)] with
  loops := [(3, { swap := some { bank := 1, kdOld := 0, due := 200001, inSet := true } })] }
def w07_2 : Swap := { bank := 1, kdOld := 0, due := 200001, inSet := true }
def w07_3 : State := st [(0x3403, 0x87, 1, 4)]
def w07_4 : State := st [(0x3E00, 0x80, 1, 1)]
def pwR : PendingWrite := { client := 5, due := 0, period := false, idx := 0x3400, sub := 0x63, data := [5#8] }
def pwQ : PendingWrite := { client := 5, due := 0, period := false, idx := 0x3C05, sub := 0x86, data := [1#8] }
def pwL : PendingWrite := { client := 5, due := 0, period := false, idx := 0x3C85, sub := 0x89, data := [1#8] }
def pwG : PendingWrite := { client := 5, due := 0, period := false, idx := 0x2000, sub := 0x17, data := [] }
def pwF : PendingWrite := { client := 5, due := 300000, period := false, idx := 0x2000, sub := 0x17, data := [] }
def w07_11 : State := { live with pendingWrites := [pwF] }
def w07_13 : State := { st [(0x2300, 9, 1, 1), (0x4F00, 0x61, 1, 1)] with tt := { pulse := true } }
def w07_14 : State := { live with tt := { pulse := true } }
def w07_15 : State := { live with
  tt := { due := [{ at_ := 200001, supply := [(1, true, 3, 0)], chan := [], words := [], commits := false }] } }
def w07_16 : WalkDue := { at_ := 200001, supply := [(1, true, 3, 0)], chan := [], words := [], commits := false }
def w07_17 : State := { live with ttStaged := [(key 0x4F00 1, [1#8])] }
def w07_18 : State := { live with ttStaged := [(key 0x4F10 2, leBytes 8 5)] }

theorem wit_BankSwapsAreMarkedThenMade :
    Accepts w07_0 5 (0x3400 + 3) 132 (leBytes 1 1) ∧ swapRefusal w07_0 3 = 0 ∧ (∀ (k : Nat), k ∈ swapMembers w07_0 3 → k <
      1024) ∧
    UnitsOn w07_1 ∧ evaluates w07_1 = true ∧ controlDue w07_1 = false ∧ commitNext w07_1 = false ∧ loopState w07_1 3 ≠ 4 ∧
    loopState w07_1 3 ≠ 5 ∧ (loopOf w07_1 3).swap = some w07_2 ∧ w07_2.due ≤ w07_1.now + 1 ∧ w07_2.bank < 2 ∧ (w07_2.inSet =
      true ∨ loopBoundary w07_1 3 (tickAt w07_1 (w07_1.now + 1)) = true ∧ loopState w07_1 3 ≠ 6) := by decide +kernel

theorem wit_LoopAndZoneRequestsWait :
    Accepts w07_3 5 (0x3400 + 3) 133 (leBytes 1 1) ∧ bankFault w07_3 3 (activeBank w07_3 3) = 0 ∧
    Accepts w07_3 5 (0x3400 + 5) 129 (leBytes 1 0x3400) ∧
    Accepts w07_3 5 (0x3C00 + 5) 134 (leBytes 1 1) ∧
    Accepts w07_3 5 (0x3C80 + 5) 137 (leBytes 1 1) ∧
    Accepts w07_3 5 (0x3C80 + 5) 137 (leBytes 1 2) ∧
    Accepts w07_3 5 0x3E00 16 (leBytes 1 1) := by decide +kernel

theorem wit_LoopAndZoneRequestsWait_b :
    Accepts w07_4 5 0x3E00 16 (leBytes 1 2) ∧
    Accepts w07_3 5 0x3E00 16 (leBytes 1 3) := by decide +kernel

def w07_20 : State := { st [(0x3C85, 0x2F, 1, 1)] with now := 36000000 }

theorem wit_DueWritesAndLearnedSaves :
    pwR.idx = 0x3400 ∧ pwR.sub = 99 ∧ (¬(0x3400 = 0x2100 ∧ 99 = 16)) ∧ (¬(within 0x3400 0x3C00 15423 = true ∧ 99 = 134)) ∧
    (¬(within 0x3400 0x3C80 15551 = true ∧ 99 = 137)) ∧ (¬(within 0x3400 0x3300 0x3301 = true ∧ 99 = 128)) ∧ Plain 0x3400 99
      (row 0x3400 99) ∧ ((row 0x3400 99).eff = Eff.tick ∨ (row 0x3400 99).eff = Eff.period) ∧
    pwQ.sub = 134 ∧ pwQ.idx = 0x3C00 + 5 ∧
    pwL.sub = 137 ∧ leNat pwL.data = 1 ∧ pwL.idx = 0x3C80 + 5 ∧
    pwG.idx = 0x2000 ∧ pwG.sub = 23 ∧ pwG.client ≤ 128 ∧
    w07_11.now < pwF.due ∧
    UnitsOn w07_20 ∧ w07_20.store.couplingAt + 36000000 ≤ w07_20.now ∧ quiescing w07_20 = false ∧ w07_20.store.active = none
      ∧ w07_20.store.queue = [] ∧ freeItem w07_20 = some 0 ∧ 5 < (if w07_20.zh6432 = true then 32 else 64) ∧ rdN w07_20
      (0x3C80 + 5) 47 = 1 := by decide +kernel

theorem wit_WalksComeIntoForceLater :
    UnitsOn w07_13 ∧ w07_13.tt.pulse = true ∧ walks w07_13 = true ∧ w07_13.tt.commit = none ∧
    UnitsOn w07_14 ∧ w07_14.tt.pulse = true ∧ walks w07_14 = false ∧
    UnitsOn w07_15 ∧ w07_16.at_ ≤ w07_15.now + 1 ∧ w07_15.tt.due = [w07_16] := by decide +kernel

theorem wit_TimetableIsStagedAndCommitted :
    ttStaged 0x5003 5 = true ∧ Accepts live 5 0x5003 5 (leBytes 16 0) ∧
    Accepts live 5 0x4F00 128 (leBytes 1 2) ∧
    Accepts live 5 0x4F00 128 (leBytes 1 1) ∧ live.ttStaged = [] ∧
    Accepts w07_17 5 0x4F00 128 (leBytes 1 1) ∧ w07_17.ttStaged ≠ [] ∧ ttCommitRefusal w07_17 = 0 ∧
    Accepts w07_18 5 0x4F00 128 (leBytes 1 1) ∧ w07_18.ttStaged ≠ [] ∧ ttCommitRefusal w07_18 ≠ 0 ∧ ttCommitRefusal w07_18 <
      2 ^ 32 := by decide +kernel


-- Chunk 08
def p5 : List (Nat × Nat × Nat × Nat) := [(0x3300, 1, 1, 1), (0x3300, 0x83, 1, 3), (0x3300, 0x26, 2, 100)]
def w08_1 : State := { st p5 with panels := [(0, { queued := some (none, false, 7) })] }
def w08_2 : State := st [(0x3300, 1, 1, 1), (0x3300, 0x83, 1, 1)]
def w08_3 : State := { st [(0x3300, 1, 1, 1), (0x3300, 0x83, 1, 2)] with panels := [(0, { cls := 1, onStep := 2 })] }
def w08_4 : State := { st p5 with panels := [(0, { offKind := 1, offStep := 2, en := 3 })] }
def w08_5 : State := { st p5 with panels := [(0, { offKind := 1, offStep := 3, en := 3 })] }
def w08_6 : State := { st p5 with panels := [(0, { lightAt := some 5 })] }
def w08_7 : State := { st p5 with now := 36000000, panels := [(0, {})] }
def pwP : PendingWrite := { client := 5, due := 0, period := false, idx := 0x2100, sub := 0x10, data := [1#8] }
def pwS : PendingWrite := { client := 5, due := 0, period := false, idx := 0x2100, sub := 0x10, data := [5#8] }
def w08_10 : State := st [(0x2100, 0x81, 1, 3)]
def w08_11 : State := { st [(0x2110, 1, 1, 1)] with pw := { feeds := [(0, { nextClose := some 19999000000 })] } }
def w08_12 : State := { st [(0x2110, 1, 1, 1), (0x2110, 0x84, 1, 3)] with pw := { feeds := [(0, { last := some 100 })] } }
def w08_13 : State := { st [(0x2100, 0x85, 1, 2)] with pw := { shedLow := 100000000 } }
def w08_14 : State := { st [(0x2110, 1, 1, 1), (0x3003, 1, 1, 7)] with pw := { feeds := [(0, { seen := 100 })] } }
def w08_15 : State := { st [(0x2110, 1, 1, 1), (0x3003, 1, 1, 7), (0x3003, 7, 1, 1), (0x3003, 0x27, 2, 0)] with
  pw := { feeds := [(0, { lastPos := some 19980000000, periods := [20000000] })] } }
def w08_16 : State := { st [(0x2110, 1, 1, 1), (0x3003, 1, 1, 7), (0x3003, 0x27, 2, 0), (0x3003, 7, 1, 0)] with
  ports := [(3, { zxDue := some 19990000000 })],
  pw := { feeds := [(0, { last := some 19980000000, periods := [20000000] })] } }

theorem wit_PanelRequestsAreQueued :
    Accepts (st ((0x3300, 36, 1, 1) :: p5)) 5 (0x3300 + 0) 129 (leBytes 1 1) ∧ (panel (st ((0x3300, 36, 1, 1) :: p5))
      0).queued = none ∧ freeItem (st ((0x3300, 36, 1, 1) :: p5)) = some 0 ∧
    Accepts (st ((0x3300, 36, 1, 1) :: p5)) 5 (0x3300 + 0) 129 (leBytes 1 2) ∧ (panel (st ((0x3300, 36, 1, 1) :: p5))
      0).queued = none ∧ freeItem (st ((0x3300, 36, 1, 1) :: p5)) = some 0 ∧
    Accepts w08_1 5 (0x3300 + 0) 129 (leBytes 1 2) ∧ (panel w08_1 0).queued = some (none, false, 7) ∧
    Accepts w08_2 5 (0x3300 + 0) 129 (leBytes 1 3) ∧
    Accepts (st ((0x3300, 36, 1, 1) :: p5)) 5 (0x3300 + 0) 129 (leBytes 1 4) ∧
    Accepts (st ((0x3300, 36, 1, 1) :: p5)) 5 (0x3300 + 0) 128 (leBytes 8 0) ∧ (rdF (st ((0x3300, 36, 1, 1) :: p5)) (0x3300 +
      0) 36 = false ∨ 0 = rdN (st ((0x3300, 36, 1, 1) :: p5)) (0x3300 + 0) 128) := by decide +kernel

theorem wit_PanelRequestsAreQueued_b :
    Accepts w08_2 5 (0x3340 + 0) 176 (leBytes 1 1) ∧
    rdF (st ((0x3300, 36, 1, 1) :: p5)) (0x3300 + 0) 36 = true ∧ ppState (st ((0x3300, 36, 1, 1) :: p5)) 0 ≠ 0 ∧ (panel (st
      ((0x3300, 36, 1, 1) :: p5)) 0).queued = none ∧ freeItem (st ((0x3300, 36, 1, 1) :: p5)) = some 0 ∧ Accepts (st
      ((0x3300, 36, 1, 1) :: p5)) 5 (0x3300 + 0) 128 (leBytes 8 5) ∧ 5 ≠ rdN (st ((0x3300, 36, 1, 1) :: p5)) (0x3300 + 0) 128 := by decide +kernel

theorem wit_PanelTimersStep :
    Alive w08_3 ∧ ppState w08_3 0 = 2 ∧ ((panel w08_3 0).onStep = 1 ∨ (panel w08_3 0).onStep = 2) ∧ (panel w08_3 0).onAt +
      rdN w08_3 (0x3300 + 0) 38 * 10 ≤ w08_3.now ∧
    w08_6.zh6432 = false ∧
    Alive w08_4 ∧ (panel w08_4 0).offKind = 1 ∧ (panel w08_4 0).offStep = 2 ∧ (panel w08_4 0).offAt + 10 ≤ w08_4.now ∧
    Alive w08_5 ∧ (panel w08_5 0).offKind = 1 ∧ (panel w08_5 0).offStep = 3 ∧ (panel w08_5 0).offAt + 110 ≤ w08_5.now ∧
    ppState w08_5 0 ≠ 7 ∧ rdN w08_5 (0x3300 + 0) 1 ≠ 0 ∧
    Alive w08_6 ∧ (panel w08_6 0).lightAt = some 5 ∧ 5 + 200 ≤ w08_6.now ∧
    Alive w08_7 ∧ 2 ≤ ppState w08_7 0 ∧ ppState w08_7 0 ≤ 4 ∧ (panel w08_7 0).recAt + 36000000 ≤ w08_7.now ∧ quiescing w08_7
      = false ∧ w08_7.store.active = none ∧ w08_7.store.queue = [] ∧ freeItem w08_7 = some 0 := by decide +kernel

def w08_20 : State := { live with pw := { entry := some (196900, true) } }

theorem wit_PowerCommandsWaitThenAct :
    Accepts w08_20 5 0x2100 16 (leBytes 1 0) ∧
    rdN w08_20 0x2100 128 ≤ 1 ∧ pwP.idx = 0x2100 ∧ pwP.sub = 16 ∧ pwP.data = leBytes 1 1 ∧
    rdN w08_20 0x2100 128 ≤ 1 ∧ pwS.idx = 0x2100 ∧ pwS.sub = 16 ∧ pwS.data = leBytes 1 5 ∧ (5 = 4 ∨ 5 = 5) ∧
    196900 + 3100 ≤ w08_20.now ∧ w08_20.pw.entry = some (196900, true) := by decide +kernel

theorem wit_SupplyEvents :
    Alive live ∧ rdN live 0x2100 128 ≠ 3 ∧ live.pw.recordAt = none ∧
    alive State.reset = false ∧
    (alive live && rdN live 0x2100 128 == 3) = false ∧
    rdBit w08_10 0x2100 129 0 = true ∧
    Alive w08_10 ∧ rdBit w08_10 0x2100 129 0 = true ∧
    Alive live := by decide +kernel

theorem wit_MainsAndCrossingEvents :
    UnitsOn w08_11 ∧ feedOn w08_11 0 = true ∧ (feed w08_11 0).nextClose = some 19999000000 ∧ 19999000000 ≤ ↑(nowNs w08_11 0) ∧
    UnitsOn w08_12 ∧ rdBit w08_12 (0x2110 + 0) 132 0 = true ∧ ↑((feed w08_12 0).last.getD 0) + 25000000 ≤ ↑(nowNs w08_12 0) ∧
    Alive w08_13 ∧ shedTarget w08_13 < rdN w08_13 0x2100 133 ∧ rdN w08_13 0x2100 32 * 10000 ≤ w08_13.pw.shedLow ∧
    PortsOn w08_14 ∧ rdN w08_14 (0x3000 + 3) 1 = 7 ∧ (port w08_14 3).zxLost = false ∧ (feed w08_14 (rdN w08_14 (0x3000 + 3)
      4)).seen + 25000000 ≤ nowNs w08_14 0 ∧
    PortsOn w08_15 ∧ rdN w08_15 (0x3000 + 3) 1 = 7 ∧ rdN w08_15 (0x3000 + 3) 7 = 1 ∧ (port w08_15 3).zxLost = false ∧ rdBit
      w08_15 (0x2110 + rdN w08_15 (0x3000 + 3) 4) 132 4 = false ∧ (feed w08_15 (rdN w08_15 (0x3000 + 3) 4)).lastPos = some
      19980000000 ∧ meanPeriod (feed w08_15 (rdN w08_15 (0x3000 + 3) 4)) = some 20000000 ∧ edgeDue (↑19980000000) 20000000
      (↑(rdN w08_15 (0x3000 + 3) 39 * 1000)) (↑(nowNs w08_15 0)) ((port w08_15 3).zxUsed + 20000000 / 2) = some 20000000000 := by decide +kernel

theorem wit_MainsAndCrossingEvents_b :
    PortsOn w08_16 ∧ rdN w08_16 (0x3000 + 3) 1 = 7 ∧ rdN w08_16 (0x3000 + 3) 7 ≠ 1 ∧ (port w08_16 3).zxLost = false ∧ rdBit
      w08_16 (0x2110 + rdN w08_16 (0x3000 + 3) 4) 132 4 = false ∧ (port w08_16 3).zxDue = some 19990000000 ∧ (feed w08_16
      (rdN w08_16 (0x3000 + 3) 4)).last = some 19980000000 ∧ meanPeriod (feed w08_16 (rdN w08_16 (0x3000 + 3) 4)) = some
      20000000 ∧ edgeDue (↑19980000000) (20000000 / 2) (↑(rdN w08_16 (0x3000 + 3) 39 * 1000)) (↑(nowNs w08_16 0))
      (↑19990000000 + ↑(rdN w08_16 (0x3000 + 3) 39 * 1000)) = some 20000000000 := by decide +kernel


-- Chunk 09
def c2 : List (Nat × Nat × Nat × Nat) := [(0x2800, 0x80, 1, 2)]
def f1 : Frame := { id := 0x123, data := [1#8, 2#8] }
def f2 : Frame := { id := 0x124, data := [3#8] }
def q3 : Filter := { enabled := true, ide := false, id := 0x120, mask := 0x7F0, target := 3, reader := 1 }
def q64 : Filter := { enabled := true, ide := false, id := 0x120, mask := 0x7F0, target := 64, reader := 1 }
def w09_7 : State := { st c2 with cans := [(0, { table0 := [q3], bufs := [(3, { frame := some f2, isNew := true })] })] }
def w09_8 : State := { st c2 with
  cans := [(0, { table0 := [q3], bufs := [(3, { frame := some f2, isOpen := true, shadow := some f2 })] })] }
def w09_9 : State := { st c2 with cans := [(0, { table0 := [q64] })] }
def w09_12 : State := { st c2 with cans := [(0, { realloc := true })] }
def w09_13 : State := st [(0x2800, 0x80, 1, 6), (0x2800, 0x81, 1, 1)]
def w09_15 : TxFrame := { frame := f1, pdo := true, at_ := 200000 }
def w09_16 : State := { st ((0x2800, 0x82, 1, 1) :: c2) with
  cans := [(0, { txq := [{ frame := f2, pdo := true, at_ := 200000 }, { frame := f1, pdo := true, at_ := 200000 }] })] }
def w09_18 : State := { w09_16 with dict := (st c2).dict }
def w09_17 : State := st [(0x2800, 0x80, 1, 4), (0x2800, 0x0D, 1, 1)]
def w09_19 : State := st [(0x2800, 0x80, 1, 5), (0x2800, 0x83, 2, 250)]
def w09_20 : State := st [(0x2800, 0x80, 1, 1)]

theorem wit_CanReceptionAndRelease :
    Alive w09_7 ∧ (canState w09_7 0 = 2 ∨ canState w09_7 0 = 3 ∨ canState w09_7 0 = 6) ∧ f1.rtr = false ∧ (f1.fd = true → rdF
      w09_7 (0x2800 + 0) 9 = true) ∧ List.find? (matches_ f1) (filtersInUse (can w09_7 0)) = some q3 ∧ q3.target ≤ 63 ∧ ((can
      w09_7 0).bufs.get q3.target { }).isOpen = false ∧
    Alive w09_8 ∧ (canState w09_8 0 = 2 ∨ canState w09_8 0 = 3 ∨ canState w09_8 0 = 6) ∧ f1.rtr = false ∧ (f1.fd = true → rdF
      w09_8 (0x2800 + 0) 9 = true) ∧ List.find? (matches_ f1) (filtersInUse (can w09_8 0)) = some q3 ∧ q3.target ≤ 63 ∧ ((can
      w09_8 0).bufs.get q3.target { }).isOpen = true ∧
    Alive w09_9 ∧ (canState w09_9 0 = 2 ∨ canState w09_9 0 = 3 ∨ canState w09_9 0 = 6) ∧ f1.rtr = false ∧ (f1.fd = true → rdF
      w09_9 (0x2800 + 0) 9 = true) ∧ List.find? (matches_ f1) (filtersInUse (can w09_9 0)) = some q64 ∧ q64.target = 64 ∧
    (can w09_9 0).fifo.length < 256 ∧
    Alive w09_7 ∧
    Alive w09_12 ∧ (can w09_12 0).realloc = true := by decide +kernel

theorem wit_CanTransmission :
    Alive w09_16 ∧ (w09_16.zh6432 && 0 == 3) = false ∧ canState w09_16 0 ≠ 0 ∧ canMode w09_16 0 ≠ 1 ∧ ((can w09_16
      0).txq.length + if (can w09_16 0).held.isSome = true then 1 else 0) < 32 ∧ f2.rtr = false ∧ (rdF w09_16 (0x2800 + 0) 9
      = true ∨ f2.fd = false ∨ f2.data.length ≤ 8) ∧
    Alive w09_13 ∧ (w09_13.zh6432 && 0 == 3) = false ∧ canState w09_13 0 ≠ 0 ∧ (canMode w09_13 0 = 1 ∨ f2.rtr = true ∨ rdF
      w09_13 (0x2800 + 0) 9 = false ∧ f2.fd = true ∧ 8 < f2.data.length) ∧
    Alive w09_18 ∧ solitary w09_18 0 = false ∧ (canState w09_18 0 = 2 ∨ canState w09_18 0 = 3) ∧ canMode w09_18 0 ≠ 1 ∧
    (can w09_18 0).held = none ∧ winner (can w09_18 0).txq = some w09_15 ∧ tooOld w09_18 0 w09_15 false = false ∧
    Alive w09_16 ∧ solitary w09_16 0 = true ∧ (can w09_16 0).tryAt + rdN w09_16 (0x2800 + 0) 15 * 10 ≤ w09_16.now ∧ (canState
      w09_16 0 = 2 ∨ canState w09_16 0 = 3) ∧ canMode w09_16 0 ≠ 1 ∧ (can w09_16 0).held = none ∧ winner (can w09_16 0).txq =
      some w09_15 ∧ tooOld w09_16 0 w09_15 false = false := by decide +kernel

theorem wit_CanErrorsAndModes :
    Alive (st ((0x2800, 12, 1, 1) :: c2)) ∧ (canState (st ((0x2800, 12, 1, 1) :: c2)) 0 = 2 ∨ canState (st ((0x2800, 12, 1,
      1) :: c2)) 0 = 3) ∧ canMode (st ((0x2800, 12, 1, 1) :: c2)) 0 ≠ 1 ∧
    Alive (st ((0x2800, 12, 1, 1) :: c2)) ∧ (st ((0x2800, 12, 1, 1) :: c2)).zh6432 = false ∧ (canState (st ((0x2800, 12, 1,
      1) :: c2)) 0 = 2 ∨ canState (st ((0x2800, 12, 1, 1) :: c2)) 0 = 3) ∧ canMode (st ((0x2800, 12, 1, 1) :: c2)) 0 ≠ 1 ∧
    0x2800 ≠ 3 ∧
    Alive w09_17 ∧ canState w09_17 0 = 4 ∧ rdN w09_17 (0x2800 + 0) 13 = 1 ∧ (can w09_17 0).offAt + rdN w09_17 (0x2800 + 0) 14
      * 10 ≤ w09_17.now ∧
    Accepts w09_17 12 (0x2800 + 0) 17 (leBytes 1 1) ∧
    Alive w09_19 ∧ canState w09_19 0 = 5 ∧
    Alive (st ((0x2800, 12, 1, 1) :: c2)) ∧ canState (st ((0x2800, 12, 1, 1) :: c2)) 0 ≠ 0 ∧ canMode (st ((0x2800, 12, 1, 1)
      :: c2)) 0 ≠ modeWanted (st ((0x2800, 12, 1, 1) :: c2)) 0 ∧ modeWanted (st ((0x2800, 12, 1, 1) :: c2)) 0 ≤ 3 := by decide +kernel

theorem wit_CanErrorsAndModes_b :
    Accepts (st ((0x2800, 12, 1, 1) :: c2)) 12 (0x2800 + 0) 12 (leBytes 1 1) ∧
    Alive w09_20 ∧ canState w09_20 0 = 1 := by decide +kernel


-- Chunk 10
def w10_1 : State := { st [(0x1019, 0, 1, 10)] with net := { bootAt := some 0, serving := true, syncCtr := some 5 } }
def w10_4 : State := { st [(0x2300, 9, 1, 1)] with cal := { secs := 1000, pulseAt := 200000 } }
def m1 : List (Nat × Nat × Nat × Nat) := [(0x1601, 0, 1, 2), (0x1601, 1, 4, 0x00060010), (0x1601, 2, 4, 0x40002120), (0x1401, 2,
  1, 0xFE)]
def m2 : List (Nat × Nat × Nat × Nat) := [(0x1601, 0, 1, 1), (0x1601, 1, 4, 0x40002120), (0x1401, 2, 1, 1), (0x1401, 5, 2, 100)]
def n2 : Net := { bootAt := some 0, serving := true, rValid := [2] }
def w10_8 : State := { st m1 with net := n2 }
def w10_9 : State := { st m2 with net := n2 }
def w10_10 : State := { st m1 with
  net := { bootAt := some 0, serving := true, rValid := [2], rpdo := [(2, { seq := some (1, 199999) })] } }
def w10_11 : State := { st m2 with
  net := { bootAt := some 0, serving := true, rValid := [2], rpdo := [(2, { rxAt := some 199000 })] } }
def w10_12 : Rpdo := { rxAt := some 199000 }
def w10_13 : State := { st [(0x4002, 0x22, 2, 100)] with
  remoteValid := [2],
  net := { bootAt := some 0, serving := true, slotAt := [(2, 199000)] } }
def t2 : List (Nat × Nat × Nat × Nat) := [(0x1A01, 0, 1, 2), (0x1A01, 1, 4, 0x20000120), (0x1A01, 2, 4, 0x40002120), (0x1801, 1,
  4, 0x182), (0x1801, 2, 1, 1)]
def w10_15 : State := { st t2 with net := { bootAt := some 0, serving := true, tValid := [2], tpdo := [(2, { want := true })] } }
def w10_17 : State := st [(0x1017, 0, 2, 0)]
def w10_19 : State := st [(0x1F81, 9, 4, 1)]
def w10_20 : State := { st [(0x1016, 1, 4, 0x000503E8)] with net := { bootAt := some 0, serving := true, heard := [(1, 100)] } }
def em : Emcy := { code := 0x8210, loc := 0, pennant := 0xFF, source := 0xFF, obj := 0 }
def w10_22 : State := { st [(0x1003, 0, 1, 1), (0x1003, 1, 4, 0x8250)] with emcyQ := [em, em], emcyAt := some 5 }
def ten : Tab WorkItem := (List.range 8).map fun i => (i, item)
def w10_24 : State := { live with work := ten }
def w10_25 : State := { live with net := { bootAt := some 0 } }
def w10_26 : State := st [(0x1FF0, 0x80, 1, 4)]
def xf : Transfer := { item := 2, idx := 0x2500, sub := 2, len := 2, data := [], at_ := 100000, bus := 0, both := false }
def w10_28 : State := { live with work := [(2, item)], net := { bootAt := some 0, serving := true, xfers := [(5, xf)] } }
def itemC : WorkItem := { item with origin := 0x209 }
def w10_30 : State := { st [(0x2802, 0x80, 1, 4)] with
  work := [(2, itemC)],
  net := { bootAt := some 0, serving := true, nodes := [(9, { item := some 2, xfer := 1 })] } }
def w10_31 : State := { live with now := 1999, net := { bootAt := some 0 } }
def w10_32 : State := { st [(0x1F81, 9, 4, 1)] with net := { bootAt := some 0 } }
def fb : Net := { bootAt := some 0, serving := true, fieldBoot := true }
def rsp : NodeResp := { type := some 5, vendor := some 6, product := some 7 }
def w10_35 : State := { st [(0x1F81, 9, 4, 1), (0x1F83, 9, 1, 1), (0x1F84, 9, 4, 5)] with net := fb }
def w10_36 : State := { st [(0x1F81, 9, 4, 1), (0x1F83, 9, 1, 1), (0x1F84, 9, 4, 6)] with net := fb }
def w10_37 : State := { st [(0x1F81, 9, 4, 9), (0x1F83, 9, 1, 1)] with
  net := { bootAt := some 0, serving := true, fieldBoot := true, nodes := [(9, { deadline := 5 })] } }
def w10_38 : State := { st [(0x1F81, 9, 4, 9), (0x1F83, 9, 1, 4)] with net := fb }
def w10_39 : State := { st [(0x1F81, 9, 4, 6553609), (0x1F83, 9, 1, 4)] with
  net := { bootAt := some 0, serving := true, fieldBoot := true, nodes := [(9, { heardAt := some 5 })] } }
def w10_40 : State := { st [(0x1F81, 9, 4, 9), (0x1F83, 9, 1, 7)] with net := fb }
def w10_41 : State := { st [(0x1F81, 9, 4, 9), (0x1F83, 9, 1, 2)] with
  work := [(2, itemC)],
  net := { bootAt := some 0, serving := true, fieldBoot := true, nodes := [(9, { item := some 2, xfer := 1 })] } }
def w10_42 : State := { st [(0x1F81, 9, 4, 9), (0x1F83, 9, 1, 2)] with
  work := [(2, itemC)],
  net := { bootAt := some 0, serving := true, fieldBoot := true, nodes := [(9, { item := some 2, xfer := 1, tries := 2 })] } }

theorem wit_NmtSyncAndTimeFrames :
    Alive w10_4 ∧ booted w10_4 = true ∧ (inPair w10_4 = true → w10_4.ensign = true) ∧ (1 = 0 ∨ 1 = nodeId w10_4) ∧
    Alive w10_4 ∧ 12622780800000 ≠ 0 ∧ 12622780800000 ≠ nodeId w10_4 ∧
    Served w10_4 ∧ (some 5).isSome = !rdN w10_4 0x1019 0 != 0 ∧
    Served w10_1 ∧ rdN w10_1 0x1019 0 ≠ 0 ∧ w10_1.net.syncCtr = some 5 ∧
    Served w10_1 ∧ (some 6).isSome = (rdN w10_1 0x1019 0 != 0) ∧ ((some 6).isSome = true → w10_1.net.syncCtr ≠ some 6) ∧
    Served w10_4 ∧ rdBit w10_4 0x1012 0 31 = true ∧ (-1 < 0 ∨ 12622780800000 ≤ -1) := by decide +kernel

theorem wit_NmtSyncAndTimeFrames_b :
    Served w10_4 ∧ rdBit w10_4 0x1012 0 31 = true ∧ calValid w10_4 = true ∧ -5 < ↑1000004 - ↑(calCounts w10_4) * 1000 / 32768
      ∧ ↑1000004 - ↑(calCounts w10_4) * 1000 / 32768 < 5 ∧
    Served live ∧ rdBit live 0x1012 0 31 = true ∧ calValid live = false ∧ 1000004 + 1000 < 12622780800000 := by decide +kernel

/-- The state in which RPDO n's values are looked at once its data have come: their time and counter are kept. -/
def rxOf (s : State) (n : Nat) (data : List Byte) : Rpdo := { Tab.get s.net.rpdo n {} with
  rxAt := some s.now, timed := false,
  seq := if sequenced s n && 2 ≤ data.length then some (leNat (data.take 2), s.now) else (Tab.get s.net.rpdo n {}).seq }
def rxIn (s : State) (n : Nat) (data : List Byte) : State := setNet s { s.net with rpdo := Tab.put s.net.rpdo n (rxOf s n data) }
/-- The values that the data of RPDO n bring, cut at its mapping. -/
def rxVals (s : State) (n : Nat) (data : List Byte) : List (Nat × Nat × List Byte) :=
  ((cutValues (entries s (rMap n)) data).filter fun v => !dummy v.1).map fun v =>
    (v.1, v.2.1, match rowOf v.1 v.2.1 with | some r => stored r v.2.2 | none => v.2.2)
def rxTaken (s : State) (n : Nat) (data : List Byte) : Prop :=
  ∀ v ∈ rxVals s n data, writeRefusal (rxIn s n data) 0x100 v.1 v.2.1 v.2.2 .rpdo = 0 ∧
    ¬ (within v.1 0x3300 0x3301 = true ∧ v.2.1 = 0x80 ∧ holdsEnsign (rxIn s n data) = true ∧
      targetRefused (rxIn s n data) (v.1 - 0x3300) v.2.2 = true)
def d6 : List Byte := [1#8, 0#8, 0#8, 0#8, 128#8, 63#8]
def d4 : List Byte := [0#8, 0#8, 128#8, 63#8]

theorem wit_PdosComeAndGo :
    Served w10_8 ∧ w10_8.net.rValid.contains 2 = true ∧ entries w10_8 (rMap 2) ≠ [] ∧ takesRpdos w10_8 = true ∧
      (sequenced w10_8 2 = true → 2 ≤ d6.length → seqNew w10_8 2 (leNat (d6.take 2)) = true) ∧
      ((entries w10_8 (rMap 2)).map (·.2.2)).foldl (· + ·) 0 ≤ d6.length ∧ rxVals w10_8 2 d6 ≠ [] := by decide +kernel
theorem wit_PdosComeAndGo_b : rxTaken w10_8 2 d6 ∧ 0xFE ≤ rdN w10_8 (rComm 2) 2 := by
  unfold rxTaken; decide +kernel
theorem wit_PdosComeAndGo_c :
    Served w10_9 ∧ w10_9.net.rValid.contains 2 = true ∧ entries w10_9 (rMap 2) ≠ [] ∧ takesRpdos w10_9 = true ∧
      (sequenced w10_9 2 = true → 2 ≤ d4.length → seqNew w10_9 2 (leNat (d4.take 2)) = true) ∧
      ((entries w10_9 (rMap 2)).map (·.2.2)).foldl (· + ·) 0 ≤ d4.length ∧ rxVals w10_9 2 d4 ≠ [] := by decide +kernel
theorem wit_PdosComeAndGo_d : rxTaken w10_9 2 d4 ∧ rdN w10_9 (rComm 2) 2 < 0xFE := by
  unfold rxTaken; decide +kernel
theorem wit_PdosComeAndGo_e :
    Served w10_10 ∧ w10_10.net.rValid.contains 2 = true ∧ entries w10_10 (rMap 2) ≠ [] ∧ takesRpdos w10_10 = true ∧
      sequenced w10_10 2 = true ∧ 2 ≤ d6.length ∧ seqNew w10_10 2 (leNat (d6.take 2)) = false ∧
    Served w10_9 ∧ w10_9.net.rValid.contains 2 = true ∧ entries w10_9 (rMap 2) ≠ [] ∧ takesRpdos w10_9 = true ∧
      sequenced w10_9 2 = false ∧ (d4.take 3).length < ((entries w10_9 (rMap 2)).map (·.2.2)).foldl (· + ·) 0 ∧
      w10_9.emcyQ.length < 32 ∧
    Alive w10_11 ∧ takesRpdos w10_11 = true ∧ w10_11.net.rValid.contains 2 = true ∧ w10_11.net.rpdo.find 2 = some w10_12 ∧
      w10_12.rxAt = some 199000 ∧ w10_12.timed = false ∧ rdN w10_11 (rComm 2) 5 ≠ 0 ∧
      199000 + 10 * rdN w10_11 (rComm 2) 5 ≤ w10_11.now ∧ w10_11.emcyQ.length < 32 ∧
    Alive w10_13 ∧ w10_13.net.slotAt.find 2 = some 199000 ∧ rdN w10_13 (0x4000 + 2) 34 ≠ 0 ∧
      199000 + 10 * rdN w10_13 (0x4000 + 2) 34 ≤ w10_13.now := by decide +kernel
theorem wit_PdosComeAndGo_f :
    Alive w10_15 ∧ operational w10_15 = true ∧ speaks w10_15 = true ∧ w10_15.net.tValid.contains 2 = true ∧
      (w10_15.net.tpdo.get 2 {}).want = true ∧
      Option.all (fun t₀ => decide (t₀ + rdN w10_15 (tComm 2) 3 ≤ w10_15.now)) (w10_15.net.tpdo.get 2 {}).sentAt = true := by
  decide +kernel

theorem wit_HeartbeatsAndEmcys :
    Served w10_19 ∧ speaks w10_19 = true ∧ rdN w10_19 0x1017 0 ≠ 0 ∧ w10_19.net.hbAt + 10 * rdN w10_19 0x1017 0 ≤ w10_19.now ∧
    Alive w10_17 ∧ (rdN w10_17 0x1017 0 = 0 ∨ w10_17.now < w10_17.net.hbAt + 10 * rdN w10_17 0x1017 0) ∧
    Served w10_20 ∧ standby w10_20 = false ∧ rdN w10_20 0x1016 1 % 65536 ≠ 0 ∧ rdN w10_20 0x1016 1 / 65536 % 256 = 5 ∧
    Served w10_19 ∧ assigned w10_19 9 = true ∧
    Alive w10_20 ∧ standby w10_20 = false ∧ rdN w10_20 0x1016 1 % 65536 ≠ 0 ∧ w10_20.net.heard.find 1 = some 100 ∧ 100 + 10 *
      (rdN w10_20 0x1016 1 % 65536) ≤ w10_20.now ∧
    Served w10_22 ∧ speaks w10_22 = true ∧ (nmt w10_22 = 5 ∨ nmt w10_22 = 127) ∧ Option.all (fun (t₀ : Nat) => decide (t₀ +
      rdN w10_22 0x1015 0 ≤ w10_22.now)) w10_22.emcyAt = true ∧ w10_22.emcyQ = [em, em] := by decide +kernel

theorem wit_UsdoRequestsAndTheirEnds :
    Served w10_24 ∧ speaks w10_24 = true ∧ (nmt w10_24 = 5 ∨ nmt w10_24 = 127) ∧ quiescing w10_24 = false ∧ noCapacity w10_24
      5 = true ∧ UsdoOp.read 0x2500 2 = UsdoOp.read 0x2500 2 ∧
    Served w10_25 ∧ speaks w10_25 = true ∧ (nmt w10_25 = 5 ∨ nmt w10_25 = 127) ∧ quiescing w10_25 = false ∧ noCapacity w10_25
      5 = false ∧ w10_25.net.serving = false ∧ (newItem w10_25 1 5 0x2500 2).2 = some 0 ∧
    Served live ∧ speaks live = true ∧ (nmt live = 5 ∨ nmt live = 127) ∧ quiescing live = false ∧ noCapacity live 5 = false ∧
    live.net.serving = true ∧ (newItem live 1 5 0x2500 2).2 = some 0 ∧
    Served live ∧ speaks live = true ∧ (nmt live = 5 ∨ nmt live = 127) ∧ live.net.xfers.find 5 = none ∧ UsdoOp.segment []
      true 0 = UsdoOp.segment [] true 0 ∧
    Alive w10_26 ∧ (nmt w10_26 ≠ 5 ∧ nmt w10_26 ≠ 127 ∨ booted w10_26 = false ∨ speaks w10_26 = false) ∧
    Alive w10_28 ∧ cutOff w10_28 0 = false ∧ w10_28.net.xfers.find 5 = some xf ∧ xf.at_ + 10 * rdN w10_28 0x1FF0 4 ≤
      w10_28.now ∧ w10_28.work.find xf.item = some item ∧ item.state < 2 := by decide +kernel

theorem wit_UsdoRequestsAndTheirEnds_b :
    Alive w10_30 ∧ cutOff w10_30 2 = true ∧ w10_30.work.find 2 = some itemC ∧ itemC.state < 2 ∧ itemC.origin = 512 + 9 ∧
    (fieldNode w10_30 9).item = some 2 ∧ (fieldNode w10_30 9).xfer ≠ 0 ∧ (fieldNode w10_30 9).at_ + 10 * rdN w10_30 0x1FF0 6
      ≤ w10_30.now ∧
    Alive w10_25 ∧ w10_25.net.serving = false ∧ w10_25.net.bootAt = some 0 ∧ 0 + 2000 ≤ w10_25.now ∧
    Alive w10_31 ∧ w10_31.net.bootAt = some 0 ∧ w10_31.now < 0 + 2000 := by decide +kernel

theorem wit_FieldNodesAreChecked :
    Alive w10_32 ∧ w10_32.net.fieldBoot = false ∧ speaks w10_32 = true ∧ (nmt w10_32 = 5 ∨ nmt w10_32 = 127) ∧
    w10_32.net.bootAt = some 0 ∧ 0 + 2000 ≤ w10_32.now ∧
    Alive w10_35 ∧ w10_35.net.fieldBoot = true ∧ xfersInFlight w10_35 < 8 ∧ quiescing w10_35 = false ∧ freeItem w10_35 ≠ none
      ∧ assigned w10_35 9 = true ∧ bootStatus w10_35 9 = 1 ∧ (fieldNode w10_35 9).item = none ∧ rsp.type = some 5 ∧
      rsp.vendor = some 6 ∧ rsp.product = some 7 ∧ identityOk w10_35 0x1F84 9 5 = true ∧ identityOk w10_35 0x1F85 9 6 = true ∧
    identityOk w10_35 0x1F86 9 7 = true ∧ rdB w10_35 0x1F22 9 = [] ∧
    Alive w10_36 ∧ w10_36.net.fieldBoot = true ∧ xfersInFlight w10_36 < 8 ∧ quiescing w10_36 = false ∧ freeItem w10_36 ≠ none
      ∧ assigned w10_36 9 = true ∧ bootStatus w10_36 9 = 1 ∧ (fieldNode w10_36 9).item = none ∧ rsp.type = some 5 ∧
      rsp.vendor = some 6 ∧ rsp.product = some 7 ∧ identityOk w10_36 0x1F84 9 5 = false ∧
    Alive w10_37 ∧ w10_37.net.fieldBoot = true ∧ (bootStatus w10_37 9 = 1 ∨ bootStatus w10_37 9 = 2 ∨ bootStatus w10_37 9 =
      3) ∧ (fieldNode w10_37 9).deadline ≠ 0 ∧ (fieldNode w10_37 9).deadline ≤ w10_37.now ∧
    Alive w10_38 ∧ w10_38.net.fieldBoot = true ∧ bootStatus w10_38 9 = 4 ∧
    Alive w10_39 ∧ w10_39.net.fieldBoot = true ∧ bootStatus w10_39 9 = 4 ∧ rdN w10_39 0x1F81 9 / 65536 ≠ 0 ∧ (fieldNode
      w10_39 9).heardAt = some 5 ∧ 5 + 10 * (rdN w10_39 0x1F81 9 / 65536) ≤ w10_39.now := by decide +kernel

theorem wit_FieldNodesAreChecked_b :
    Alive w10_40 ∧ bootStatus w10_40 9 = 7 ∧ (fieldNode w10_40 9).retryAt ≤ w10_40.now ∧
    Alive w10_41 ∧ (fieldNode w10_41 9).waiting = false ∧ (fieldNode w10_41 9).xfer ≠ 0 ∧ (fieldNode w10_41 9).at_ + 10 * rdN
      w10_41 0x1FF0 6 ≤ w10_41.now ∧ (fieldNode w10_41 9).tries < 2 ∧ (fieldNode w10_41 9).item = some 2 ∧
    Alive w10_42 ∧ (fieldNode w10_42 9).waiting = false ∧ (fieldNode w10_42 9).xfer ≠ 0 ∧ (fieldNode w10_42 9).at_ + 10 * rdN
      w10_42 0x1FF0 6 ≤ w10_42.now ∧ 2 ≤ (fieldNode w10_42 9).tries ∧ (fieldNode w10_42 9).item = some 2 ∧
    speaks w10_35 = true ∧ assigned w10_35 9 = true ∧ Accepts w10_35 9 0x1F82 9 (leBytes 1 1) := by decide +kernel


-- Chunk 11
def sg : SegWrite := { idx := 0x2500, sub := 3, total := 10, data := [], at_ := 100000, item := some 2, late := false }
def w11_1 : State := { live with work := [(2, item)], host := { seg := some sg } }
def w11_2 : State := { live with host := { bulk := some (0x2500, 3, [], 100000) } }
def tg : HostTag := { idx := 0x2500, sub := 3 }
def w11_4 : State := { live with host := { tags := [(3, tg)] } }
def tgR : HostTag := { idx := 0x2500, sub := 3, resp := some (true, [7#8, 0#8]) }
def w11_6 : State := { live with host := { tags := [(3, tgR)] } }
def w11_8 : State := { live with host := { pageDue := [(5, [1#8])] } }
def w11_9 : State := { live with host := { pageDue := [(5, [1#8])], pages := [(5, { isOpen := true, shadow := some [9#8] })] } }
def w11_10 : State := { live with host := { pages := [(5, { data := List.replicate 64 3#8 })] } }

theorem wit_HostRequestsTakeTags :
    PortReady live ∧ live.host.tags.find 3 = none ∧ [1#8] ≠ [] ∧
    PortReady live ∧ live.host.tags.find 3 = none ∧ (([] : List Byte) = [] ∨ 4096 < ([] : List Byte).length) ∧
    PortReady live ∧ live.host.tags.find 3 = none ∧ ([1#8] ≠ [] ∨ 3 ≠ 0) := by decide +kernel

theorem wit_HostRequestsTakeTags_b :
    PortReady live ∧ live.host.tags.find 3 = none ∧ 3 ≠ 0 ∧
    PortReady live ∧ live.host.tags.find 3 = none ∧ [1#8].length ≠ 6 ∧
    PortReady live ∧ live.host.tags.find 3 = none ∧ [1#8].length < 8 := by decide +kernel

theorem wit_HostRequestsTakeTags_c :
    PortReady live ∧ live.host.tags.find 3 = none ∧ (takeItem (tagTaken live true 3 0x2500 3) 128 0x2500 3 0).2 = (some 0, 0) ∧
    PortReady live ∧ live.host.tags.find 3 = none ∧ (takeItem (tagTaken live true 3 0x2500 3) 128 0x2500 3 0).2 = (some 0, 0)
      ∧ [1#8] ≠ [] ∧ [1#8].length ≤ 4096 ∧
    PortReady live ∧ live.net.serving = true ∧ live.host.tags.find 3 = none ∧ (takeItem (tagTaken live true 3 0x2500 3) 128
      0x2500 3 0).2 = (some 0, 0) ∧ (readOne (itemActive (takeItem (tagTaken live true 3 0x2500 3) 128 0x2500 3 0).fst 0) 128
      0x2500 3).snd.snd.length ≤ 4096 := by decide +kernel

theorem wit_HostRequestsTakeTags_d :
    PortReady live ∧ live.host.seg = none ∧ live.net.serving = true ∧ live.host.tags.find 3 = none ∧ (takeItem (tagTaken live
      true 3 0x2500 3) 128 0x2500 3 0).2 = (some 0, 0) ∧ [1#8].length < 3 ∧
    Alive w11_1 ∧ w11_1.host.seg = some sg ∧ sg.late = false ∧ sg.at_ + 10 * rdN w11_1 0x1FF0 4 < w11_1.now ∧ sg.item = some
      2 ∧ w11_1.work.find 2 = some item ∧ item.state < 2 ∧
    Alive w11_2 ∧ w11_2.host.bulk = some (0x2500, 3, [], 100000) ∧ 100000 + 100000 ≤ w11_2.now := by decide +kernel

theorem wit_HostRequestsTakeTags_e :
    PortReady w11_4 ∧ (w11_4.host.tags.find 3).isSome = true := by decide +kernel

def w11_11 : State := { w11_8 with net := {} }

theorem wit_HostTransactionsAndPages :
    PortReady w11_8 ∧
    State.reset.rst.phase < 3 ∧
    PortReady w11_6 ∧ w11_6.host.tags.find 3 = some tgR ∧ tgR.resp = some (true, [7#8, 0#8]) ∧
    PortReady w11_6 ∧ w11_6.host.tags.find 3 = some tgR ∧ tgR.resp.isSome = true ∧
    PortReady w11_4 ∧ w11_4.host.tags.find 3 = some tg ∧ tg.resp = none ∧
    Alive w11_11 ∧ 3 ≤ w11_11.rst.phase ∧ booted w11_11 = false ∧
    PortReady w11_8 := by decide +kernel

theorem wit_HostTransactionsAndPages_b :
    Alive w11_8 ∧ (pageOf w11_8 0).isOpen = false ∧ (pageOf w11_8 5).isOpen = false ∧ w11_8.host.pageDue = [(5, [1#8])] ∧
    Alive w11_9 ∧ (pageOf w11_9 5).isOpen = true ∧ (pageOf w11_9 5).shadow.isSome = true ∧ w11_9.host.pageDue = [(5, [1#8])] ∧
    PortReady w11_10 ∧ (pageOf w11_10 5).data.length = 64 ∧ (pageOf w11_10 5).shadow = none ∧
    PortReady w11_8 ∧ (0 = 0 ∨ 64 < 5 + 0) := by decide +kernel


-- Chunk 12
def stL : List (Nat × Nat × Nat × Nat) := [(0x2500, 1, 1, 1), (0x2500, 0x81, 1, 3), (0x2500, 0x84, 1, 1)]
def ho : Hoist where
  number := 3
  tick := 100000
  own := 200000
  epoch := 0
  final := false
  format := 0
  mirrorSeq := 0
  version := 0
  hash := []
  live := []
  loops := []
  zones := []
  walker := {}
  pos := []
  panels := []
  ports := []
  currents := []
  work := []
  nmt := 5
  k0 := []
def pair : State := st pairL
def stby : State := { st stL with ensign := false }
def w12_4 : State := { st [(0x2500, 1, 1, 1), (0x2500, 0x81, 1, 3), (0x2500, 0x84, 1, 0)] with
  ensign := false,
  conds := [(53, 0)],
  dup := { hoists := [ho] } }
def w12_5 : State := { st pairL with dup := { joined := true, mirrorQ := [(3, .coupling [])] } }
def w12_6 : State := { st stL with ensign := false, dup := { mirrorSync := false } }
def w12_8 : State := { st pairL with dup := { joined := true, snap := some ho } }
def w12_9 : State := { st pairL with work := [(2, item)], dup := { sent := [(ho, some 2, 199800)] } }
def w12_11 : State := { st stL with ensign := false, dup := { hoists := [ho], hoistAt := some 100 } }
def w12_12 : State := { st [(0x2500, 1, 1, 1), (0x2500, 0x81, 1, 2)] with ensign := false }
def w12_15 : State := { st [(0x2500, 1, 1, 1), (0x2500, 0x81, 1, 4)] with ensign := false, dup := { armed := some (5, 100, 3) } }
def w12_16 : State := { st [(0x2500, 1, 1, 1), (0x2500, 0x81, 1, 4)] with ensign := false, dup := { hoists := [ho] } }
def w12_18 : State := { st ((0x2500, 6, 2, 100) :: pairL) with dup := { beaconAt := some 100 } }
def w12_19 : Health := { unit := 1, role := 5, flags := 0, ctr := 0, reason := 0, epoch := 1, hoist := 0 }
def w12_20 : State := { st ((0x2803, 0x80, 1, 2) :: pairL) with dup := { healthCtr := 255 } }
def pr6 : List (Nat × Nat × Nat × Nat) := [(0x2500, 1, 1, 1), (0x2500, 0x81, 1, 6), (0x2500, 0x84, 1, 1)]
def pr4 : List (Nat × Nat × Nat × Nat) := [(0x2500, 1, 1, 1), (0x2500, 0x81, 1, 4), (0x2500, 0x84, 1, 1)]
def wn : SwapPlan := { unit := 1, h := 99900, hp := 100000, e := 100200, finalDone := true }
def wf : SwapPlan := { unit := 1, h := 99900, hp := 100000, e := 100200, finalDone := false }
def ws : SwapPlan := { unit := 1, h := 99800, hp := 99900, e := 100001, finalDone := true, started := true }
def w12_26 : State := { st pr6 with dup := { swap := some wn } }
def w12_27 : State := { st pr6 with dup := { swap := some wf } }
def w12_28 : State := { st pr4 with ensign := false, dup := { swap := some wn, hoists := [ho] } }
def w12_29 : State := { st pr6 with dup := { swap := some ws } }
def w12_30 : State := { st pr4 with ensign := false, dup := { swap := some ws, hoists := [ho] } }
def w12_31 : State := st [(0x2500, 1, 1, 2), (0x2500, 0x90, 1, 0)]
def wl : List (Nat × Nat × Nat × Nat) := [(0x2500, 1, 1, 2), (0x2500, 0x90, 1, 0)]
def wu : WitUnit := { edgeAt := some 2000000, role := 3, heardAt := some 200000 }
def w1 : WitUnit := { edgeAt := some 2000000, role := 1, heardAt := some 200000 }
def gr : Grant := { unit := 1, num := 4, epoch := 9, at_ := 2000000, old := some 0, kill := true }
def w12_37 : State := { st wl with dup := { wit := { units := [(1, wu)] } } }
def w12_38 : State := { st wl with dup := { wit := { units := [(1, wu)], ensign := 1, grant := some gr } } }
def w12_39 : Report := { unit := 1, cmd := 1, result := 0, num := 4, role := 3, epoch := 9, val := 0 }
def w12_40 : Report := { unit := 1, cmd := 1, result := 2, num := 4, role := 3, epoch := 9, val := 0 }
def w12_41 : State := { st ((0x2500, 0x21, 2, 100) :: wl) with
  dup := { wit := { units := [(1, { killAt := some 100 })], kill := 2 } } }
def w12_42 : State := { st wl with dup := { wit := { units := [(1, wu)], swap := some (1, 200, some 199800) } } }
def w12_43 : State := { st [(0x2500, 1, 1, 2), (0x2500, 0x90, 1, 255), (0x2500, 0x22, 1, 1)] with
  dup := { wit := { units := [(0, w1), (1, w1)] } } }

theorem wit_HalyardCarriesThePair :
    Alive w12_4 ∧ inPair w12_4 = true ∧ w12_4.cfgLoaded = true ∧ linkUp w12_4 = false ∧
    Alive stby ∧ inPair stby = true ∧ stby.cfgLoaded = true ∧ linkUp stby = true ∧
    Alive stby ∧ inPair stby = true ∧ stby.cfgLoaded = true ∧ linkUp stby = true ∧ stby.ensign = false ∧ crc32 [] = 0 ∧
    Alive stby ∧ inPair stby = true ∧ stby.cfgLoaded = true ∧ linkUp stby = true ∧ stby.ensign = false ∧ crc32 [] ≠ 1 ∧
    Alive stby ∧ standby stby = true ∧ stby.ensign = false ∧ linkUp stby = true ∧ crc32 [] = 0 ∧ (stby.dup.mirrorSync = true
      ∨ 0 = (rdN stby 0x2500 142 + 1) % 2 ^ 32) ∧
    Alive w12_6 ∧ standby w12_6 = true ∧ w12_6.ensign = false ∧ linkUp w12_6 = true ∧ crc32 [] = 0 ∧ w12_6.dup.mirrorSync =
      false ∧ 0 ≠ (rdN w12_6 0x2500 142 + 1) % 2 ^ 32 ∧ 0 ≤ rdN w12_6 0x2500 142 := by decide +kernel

theorem wit_HalyardCarriesThePair_b :
    Alive w12_6 ∧ standby w12_6 = true ∧ w12_6.ensign = false ∧ linkUp w12_6 = true ∧ crc32 [] = 0 ∧ w12_6.dup.mirrorSync =
      false ∧ rdN w12_6 0x2500 142 + 1 < 9 ∧
    Alive w12_5 ∧ w12_5.dup.mirrorQ ≠ [] ∧ w12_5.dup.mirrorAt + 10 ≤ w12_5.now ∧
    Alive pair ∧ inPair pair = true ∧ pair.cfgLoaded = true ∧ pair.ensign = true ∧ linkUp pair = true ∧ crc32 [] = 0 ∧
    Alive pair ∧ inPair pair = true ∧ pair.cfgLoaded = true ∧ pair.ensign = true ∧ linkUp pair = true ∧
    Alive w12_8 ∧ linkUp w12_8 = true ∧ w12_8.dup.joined = true ∧ transferring w12_8 = false ∧ quiescing w12_8 = false ∧
    w12_8.dup.snap = some ho ∧ ho.tick = w12_8.tick ∧ freeItem w12_8 = some 0 ∧
    Alive stby ∧ inPair stby = true ∧ stby.cfgLoaded = true ∧ linkUp stby = true ∧ stby.ensign = false ∧ role stby ≠ 4 := by decide +kernel

theorem wit_HalyardCarriesThePair_c :
    Alive stby ∧ inPair stby = true ∧ stby.cfgLoaded = true ∧ linkUp stby = true ∧ stby.ensign = false ∧ role stby ≠ 4 ∧
    crc32 [] ≠ 1 ∧
    Alive w12_9 ∧ w12_9.dup.sent = [(ho, some 2, 199800)] ∧ 199800 + 200 ≤ w12_9.now ∧ w12_9.work.find 2 = some item ∧
    item.state < 2 ∧
    Alive w12_9 ∧ w12_9.dup.sent = [(ho, some 2, 199800)] ∧ w12_9.work.find 2 = some item ∧ item.state < 2 ∧
    Alive w12_5 ∧ (w12_5.dup.mirrorQ.any fun (p : Nat × MirrorItem) => p.fst == 3) = true ∧
    Alive w12_11 ∧ standby w12_11 = true ∧ w12_11.dup.hoistAt = some 100 ∧ 100 + 10 * (rdN w12_11 0x2500 2 + 20) ≤ w12_11.now := by decide +kernel

theorem wit_TheEnsignChangesHands :
    Alive stby ∧ inPair stby = true ∧ (role stby = 1 ∧ rdN stby 0x2500 131 ≠ 5 ∨ role stby = 3 ∨ role stby = 4) ∧
    stby.dup.armed = none ∧ 0 = unitNo stby ∧ newer 1 (epoch stby) = true ∧
    Alive w12_12 ∧ inPair w12_12 = true ∧ (role w12_12 = 2 ∨ role w12_12 = 1 ∧ rdN w12_12 0x2500 131 = 5) ∧ 0 = unitNo w12_12
      ∧ newer 1 (epoch w12_12) = true ∧
    Alive stby ∧ inPair stby = true ∧ 0 = unitNo stby ∧ newer 0 (epoch stby) = false ∧
    Alive w12_15 ∧ inPair w12_15 = true ∧ w12_15.emcyQ.length < 32 ∧ w12_15.dup.swap = none ∧ w12_15.dup.armed = some (5,
      100, 3) ∧
    Alive stby ∧ inPair stby = true ∧ stby.dup.armed = none ∧ stby.ensign = false ∧
    Alive pair ∧ inPair pair = true ∧ pair.ensign = true := by decide +kernel

theorem wit_TheEnsignChangesHands_b :
    alive State.reset = false ∧
    Alive pair ∧ inPair pair = true ∧ pair.ensign = true ∧ newer 1 (epoch pair) = true ∧
    Alive stby ∧ inPair stby = true ∧ stby.ensign = false ∧
    Alive w12_15 ∧ w12_15.dup.armed = some (5, 100, 3) ∧ 100 + 50 ≤ w12_15.now ∧
    Alive w12_16 ∧ inPair w12_16 = true ∧ w12_16.dup.loaded = false ∧ w12_16.dup.swap = none ∧ (role w12_16 = 4 ∨ role w12_16
      = 5) ∧ w12_16.dup.hoists = [ho] ∧
    Alive stby ∧ inPair stby = true := by decide +kernel

theorem wit_TheEnsignChangesHands_c :
    Alive w12_18 ∧ inPair w12_18 = true ∧ w12_18.dup.beaconAt = some 100 ∧ 100 + 10 * rdN w12_18 0x2500 6 ≤ w12_18.now ∧
    Alive stby ∧ inPair stby = true ∧ w12_19.unit ≠ unitNo stby ∧
    Alive w12_20 ∧ inPair w12_20 = true ∧ canState w12_20 3 ≠ 0 ∧ w12_20.dup.healthAt + 100 ≤ w12_20.now ∧
    Alive stby ∧ inPair stby = true ∧ (role stby = 2 ∨ role stby = 3) := by decide +kernel

theorem wit_PlannedSwapRunsItsSteps :
    Alive (st ((0x2500, 131, 1, 3) :: pairL)) ∧ inPair (st ((0x2500, 131, 1, 3) :: pairL)) = true ∧ (st ((0x2500, 131, 1, 3)
      :: pairL)).ensign = true ∧ role (st ((0x2500, 131, 1, 3) :: pairL)) = 5 ∧ rdN (st ((0x2500, 131, 1, 3) :: pairL))
      0x2500 131 = 3 ∧ 1 ≠ unitNo (st ((0x2500, 131, 1, 3) :: pairL)) ∧
    Alive w12_27 ∧ inPair w12_27 = true ∧ (w12_27.ensign = false ∨ role w12_27 = 6 ∨ rdN w12_27 0x2500 131 ≠ 3) ∧ 1 ≠ unitNo
      w12_27 ∧
    Alive stby ∧ inPair stby = true ∧ role stby = 3 ∧
    Alive w12_26 ∧ inPair w12_26 = true ∧ w12_26.dup.swap = some wn ∧ wn.started = false ∧ wn.hp ≠ 0 ∧ wn.hp ≤ w12_26.tick +
      1 ∧ role w12_26 = 6 ∧ wn.finalDone = true ∧
    Alive w12_27 ∧ inPair w12_27 = true ∧ w12_27.dup.swap = some wf ∧ wf.started = false ∧ wf.hp ≠ 0 ∧ wf.hp ≤ w12_27.tick +
      1 ∧ role w12_27 = 6 ∧ wf.finalDone = false ∧
    Alive w12_28 ∧ inPair w12_28 = true ∧ w12_28.dup.swap = some wn ∧ wn.started = false ∧ wn.hp ≠ 0 ∧ wn.hp ≤ w12_28.tick +
      1 ∧ role w12_28 = 4 ∧ wn.finalDone = true := by decide +kernel

theorem wit_PlannedSwapRunsItsSteps_b :
    Alive w12_29 ∧ inPair w12_29 = true ∧ w12_29.dup.swap = some ws ∧ ws.started = true ∧ ws.withdrawn = false ∧ ws.e ≤
      w12_29.tick + 1 ∧ role w12_29 = 6 ∧
    Alive w12_30 ∧ inPair w12_30 = true ∧ w12_30.dup.swap = some ws ∧ ws.started = true ∧ ws.withdrawn = false ∧ ws.e ≤
      w12_30.tick + 1 ∧ role w12_30 = 4 ∧
    Accepts w12_27 0 0x2500 16 (leBytes 1 1) ∧
    Accepts stby 0 0x2500 16 (leBytes 1 2) ∧
    Accepts w12_31 0 0x2500 16 (leBytes 1 3) ∧
    Accepts w12_31 0 0x2500 16 (leBytes 1 4) := by decide +kernel

theorem wit_WitnessKeepsItsRules :
    Alive w12_37 ∧ witness w12_37 = true ∧ w12_37.dup.wit.grant = none ∧ 0 = holder w12_37 ∧ toggles w12_37 0 1 = false ∧
    qualifies w12_37 (1 - 0) 1 false = true ∧
    Alive w12_38 ∧ witness w12_38 = true ∧ w12_38.dup.wit.grant = some gr ∧ gr.unit < 2 ∧ gr.old = some 0 ∧ 0 = 1 - gr.unit ∧
    w12_39.cmd = 1 ∧ w12_39.unit = gr.unit ∧ w12_39.num = gr.num ∧ w12_39.result = 0 ∧ now10 w12_38 1 ≤ gr.at_ + 100 ∧
    Alive w12_38 ∧ witness w12_38 = true ∧ w12_38.dup.wit.grant = some gr ∧ gr.unit < 2 ∧ gr.old = some 0 ∧ 0 = 1 - gr.unit ∧
    w12_40.cmd = 1 ∧ w12_40.unit = gr.unit ∧ w12_40.num = gr.num ∧ w12_40.result ≠ 0 ∧
    Alive w12_41 ∧ witness w12_41 = true ∧ killLatched w12_41 1 = false ∧ (witUnit w12_41 1).killAt = some 100 ∧ 100 + 10 *
      rdN w12_41 0x2500 33 ≤ w12_41.now ∧
    Alive w12_42 ∧ witness w12_42 = true ∧ w12_42.dup.wit.grant = none ∧ fresh w12_42 1 = true ∧ w12_42.dup.wit.swap = some
      (1, 200, some 199800) ∧ 199800 + 200 ≤ w12_42.now ∧ toggles w12_42 1 1 = true ∧
    Alive w12_43 ∧ witness w12_43 = true ∧ 1 < holder w12_43 ∧ w12_43.dup.wit.grant = none ∧ rdN w12_43 0x2500 34 ≤ 1 ∧
    (witUnit w12_43 0).role = 1 ∧ (witUnit w12_43 1).role = 1 ∧ fresh w12_43 0 = true ∧ fresh w12_43 1 = true ∧ qualifies
      w12_43 (rdN w12_43 0x2500 34) 1 true = true := by decide +kernel

theorem wit_WitnessKeepsItsRules_b :
    Alive w12_38 ∧ witness w12_38 = true ∧ w12_38.dup.wit.sentAt + 100 ≤ w12_38.now := by decide +kernel


-- Chunk 13
def fImg : Image := { state := 2, n := 1, wanted := [[7#8]] }
def jb : FwJob := { client := 5, item := some 2, num := 0, hash := [7#8] }
def jbB : FwJob := { client := 5, item := some 2, num := 0, hash := [8#8] }
def jc : FwJob := { client := 5, item := none, num := 64, hash := [] }
def fw1 : List (Nat × Nat × Nat × Nat) := [(0x2400, 0x80, 1, 1), (0x2400, 0x81, 1, 1), (0x2400, 0x82, 1, 1)]
def fw2 : List (Nat × Nat × Nat × Nat) := [(0x2400, 0x80, 1, 2), (0x2400, 0x81, 1, 1), (0x2400, 0x82, 1, 1), (0x2400, 0x84, 8, 1)]
def w13_8 : State := { st fw1 with work := [(2, item)], fw := { imgB := fImg, jobs := [jb] } }
def w13_9 : State := { st fw1 with work := [(2, item)], fw := { imgB := fImg, jobs := [jbB] } }
def w13_11 : State := { st fw2 with fw := { imgB := fImg, jobs := [jc] } }
def w13_12 : State := st [(0x2400, 0x90, 1, 2)]
def key0 : List Byte := Pss.ofNat 384 (2 ^ 3072 - 47)
def img0 : List Byte := leBytes 4 0x4643485A ++ leBytes 2 1 ++ [0#8, 0#8] ++ leBytes 4 454 ++ leBytes 4 1 ++ leBytes 8 0 ++
  leBytes 4 1 ++ leBytes 4 1 ++ leBytes 32 0 ++ [0x01#8, 0x26#8, 0x10#8, 1#8, 0#8, 1#8] ++ Pss.ofNat 384
  0x10533fcfe80f80783432db7e911a7b12be277475912f424133f7993aa3d8e10bdf3bc87872ca01fe679ce821a5c176cb2a7702aca143ac2665e8555f39f8258ef28e43b34c94cb4f300d3f80226a3e8b3eefa606949498704cc222e41056000f17e9b833451c68237017e8299a0c388bf888e70c78a52f02ab177964cdba371071a1494b1f88e12d713003b5001f46162b48bf0bc5b722fb3cbb4dba0ab61b0b92d9232c051b5f0a27ba38d10738282e5c7b86aa392611f8f1965e2e4641d8bd2b945072436f1daaf2b5c66c75430c39dde6148a7f0aaa657cd319458ed821ac67f3760356ae16717c785d42ba43069a540280a362e244ce8c6bd8847d51269871224c4543373eb079b69410dcffe78efa468f467af32531713c319cfc9b73956bc8c47511a73d75b03bfa4a38c79494d94abe786e91ec03e80140f72efce37147a64dc890d7a59bd48ce253f702fd9b40f937d2e5649ec10aabac9f77721abd62ae1feebc5fdc4303e859c68e3ac8d8d9631faa3a35da1742b2ab626f683283
def keyed : State := { live with dict := dictPut (dictPut live.dict (key 0x2601 1) key0) (key 0x2601 0x80) [1#8] }
def jobR : ImageJob := { client := 5, seq := 1, slot := 0, due := 200001, keys := [(0x2601, 0x10, [1#8])], store := false }
def jobP : ImageJob := { client := 5, seq := 1, slot := 0, due := 200001, keys := [(0x2600, 0x20, [1#8])], store := false }
def w13_19 : State := { keyed with sec := { job := some jobR } }
def w13_20 : State := { keyed with sec := { job := some jobP } }
def w13_22 : State := { live with sec := { signing := some [1#8], nonces := [(5, [], none)] } }
def w13_23 : State := st [(0x2600, 0x21, 1, 1)]

theorem wit_ImagesArriveByBlocks :
    rdN live 0x2400 144 = 0 ∧ sessionState live = 0 ∧ quiescing live = false ∧ freeItem live = some 0 ∧ Accepts live 0 0x2400
      32 [1#8] ∧
    (sessionState w13_8 = 1 ∨ sessionState w13_8 = 2) ∧ quiescing w13_8 = false ∧ freeItem w13_8 = some 0 ∧ 0 < rdN w13_8
      0x2400 130 ∧ rdBit w13_8 0x2400 132 0 = false ∧ Accepts w13_8 0 0x2400 33 (leBytes 4 0 ++ [1#8]) ∧
    Alive w13_8 ∧ rdN w13_8 0x2400 129 ≤ 1 ∧ jb.num < 64 ∧ jb.client ≤ 128 ∧ w13_8.fw.jobs = [jb] ∧
    Alive w13_9 ∧ rdN w13_9 0x2400 129 ≤ 1 ∧ jbB.num < 64 ∧ jbB.client ≤ 128 ∧ w13_9.fw.jobs = [jbB] ∧ jbB.hash ≠ (image
      w13_9 (rdN w13_9 0x2400 129)).wanted.getD jbB.num [] ∧
    Alive w13_8 ∧ rdN w13_8 0x2400 129 ≤ 1 ∧ jb.num < 64 ∧ jb.client ≤ 128 ∧ w13_8.fw.jobs = [jb] ∧ jb.hash = (image w13_8
      (rdN w13_8 0x2400 129)).wanted.getD jb.num [] := by decide +kernel

theorem wit_ImagesAreCommittedAndConfirmed :
    sessionState w13_11 = 2 ∧ Accepts w13_11 64 0x2400 16 (leBytes 1 1) ∧
    Alive w13_11 ∧ rdN w13_11 0x2400 129 ≤ 1 ∧ 64 ≤ jc.num ∧ jc.client ≤ 128 ∧ w13_11.fw.jobs = [jc] ∧ ([].all fun (x : Nat)
      => decide (x < 63)) = true ∧ List.filter (fun (x : Nat) => decide (x < (image w13_11 (rdN w13_11 0x2400 129)).n)) [] =
      [] ∧ rollbackC w13_11 ≤ (image w13_11 (rdN w13_11 0x2400 129)).level ∧
    Alive w13_11 ∧ rdN w13_11 0x2400 129 ≤ 1 ∧ 64 ≤ jc.num ∧ jc.client ≤ 128 ∧ w13_11.fw.jobs = [jc] ∧ ([0].all fun (x : Nat)
      => decide (x < 63)) = true ∧ (List.filter (fun (x : Nat) => decide (x < (image w13_11 (rdN w13_11 0x2400 129)).n)) [0]
      ≠ [] ∨ true = false ∨ (image w13_11 (rdN w13_11 0x2400 129)).level < rollbackC w13_11) ∧
    (sessionState w13_11 = 1 ∨ sessionState w13_11 = 2) ∧ rdN w13_11 0x2400 129 ≤ 1 ∧ Accepts w13_11 64 0x2400 16 (leBytes 1
      2) ∧
    rdN w13_12 0x2400 144 = 2 ∧ Accepts w13_12 64 0x2400 16 (leBytes 1 3) ∧
    Accepts w13_11 64 0x2400 16 (leBytes 1 4) := by decide +kernel

theorem wit_ImagesAreCommittedAndConfirmed_b :
    Accepts w13_11 64 0x2400 17 (leBytes 1 1) := by decide +kernel

theorem wit_KeysReportsAndUnlock :
    Accepts live 5 (0x2601 + 0) 1 key0 ∧
    Accepts live 5 0x2600 33 (leBytes 1 1) ∧
    Served w13_19 ∧ w13_19.commitDue = none ∧ w13_19.tt.commit = none ∧ w13_19.tt.answerTo = none ∧ w13_19.sec.job = some
      jobR ∧ jobR.due ≤ w13_19.now + 1 ∧ jobR.storeItem = none ∧ jobR.keys = [(0x2601 + 0, 16, leBytes 1 1)] := by decide +kernel

theorem wit_KeysReportsAndUnlock_b :
    Served w13_20 ∧ w13_20.commitDue = none ∧ w13_20.tt.commit = none ∧ w13_20.tt.answerTo = none ∧ w13_20.sec.job = some
      jobP ∧ jobP.due ≤ w13_20.now + 1 ∧ jobP.storeItem = none ∧ jobP.keys = [(0x2600, 32, leBytes 1 1)] ∧
    Served keyed ∧ anyLoaded keyed = true ∧ groupOf keyed 5 = none ∧
    keyed.sec.job = none ∧ Accepts keyed 5 0x2608 1 img0 ∧ bit (num img0 7 1) 0 = false ∧ bit (num img0 7 1) 1 = false := by decide +kernel

theorem wit_KeysReportsAndUnlock_c :
    imageCheck 5 ((imageForm img0).getD []) { keyed with answers := keyed.answers.del 5 }
      { keyed with answers := keyed.answers.del 5 } = (0, keyed) ∧ listBroken keyed (List.filter (fun (e : Nat × Nat × List
      Byte) => !structural e.fst e.snd.fst && !ttStaged e.fst e.snd.fst && !keyEntry e) ((imageForm img0).getD [])) = false ∧
      heldRefusal keyed 5 5 (List.filter (fun (e : Nat × Nat × List Byte) => !structural e.fst e.snd.fst && !ttStaged e.fst
      e.snd.fst && !keyEntry e) ((imageForm img0).getD [])) = none ∧ imageRefusal keyed img0 = 0 ∧
    live.sec.job = none ∧ Accepts live 5 0x2608 1 img0 ∧ imageRefusal live img0 ≠ 0 ∧
    Accepts live 5 0x2610 1 (leBytes 32 7) := by decide +kernel

theorem wit_KeysReportsAndUnlock_d :
    Alive w13_22 ∧ w13_22.sec.signing = some (leBytes 1 1) ∧ w13_22.sec.nonces = [(5, [], w13_23.sec.unlockAt)] ∧
    Served live ∧
    rdF w13_23 0x2600 33 = true ∧ rdN w13_23 0x2600 130 ≠ 1 ∧ w13_23.sec.unlockAt = none ∧ Accepts w13_23 5 0x260C 2 (leBytes
      384 0) := by decide +kernel

theorem wit_KeysReportsAndUnlock_e :
    Accepts live 5 0x260C 3 (leBytes 1 1) := by decide +kernel


-- Worked examples of the spec ---------------------------------------------------------------------------------------

/-- The state after one step that takes `c`. -/
def after (s : State) (c : Instr) : State := match step { s with pending := [c] } with | .next t => t | _ => s

/-- R322: the CRC of "123456789", and that of the frame in the worked example of chapter 13. -/
theorem test_crc : crc16 [0x31#8, 0x32#8, 0x33#8, 0x34#8, 0x35#8, 0x36#8, 0x37#8, 0x38#8, 0x39#8] = 0x29B1 ∧
    crc16 [0x21#8, 0x0D#8, 0x3C#8, 0x87#8, 0x00#8, 0x00#8] = 0x82D3 := by decide +kernel

/-- Chapter 0, decoding references at Harrowgate Cross: 0x60C0, 0x70AA (absent from a ZH6432, R3) and 0x412C. -/
theorem test_references : refClass 0x60C0 = 6 ∧ refIndex 0x60C0 = 12 * 16 ∧ refClass 0x70AA = 7 ∧ refIndex 0x70AA = 42 * 4 + 2 ∧
    signalRefAbsent 0x70AA = true ∧ signalRefAbsent 0x60C0 = false ∧ refClass 0x412C = 4 ∧ refIndex 0x412C = 300 := by decide +kernel

/-- R195 and the example of display D12: the phases of zones 13, 23 and 51 in RG6. -/
theorem test_zone_phases : zonePhase live 13 = 2031 ∧ zonePhase live 23 = 3593 ∧ zonePhase live 51 = 7968 := by decide +kernel

/-- The channel of the index slip on the supply-air damper (chapter 5): a quadrature encoder of 2 000 counts, tolerance 1. -/
def damper (count : Nat) : State :=
  { st [(0x3202, 1, 1, 4), (0x3202, 3, 1, 1), (0x3202, 0x21, 4, 2000), (0x3202, 0x22, 2, 1), (0x3202, 5, 1, 1), (0x3202, 0x87, 4, 0)] with
    pos := [(2, { count := count, referenced := true, idxRef := 3000 })] }
/-- Step 1 of that example: the index at 5 001 corrects the count to 5 000. -/
theorem test_index_corrects : (pos (after (damper 5001) (.indexEvent 2 ⟨true, 600⟩ 5)) 2).count = 5000 ∧
    rdN (after (damper 5001) (.indexEvent 2 ⟨true, 600⟩ 5)) 0x3202 0x86 = 1 := by decide +kernel
/-- Step 2: at 7 003 the error is 3; the count stays, and the mismatch is recorded and counted. -/
theorem test_index_mismatch : (pos (after (damper 7003) (.indexEvent 2 ⟨true, 600⟩ 5)) 2).count = 7003 ∧
    rdN (after (damper 7003) (.indexEvent 2 ⟨true, 600⟩ 5)) 0x3202 0x85 = 7003 ∧
    rdN (after (damper 7003) (.indexEvent 2 ⟨true, 600⟩ 5)) 0x3202 0x87 = 1 := by decide +kernel

/-- FP22 of the burst-firing example (chapter 4): 50 Hz, lead 400 µs, the next positive-going crossing at 4.35 ms after the tick. -/
def burst (acc : Nat) : State :=
  { st [(0x2110, 1, 1, 1), (0x3016, 1, 1, 7), (0x3016, 7, 1, 1), (0x3016, 0x27, 2, 400)] with
    ports := [(22, { zxAcc := acc, zxK := 19 })],
    pw := { feeds := [(0, { lastPos := some 19984350000, last := some 19984350000, periods := [20000000] })] } }
/-- Steps 2 and 3 of that example: 44 + 19 makes the cycle active and leaves 13; 13 + 19 = 32 does not. -/
theorem test_burst : (port (after (burst 44) (.zxoDecisionPoint 22 3950)) 22).zxAcc = 44 ∧
    (port (after { burst 44 with now := 200039 } (.zxoDecisionPoint 22 50000)) 22).zxAcc = 13 ∧
    (port (after { burst 44 with now := 200039 } (.zxoDecisionPoint 22 50000)) 22).zxOn = true ∧
    (port (after { burst 13 with now := 200039 } (.zxoDecisionPoint 22 50000)) 22).zxAcc = 32 ∧
    (port (after { burst 13 with now := 200039 } (.zxoDecisionPoint 22 50000)) 22).zxOn = false := by decide +kernel

/-- Chapter 13: FETCH of the answer to a read of zone 13's air estimate, 18.6 °C, under tag 1. -/
def airTag : HostTag := { idx := 0x3C0D, sub := 0x87, resp := some (true, leBytes 4 0x4194CCCD) }
theorem test_fetch :
    ((Tab.find (after { live with host := { tags := [(1, airTag)] } } (.fetch false 1)).answers inlineKey).map fun a => a.data.take 10) =
    some [0x30#8, 0x0D#8, 0x3C#8, 0x87#8, 0x04#8, 0x00#8, 0xCD#8, 0xCC#8, 0x94#8, 0x41#8] := by decide +kernel

/-- Client 5 has staged 29 February 2026. -/
def february : State :=
  { st [(0x2300, 9, 1, 1)] with cal := { secs := 1000, stage := [(5, [(1, 2026), (2, 2), (3, 29), (4, 0), (5, 0)], 200000)] } }
/-- R368: 29 February of a common year does not exist; the write that composes it is refused with 0x06090030. -/
theorem test_date_refused : Tab.find (after february (.calendarCommit 5 0 0)).answers 5 = some { code := 0x06090030, data := [] } := by decide +kernel

/-- A hoist whose configuration and version agree with the device's is valid (HalyardCarriesThePair). -/
def hoGood : Hoist := { ho with hash := configHash stby, format := rdN stby 0x2400 0x92, version := rdN stby 0x4F00 0x81 }
theorem wit_HalyardCarriesThePair_hoist : Alive stby ∧ inPair stby = true ∧ stby.cfgLoaded = true ∧ linkUp stby = true ∧
    stby.ensign = false ∧ role stby ≠ 4 ∧ hoistValid stby hoGood = true := by
  refine ⟨by decide +kernel, by decide +kernel, by decide +kernel, by decide +kernel, by decide +kernel, by decide +kernel, ?_⟩
  simp only [hoistValid, hoGood, beq_self_eq_true, Bool.and_true]
  decide +kernel

-- Well-formedness: each check met at its bound, and broken alone ------------------------------------------------------

/-- The shortest halyard frame. -/
def raw5 : List Byte := List.replicate 5 0#8

/-- A calibration's coefficients of the seven ranges. -/
def cal7 : List (Real32 × Real32) := List.replicate 7 (0, 0)

def wellFormed0 : List Instr := [
  .baseTick {}, .portFaultRetry 63 false, .standstillTimeout 7 99999, .ssiFrameComplete 7 (2 ^ 32 - 1) false false 99999,
  .halfCycleCloseTimeout 1, .crossingLoss 1 99999, .zxoDecisionPoint 63 99999, .zxoCrossingLost 63 99999,
  .pwmCycleStart 63 99999, .fieldPortEdge 63 false 0 99999, .debounceExpired 63 99999, .presenceStretchExpired 63 99999,
  .encoderEdge 7 false false false false 0 99999, .indexEvent 7 ⟨false, 0⟩ 99999, .comparePulseEnd 7 99999, .railVerifyTimeout 1,
  .panelPowerOffStep 1, .lightRampStart 1, .panelRecordPeriodic 1, .injectionDetected 95 false false false false 99999,
  .sramScrub .other (2 ^ 32 - 1) false, .calendarFieldWrite 128 5 65535 99999, .calendarCommit 128 255 99999,
  .calendarStageTimeout 128 ]
def wellFormed1 : List Instr := [
  .calendarRead 128 7, .calendarShadowTimeout 128, .adjustmentRequest 128 (-(2 ^ 31)) 99999, .alarmWrite 128 7 2 [] 99999,
  .dictionaryWrite 128 65535 255 [] 99999, .structuralWrite 128 65535 255 [] 99999, .configurationCommit 128 99999,
  .discardStaging 128 99999, .openWriteGroup 128 99999, .applyWriteGroup 128 99999, .discardWriteGroup 128 99999,
  .writeGroupTimeout 128, .storeParameters 128 4 99999, .restoreDefaults 128 4 99999, .logReadEntry 128, .logReadEntries 128,
  .clearPennants 128 3 (2 ^ 32 - 1) 99999, .swapRequest 128 1023 99999, .swapTick 1023, .clearLaneFault 128 1023 99999,
  .loopModeChange 128 1023 255 99999, .traceArm 128 99999, .traceForceTrigger 128 99999, .traceStop 128 99999 ]
def wellFormed2 : List Instr := [
  .countPreset 128 63 (2 ^ 32 - 1) 99999, .positionPreset 128 7 (-(2 ^ 31)) 99999, .reReference 128 7 99999,
  .compareArm 128 7 99999, .compareDisarm 128 7 99999, .estimatorReinitCommand 128 63 99999, .learningReset 128 63 99999,
  .learningSave 128 63 99999, .timetableEntryWrite 128 65535 255 [] 99999, .timetableCommit 128 99999,
  .timetableDiscard 128 99999, .panelUpdateRequest 128 1 99999, .panelClearUpdateRequest 128 1 99999,
  .panelPowerOn 128 1 99999, .panelPowerOff 128 1 99999, .targetImageWrite 128 1 (2 ^ 64 - 1) 99999,
  .accumulatorZero 128 1 99999, .frameReceived 3 { ide := true, id := 2 ^ 29 - 1, data := List.replicate 64 0#8 } ⟨0, 7999⟩ false,
  .bufferRelease 3 64, .filterTableSwitch 3 (List.replicate 128 q3),
  .frameSubmitted 3 { ide := true, id := 2 ^ 29 - 1, data := List.replicate 64 0#8 } false, .frameTransmitted 3 ⟨255, (2 ^ 32 - 1), 7999⟩,
  .canError 3 false 7 false ⟨false, (some 255)⟩, .busOffHoldoffExpired 3 ]
def wellFormed3 : List Instr := [
  .startRecovery 128 3 99999, .recoveryComplete 3, .solitaryRetry 3 ⟨false, 255, (2 ^ 32 - 1), 7999⟩, .canModeChange 3, .canModeRequest 128 3 255 99999,
  .nmtStart 127 99999, .nmtStop 127 99999, .nmtEnterPreOperational 127 99999, .nmtResetApplication 127 99999,
  .nmtResetCommunication 127 99999, .rpdoReceived 512 (List.replicate 64 0#8) 99999, .rpdoTimeout 512, .remoteSlotTimeout 1023,
  .syncReceived none 99999, .tpdoAssembly 512, .heartbeatReceived false 127 127, .heartbeatConsumerTimeout 8,
  .usdoRequest 127 (.start 65535 255 (2 ^ 32 - 1) 1) 99999, .usdoSegmentTimeout 127, .fieldNodeBootUp 127 {},
  .fieldNodeBootTimeout 127, .fieldNodeLost 127 false, .fieldNodeRetry 127 {}, .clientTransferTimeout 127 {} ]
def wellFormed4 : List Instr := [
  .fieldNodeNmtStart 128 127 99999, .fieldNodeNmtStop 128 127 99999, .fieldNodeNmtPreOperational 128 127 99999,
  .fieldNodeNmtResetApplication 128 127 99999, .fieldNodeNmtResetCommunication 128 127 99999,
  .hostRead false 7 65535 255 [] 99999, .hostWrite false 7 65535 255 [] 99999, .readRecord false 7 65535 255 [] 99999,
  .writeRecord false 7 65535 255 [] 99999, .segWrite false 7 65535 255 [] 99999, .bulkRead false 7 65535 255 [] 99999,
  .fetch false 7, .release false 7, .ackIrq false 65535, .hostFrameDiscard false 4 7,
  .tickFrameReceived (2 ^ 64 - 1) (List.replicate 64 0) (List.replicate 8 0) false ⟨raw5, (2 ^ 32 - 1)⟩,
  .mirrorItemReceived (2 ^ 32 - 1) (.group []) ⟨raw5, 0⟩, .logFrameReceived (entry 0) ⟨(List.replicate 1037 0#8), 0⟩,
  .hoistSegmentReceived none ⟨raw5, 0⟩, .bankWriteComplete ⟨(List.replicate 32 0#8), []⟩, .piRead false 255 255 [] [],
  .controlJoin (List.replicate 32 0#8) 0 (List.replicate 3 0), .healthFrameReceived (Health.mk 0 0 0 0 0 0 0),
  .orderGrant 255 255 65535, .orderRevoke 255 255 65535, .orderSwap 255 255 65535 false 99999, .orderResync 255 255 ]
def wellFormed5 : List Instr := [
  .reportReceived (Report.mk 0 0 0 0 0 0 0) 99999, .withdrawnTimeout 99999, .unitFailed 1 99999, .killHoldExpired 1,
  .coldStartWait 99999, .requestSwap 128 99999, .requestResync 128 99999, .witnessOrderSwap 128 99999,
  .releaseKillLatches 128 99999, .feedBrownOut 1, .feedRestored 1 1, .powerCmdRun 128 99999, .powerCmdDoze 128 99999,
  .powerCmdSleep 128 99999, .powerCmdShip 128 99999, .thermalMeasurement (List.replicate 12 0) false,
  .imageHeader 128 [] 99999, .imageBlock 128 [] 99999, .firmwareCommit 128 99999, .firmwareClose 128 99999,
  .firmwareConfirm 128 99999, .selectOtherImage 128 99999, .restartCommand 128 255 99999, .keyLoad 128 3 [] false 99999 ]
def wellFormed6 : List Instr := [
  .keyRevoke 128 3 false 99999, .signaturePolicyWrite 128 0x21 false 99999, .signedConfigurationImage 128 [] 99999,
  .attestationNonce 128 [] 99999, .debugChallenge 128, .debugResponse 128 [] 99999, .lockCommand 128 99999,
  .tapSamplePreload (2 ^ 402 - 1) (2 ^ 402 - 1), .tapPrivateDebug 7, .zxoLevelSwitch 63 99999, .busIntegrationComplete 3,
  .workItemDeadline 95, .usdoServiceStart 99999, .beaconSend 99999, .controlAcknowledgement false (2 ^ 32 - 1),
  .commitVerificationDone [63] false, .reportSigned (List.replicate 384 0#8), .calibrationWindowStart cal7,
  .calibrationReconnect cal7, .spareSelfCalibration cal7,
  .resetRelease ⟨false, false, []⟩ false true true (2 ^ 32 - 1) none (List.replicate 17 cal7),
  .bootRomRetry true true (2 ^ 32 - 1) none (List.replicate 17 cal7) ]
/-- Every term is one that a sender can send. -/
theorem test_wellFormed : (wellFormed0 ++ wellFormed1 ++ wellFormed2 ++ wellFormed3 ++ wellFormed4 ++ wellFormed5 ++ wellFormed6).all (fun i => i.wf == true) = true := by decide +kernel

def illFormed0 : List Instr := [
  .baseTick { adc := List.replicate 18 [] }, .baseTick { pins := 2 ^ 64 }, .baseTick { lanes := [(1024, false)] },
  .baseTick { loopEcc := [(1024, 0, 0)] }, .baseTick { loopEcc := [(0, 3, 0)] }, .portFaultRetry 64 false,
  .standstillTimeout 8 99999, .standstillTimeout 7 100000, .ssiFrameComplete 8 (2 ^ 32 - 1) false false 99999,
  .ssiFrameComplete 7 (2 ^ 32) false false 99999, .ssiFrameComplete 7 (2 ^ 32 - 1) false false 100000,
  .halfCycleCloseTimeout 2, .crossingLoss 2 99999, .crossingLoss 1 100000, .zxoDecisionPoint 64 99999,
  .zxoDecisionPoint 63 100000, .zxoCrossingLost 64 99999, .zxoCrossingLost 63 100000, .pwmCycleStart 64 99999,
  .pwmCycleStart 63 100000, .fieldPortEdge 64 false 0 99999, .fieldPortEdge 63 false 0 100000, .debounceExpired 64 99999,
  .debounceExpired 63 100000 ]
def illFormed1 : List Instr := [
  .presenceStretchExpired 64 99999, .presenceStretchExpired 63 100000, .encoderEdge 8 false false false false 0 99999,
  .encoderEdge 7 false false false false 0 100000, .indexEvent 8 ⟨false, 0⟩ 99999, .indexEvent 7 ⟨false, 0⟩ 100000,
  .comparePulseEnd 8 99999, .comparePulseEnd 7 100000, .railVerifyTimeout 2, .panelPowerOffStep 2, .lightRampStart 2,
  .panelRecordPeriodic 2, .injectionDetected 96 false false false false 99999,
  .injectionDetected 95 false false false false 100000, .sramScrub .other (2 ^ 32) false,
  .calendarFieldWrite 129 5 65535 99999, .calendarFieldWrite 128 6 65535 99999, .calendarFieldWrite 128 5 65536 99999,
  .calendarFieldWrite 128 5 65535 100000, .calendarCommit 129 255 99999, .calendarCommit 128 256 99999,
  .calendarCommit 128 255 100000, .calendarStageTimeout 129, .calendarRead 129 7 ]
def illFormed2 : List Instr := [
  .calendarRead 128 8, .calendarShadowTimeout 129, .adjustmentRequest 129 (-(2 ^ 31)) 99999,
  .adjustmentRequest 128 (2 ^ 31) 99999, .adjustmentRequest 128 (-(2 ^ 31)) 100000, .alarmWrite 129 7 2 [] 99999,
  .alarmWrite 128 8 2 [] 99999, .alarmWrite 128 7 3 [] 99999, .alarmWrite 128 7 2 [] 100000,
  .dictionaryWrite 129 65535 255 [] 99999, .dictionaryWrite 128 65536 255 [] 99999, .dictionaryWrite 128 65535 256 [] 99999,
  .dictionaryWrite 128 65535 255 [] 100000, .structuralWrite 129 65535 255 [] 99999, .structuralWrite 128 65536 255 [] 99999,
  .structuralWrite 128 65535 256 [] 99999, .structuralWrite 128 65535 255 [] 100000, .configurationCommit 129 99999,
  .configurationCommit 128 100000, .discardStaging 129 99999, .discardStaging 128 100000, .openWriteGroup 129 99999,
  .openWriteGroup 128 100000, .applyWriteGroup 129 99999 ]
def illFormed3 : List Instr := [
  .applyWriteGroup 128 100000, .discardWriteGroup 129 99999, .discardWriteGroup 128 100000, .writeGroupTimeout 129,
  .storeParameters 129 4 99999, .storeParameters 128 5 99999, .storeParameters 128 4 100000, .restoreDefaults 129 4 99999,
  .restoreDefaults 128 5 99999, .restoreDefaults 128 4 100000, .logReadEntry 129, .logReadEntries 129,
  .clearPennants 129 3 (2 ^ 32 - 1) 99999, .clearPennants 128 4 (2 ^ 32 - 1) 99999, .clearPennants 128 3 (2 ^ 32) 99999,
  .clearPennants 128 3 (2 ^ 32 - 1) 100000, .swapRequest 129 1023 99999, .swapRequest 128 1024 99999,
  .swapRequest 128 1023 100000, .swapTick 1024, .clearLaneFault 129 1023 99999, .clearLaneFault 128 1024 99999,
  .clearLaneFault 128 1023 100000, .loopModeChange 129 1023 255 99999 ]
def illFormed4 : List Instr := [
  .loopModeChange 128 1024 255 99999, .loopModeChange 128 1023 256 99999, .loopModeChange 128 1023 255 100000,
  .traceArm 129 99999, .traceArm 128 100000, .traceForceTrigger 129 99999, .traceForceTrigger 128 100000, .traceStop 129 99999,
  .traceStop 128 100000, .countPreset 129 63 (2 ^ 32 - 1) 99999, .countPreset 128 64 (2 ^ 32 - 1) 99999,
  .countPreset 128 63 (2 ^ 32) 99999, .countPreset 128 63 (2 ^ 32 - 1) 100000, .positionPreset 129 7 (-(2 ^ 31)) 99999,
  .positionPreset 128 8 (-(2 ^ 31)) 99999, .positionPreset 128 7 (2 ^ 31) 99999, .positionPreset 128 7 (-(2 ^ 31)) 100000,
  .reReference 129 7 99999, .reReference 128 8 99999, .reReference 128 7 100000, .compareArm 129 7 99999,
  .compareArm 128 8 99999, .compareArm 128 7 100000, .compareDisarm 129 7 99999 ]
def illFormed5 : List Instr := [
  .compareDisarm 128 8 99999, .compareDisarm 128 7 100000, .estimatorReinitCommand 129 63 99999,
  .estimatorReinitCommand 128 64 99999, .estimatorReinitCommand 128 63 100000, .learningReset 129 63 99999,
  .learningReset 128 64 99999, .learningReset 128 63 100000, .learningSave 129 63 99999, .learningSave 128 64 99999,
  .learningSave 128 63 100000, .timetableEntryWrite 129 65535 255 [] 99999, .timetableEntryWrite 128 65536 255 [] 99999,
  .timetableEntryWrite 128 65535 256 [] 99999, .timetableEntryWrite 128 65535 255 [] 100000, .timetableCommit 129 99999,
  .timetableCommit 128 100000, .timetableDiscard 129 99999, .timetableDiscard 128 100000, .panelUpdateRequest 129 1 99999,
  .panelUpdateRequest 128 2 99999, .panelUpdateRequest 128 1 100000, .panelClearUpdateRequest 129 1 99999,
  .panelClearUpdateRequest 128 2 99999 ]
def illFormed6 : List Instr := [
  .panelClearUpdateRequest 128 1 100000, .panelPowerOn 129 1 99999, .panelPowerOn 128 2 99999, .panelPowerOn 128 1 100000,
  .panelPowerOff 129 1 99999, .panelPowerOff 128 2 99999, .panelPowerOff 128 1 100000,
  .targetImageWrite 129 1 (2 ^ 64 - 1) 99999, .targetImageWrite 128 2 (2 ^ 64 - 1) 99999,
  .targetImageWrite 128 1 (2 ^ 64) 99999, .targetImageWrite 128 1 (2 ^ 64 - 1) 100000, .accumulatorZero 129 1 99999,
  .accumulatorZero 128 2 99999, .accumulatorZero 128 1 100000,
  .frameReceived 4 { ide := true, id := 2 ^ 29 - 1, data := List.replicate 64 0#8 } ⟨0, 7999⟩ false,
  .frameReceived 3 { id := 2 ^ 11 } ⟨0, 7999⟩ false, .frameReceived 3 { ide := true, id := 2 ^ 29 } ⟨0, 7999⟩ false,
  .frameReceived 3 { id := 0, data := List.replicate 9 0#8 } ⟨0, 7999⟩ false, .frameReceived 3 { id := 0, rtr := true } ⟨0, 7999⟩ false,
  .frameReceived 3 { id := 0, fd := false, brs := true } ⟨0, 7999⟩ false,
  .frameReceived 3 { id := 0, fd := false, data := List.replicate 9 0#8 } ⟨0, 7999⟩ false,
  .frameReceived 3 { ide := true, id := 2 ^ 29 - 1, data := List.replicate 64 0#8 } ⟨0, 8000⟩ false, .bufferRelease 4 64,
  .bufferRelease 3 65 ]
def illFormed7 : List Instr := [
  .filterTableSwitch 4 (List.replicate 128 q3), .filterTableSwitch 3 (List.replicate 129 q3),
  .frameSubmitted 4 { ide := true, id := 2 ^ 29 - 1, data := List.replicate 64 0#8 } false,
  .frameSubmitted 3 { id := 2 ^ 11 } false, .frameSubmitted 3 { ide := true, id := 2 ^ 29 } false,
  .frameSubmitted 3 { id := 0, data := List.replicate 9 0#8 } false, .frameSubmitted 3 { id := 0, rtr := true } false, .frameSubmitted 3 { id := 0, fd := false, rtr := true } false,
  .frameSubmitted 3 { id := 0, fd := false, brs := true } false,
  .frameSubmitted 3 { id := 0, fd := false, data := List.replicate 9 0#8 } false, .frameTransmitted 4 ⟨0, 0, 0⟩, .frameTransmitted 3 ⟨256, 0, 0⟩, .frameTransmitted 3 ⟨0, (2 ^ 32), 0⟩, .frameTransmitted 3 ⟨0, 0, 8000⟩,
  .canError 4 false 7 false ⟨false, none⟩, .canError 3 false 8 false ⟨false, none⟩, .canError 3 false 7 false ⟨false, (some 256)⟩, .busOffHoldoffExpired 4, .startRecovery 129 3 99999,
  .startRecovery 128 4 99999, .startRecovery 128 3 100000, .recoveryComplete 4, .solitaryRetry 4 ⟨false, 0, 0, 0⟩, .solitaryRetry 3 ⟨false, 256, 0, 0⟩, .solitaryRetry 3 ⟨false, 0, (2 ^ 32), 0⟩, .solitaryRetry 3 ⟨false, 0, 0, 8000⟩, .canModeChange 4,
  .canModeRequest 129 3 255 99999, .canModeRequest 128 4 255 99999, .canModeRequest 128 3 256 99999,
  .canModeRequest 128 3 255 100000, .nmtStart 128 99999 ]
def illFormed8 : List Instr := [
  .nmtStart 127 100000, .nmtStop 128 99999, .nmtStop 127 100000, .nmtEnterPreOperational 128 99999,
  .nmtEnterPreOperational 127 100000, .nmtResetApplication 128 99999, .nmtResetApplication 127 100000,
  .nmtResetCommunication 128 99999, .nmtResetCommunication 127 100000, .rpdoReceived 513 (List.replicate 64 0#8) 99999,
  .rpdoReceived 512 (List.replicate 65 0#8) 99999, .rpdoReceived 512 (List.replicate 64 0#8) 100000, .rpdoTimeout 513,
  .remoteSlotTimeout 1024, .syncReceived none 100000, .tpdoAssembly 513, .heartbeatReceived false 128 127,
  .heartbeatReceived false 127 128, .heartbeatConsumerTimeout 9, .usdoRequest 128 (.start 65535 255 (2 ^ 32 - 1) 1) 99999,
  .usdoRequest 127 (.read 65536 0) 99999, .usdoRequest 127 (.write 0 256 []) 99999,
  .usdoRequest 127 (.start 0 0 (2 ^ 32) 0) 99999, .usdoRequest 127 (.segment [] true 2) 99999 ]
def illFormed9 : List Instr := [
  .usdoRequest 127 (.start 65535 255 (2 ^ 32 - 1) 1) 100000, .usdoSegmentTimeout 128, .fieldNodeBootUp 128 {},
  .fieldNodeBootTimeout 128, .fieldNodeLost 128 false, .fieldNodeRetry 128 {}, .clientTransferTimeout 128 {},
  .fieldNodeNmtStart 129 127 99999, .fieldNodeNmtStart 128 128 99999, .fieldNodeNmtStart 128 127 100000,
  .fieldNodeNmtStop 129 127 99999, .fieldNodeNmtStop 128 128 99999, .fieldNodeNmtStop 128 127 100000,
  .fieldNodeNmtPreOperational 129 127 99999, .fieldNodeNmtPreOperational 128 128 99999,
  .fieldNodeNmtPreOperational 128 127 100000, .fieldNodeNmtResetApplication 129 127 99999,
  .fieldNodeNmtResetApplication 128 128 99999, .fieldNodeNmtResetApplication 128 127 100000,
  .fieldNodeNmtResetCommunication 129 127 99999, .fieldNodeNmtResetCommunication 128 128 99999,
  .fieldNodeNmtResetCommunication 128 127 100000, .hostRead false 8 65535 255 [] 99999, .hostRead false 7 65536 255 [] 99999 ]
def illFormed10 : List Instr := [
  .hostRead false 7 65535 256 [] 99999, .hostRead false 7 65535 255 [] 100000, .hostWrite false 8 65535 255 [] 99999,
  .hostWrite false 7 65536 255 [] 99999, .hostWrite false 7 65535 256 [] 99999, .hostWrite false 7 65535 255 [] 100000,
  .readRecord false 8 65535 255 [] 99999, .readRecord false 7 65536 255 [] 99999, .readRecord false 7 65535 256 [] 99999,
  .readRecord false 7 65535 255 [] 100000, .writeRecord false 8 65535 255 [] 99999, .writeRecord false 7 65536 255 [] 99999,
  .writeRecord false 7 65535 256 [] 99999, .writeRecord false 7 65535 255 [] 100000, .segWrite false 8 65535 255 [] 99999,
  .segWrite false 7 65536 255 [] 99999, .segWrite false 7 65535 256 [] 99999, .segWrite false 7 65535 255 [] 100000,
  .bulkRead false 8 65535 255 [] 99999, .bulkRead false 7 65536 255 [] 99999, .bulkRead false 7 65535 256 [] 99999,
  .bulkRead false 7 65535 255 [] 100000, .fetch false 8, .release false 8 ]
def illFormed11 : List Instr := [
  .ackIrq false 65536, .hostFrameDiscard false 1 7, .hostFrameDiscard false 4 8,
  .tickFrameReceived (2 ^ 64) (List.replicate 64 0) (List.replicate 8 0) false ⟨raw5, 0⟩,
  .tickFrameReceived (2 ^ 64 - 1) (List.replicate 65 0) (List.replicate 8 0) false ⟨raw5, 0⟩,
  .tickFrameReceived (2 ^ 64 - 1) (List.replicate 64 65536) (List.replicate 8 0) false ⟨raw5, 0⟩,
  .tickFrameReceived (2 ^ 64 - 1) (List.replicate 64 0) (List.replicate 9 0) false ⟨raw5, 0⟩,
  .tickFrameReceived 0 (List.replicate 64 0) (List.replicate 8 0) false ⟨[], 0⟩,
  .mirrorItemReceived (2 ^ 32) (.group []) ⟨raw5, 0⟩, .mirrorItemReceived 0 (.group []) ⟨raw5, (2 ^ 32)⟩,
  .logFrameReceived { entry 0 with code := 65536 } ⟨raw5, 0⟩, .logFrameReceived { entry 0 with loc := 2 ^ 32 } ⟨raw5, 0⟩,
  .logFrameReceived (entry 0) ⟨(List.replicate 1038 0#8), 0⟩, .hoistSegmentReceived (some (ho, [0#8])) ⟨raw5, 0⟩, .hoistSegmentReceived none ⟨[], 0⟩,
  .bankWriteComplete ⟨[], []⟩, .piRead false 256 0 [] [], .piRead false 0 256 [] [], .controlJoin (List.replicate 33 0#8) 0 (List.replicate 3 0),
  .controlJoin (List.replicate 32 0#8) 0 (List.replicate 4 0), .healthFrameReceived (Health.mk 2 0 0 0 0 0 0),
  .healthFrameReceived (Health.mk 0 256 0 0 0 0 0), .healthFrameReceived (Health.mk 0 0 256 0 0 0 0),
  .healthFrameReceived (Health.mk 0 0 0 0 0 65536 0), .orderGrant 256 255 65535, .orderGrant 255 256 65535,
  .orderGrant 255 255 65536, .orderRevoke 256 255 65535, .orderRevoke 255 256 65535, .orderRevoke 255 255 65536,
  .orderSwap 256 255 65535 false 99999, .orderSwap 255 256 65535 false 99999 ]
def illFormed12 : List Instr := [
  .orderSwap 255 255 65536 false 99999, .orderSwap 255 255 65535 false 100000, .orderResync 256 255, .orderResync 255 256,
  .reportReceived (Report.mk 256 0 0 0 0 0 0) 99999, .reportReceived (Report.mk 0 0 0 0 0 0 0) 100000,
  .withdrawnTimeout 100000, .unitFailed 2 99999, .unitFailed 1 100000, .killHoldExpired 2, .coldStartWait 100000,
  .requestSwap 129 99999, .requestSwap 128 100000, .requestResync 129 99999, .requestResync 128 100000,
  .witnessOrderSwap 129 99999, .witnessOrderSwap 128 100000, .releaseKillLatches 129 99999, .releaseKillLatches 128 100000,
  .feedBrownOut 2, .feedRestored 2 1, .feedRestored 1 2, .powerCmdRun 129 99999, .powerCmdRun 128 100000 ]
def illFormed13 : List Instr := [
  .powerCmdDoze 129 99999, .powerCmdDoze 128 100000, .powerCmdSleep 129 99999, .powerCmdSleep 128 100000,
  .powerCmdShip 129 99999, .powerCmdShip 128 100000, .thermalMeasurement (List.replicate 13 0) false,
  .imageHeader 129 [] 99999, .imageHeader 128 [] 100000, .imageBlock 129 [] 99999, .imageBlock 128 [] 100000,
  .firmwareCommit 129 99999, .firmwareCommit 128 100000, .firmwareClose 129 99999, .firmwareClose 128 100000,
  .firmwareConfirm 129 99999, .firmwareConfirm 128 100000, .selectOtherImage 129 99999, .selectOtherImage 128 100000,
  .restartCommand 129 255 99999, .restartCommand 128 256 99999, .restartCommand 128 255 100000, .keyLoad 129 3 [] false 99999,
  .keyLoad 128 4 [] false 99999 ]
def illFormed14 : List Instr := [
  .keyLoad 128 3 [] false 100000, .keyRevoke 129 3 false 99999, .keyRevoke 128 4 false 99999, .keyRevoke 128 3 false 100000,
  .signaturePolicyWrite 129 0x21 false 99999, .signaturePolicyWrite 128 34 false 99999,
  .signaturePolicyWrite 128 0x21 false 100000, .signedConfigurationImage 129 [] 99999, .signedConfigurationImage 128 [] 100000,
  .attestationNonce 129 [] 99999, .attestationNonce 128 [] 100000, .debugChallenge 129, .debugResponse 129 [] 99999,
  .debugResponse 128 [] 100000, .lockCommand 129 99999, .lockCommand 128 100000, .tapSamplePreload (2 ^ 402) (2 ^ 402 - 1),
  .tapSamplePreload (2 ^ 402 - 1) (2 ^ 402), .tapPrivateDebug 8, .zxoLevelSwitch 64 99999, .zxoLevelSwitch 63 100000,
  .busIntegrationComplete 4, .workItemDeadline 96, .usdoServiceStart 100000 ]
def illFormed15 : List Instr := [
  .beaconSend 100000, .controlAcknowledgement false (2 ^ 32), .commitVerificationDone [64] false,
  .reportSigned (List.replicate 385 0#8), .calibrationWindowStart [], .calibrationReconnect [], .spareSelfCalibration [],
  .resetRelease ⟨false, false, []⟩ false true true (2 ^ 32) none (List.replicate 17 cal7),
  .resetRelease ⟨false, false, []⟩ false true true 0 none [], .bootRomRetry true true (2 ^ 32) none (List.replicate 17 cal7),
  .bootRomRetry true true 0 none [], .usdoRequest 127 (.read 0 256) 0, .usdoRequest 127 (.write 65536 0 []) 0,
  .usdoRequest 127 (.start 65536 0 0 0) 0, .usdoRequest 127 (.start 0 256 0 0) 0,
  .bankWriteComplete ⟨(List.replicate 32 0#8), (List.replicate 65537 0#8)⟩ ]
/-- Every term is not one that a sender can send. -/
theorem test_illFormed : (illFormed0 ++ illFormed1 ++ illFormed2 ++ illFormed3 ++ illFormed4 ++ illFormed5 ++ illFormed6 ++ illFormed7 ++ illFormed8 ++ illFormed9 ++ illFormed10 ++ illFormed11 ++ illFormed12 ++ illFormed13 ++ illFormed14 ++ illFormed15).all (fun i => i.wf == false) = true := by decide +kernel


end Sys2Proof.Tests
end

section
/-! SUPPORT. Losses of clocks and of memory (R14, R36, R102, R244): what CLK_REF_LOSS, CLK_POS_LOST, CLK_PANEL_LOST and
SRAM_SCRUB come to in a live device, and the hardware cut of the panel ports, port by port. -/
namespace Sys2Proof.Machine
open Sys2Proof Sys2Proof.OD

-- The commands in a live device -----------------------------------------------------------------------------------

theorem exec_clkRefLoss {s : State} (h : Alive s) : exec .clkRefLoss s = .next (settled s (clkRefLoss s)) := by
  change done s (act s clkRefLoss) = _
  rw [act_alive h, done]
theorem exec_clkPosLost {s : State} (h : Alive s) : exec .clkPosLost s = .next (settled s (clkPosLoss s)) := by
  change done s (act s clkPosLoss) = _
  rw [act_alive h, done]
theorem exec_clkPanelLost {s : State} (h : Alive s) : exec .clkPanelLost s = .next (settled s (clkPanelLoss s)) := by
  change done s (act s clkPanelLoss) = _
  rw [act_alive h, done]
theorem exec_sramScrub {s : State} (h : Alive s) (r : Region) (loc : Nat) (fatal : Bool) :
    exec (.sramScrub r loc fatal) s = .next (settled s (sramScrub s r loc fatal)) := by
  change done s (act s fun s => sramScrub s r loc fatal) = _
  rw [act_alive h, done]

-- What the scrubber's error does, by region (R36) -----------------------------------------------------------------

theorem sramScrub_corrected (s : State) (r : Region) (loc : Nat) :
    sramScrub s r loc false = logAdd { s with eccCount := s.eccCount + 1 } 0x0010 loc 0xFF 0 := rfl
theorem sramScrub_other (s : State) (loc : Nat) : sramScrub s .other loc true = eventWith s 1 loc 0x0011 0 0xFF := rfl
theorem sramScrub_ports (s : State) (loc : Nat) :
    sramScrub s .ports loc true = eventWith { s with portEcc := true } 1 loc 0x0011 0 0xFF := rfl
theorem sramScrub_value (s : State) (idx sub loc : Nat) : sramScrub s (.value idx sub) loc true =
    eventWith { s with eccBad := Tab.put s.eccBad (key idx sub) (rdB s idx sub) } 1 loc 0x0011 0 0xFF := rfl
theorem sramScrub_log (s : State) (n loc : Nat) : sramScrub s (.log n) loc true =
    eventWith { s with eccLog := n :: s.eccLog.filter (· != n) } 1 loc 0x0011 0 0xFF := rfl
theorem sramScrub_canBuffer (s : State) (x n loc : Nat) :
    let b := Tab.get (can s x).bufs n {}
    sramScrub s (.canBuffer x n false) loc true = eventWith
      (setCan s x { can s x with bufs := Tab.put (can s x).bufs n { b with frame := none, isNew := false } }) 1 (canLoc x 1 0 n) 0x0011 0 0xFF :=
  rfl
theorem sramScrub_canShadow (s : State) (x n loc : Nat) :
    let b := Tab.get (can s x).bufs n {}
    sramScrub s (.canBuffer x n true) loc true = eventWith
      (setCan s x { can s x with bufs := Tab.put (can s x).bufs n { b with shadow := none } }) 1 (canLoc x 1 1 n) 0x0011 0 0xFF :=
  rfl
theorem sramScrub_canFifo (s : State) (x k loc : Nat) : sramScrub s (.canFifo x k) loc true =
    eventWith (wrN (setCan s x { can s x with fifo := (can s x).fifo.eraseIdx k }) (0x2800 + x) 0x93
      ((can s x).fifo.eraseIdx k).length) 1 (canLoc x 2 0 k) 0x0011 0 0xFF := rfl
theorem sramScrub_loop (s : State) (n bank w loc : Nat) : sramScrub s (.loop n bank w) loc true = loopEccError s n bank w := rfl

-- What the cut of one panel port keeps of the others --------------------------------------------------------------

/-- `t` has every panel port but `p` as in `s`, the class of port `p`, and the loss of CLK_PANEL. -/
def KeepsOtherPorts (p : Nat) (s t : State) : Prop :=
  t.clkPanelLost = s.clkPanelLost ∧ (panel t p).cls = (panel s p).cls ∧ ∀ q, q ≠ p → panel t q = panel s q

theorem KeepsOtherPorts.trans {p : Nat} {s t u : State} (h : KeepsOtherPorts p s t) (k : KeepsOtherPorts p t u) :
    KeepsOtherPorts p s u := by
  obtain ⟨hlost, hcls, hother⟩ := h
  obtain ⟨klost, kcls, kother⟩ := k
  exact ⟨klost.trans hlost, kcls.trans hcls, fun q hq => (kother q hq).trans (hother q hq)⟩
theorem keepsOtherPorts_of_panels {s t : State} (p : Nat) (hlost : t.clkPanelLost = s.clkPanelLost) (hpanels : t.panels = s.panels) :
    KeepsOtherPorts p s t := by simp [KeepsOtherPorts, panel, hlost, hpanels]
theorem KeepsOtherPorts.refl (p : Nat) (s : State) : KeepsOtherPorts p s s := keepsOtherPorts_of_panels p rfl rfl
theorem Told.panel_eq {s t : State} (h : Told s t) (p : Nat) : panel t p = panel s p := by
  obtain ⟨d, cs, pt, an, eq, lg, rfl⟩ := h
  rfl
theorem Told.keepsOtherPorts {s t : State} (p : Nat) (h : Told s t) : KeepsOtherPorts p s t := by
  obtain ⟨d, cs, pt, an, eq, lg, rfl⟩ := h
  exact keepsOtherPorts_of_panels p rfl rfl
theorem keepsOtherPorts_setPanel (s : State) (p : Nat) (x : Panel) (hx : x.cls = (panel s p).cls) :
    KeepsOtherPorts p s (setPanel s p x) :=
  ⟨rfl, by rw [panel_setPanel_self, hx], fun _ hq => panel_setPanel_ne s p x hq.symm⟩

theorem told_wrI (s : State) (i j : Nat) (v : Int) : Told s (wrI s i j v) := by
  unfold wrI
  split
  · exact told_wrB s i j _
  · exact Told.refl s
theorem told_foldS {α : Type} {f : State → α → State} (hf : ∀ s a, Told s (f s a)) (l : List α) (s : State) : Told s (foldS s l f) := by
  induction l generalizing s with
  | nil => exact Told.refl s
  | cons a l ih => exact (hf s a).trans (ih (f s a))
/-- The account of a sub-step is a matter of the accumulators 0x3340+p alone (R250). -/
theorem told_account (s : State) (p : Nat) : Told s (account s p) := by
  unfold account
  split
  · exact Told.refl s
  · refine told_foldS (fun s g => ?_) _ s
    simp only
    split
    · exact Told.refl s
    · exact told_wrI s _ _ _
theorem told_panelStatus (s : State) (p : Nat) : Told s (panelStatus s p) := by
  unfold panelStatus
  exact ((((told_wrBit _ _ _ _ _).trans (told_wrBit _ _ _ _ _)).trans (told_wrBit _ _ _ _ _)).trans (told_wrBit _ _ _ _ _)).trans
    (told_wrN _ _ _ _)

theorem keepsOtherPorts_itemSet (s : State) (p i : Nat) (f : WorkItem → WorkItem) : KeepsOtherPorts p s (itemSet s i f) := by
  unfold itemSet
  split
  · exact keepsOtherPorts_of_panels p rfl rfl
  · exact .refl p s
theorem keepsOtherPorts_itemFail (s : State) (p i reason code : Nat) : KeepsOtherPorts p s (itemFail s i reason code) := by
  unfold itemFail
  split
  · split
    · exact (keepsOtherPorts_itemSet s p i _).trans (((told_logAdd _ _ _ _ _).trans (told_irq _ _)).keepsOtherPorts p)
    · exact .refl p s
  · exact .refl p s
theorem keepsOtherPorts_updateCut (s : State) (p reason : Nat) : KeepsOtherPorts p s (updateCut s p reason) := by
  unfold updateCut
  split
  case h_1 => exact .refl p s
  case h_2 r _ =>
    have hflagged := keepsOtherPorts_setPanel s p
      { panel s p with run := none, lvl := none, recover := (panel s p).recover ||| r.driven } rfl
    refine (hflagged.trans ?_).trans (((told_wrN _ _ _ _).trans (told_panelStatus _ _)).keepsOtherPorts p)
    split
    · exact keepsOtherPorts_itemFail _ p _ _ _
    · exact .refl p _

-- The hardware cut of one panel port (R244, R254) -----------------------------------------------------------------

/-- A port whose outputs and sequences are cut; a discharge that the PANEL_HV timer carries goes on. -/
def silenced (x : Panel) : Panel :=
  let k := dischargeKept x
  { x with hiZ := true, lvl := none, onStep := 0, onReq := none, offReq := none, offKind := k.offKind, offStep := k.offStep,
           lightAt := none, rampAt := none, en := k.en, ties := k.ties, cutAt := none }

/-- What `panelsHardCut` does to port `p`. -/
def portHardCut (reason : Nat) (s : State) (p : Nat) : State :=
  if (panel s p).cls == 0 then s else
  let s := updateCut (account s p) p reason
  let x := panel s p
  let s := wrR (setPanel s p (silenced x)) (ppObj p) 0x8E F32.zero
  if ppState s p == 0 || ppState s p == 7 || discharging (dischargeKept x) then s else setPpState s p 1

theorem panelsHardCut_eq (s : State) (reason : Nat) :
    panelsHardCut s reason = portHardCut reason (portHardCut reason s 0) 1 := rfl

/-- A port with a class is silenced: after the cut of its update only values of the dictionary follow. -/
theorem told_portHardCut (reason : Nat) {s : State} {p : Nat} (h : (panel s p).cls ≠ 0) :
    let t := updateCut (account s p) p reason
    Told (setPanel t p (silenced (panel t p))) (portHardCut reason s p) := by
  unfold portHardCut
  rw [if_neg (by simpa using h)]
  simp only
  split
  · exact told_wrN _ _ _ _
  · exact (told_wrN _ _ _ _).trans (told_wrN _ _ _ _)

theorem keepsOtherPorts_portHardCut (reason : Nat) (s : State) (p : Nat) : KeepsOtherPorts p s (portHardCut reason s p) := by
  by_cases h : (panel s p).cls = 0
  · have huncut : portHardCut reason s p = s := by simp [portHardCut, h]
    rw [huncut]
    exact .refl p s
  · have hcut := ((told_account s p).keepsOtherPorts p).trans (keepsOtherPorts_updateCut _ p reason)
    exact hcut.trans ((keepsOtherPorts_setPanel _ p (silenced _) rfl).trans ((told_portHardCut reason h).keepsOtherPorts p))

theorem portHardCut_highZ (reason : Nat) {s : State} {p : Nat} (h : (panel s p).cls ≠ 0) :
    (panel (portHardCut reason s p) p).hiZ = true ∧ (panel (portHardCut reason s p) p).lightAt = none := by
  rw [(told_portHardCut reason h).panel_eq, panel_setPanel_self]
  exact ⟨rfl, rfl⟩

/-- The cut leaves the loss of CLK_PANEL as it stands. -/
theorem panelsHardCut_clkPanelLost (s : State) (reason : Nat) : (panelsHardCut s reason).clkPanelLost = s.clkPanelLost := by
  rw [panelsHardCut_eq]
  exact (keepsOtherPorts_portHardCut reason _ 1).1.trans (keepsOtherPorts_portHardCut reason s 0).1

/-- Every panel port that has a class is high-Z after the cut, its front light off. -/
theorem panelsHardCut_highZ (s : State) (reason : Nat) {p : Nat} (hp : p < 2) (hcls : (panel s p).cls ≠ 0) :
    (panel (panelsHardCut s reason) p).hiZ = true ∧ (panel (panelsHardCut s reason) p).lightAt = none := by
  rw [panelsHardCut_eq]
  obtain rfl | rfl : p = 0 ∨ p = 1 := by omega
  · obtain ⟨-, -, hother⟩ := keepsOtherPorts_portHardCut reason (portHardCut reason s 0) 1
    rw [hother 0 (by decide)]
    exact portHardCut_highZ reason hcls
  · obtain ⟨-, -, hother⟩ := keepsOtherPorts_portHardCut reason s 0
    exact portHardCut_highZ reason (by rwa [hother 1 (by decide)])

-- The statement ---------------------------------------------------------------------------------------------------

/-- Without CLK_PANEL each panel port with a class is high-Z (R244). -/
theorem clkPanelLost_reaches {s : State} (h : Alive s) : Reaches .clkPanelLost s fun t => t.clkPanelLost = true ∧
    ∀ p, p < 2 → (panel s p).cls ≠ 0 → (panel t p).hiZ = true ∧ (panel t p).lightAt = none :=
  ⟨_, exec_clkPanelLost h, panelsHardCut_clkPanelLost { s with clkPanelLost := true } 13,
    fun _ hp hcls => panelsHardCut_highZ { s with clkPanelLost := true } 13 hp hcls⟩

/-- Settles O24: each command acts in a live device, and the scrubber's errors go by their region. -/
theorem lossesOfClocksAndMemory : Obligations.LossesOfClocksAndMemory := by
  unfold Obligations.LossesOfClocksAndMemory
  refine ⟨?ref, ?pos, ?panel, ?corrected, ?other, ?ports, ?value, ?log, ?canBuffer, ?canFifo, ?loop⟩
  case ref => exact fun s h => exec_clkRefLoss h
  case pos => exact fun s h => exec_clkPosLost h
  case panel => exact fun s h => clkPanelLost_reaches h
  case corrected => exact fun s region loc h => by rw [exec_sramScrub h, sramScrub_corrected]
  case other => exact fun s loc h => by rw [exec_sramScrub h, sramScrub_other]
  case ports => exact fun s loc h => by rw [exec_sramScrub h, sramScrub_ports]
  case value => exact fun s idx sub loc h => by rw [exec_sramScrub h, sramScrub_value]
  case log => exact fun s n loc h => by rw [exec_sramScrub h, sramScrub_log]
  case canBuffer =>
    exact fun s x n loc h => ⟨by rw [exec_sramScrub h, sramScrub_canBuffer], by rw [exec_sramScrub h, sramScrub_canShadow]⟩
  case canFifo => exact fun s x k loc h => by rw [exec_sramScrub h, sramScrub_canFifo]
  case loop => exact fun s n bank w loc h => by rw [exec_sramScrub h, sramScrub_loop]

end Sys2Proof.Machine
end

section
/-! SUPPORT. Background calibration and injection (R83, R84, R88 to R90): what the steps of a calibration window and a change of a
clamp detector come to while the units run. -/
namespace Sys2Proof.Machine
open Sys2Proof Sys2Proof.OD

-- The commands while the units run --------------------------------------------------------------------------------

theorem exec_calibrationWindowStart {s : State} (h : UnitsOn s) (spCoef : List (Real32 × Real32)) :
    exec (.calibrationWindowStart spCoef) s = .next (settled s (calWindowStart s spCoef)) := by
  change done s (runs s fun s => calWindowStart s spCoef) = _
  rw [runs_on h, done]
theorem exec_calibrationReconnect {s : State} (h : UnitsOn s) (coef : List (Real32 × Real32)) :
    exec (.calibrationReconnect coef) s = .next (settled s (calReconnect s coef)) := by
  change done s (runs s fun s => calReconnect s coef) = _
  rw [runs_on h, done]
theorem exec_calibrationWindowEnd {s : State} (h : UnitsOn s) :
    exec .calibrationWindowEnd s = .next (settled s (calWindowEnd s)) := by
  change done s (runs s calWindowEnd) = _
  rw [runs_on h, done]
theorem exec_spareSelfCalibration {s : State} (h : UnitsOn s) (coef : List (Real32 × Real32)) :
    exec (.spareSelfCalibration coef) s = .next (settled s (spareCal s coef)) := by
  change done s (runs s fun s => spareCal s coef) = _
  rw [runs_on h, done]
theorem exec_injectionDetected {s : State} (h : UnitsOn s) (ch : Nat) (above below strong on : Bool) (off : Nat) :
    exec (.injectionDetected ch above below strong on off) s =
      .next (settled s (injection s ch above below strong on off)) := by
  change done s (runs s fun s => injection s ch above below strong on off) = _
  rw [runs_on h, done]

-- The status bytes of the slices (R97) ----------------------------------------------------------------------------

/-- The state and the substitution of a slice, SP being slice 16, are bytes. -/
theorem sliceStatus_width : ∀ sl < 17, ∀ j ∈ [0x80, 0x81], (rowOf (slObj sl) j).map (·.ty.width) = some 1 := by decide

theorem rdN_wrN_sliceStatus (s : State) {sl j v : Nat} (hsl : sl < 17) (hj : j ∈ [0x80, 0x81]) (hv : v < 256) :
    rdN (wrN s (slObj sl) j v) (slObj sl) j = v := by
  obtain ⟨r, hrow, hwidth⟩ := Option.map_eq_some_iff.mp (sliceStatus_width sl hsl j hj)
  rw [rdN_wrN_self s v hrow, hwidth]
  omega
theorem rdN_wrN_nextSlice (s : State) {v : Nat} (hv : v < 256) : rdN (wrN s 0x3180 0x81 v) 0x3180 0x81 = v := by
  obtain ⟨r, hrow, hwidth⟩ : ∃ r, rowOf 0x3180 0x81 = some r ∧ r.ty.width = 1 := ⟨_, rfl, rfl⟩
  rw [rdN_wrN_self s v hrow, hwidth]
  omega

/-- A working slice's status is none of SP's. -/
theorem key_slice_ne_spare {sl : Nat} (hsl : sl < 16) (j : Nat) (hj : j < 256) : key (slObj sl) j ≠ key 0x3170 0x80 := by
  rw [Ne, key_inj hj (by decide)]
  unfold slObj
  omega

-- Work items leave the measurement alone --------------------------------------------------------------------------

@[simp] theorem itemSet_meas (s : State) (i : Nat) (f : WorkItem → WorkItem) : (itemSet s i f).meas = s.meas := by
  unfold itemSet
  split <;> rfl
@[simp] theorem itemSet_dict (s : State) (i : Nat) (f : WorkItem → WorkItem) : (itemSet s i f).dict = s.dict := by
  unfold itemSet
  split <;> rfl
@[simp] theorem itemActive_meas (s : State) (i : Nat) : (itemActive s i).meas = s.meas := itemSet_meas s i _

theorem Told.meas_eq {s t : State} (h : Told s t) : t.meas = s.meas := by
  obtain ⟨d, cs, pt, an, eq, lg, rfl⟩ := h
  rfl

@[simp] theorem itemDone_meas (s : State) (i : Nat) : (itemDone s i).meas = s.meas := by
  unfold itemDone
  split
  · split
    · simp only
      split
      · rw [(told_irq _ 7).meas_eq, itemSet_meas]
      · exact itemSet_meas s i _
    · rfl
  · rfl

/-- The end of an item shows in the pending IRQ sources alone (R331). -/
theorem rdN_itemDone (s : State) (i : Nat) {idx sub : Nat} (h : key 0x2810 0x80 ≠ key idx sub) :
    rdN (itemDone s i) idx sub = rdN s idx sub := by
  have hset (f : WorkItem → WorkItem) : rdN (itemSet s i f) idx sub = rdN s idx sub := by simp [rdN, rdB]
  unfold itemDone
  split
  · split
    · simp only
      split
      · rw [irq, wrBit, rdN_wrN_ne _ _ h, hset]
      · exact hset _
    · rfl
  · rfl

/-- A new item takes the free object while no stop is on its way (R463). -/
theorem newItem_of_free {s : State} {i : Nat} (hq : quiescing s = false) (hi : freeItem s = some i) (kind origin idx sub : Nat) :
    ∃ t, newItem s kind origin idx sub = (t, some i) ∧ t.meas = s.meas := by
  unfold newItem
  rw [hq, hi]
  exact ⟨_, rfl, rfl⟩

theorem calDone_meas (s : State) : (calDone s).meas = { s.meas with calItem := none } := by
  unfold calDone
  split
  · rw [itemDone_meas]
  · next h => rw [← h]
theorem rdN_calDone (s : State) {idx sub : Nat} (h : key 0x2810 0x80 ≠ key idx sub) :
    rdN (calDone s) idx sub = rdN s idx sub := by
  unfold calDone
  split
  · exact rdN_itemDone s _ h
  · rfl

-- The steps of a calibration window (R89, R90) --------------------------------------------------------------------

/-- Step 2: the comparison held, and SP is substituted. -/
theorem calWindowStart_substitutes {s : State} (spCoef : List (Real32 × Real32)) (hphase : s.meas.calPhase = 1)
    (ht : s.meas.calT = s.tick + 1) (hsl : s.meas.calSlice < 16) (hq : quiescing s = false)
    (hfree : (freeItem s).isSome = true) (hcmp : s.meas.cmpFail = false) :
    let t := calWindowStart s spCoef
    t.meas = { s.meas with
      calItem := freeItem s, calPhase := 2, calFails := 0, calRetry := none, calPrev := coefsOf s s.meas.calSlice } ∧
    rdN t (slObj s.meas.calSlice) 0x80 = 1 ∧ rdN t (slObj s.meas.calSlice) 0x81 = 16 ∧ rdN t 0x3170 0x80 = 5 := by
  obtain ⟨i, hi⟩ := Option.isSome_iff_exists.mp hfree
  obtain ⟨u, hnew, hu⟩ := newItem_of_free hq hi 5 0x0100 (slObj s.meas.calSlice) 0
  have h80 : key (slObj s.meas.calSlice) 0x80 ≠ key 0x3170 0x80 := key_slice_ne_spare hsl _ (by decide)
  have h81 : key (slObj s.meas.calSlice) 0x81 ≠ key 0x3170 0x80 := key_slice_ne_spare hsl _ (by decide)
  have h81_80 : key (slObj s.meas.calSlice) 0x81 ≠ key (slObj s.meas.calSlice) 0x80 := by simp [key]
  have hopen : calWindowStart s spCoef =
      let v := wrN (wrN (wrN (itemActive { u with meas := { u.meas with calItem := some i } } i)
        (slObj s.meas.calSlice) 0x80 1) 0x3170 0x80 5) (slObj s.meas.calSlice) 0x81 16
      { v with meas := { v.meas with
        calPhase := 2, calFails := 0, calRetry := none, calPrev := coefsOf v s.meas.calSlice } } := by
    simp [calWindowStart, hphase, ht, hnew, hcmp]
  rw [hopen]
  refine ⟨?meas, ?state, ?served, ?spare⟩
  case meas => simp [hu, hi, coefsOf, coefOf]
  case state =>
    refine (rdN_wrN_ne _ _ h81_80).trans ?_
    rw [rdN_wrN_ne _ _ h80.symm, rdN_wrN_sliceStatus _ (by omega) (by decide) (by decide)]
  case served => exact rdN_wrN_sliceStatus _ (by omega) (by decide) (by decide)
  case spare =>
    refine (rdN_wrN_ne _ _ h81).trans ?_
    exact rdN_wrN_sliceStatus (sl := 16) _ (by decide) (by decide) (by decide)

/-- Step 4: the slice is back in parallel with its new coefficients. -/
theorem calReconnect_parallel {s : State} (coef : List (Real32 × Real32)) (hphase : s.meas.calPhase = 2)
    (ht : s.meas.calT + 198 = s.tick) :
    calReconnect s coef =
      let s' := wrN (setCoefs s s.meas.calSlice coef) (slObj s.meas.calSlice) 0x80 7
      { s' with meas := { s'.meas with calPhase := 3, calOob := coefOob coef } } := by
  simp [calReconnect, hphase, ht]

theorem takeCoefs_meas (s : State) (sl t : Nat) : (takeCoefs s sl t).meas = s.meas := by simp [takeCoefs, inc, wrR]

/-- The values that stand once a slice has its inputs back: the count of full cycles 0x3180:82 and the item that ends with the
window touch no others. -/
theorem rdN_calReturn (s : State) {idx sub : Nat} (hcount : key 0x3180 0x82 ≠ key idx sub)
    (hirq : key 0x2810 0x80 ≠ key idx sub) :
    rdN (calReturn s) idx sub =
      rdN (wrN (wrN (wrN (wrN s (slObj s.meas.calSlice) 0x80 0) 0x3170 0x80 4) 0x3170 0x81 0) 0x3180 0x81
        ((s.meas.calSlice + 1) % 16)) idx sub := by
  have hmeas (u : State) (m : Meas) : rdN { u with meas := m } idx sub = rdN u idx sub := rfl
  unfold calReturn
  simp only [rdN_calDone _ hirq, hmeas, wrN_meas]
  split
  · exact rdN_wrN_ne _ _ hcount
  · rfl

/-- The slice is in service, SP is idle, and the next slice is shown. -/
theorem calReturn_status {s : State} (hsl : s.meas.calSlice < 16) :
    rdN (calReturn s) (slObj s.meas.calSlice) 0x80 = 0 ∧ rdN (calReturn s) 0x3170 0x80 = 4 ∧
    rdN (calReturn s) 0x3180 0x81 = (s.meas.calSlice + 1) % 16 := by
  have hne {idx : Nat} (hidx : idx ≠ slObj s.meas.calSlice) (j : Nat) (hj : j < 256) :
      key idx j ≠ key (slObj s.meas.calSlice) 0x80 := by
    rw [Ne, key_inj hj (by decide)]
    exact fun h => hidx h.1
  have hslice : 0x3160 ≤ slObj s.meas.calSlice ∧ slObj s.meas.calSlice < 0x3170 := by
    unfold slObj
    omega
  refine ⟨?slice, ?spare, ?next⟩
  case slice =>
    rw [rdN_calReturn s (hne (by omega) _ (by decide)) (hne (by omega) _ (by decide)),
      rdN_wrN_ne _ _ (hne (by omega) _ (by decide)), rdN_wrN_ne _ _ (hne (by omega) _ (by decide)),
      rdN_wrN_ne _ _ (hne (by omega) _ (by decide)), rdN_wrN_sliceStatus _ (by omega) (by decide) (by decide)]
  case spare =>
    rw [rdN_calReturn s (by decide) (by decide), rdN_wrN_ne _ _ (by decide), rdN_wrN_ne _ _ (by decide)]
    exact rdN_wrN_sliceStatus (sl := 16) _ (by decide) (by decide) (by decide)
  case next =>
    rw [rdN_calReturn s (by decide) (by decide)]
    exact rdN_wrN_nextSlice _ (by omega)

theorem calReturn_meas (s : State) : (calReturn s).meas.calPhase = 0 ∧ (calReturn s).meas.coef = s.meas.coef := by
  unfold calReturn
  rw [calDone_meas]
  simp only
  split <;> simp [inc]

/-- Step 5: the comparison held and the coefficients lie in their bounds, and the slice takes its inputs back. -/
theorem calWindowEnd_returns {s : State} (hphase : s.meas.calPhase = 3) (ht : s.meas.calT + 199 = s.tick)
    (hcmp : s.meas.cmpFail = false) (hoob : s.meas.calOob = false) :
    calWindowEnd s = calReturn (takeCoefs s s.meas.calSlice (s.meas.calT + 200)) := by
  simp [calWindowEnd, hphase, ht, hcmp, hoob]

theorem calMismatch_meas (s : State) (sl : Nat) : (calMismatch s sl).meas = s.meas :=
  ((told_event s 12 (0x06400000 + sl * 256)).trans (told_inc _ 0x3180 0x88)).meas_eq

/-- R90: a failure at step 4 restores the previous coefficients, and the comparison is repeated. -/
theorem calWindowEnd_repeats {s : State} (hphase : s.meas.calPhase = 3) (ht : s.meas.calT + 199 = s.tick)
    (hfail : (s.meas.cmpFail || s.meas.calOob) = true) :
    (calWindowEnd s).meas = { (setCoefs s s.meas.calSlice s.meas.calPrev).meas with calPhase := 4 } := by
  have hend : calWindowEnd s =
      let t := setCoefs (calMismatch s s.meas.calSlice) s.meas.calSlice s.meas.calPrev
      { t with meas := { t.meas with calPhase := 4 } } := by
    unfold calWindowEnd
    simp only [hphase, ht, hfail, beq_self_eq_true, Bool.and_self, if_true]
  rw [hend]
  simp only [setCoefs, calMismatch_meas]

/-- R88: SP, idle, calibrates itself from t + 8 500. -/
theorem spareCal_begins {s : State} (coef : List (Real32 × Real32)) (hcount : s.counting = true)
    (hon : rdF s 0x3180 0x24 = true) (hrun : s.meas.calStopped = false) (hfirst : 17000 < s.tick + 1)
    (ht : (s.tick + 1) % 17000 = 8500) (hidle : rdN s 0x3170 0x80 = 4) :
    spareCal s coef = wrN { s with meas := { s.meas with spCal := some (s.tick + 201, coef) } } 0x3170 0x80 6 := by
  unfold spareCal
  rw [if_pos]
  simp [hcount, hon, hrun, hfirst, ht, hidle]

-- Injection (R83, R84) --------------------------------------------------------------------------------------------

theorem mem_put_self {α : Type} (t : Tab α) (x : Nat) (v : α) : (x, v) ∈ Tab.put t x v := by
  induction t with
  | nil => exact List.mem_singleton_self _
  | cons q t ih =>
    obtain ⟨k, w⟩ := q
    simp only [Tab.put]
    split
    · exact List.mem_cons_self
    · split
      · exact List.mem_cons_self
      · exact List.mem_cons_of_mem _ ih

/-- The record of an active detector of an input (R83, R84). -/
def detector (above below strong : Bool) : Nat :=
  (if above then 1 else 0) + (if below then 2 else 0) + (if strong then 4 else 0)
theorem detector_bit_two (above below strong : Bool) : bit (detector above below strong) 2 = strong := by
  cases above <;> cases below <;> cases strong <;> rfl

/-- `s` once the detector of channel `ch` is active: the next 20 conversions of its slice are to carry SUSPECT. -/
def detected (s : State) (ch : Nat) (above below strong : Bool) : State :=
  { s with meas := { s.meas with inj := Tab.put s.meas.inj ch (detector above below strong),
                                 suspTail := Tab.put s.meas.suspTail (ch / 6) 20 } }

theorem injStrong_detected_strong (s : State) (ch : Nat) (above below : Bool) : injStrong (detected s ch above below true) = true :=
  List.any_eq_true.mpr ⟨_, mem_put_self _ _ _, detector_bit_two above below true⟩
theorem injStrong_detected_weak {s : State} (h : injStrong s = false) (ch : Nat) (above below : Bool) :
    injStrong (detected s ch above below false) = false := by
  refine List.any_eq_false.mpr fun p hp => ?_
  obtain rfl | hold := Tab.mem_put hp
  · simp [detector_bit_two]
  · exact List.any_eq_false.mp h p hold

/-- A condition whose cause did not hold does not end. -/
theorem condEnd_of_not_mem {s : State} {p c : Nat} (h : (p, c) ∉ s.conds) (loc : Nat) : condEnd s p c loc = s := by
  unfold condEnd
  rw [if_neg (by simpa using h)]

/-- The slices `sls` of `s` are to carry SUSPECT in their next 20 conversions, those of this period after `off` among them. -/
def tailed (s : State) (sls : List Nat) (off : Nat) : State :=
  foldS s sls fun s sl => { s with meas := { s.meas with suspTail := Tab.put s.meas.suspTail sl (20 - convsAfter s sl off) } }
/-- The slices that no detector disturbs any longer, `s` before and `t` after the change at channel `ch`. -/
def cleared (s t : State) (ch : Nat) (on : Bool) : List Nat :=
  (List.range 16).filter fun sl => ((!on && sl == ch / 6) || injStrong s) && !injOn t sl && !injStrong t
/-- `t` with the filters of the slices `sls` marked anew from `off` on. -/
def withMarks (t : State) (sls : List Nat) (off : Nat) : State :=
  { t with meas := { t.meas with chans := remarked t sls off } }
/-- `t` with the filters marked anew after a change at channel `ch`, those of all slices if `all`, and condition 11 as the
detectors give it. -/
def remarkedFor (t : State) (ch : Nat) (all : Bool) (off : Nat) : State :=
  let t := withMarks t (if all then List.range 16 else [ch / 6]) off
  if injStrong t then
    condStart { t with meas := { t.meas with suspTail := (List.range 16).map fun i => (i, 20) } } 11 0 (0x06404000 + ch) 0xFF
  else condEnd t 11 0 (0x06404000 + ch)
/-- What follows when the detectors of `s` have become those of `t` by a change at channel `ch`. -/
def detectorChanged (s t : State) (ch : Nat) (on : Bool) (off : Nat) : State :=
  let u := tailed t (cleared s t ch on) off
  remarkedFor u ch (injStrong s || injStrong u) off

theorem injection_on (s : State) (ch : Nat) (above below strong : Bool) (off : Nat) :
    injection s ch above below strong true off = detectorChanged s (detected s ch above below strong) ch true off := rfl
theorem injection_off (s : State) (ch : Nat) (above below strong : Bool) (off : Nat) :
    injection s ch above below strong false off =
      detectorChanged s { s with meas := { s.meas with inj := Tab.del s.meas.inj ch } } ch false off := rfl

theorem remarkedFor_strong {t : State} (h : injStrong t = true) (ch : Nat) (all : Bool) (off : Nat) :
    let u := withMarks t (if all then List.range 16 else [ch / 6]) off
    remarkedFor t ch all off = condStart { u with meas := { u.meas with suspTail := (List.range 16).map fun i => (i, 20) } }
      11 0 (0x06404000 + ch) 0xFF := if_pos h
theorem remarkedFor_weak {t : State} (h : injStrong t = false) (ch : Nat) (all : Bool) (off : Nat) :
    remarkedFor t ch all off = condEnd (withMarks t (if all then List.range 16 else [ch / 6]) off) 11 0 (0x06404000 + ch) :=
  if_neg (ne_true_of_eq_false h)

/-- A detector that becomes active clears no slice, unless it ends the only injection above 1 mA. -/
theorem detectorChanged_on {s t : State} (h : injStrong s = false ∨ injStrong t = true) (ch off : Nat) :
    detectorChanged s t ch true off = remarkedFor t ch (injStrong s || injStrong t) off := by
  have hnone : cleared s t ch true = [] := by
    refine List.filter_eq_nil_iff.mpr fun sl _ => ?_
    rcases h with h | h <;> simp [h]
  rw [detectorChanged, hnone]
  rfl

/-- R83: an injection up to 1 mA marks the input and its slice. -/
theorem injection_weak_begins {s : State} (hweak : injStrong s = false) (hcond : (11, 0) ∉ s.conds) (ch : Nat)
    (above below : Bool) (off : Nat) :
    injection s ch above below false true off = withMarks (detected s ch above below false) [ch / 6] off := by
  have hstill := injStrong_detected_weak hweak ch above below
  rw [injection_on, detectorChanged_on (.inl hweak), remarkedFor_weak hstill, hweak, hstill, Bool.or_self,
    if_neg Bool.false_ne_true]
  exact condEnd_of_not_mem (s := withMarks (detected s ch above below false) [ch / 6] off) hcond _

/-- R84: an injection above 1 mA marks all sixteen slices, and condition 11 starts. -/
theorem injection_strong_begins (s : State) (ch : Nat) (above below : Bool) (off : Nat) :
    let t := withMarks (detected s ch above below true) (List.range 16) off
    injection s ch above below true true off =
      condStart { t with meas := { t.meas with suspTail := (List.range 16).map fun i => (i, 20) } } 11 0 (0x06404000 + ch) 0xFF := by
  have hstrong := injStrong_detected_strong s ch above below
  rw [injection_on, detectorChanged_on (.inr hstrong), hstrong, Bool.or_true]
  exact remarkedFor_strong hstrong ch true off

theorem tailed_frame (s : State) (sls : List Nat) (off : Nat) :
    (tailed s sls off).meas.inj = s.meas.inj ∧ (tailed s sls off).conds = s.conds := by
  induction sls generalizing s with
  | nil => exact ⟨rfl, rfl⟩
  | cons sl sls ih => exact ih _

theorem remarkedFor_inj (t : State) (ch : Nat) (all : Bool) (off : Nat) : (remarkedFor t ch all off).meas.inj = t.meas.inj := by
  cases h : injStrong t
  · rw [remarkedFor_weak h, (told_condEnd _ _ _ _).meas_eq, withMarks]
  · rw [remarkedFor_strong h, (told_condStart _ _ _ _ _).meas_eq, withMarks]

/-- The detectors stand as `t` has them, and condition 11 has no cause left when none is above 1 mA. -/
theorem detectorChanged_inj_conds (s t : State) (ch : Nat) (on : Bool) (off : Nat) :
    (detectorChanged s t ch on off).meas.inj = t.meas.inj ∧ (injStrong (detectorChanged s t ch on off) = false →
      (detectorChanged s t ch on off).conds = t.conds.filter (· != (11, 0))) := by
  obtain ⟨hinj, hconds⟩ := tailed_frame t (cleared s t ch on) off
  unfold detectorChanged
  refine ⟨(remarkedFor_inj ..).trans hinj, fun hweak => ?_⟩
  have hweak' : injStrong (tailed t (cleared s t ch on) off) = false := by rwa [injStrong, remarkedFor_inj] at hweak
  rw [remarkedFor_weak hweak', condEnd_conds, withMarks, hconds]

/-- R84: the end of the last injection above 1 mA ends condition 11. -/
theorem injection_ends (s : State) (ch : Nat) (above below strong : Bool) (off : Nat) :
    let t := injection s ch above below strong false off
    t.meas.inj = Tab.del s.meas.inj ch ∧ (injStrong t = false → t.conds = s.conds.filter (· != (11, 0))) := by
  rw [injection_off]
  exact detectorChanged_inj_conds ..

-- The statement ---------------------------------------------------------------------------------------------------

/-- Settles O13: the steps of a window, SP's own calibration, and an injection's beginning and end, each by its lemma above. -/
theorem calibrationAndInjection : Obligations.CalibrationAndInjection := by
  unfold Obligations.CalibrationAndInjection
  refine ⟨⟨?start, ?reconnect, ?ends, ?spare⟩, ?weak, ?strong, ?released⟩
  case start =>
    intro s spCoef h hphase ht hsl hq hfree hcmp
    refine ⟨_, exec_calibrationWindowStart h spCoef, ?_⟩
    simp only [settled_meas, rdN_settled]
    exact calWindowStart_substitutes spCoef hphase ht hsl hq hfree hcmp
  case reconnect =>
    intro s coef h hphase ht
    rw [exec_calibrationReconnect h, calReconnect_parallel coef hphase ht]
    rfl
  case ends =>
    intro s h hphase ht hsl
    refine ⟨fun hcmp hoob => ⟨_, exec_calibrationWindowEnd h, ?_⟩, fun hfail => ⟨_, exec_calibrationWindowEnd h, ?_⟩⟩
    · have htake := takeCoefs_meas s s.meas.calSlice (s.meas.calT + 200)
      rw [calWindowEnd_returns hphase ht hcmp hoob]
      simp only [settled_meas, rdN_settled]
      obtain ⟨hphase', hcoef⟩ := calReturn_meas (takeCoefs s s.meas.calSlice (s.meas.calT + 200))
      have hstatus := calReturn_status (s := takeCoefs s s.meas.calSlice (s.meas.calT + 200)) (by rwa [htake])
      rw [htake] at hcoef hstatus
      exact ⟨hphase', hcoef, hstatus⟩
    · exact calWindowEnd_repeats hphase ht hfail
  case spare =>
    intro s coef h hcount hon hrun hfirst ht hidle
    rw [exec_spareSelfCalibration h, spareCal_begins coef hcount hon hrun hfirst ht hidle]
  case weak =>
    intro s ch above below off h hweak hcond
    rw [exec_injectionDetected h, injection_weak_begins hweak hcond]
    rfl
  case strong =>
    intro s ch above below off h
    rw [exec_injectionDetected h, injection_strong_begins]
    rfl
  case released =>
    exact fun s ch above below strong off h => ⟨_, exec_injectionDetected h .., injection_ends s ch above below strong off⟩

end Sys2Proof.Machine
end

section
/-! SUPPORT. Field ports (R100 to R112): what an edge that the filters pass comes to by the port's function, the ends of its timers,
the next PWM cycle, the retry of a faulted port, the preset of its counter, and what its pin does. -/
namespace Sys2Proof.Machine
open Sys2Proof Sys2Proof.OD

-- The commands while CLK_POS clocks the ports ---------------------------------------------------------------------

/-- An edge at a port that no witness in service takes for its own (R358). -/
theorem exec_fieldPortEdge {s : State} {n : Nat} (h : PortsOn s) (hown : (witness s && decide (n ≤ 6)) = false)
    (level : Bool) (held off : Nat) :
    exec (.fieldPortEdge n level held off) s = .next (settled s (fieldPortEdge s n level held off)) := by
  change done s (portsRun s fun s => if witness s && n ≤ 6 then witnessEdge s n off else fieldPortEdge s n level held off) = _
  rw [portsRun_on h, done, hown, if_neg Bool.false_ne_true]
theorem exec_debounceExpired {s : State} (h : PortsOn s) (n off : Nat) :
    exec (.debounceExpired n off) s = .next (settled s (debounceExpired s n off)) := by
  change done s (portsRun s fun s => debounceExpired s n off) = _
  rw [portsRun_on h, done]
theorem exec_presenceStretchExpired {s : State} (h : PortsOn s) (n off : Nat) :
    exec (.presenceStretchExpired n off) s = .next (settled s (stretchExpired s n off)) := by
  change done s (portsRun s fun s => stretchExpired s n off) = _
  rw [portsRun_on h, done]
theorem exec_pwmCycleStart {s : State} (h : PortsOn s) (n off : Nat) :
    exec (.pwmCycleStart n off) s = .next (settled s (pwmCycleStart s n off)) := by
  change done s (portsRun s fun s => pwmCycleStart s n off) = _
  rw [portsRun_on h, done]
theorem exec_portFaultRetry {s : State} (h : PortsOn s) (n : Nat) (agrees : Bool) :
    exec (.portFaultRetry n agrees) s = .next (settled s (portRetry s n agrees)) := by
  change done s (portsRun s fun s => portRetry s n agrees) = _
  rw [portsRun_on h, done]

-- The glitch filter (R105) ----------------------------------------------------------------------------------------

theorem fieldPortEdge_drops_short {s : State} {n held : Nat} (h : held < rdN s (0x3000 + n) 0x20) (level : Bool) (off : Nat) :
    fieldPortEdge s n level held off = s := by
  unfold fieldPortEdge
  rw [if_pos]
  simp [fpObj, h]

theorem not_dropped {s : State} {n held : Nat} (hfun : 2 ≤ fpFun s n) (hheld : rdN s (0x3000 + n) 0x20 ≤ held) :
    ¬ (decide (fpFun s n ≤ 1) || decide (held < rdN s (fpObj n) 0x20)) = true := by
  have hheld' : rdN s (fpObj n) 0x20 ≤ held := hheld
  simp only [Bool.or_eq_true, decide_eq_true_eq]
  omega

/-- An edge held for 250 ns, and as long as the filter asks, reaches the function of its port. -/
theorem fieldPortEdge_passes {s : State} {n held : Nat} (hfun : 2 ≤ fpFun s n) (hlong : 50 ≤ held)
    (hheld : rdN s (0x3000 + n) 0x20 ≤ held) (level : Bool) (off : Nat) :
    fieldPortEdge s n level held off = portEdge s n level (cycleNs s off) := by
  unfold fieldPortEdge
  rw [if_neg (not_dropped hfun hheld), if_neg (by omega)]

/-- One below 250 ns passes or not as the next free bit says. -/
theorem fieldPortEdge_undefined {s : State} {n held : Nat} (hfun : 2 ≤ fpFun s n) (hshort : held < 50)
    (hheld : rdN s (0x3000 + n) 0x20 ≤ held) (level : Bool) (off : Nat) :
    let u := { s with freeCount := s.freeCount + 1 }
    fieldPortEdge s n level held off = if Config.freeBit s.freeCount then portEdge u n level (cycleNs s off) else u := by
  unfold fieldPortEdge
  rw [if_neg (not_dropped hfun hheld), if_pos hshort]
  rfl

-- A filtered edge, by the function of its port (R105 to R108) -----------------------------------------------------

theorem logical_eq_true {s : State} {n : Nat} {level : Bool} : logical s n level = true ↔ level ≠ rdF s (0x3000 + n) 3 := by
  simp [logical, fpObj]
theorem logical_eq_false {s : State} {n : Nat} {level : Bool} : logical s n level = false ↔ level = rdF s (0x3000 + n) 3 := by
  simp [logical, fpObj]

/-- DI with a debounce time: the debounce of a level that differs starts, and any other ends. -/
theorem portEdge_debounces {s : State} {n : Nat} {level : Bool} (hfun : fpFun s n = 2) (hnew : (port s n).lvl ≠ level)
    (hdeb : rdN s (0x3000 + n) 0x21 ≠ 0) (t : Nat) :
    portEdge s n level t = setPort s n { port s n with
      lvl := level, debSince := if level = (port s n).deb then none else some t } := by
  simp [portEdge, hfun, hnew, hdeb, fpObj]

/-- DI_COUNT counts the edges that 0x3000+n:08 selects. -/
theorem portEdge_counts {s : State} {n : Nat} {level : Bool} (hfun : fpFun s n = 3) (hnew : (port s n).lvl ≠ level) (t : Nat) :
    portEdge s n level t = setPort s n { port s n with
      lvl := level,
      count := if rdN s (0x3000 + n) 8 = 2 ∨ (rdN s (0x3000 + n) 8 = 0 ∧ level ≠ rdF s (0x3000 + n) 3) ∨
                  (rdN s (0x3000 + n) 8 = 1 ∧ level = rdF s (0x3000 + n) 3)
               then ((port s n).count + 1) % 2 ^ 32 else (port s n).count } := by
  have hsel : (rdN s (fpObj n) 8 == 2 || (rdN s (fpObj n) 8 == 0 && logical s n level) ||
      (rdN s (fpObj n) 8 == 1 && !logical s n level)) = true ↔
      rdN s (0x3000 + n) 8 = 2 ∨ (rdN s (0x3000 + n) 8 = 0 ∧ level ≠ rdF s (0x3000 + n) 3) ∨
        (rdN s (0x3000 + n) 8 = 1 ∧ level = rdF s (0x3000 + n) 3) := by
    simp only [Bool.or_eq_true, Bool.and_eq_true, beq_iff_eq, Bool.not_eq_true', logical_eq_true, logical_eq_false, or_assoc, fpObj]
  unfold portEdge
  simp only [hfun, beq_eq_false_iff_ne.mpr hnew, Bool.false_eq_true, if_false, hsel]
  split <;> rfl

/-- DI_PIR: a rising edge is an activation. -/
theorem portEdge_activates {s : State} {n : Nat} {level : Bool} (hfun : fpFun s n = 4) (hnew : (port s n).lvl ≠ level)
    (hrise : level ≠ rdF s (0x3000 + n) 3) (t : Nat) :
    portEdge s n level t = wrBit (setPort s n { port s n with
      lvl := level, count := ((port s n).count + 1) % 2 ^ 32, stretched := true,
      stretchEnd := t + rdN s (0x3000 + n) 0x28 * 1000000000 }) (0x3000 + n) 0x87 1 true := by
  simp [portEdge, hfun, hnew, logical_eq_true.mpr hrise, fpObj]

/-- FREQ: a rising edge is counted and stamped. -/
theorem portEdge_stamps {s : State} {n : Nat} {level : Bool} (hfun : fpFun s n = 8) (hnew : (port s n).lvl ≠ level)
    (hrise : level ≠ rdF s (0x3000 + n) 3) (t : Nat) :
    portEdge s n level t = setPort s n { port s n with
      lvl := level, edgeCount := (port s n).edgeCount + 1, stamps := (t :: (port s n).stamps).take 65 } := by
  simp [portEdge, hfun, hnew, logical_eq_true.mpr hrise]

-- The timers of an input (R105, R107) -----------------------------------------------------------------------------

theorem debounceExpired_takes_level {s : State} {n off t : Nat} (hfun : fpFun s n = 2) (hsince : (port s n).debSince = some t)
    (hdue : t + rdN s (0x3000 + n) 0x21 * 1000000 ≤ nowNs s off) :
    debounceExpired s n off = setPort s n { port s n with deb := (port s n).lvl, debSince := none } := by
  simp [debounceExpired, hsince, hfun, hdue, fpObj]
theorem stretchExpired_ends {s : State} {n off : Nat} (hfun : fpFun s n = 4) (hstretched : (port s n).stretched = true)
    (hdue : (port s n).stretchEnd ≤ nowNs s off) :
    stretchExpired s n off = wrBit (setPort s n { port s n with stretched := false }) (0x3000 + n) 0x87 1 false := by
  simp [stretchExpired, hfun, hstretched, hdue, fpObj]

/-- Settles O7: the glitch filter's three cases, then the lemma of the port's function; and the ends of the two timers. -/
theorem fieldPortInputEvents : Obligations.FieldPortInputEvents := by
  unfold Obligations.FieldPortInputEvents
  refine ⟨⟨?edge, ?debounce, ?stretch⟩, ?undefined, ?short⟩
  case edge =>
    intro s n level held off h hown hnew hlong hheld
    have hpass (hfun : 2 ≤ rdN s (0x3000 + n) 1) :
        exec (.fieldPortEdge n level held off) s = .next (settled s (portEdge s n level (cycleNs s off))) := by
      rw [exec_fieldPortEdge h hown, fieldPortEdge_passes hfun hlong hheld]
    refine ⟨fun hfun => ?_, fun hfun hdeb => ?_, fun hfun hrise => ?_, fun hfun hrise => ?_⟩
    · rw [hpass (by omega), portEdge_counts hfun hnew]
    · rw [hpass (by omega), portEdge_debounces hfun hnew hdeb]
      rfl
    · rw [hpass (by omega), portEdge_stamps hfun hnew hrise]
      rfl
    · rw [hpass (by omega), portEdge_activates hfun hnew hrise]
      rfl
  case debounce =>
    intro s n off t h hfun hsince hdue
    rw [exec_debounceExpired h, debounceExpired_takes_level hfun hsince hdue]
  case stretch =>
    intro s n off h hfun hstretched hdue
    rw [exec_presenceStretchExpired h, stretchExpired_ends hfun hstretched hdue]
  case undefined =>
    intro s n level held off h hown hfun hnew hrise hshort hheld
    have hfun' : fpFun s n = 8 := hfun
    rw [exec_fieldPortEdge h hown, fieldPortEdge_undefined (by omega) hshort hheld,
      portEdge_stamps (s := { s with freeCount := s.freeCount + 1 }) hfun hnew hrise]
    rfl
  case short =>
    intro s n level held off h hown hheld
    rw [exec_fieldPortEdge h hown, fieldPortEdge_drops_short hheld]

-- What a pin does (R100, R101) ------------------------------------------------------------------------------------

/-- What the pin does in the safe state (R101). -/
def safeLevel (s : State) (n t : Nat) : Option Bool :=
  match rdN s (0x3000 + n) 2 with
  | 0 => some false
  | 1 => some true
  | 2 => holdLevel s n t
  | _ => none

section
variable {s : State} {n : Nat} (hscan : s.tap.hold = false) (hown : (witness s && decide (n ≤ 6)) = false)
include hscan hown

/-- The lines of R100, of a pin that neither the boundary scan nor a witness drives. -/
theorem pinDrive_lines (t : Nat) :
    pinDrive s n t =
      if outputsOff s || ensignGated s || s.clkPosLost then none
      else if !isOut (fpFun s n) then none
      else if (port s n).faulted && !retryTick s (port s n) then none
      else if safeHeld s n then safeLevel s n t
      else some (functionLevel s n t) := by
  unfold pinDrive
  rw [hscan, hown, if_neg Bool.false_ne_true, if_neg Bool.false_ne_true]
  rfl

theorem pinDrive_gated (h : (outputsOff s || ensignGated s || s.clkPosLost) = true) (t : Nat) : pinDrive s n t = none := by
  rw [pinDrive_lines hscan hown, if_pos h]
theorem pinDrive_input (h : isOut (fpFun s n) = false) (t : Nat) : pinDrive s n t = none := by
  simp [pinDrive_lines hscan hown, h]
theorem pinDrive_faulted (hfault : (port s n).faulted = true) (hretry : retryTick s (port s n) = false) (t : Nat) :
    pinDrive s n t = none := by
  simp [pinDrive_lines hscan hown, hfault, hretry]
theorem pinDrive_driven (hgate : (outputsOff s || ensignGated s || s.clkPosLost) = false) (hout : isOut (fpFun s n) = true)
    (hserved : (port s n).faulted = false ∨ retryTick s (port s n) = true) (t : Nat) :
    pinDrive s n t = if safeHeld s n then safeLevel s n t else some (functionLevel s n t) := by
  have hfault : ((port s n).faulted && !retryTick s (port s n)) = false := by rcases hserved with h | h <;> simp [h]
  simp [pinDrive_lines hscan hown, hgate, hout, hfault]

end

/-- Settles O9: the lines of R100 in their order, and under line 5 the safe states of R101. -/
theorem pinsFollowTheOrderOfR100 : Obligations.PinsFollowTheOrderOfR100 := by
  unfold Obligations.PinsFollowTheOrderOfR100
  intro s n t hscan hown
  refine ⟨?reset, ?ensign, fun hin => pinDrive_input hscan hown hin t,
    fun hfault hretry => pinDrive_faulted hscan hown hfault hretry t, ?driven⟩
  case reset =>
    intro h
    refine pinDrive_gated hscan hown ?_ t
    rcases h with h | h | h <;> simp [outputsOff, h]
  case ensign =>
    intro hin hfuse
    exact pinDrive_gated hscan hown (by simp [ensignGated, hin, hfuse]) t
  case driven =>
    intro hoff hclk hensign hout hserved
    have hensign' : ensignGated s = false := by rcases hensign with h | h <;> simp [ensignGated, h]
    have hdrive := pinDrive_driven hscan hown (by simp [hoff, hensign', hclk]) hout hserved t
    refine ⟨fun hsafe => ?_, fun hsafe hwait => ?_⟩
    · have hheld : safeHeld s n = true := by simpa [safeHeld, fpFun, fpObj] using hsafe
      rw [hdrive, if_pos hheld]
      refine ⟨fun h => ?low, fun h => ?high, fun h => ?hold, fun h => ?highZ⟩
      case hold => simp [safeLevel, h, holdLevel, fpFun, fpObj]
      all_goals simp [safeLevel, h]
    · rw [hdrive, if_neg (by simp [safeHeld, hsafe, hwait])]

-- PWM cycles, retries and presets (R103, R106, R111, R112) --------------------------------------------------------

/-- R111, R112: the next cycle follows the one that is over; H = 0 and H = C give no edge. -/
theorem pwmCycleStart_next {s : State} {n off : Nat} (hfun : fpFun s n = 6 ∨ fpFun s n = 10) (hcycle : 0 < (port s n).pwmC)
    (hover : (port s n).pwmC ≤ pwmCount (port s n) (nowNs s off)) :
    let c := if safeCond s = true ∨ (port s n).waiting = true then (port s n).pwmC else pwmCycle s n
    let h := pwmActive (port s n).pwmDuty c
    pwmCycleStart s n off = setPort s n { port s n with
      pwmStart := (port s n).pwmStart + (port s n).pwmC, pwmC := c, pwmH := h,
      edgeAt := if (port s n).pwmC ≤ (port s n).pwmH ↔ 0 < h then (port s n).edgeAt else nowNs s off } := by
  simp [pwmCycleStart, hfun, hcycle, hover]

theorem portRetry_agrees {s : State} {n : Nat} (hfault : (port s n).faulted = true) (hdue : (port s n).retryAt ≤ s.now) :
    portRetry s n true = condEnd (wrBit (setPort s n { port s n with faulted := false, mismatch := 0 }) (0x3000 + n) 0x87 4 false)
      16 n (0x0A500000 + n) := by
  simp [portRetry, hfault, hdue, fpObj]
theorem portRetry_fails {s : State} {n : Nat} (hfault : (port s n).faulted = true) (hdue : (port s n).retryAt ≤ s.now) :
    portRetry s n false = setPort s n { port s n with retryAt := s.now + 100000 } := by
  simp [portRetry, hfault, hdue]

/-- A checked write of 0x3000+n:81 is a preset of the port's counter. -/
theorem performAny_countPreset (s : State) {n : Nat} (hn : n < 64) (client : Nat) (data : List Byte) (off : Nat) (item : Option Nat) :
    performAny s client (0x3000 + n) 0x81 data off item = success (countPreset s n (leNat data) off) client := by
  have hobj (k : Nat) (hk : k < 0x3000) : (0x3000 + n == k) = false := by simp; omega
  have hbelow (lo hi : Nat) (hhi : hi < 0x3000) : within (0x3000 + n) lo hi = false := by simp [within]; omega
  have hport : within (0x3000 + n) 0x3000 0x303F = true := by simp [within]; omega
  simp [performAny, perform, hobj, hbelow, hport]

theorem countPreset_waits (s : State) (n : Nat) {v : Nat} (hv : v < 2 ^ 32) (off : Nat) :
    countPreset s n v off = setPort s n { port s n with preset := (port s n).preset ++ [(stamp s off + 1, v)] } := by
  rw [countPreset, Nat.mod_eq_of_lt hv]

/-- An accepted preset is performed at once, answered, and goes to the other member of a pair; it makes no work item. -/
theorem exec_countPreset {s : State} {client n value : Nat} (h : Accepts s client (0x3000 + n) 0x81 (leBytes 4 value)) (hn : n < 64)
    (hvalue : value < 2 ^ 32) (off : Nat) :
    exec (.countPreset client n value off) s = .next (settled s
      (paired (countPreset (answered s client) n value off) client (0x3000 + n) 0x81 (leBytes 4 value))) := by
  have ⟨_, hclient, _⟩ := h
  have hperf : performAny { s with answers := Tab.del s.answers client } client (0x3000 + n) 0x81 (leBytes 4 value) off none =
      countPreset (answered s client) n value off := by
    have hbytes : leNat (leBytes 4 value) = value := by
      rw [leNat_leBytes]
      exact Nat.mod_eq_of_lt hvalue
    rw [performAny_countPreset _ hn, hbytes, success_le hclient]
    rfl
  change done s (put s client (0x3000 + n) 0x81 (leBytes 4 value) off) = _
  rw [put_performed h (by simp [structural, within]) (by simp [ttStaged, within]; omega) (by omega) (by omega) hperf
    (by simp [aborted, answered, countPreset, setPort])]
  exact congrArg (done s) (storeHash_same (paired_work ..))

/-- Settles O8: the next cycle, the two outcomes of a retry, and the preset as an accepted write that is performed. -/
theorem fieldPortOutputEvents : Obligations.FieldPortOutputEvents := by
  unfold Obligations.FieldPortOutputEvents
  refine ⟨?cycle, ?retry, ?preset⟩
  case cycle =>
    intro s n off h hfun hcycle hover
    rw [exec_pwmCycleStart h, pwmCycleStart_next hfun hcycle hover]
  case retry =>
    intro s n h hfault hdue
    constructor
    · rw [exec_portFaultRetry h, portRetry_agrees hfault hdue]
    · rw [exec_portFaultRetry h, portRetry_fails hfault hdue]
  case preset =>
    intro s client n value off h hn hvalue
    rw [exec_countPreset h hn hvalue, countPreset_waits _ n hvalue]
    rfl

end Sys2Proof.Machine
end

section
/-! SUPPORT. The fall of the shed level (R397): what 0x2100:85 keeps of a level wider than its type. -/
namespace Sys2Proof.Machine
open Sys2Proof Sys2Proof.OD

theorem exec_shedLevelFall {s : State} (h : Alive s) : exec .shedLevelFall s = .next (settled s (shedFall s)) := by
  change done s (act s shedFall) = _
  rw [act_alive h, done]

/-- A live device that holds two bytes, 257, as the shed level 0x2100:85, an UNSIGNED8: no Default, and so a canonical dictionary. No
feed demands a level, and the hold time of 60 s has passed. -/
def overwideShedLevel : State := { State.reset with
  inReset := false, dict := [(key 0x2100 0x85, leBytes 2 257)], pw := { State.reset.pw with shedLow := 600000 } }

/-- Refutes O43, by the clause of R397: it asks for one level less of whatever 0x2100:85 holds, and `Inv` does not bound a value by
its type. From 257 the fall writes 256, of which the one byte of 0x2100:85 keeps 0 (log entry 23). -/
theorem not_mainsAndCrossingEvents : ¬ Obligations.MainsAndCrossingEvents := by
  unfold Obligations.MainsAndCrossingEvents
  rintro ⟨-, -, -, hfall, -, -, -⟩
  have halive : Alive overwideShedLevel := by decide
  have hlevel : rdN overwideShedLevel 0x2100 0x85 = 257 := by decide
  have hfallen : rdN (shedFall overwideShedLevel) 0x2100 0x85 = 0 := by decide
  obtain ⟨t, hstep, hone, -⟩ := hfall overwideShedLevel halive (by decide) (by decide)
  rw [exec_shedLevelFall halive] at hstep
  obtain rfl := Host.Outcome.next.inj hstep
  rw [rdN_settled, hfallen, hlevel] at hone
  exact absurd hone (by decide)

end Sys2Proof.Machine
end

section
/-! SUPPORT. Position channels (R121 to R139): what an edge that the filter passes comes to in each mode, what an index event does
by its deviation, the ends of a channel's timers, and the requests that wait for tick s + 1. -/
namespace Sys2Proof.Tab

/-- The last value put under a key is the one that stands. -/
theorem put_put_self {α : Type} (t : Tab α) (x : Nat) (v w : α) : put (put t x v) x w = put t x w := by
  induction t with
  | nil => simp [put]
  | cons p t ih =>
    obtain ⟨k, u⟩ := p
    by_cases heq : x = k
    · simp [put, heq]
    · by_cases hlt : x < k <;> simp [put, heq, hlt, ih]

end Sys2Proof.Tab

namespace Sys2Proof.Machine
open Sys2Proof Sys2Proof.OD

@[simp] theorem setPos_setPos_self (s : State) (c : Nat) (p q : Pos) : setPos (setPos s c p) c q = setPos s c q := by
  simp [setPos, Tab.put_put_self]

theorem Told.pos_eq {s t : State} (h : Told s t) (c : Nat) : pos t c = pos s c := by
  obtain ⟨_, _, _, _, _, _, rfl⟩ := h
  rfl

-- The commands ----------------------------------------------------------------------------------------------------

theorem exec_encoderEdge {s : State} (h : Alive s) (c : Nat) (a b z stable : Bool) (held off : Nat) :
    exec (.encoderEdge c a b z stable held off) s = .next (settled s (encoderEdge s c a b z stable held off)) := by
  change done s (act s fun s => encoderEdge s c a b z stable held off) = _
  rw [act_alive h, done]
theorem exec_indexEvent {s : State} (h : Alive s) (c : Nat) (edge : IndexEdge) (off : Nat) :
    exec (.indexEvent c edge off) s = .next (settled s (indexEdge s c edge.level edge.held off)) := by
  change done s (act s fun s => indexEdge s c edge.level edge.held off) = _
  rw [act_alive h, done]
theorem exec_standstillTimeout {s : State} (h : PortsOn s) (c off : Nat) :
    exec (.standstillTimeout c off) s = .next (settled s (standstill s c off)) := by
  change done s (portsRun s fun s => standstill s c off) = _
  rw [portsRun_on h, done]
theorem exec_comparePulseEnd {s : State} (h : PortsOn s) (c off : Nat) :
    exec (.comparePulseEnd c off) s = .next (settled s (pulseEnd s c off)) := by
  change done s (portsRun s fun s => pulseEnd s c off) = _
  rw [portsRun_on h, done]
theorem exec_ssiFrameComplete {s : State} (h : PortsOn s) (c value : Nat) (startHigh endLow : Bool) (off : Nat) :
    exec (.ssiFrameComplete c value startHigh endLow off) s =
      .next (settled s (ssiComplete s c value startHigh endLow off)) := by
  change done s (portsRun s fun s => ssiComplete s c value startHigh endLow off) = _
  rw [portsRun_on h, done]

-- A filtered edge goes by the mode of its channel (R121, R122) ----------------------------------------------------

/-- The channel's record of A and B takes the levels after an edge. -/
def followAB (s : State) (c : Nat) (a b : Bool) : State := setPos s c { pos s c with a := a, b := b }
/-- Its record of A, B and Z does. -/
def followABZ (s : State) (c : Nat) (a b z : Bool) : State := setPos s c { pos s c with a := a, b := b, z := z }

theorem not_filtered {s : State} {c held : Nat} (hheld : rdN s (0x3200 + c) 0x20 ≤ held) : ¬ held < rdN s (pcObj c) 0x20 :=
  Nat.not_lt.mpr hheld

section
variable {s : State} {c held : Nat} (hheld : rdN s (0x3200 + c) 0x20 ≤ held)
include hheld

theorem encoderEdge_quadrature (hcount : posCounts s = true) (hlo : 1 ≤ rdN s (0x3200 + c) 1) (hhi : rdN s (0x3200 + c) 1 ≤ 3)
    (a b z stable : Bool) (off : Nat) : encoderEdge s c a b z stable held off = quadEdge s c a b (cycleNs s off) := by
  have hmode : pcMode s c = 1 ∨ pcMode s c = 2 ∨ pcMode s c = 3 := by
    simp only [pcMode, pcObj]
    omega
  unfold encoderEdge
  rw [if_neg (not_filtered hheld), hcount]
  rcases hmode with h | h | h <;> simp [h]
theorem encoderEdge_pulse (hcount : posCounts s = true) (hmode : rdN s (0x3200 + c) 1 = 4) (a b z stable : Bool) (off : Nat) :
    encoderEdge s c a b z stable held off = pulseEdge s c a b stable (cycleNs s off) := by
  have hmode' : pcMode s c = 4 := hmode
  unfold encoderEdge
  rw [if_neg (not_filtered hheld), hcount]
  simp [hmode']
theorem encoderEdge_hall (hcount : posCounts s = true) (hmode : rdN s (0x3200 + c) 1 = 5) (a b z stable : Bool) (off : Nat) :
    encoderEdge s c a b z stable held off = hallEdge s c a b z (cycleNs s off) := by
  have hmode' : pcMode s c = 5 := hmode
  unfold encoderEdge
  rw [if_neg (not_filtered hheld), hcount]
  simp [hmode']

/-- Without a function, and in Hall mode while the block stands, the channel follows all three levels (log entry 227). -/
theorem encoderEdge_follows_three
    (hmode : rdN s (0x3200 + c) 1 = 0 ∨ (posCounts s = false ∧ rdN s (0x3200 + c) 1 = 5)) (a b z stable : Bool) (off : Nat) :
    encoderEdge s c a b z stable held off = followABZ s c a b z := by
  unfold encoderEdge
  rw [if_neg (not_filtered hheld)]
  rcases hmode with h | ⟨hstands, h⟩
  · simp [pcMode, pcObj, h, followABZ]
  · simp [pcMode, pcObj, h, hstands, followABZ]

/-- Z belongs to the index in modes 1 to 4: while the block stands the channel follows A and B (log entry 227). -/
theorem encoderEdge_follows_two (hstands : posCounts s = false) (hlo : 1 ≤ rdN s (0x3200 + c) 1)
    (hhi : rdN s (0x3200 + c) 1 ≤ 4) (a b z stable : Bool) (off : Nat) :
    encoderEdge s c a b z stable held off = followAB s c a b := by
  have hmode : (pcMode s c == 5 || pcMode s c == 0) = false := by
    simp only [pcMode, pcObj, Bool.or_eq_false_iff, beq_eq_false_iff_ne]
    omega
  unfold encoderEdge
  rw [if_neg (not_filtered hheld), hstands, hmode]
  rfl

end

-- Quadrature (R121, R123) -----------------------------------------------------------------------------------------

section
variable {s : State} {c : Nat} {a b : Bool}

/-- An edge of A alone: x1 counts it where B is low, x2 and x4 always; down where A and B are alike. -/
theorem quadEdge_of_A (ha : a ≠ (pos s c).a) (hb : b = (pos s c).b) (hlo : 1 ≤ rdN s (0x3200 + c) 1)
    (hhi : rdN s (0x3200 + c) 1 ≤ 3) (t : Nat) :
    quadEdge s c a b t = if rdN s (0x3200 + c) 1 = 1 ∧ b = true then followAB s c a b
      else countEdge (followAB s c a b) c ((a == b) != rdF s (0x3200 + c) 2) t := by
  have hmode : rdN s (0x3200 + c) 1 = 1 ∨ rdN s (0x3200 + c) 1 = 2 ∨ rdN s (0x3200 + c) 1 = 3 := by omega
  subst hb
  unfold quadEdge
  rcases hmode with h | h | h
  · cases hlow : (pos s c).b <;> simp [pcMode, pcObj, h, ha, hlow, dirOf, followAB, rdF]
  · simp [pcMode, pcObj, h, ha, dirOf, followAB, rdF]
  · simp [pcMode, pcObj, h, ha, dirOf, followAB, rdF]

/-- An edge of B alone: x4 counts it; down where A and B differ. -/
theorem quadEdge_of_B (ha : a = (pos s c).a) (hb : b ≠ (pos s c).b) (hlo : 1 ≤ rdN s (0x3200 + c) 1)
    (hhi : rdN s (0x3200 + c) 1 ≤ 3) (t : Nat) :
    quadEdge s c a b t = if rdN s (0x3200 + c) 1 = 3 then countEdge (followAB s c a b) c ((a != b) != rdF s (0x3200 + c) 2) t
      else followAB s c a b := by
  have hmode : rdN s (0x3200 + c) 1 = 1 ∨ rdN s (0x3200 + c) 1 = 2 ∨ rdN s (0x3200 + c) 1 = 3 := by omega
  subst ha
  unfold quadEdge
  rcases hmode with h | h | h <;> simp [pcMode, pcObj, h, hb, dirOf, followAB, rdF]

/-- Edges of both in one cycle are an illegal transition. -/
theorem quadEdge_of_both (ha : a ≠ (pos s c).a) (hb : b ≠ (pos s c).b) (t : Nat) :
    quadEdge s c a b t = illegal (followAB s c a b) c := by
  simp [quadEdge, ha, hb, followAB]
theorem quadEdge_of_none (ha : a = (pos s c).a) (hb : b = (pos s c).b) (t : Nat) : quadEdge s c a b t = s := by
  simp [quadEdge, ha, hb]

-- Pulse and direction (R124) --------------------------------------------------------------------------------------

/-- A rising edge of A counts in the direction of B. -/
theorem pulseEdge_rises_stable (hnew : a = true) (hold : (pos s c).a = false) (t : Nat) :
    pulseEdge s c a b true t = countEdge (followAB s c a b) c (!b != rdF s (0x3200 + c) 2) t := by
  simp [pulseEdge, hnew, hold, dirOf, followAB, rdF, pcObj]
/-- Where B was not stable the next free bit is the direction (log entry 55). -/
theorem pulseEdge_rises_unstable (hnew : a = true) (hold : (pos s c).a = false) (t : Nat) :
    pulseEdge s c a b false t =
      countEdge { followAB s c a b with freeCount := s.freeCount + 1 } c (Config.freeBit s.freeCount) t := by
  simp [pulseEdge, hnew, hold, freeBit, followAB, setPos]
theorem pulseEdge_of_other (h : a = false ∨ (pos s c).a = true) (stable : Bool) (t : Nat) :
    pulseEdge s c a b stable t = followAB s c a b := by
  rcases h with h | h <;> simp [pulseEdge, h, followAB]

end

-- Hall steps (R125) -----------------------------------------------------------------------------------------------

section
variable {s : State} {c : Nat} {u v w : Bool} (hnew : ¬ (u = (pos s c).a ∧ v = (pos s c).b ∧ w = (pos s c).z))
include hnew

theorem hall_state_changed : (u == (pos s c).a && v == (pos s c).b && w == (pos s c).z) = false := by
  simpa [and_assoc] using hnew

/-- A step to the next place counts up, one to the place before counts down, and one that skips a place is illegal. -/
theorem hallEdge_between {i j : Nat} (hi : hallPlace (pos s c).a (pos s c).b (pos s c).z = some i)
    (hj : hallPlace u v w = some j) (t : Nat) :
    hallEdge s c u v w t =
      if j = (i + 1) % 6 then countEdge (followABZ s c u v w) c (rdF s (0x3200 + c) 2) t
      else if i = (j + 1) % 6 then countEdge (followABZ s c u v w) c (!rdF s (0x3200 + c) 2) t
      else illegal (followABZ s c u v w) c := by
  unfold hallEdge
  simp only [hall_state_changed hnew, Bool.false_eq_true, if_false]
  simp [hi, hj, dirOf, followABZ, rdF, pcObj]

theorem hallEdge_of_invalid (h : hallPlace (pos s c).a (pos s c).b (pos s c).z = none ∨ hallPlace u v w = none) (t : Nat) :
    hallEdge s c u v w t = illegal (followABZ s c u v w) c := by
  unfold hallEdge
  simp only [hall_state_changed hnew, Bool.false_eq_true, if_false]
  rcases h with h | h
  · simp [h, followABZ]
  · cases hallPlace (pos s c).a (pos s c).b (pos s c).z <;> simp [h, followABZ]

end

-- A counted edge (R132 to R135, R138) -----------------------------------------------------------------------------

theorem advanceList_told (s : State) (c : Nat) : Told s (advanceList s c) := by
  unfold advanceList
  dsimp only
  split
  · exact told_wrN ..
  · split
    · exact (told_wrN ..).trans (told_wrN ..)
    · exact told_wrN ..

/-- A pulse that fires changes nothing of its channel but the end of the pulse. -/
theorem pos_firePulse (s : State) (c t : Nat) : ∃ e, pos (firePulse s c t) c = { pos s c with pulseEnd := some e } := by
  have hport (u : State) (n : Nat) (x : Port) : pos (setPort u n x) c = pos u c := rfl
  unfold firePulse
  dsimp only
  split
  · exact ⟨_, by rw [hport, pos_setPos_self]⟩
  · exact ⟨_, pos_setPos_self ..⟩

/-- The channel after a counted edge, but for the compare pulse that it may fire. -/
def edgeCounted (s : State) (c : Nat) (down : Bool) (t : Nat) : Pos :=
  let p := pos s c
  let fresh := p.stamps.isEmpty
  let rev := !fresh && down != p.down
  { p with count := add32 p.count (if down then -1 else 1), down := down, stopped := false,
           stamps := if fresh || rev then [t] else (t :: p.stamps).take 65,
           edges := if fresh || rev then 1 else p.edges + 1, starting := fresh, reversal := rev }

/-- A conditional state is one of its two branches. -/
theorem ite_state_cases (p : Prop) [Decidable p] (u v : State) : (if p then u else v) = v ∨ (if p then u else v) = u := by
  by_cases h : p
  · exact .inr (if_pos h)
  · exact .inl (if_neg h)

theorem countEdge_cases (s : State) (c : Nat) (down : Bool) (t : Nat) :
    let u := setPos s c (edgeCounted s c down t)
    countEdge s c down t = u ∨ countEdge s c down t = advanceList (firePulse u c t) c := by
  have harmed (p : Pos) : armedAt (setPos s c p) c = armedAt s c := rfl
  unfold countEdge
  dsimp only
  rw [harmed]
  cases armedAt s c with
  | none => exact .inl rfl
  | some q => exact ite_state_cases ..

theorem pos_countEdge (s : State) (c : Nat) (down : Bool) (t : Nat) :
    ∃ e, pos (countEdge s c down t) c = { edgeCounted s c down t with pulseEnd := e } := by
  rcases countEdge_cases s c down t with h | h
  · exact ⟨_, by rw [h, pos_setPos_self]⟩
  · obtain ⟨e, he⟩ := pos_firePulse (setPos s c (edgeCounted s c down t)) c t
    exact ⟨some e, by rw [h, (advanceList_told ..).pos_eq, he, pos_setPos_self]⟩

theorem edgeCounted_stamps_head (s : State) (c : Nat) (down : Bool) (t : Nat) :
    (edgeCounted s c down t).stamps.head? = some t := by
  unfold edgeCounted
  dsimp only
  split <;> rfl

-- Index events (R130, R131) ---------------------------------------------------------------------------------------

/-- The deviation of the count from the index reference, modulo the counts of a revolution, in its lower half (R130). -/
def indexDeviation (s : State) (c : Nat) : Int :=
  let m := (diff32 (pos s c).count (pos s c).idxRef % (rdN s (0x3200 + c) 0x21 : Int)).toNat
  if m > rdN s (0x3200 + c) 0x21 / 2 then (m : Int) - rdN s (0x3200 + c) 0x21 else m

/-- The channel's record of Z takes the level after an edge. -/
def followZ (s : State) (c : Nat) (level : Bool) : State := setPos s c { pos s c with z := level }

@[simp] theorem pos_followZ (s : State) (c : Nat) (level : Bool) : pos (followZ s c level) c = { pos s c with z := level } :=
  pos_setPos_self ..
@[simp] theorem setPos_followZ (s : State) (c : Nat) (level : Bool) (p : Pos) : setPos (followZ s c level) c p = setPos s c p :=
  setPos_setPos_self ..
theorem indexDeviation_followZ (s : State) (c : Nat) (level : Bool) :
    indexDeviation (followZ s c level) c = indexDeviation s c := by
  simp [indexDeviation, followZ]

/-- The channel with one more index event counted. -/
def indexCounted (s : State) (c : Nat) : Pos := { pos s c with indexCount := (pos s c).indexCount + 1 }

/-- An edge of Z to its active level, index checking on, is an index event. -/
theorem indexEdge_active {s : State} {c held : Nat} {level : Bool} (hcount : posCounts s = true)
    (hheld : rdN s (0x3200 + c) 0x20 ≤ held) (hcheck : rdF s (0x3200 + c) 3 = true) (hlo : 1 ≤ rdN s (0x3200 + c) 1)
    (hhi : rdN s (0x3200 + c) 1 ≤ 4) (hnew : (pos s c).z ≠ level) (hactive : level = (rdN s (0x3200 + c) 4 == 0)) (off : Nat) :
    indexEdge s c level held off = indexEvent (followZ s c level) c (cycleNs s off) := by
  have hpass : ((pos s c).z == level || decide (held < rdN s (pcObj c) 0x20) || pcMode s c == 5) = false := by
    simp only [Bool.or_eq_false_iff, beq_eq_false_iff_ne, pcMode, pcObj]
    exact ⟨⟨hnew, decide_eq_false (not_filtered hheld)⟩, by omega⟩
  have hevent : (posCounts s && within (pcMode s c) 1 4 && rdF s (pcObj c) 3 && level == (rdN s (pcObj c) 4 == 0)) = true := by
    simp only [Bool.and_eq_true, beq_iff_eq, within, decide_eq_true_eq]
    exact ⟨⟨⟨hcount, hlo, hhi⟩, hcheck⟩, hactive⟩
  unfold indexEdge
  dsimp only
  rw [if_neg (by simp [hpass])]
  exact if_pos hevent

section
variable {s : State} {c : Nat}

theorem indexEvent_references (hfirst : (pos s c).referenced = false) (t : Nat) :
    let cnt := if rdN s (0x3200 + c) 5 = 1 then rdN s (0x3200 + c) 0x23 else (pos s c).count
    indexEvent s c t = setPos s c { indexCounted s c with count := cnt, idxRef := cnt, referenced := true } := by
  simp [indexEvent, hfirst, indexCounted, pcObj]

variable (hlater : (pos s c).referenced = true)
include hlater

/-- An index event of a referenced channel goes by its deviation. -/
theorem indexEvent_checks (t : Nat) :
    indexEvent s c t =
      let e := indexDeviation s c
      let c1 := add32 (pos s c).count (-e)
      if e.natAbs ≤ rdN s (0x3200 + c) 0x22 then
        if e = 0 then setPos s c { indexCounted s c with idxRef := (pos s c).count }
        else compareMove
          (inc (setPos s c { indexCounted s c with count := c1, idxRef := c1, corrected := true }) (0x3200 + c) 0x86)
          c (pos s c).count c1 t
      else condStart
        (inc (wrN (setPos s c { indexCounted s c with mismatch := true }) (0x3200 + c) 0x85 (pos s c).count) (0x3200 + c) 0x87)
        19 c (0x0A604000 + c) 0xFF := by
  unfold indexEvent
  dsimp only
  rw [if_neg (by simp [hlater])]
  simp only [beq_iff_eq]
  rfl

theorem indexEvent_in_place (he : indexDeviation s c = 0) (t : Nat) :
    indexEvent s c t = setPos s c { indexCounted s c with idxRef := (pos s c).count } := by
  simp [indexEvent_checks hlater, he]

theorem indexEvent_realigns (he : indexDeviation s c ≠ 0)
    (htol : (indexDeviation s c).natAbs ≤ rdN s (0x3200 + c) 0x22) (t : Nat) :
    let c1 := add32 (pos s c).count (-indexDeviation s c)
    indexEvent s c t = compareMove
      (inc (setPos s c { indexCounted s c with count := c1, idxRef := c1, corrected := true }) (0x3200 + c) 0x86)
      c (pos s c).count c1 t := by
  rw [indexEvent_checks hlater]
  dsimp only
  rw [if_pos htol, if_neg he]

theorem indexEvent_mismatches (htol : rdN s (0x3200 + c) 0x22 < (indexDeviation s c).natAbs) (t : Nat) :
    indexEvent s c t = condStart
      (inc (wrN (setPos s c { indexCounted s c with mismatch := true }) (0x3200 + c) 0x85 (pos s c).count) (0x3200 + c) 0x87)
      19 c (0x0A604000 + c) 0xFF := by
  rw [indexEvent_checks hlater]
  exact if_neg (Nat.not_le.mpr htol)

end

-- The timers (R133, R138) -----------------------------------------------------------------------------------------

theorem standstill_reached {s : State} {c off t : Nat} {l : List Nat} (hstamps : (pos s c).stamps = t :: l)
    (hlo : 1 ≤ rdN s (0x3200 + c) 1) (hhi : rdN s (0x3200 + c) 1 ≤ 5)
    (hdue : t + rdN s (0x3200 + c) 0x25 * 1000000 ≤ nowNs s off) :
    standstill s c off = setPos s c { pos s c with
      stamps := [], edges := 0, stopped := true, starting := false, reversal := false } := by
  simp [standstill, hstamps, within, pcMode, pcObj, hlo, hhi, hdue]

@[simp] theorem cmpPort_setPos (s : State) (c : Nat) (p : Pos) (d : Nat) : cmpPort (setPos s c p) d = cmpPort s d := rfl
@[simp] theorem port_setPos (s : State) (c : Nat) (p : Pos) (n : Nat) : port (setPos s c p) n = port s n := rfl

section
variable {s : State} {c off e : Nat} (hpulse : (pos s c).pulseEnd = some e) (hdue : e ≤ nowNs s off)
include hpulse hdue

/-- The port that serves the channel has its edge where the width has run out. -/
theorem pulseEnd_served {n : Nat} (hport : cmpPort s c = some n) :
    pulseEnd s c off = setPort (setPos s c { pos s c with pulseEnd := none }) n { port s n with edgeAt := e } := by
  simp [pulseEnd, hpulse, hdue, hport]
theorem pulseEnd_unserved (hport : cmpPort s c = none) :
    pulseEnd s c off = setPos s c { pos s c with pulseEnd := none } := by
  simp [pulseEnd, hpulse, hdue, hport]

end

-- The end of an SSI frame (R126, R127) ----------------------------------------------------------------------------

/-- The channel when its frame is out: the next may start after the monoflop time. -/
def ssiIdle (s : State) (c off : Nat) : Pos :=
  { pos s c with frameBusy := false, frameFree := nowNs s off + rdN s (0x3200 + c) 0x0B * 1000 }
/-- The value that a frame's bits carry. -/
def ssiValue (s : State) (c bits : Nat) : Nat :=
  let b := rdN s (0x3200 + c) 8
  if rdN s (0x3200 + c) 9 = 1 then grayDecode (bits % 2 ^ b) b else bits % 2 ^ b
/-- The signed difference of two values of `b` bits. -/
def ssiStep (b v w : Nat) : Int :=
  let m := (v + 2 ^ b - w % 2 ^ b) % 2 ^ b
  if 2 ^ (b - 1) ≤ m then (m : Int) - 2 ^ b else m

section
variable {s : State} {c off : Nat} {startHigh endLow : Bool} (hmode : rdN s (0x3200 + c) 1 = 6) (hbusy : (pos s c).frameBusy = true)
  (hout : (pos s c).frameAt + 10 * ssiHalf s c * (rdN s (0x3200 + c) 8 + 1) + 5 * rdN s (0x3200 + c) 0x0C ≤ nowNs s off)
include hmode hbusy hout

theorem ssi_frame_out :
    (pcMode s c != 6 || !(pos s c).frameBusy || decide (nowNs s off < (pos s c).frameAt + ssiLength s c)) = false := by
  have hlength : (pos s c).frameAt + ssiLength s c ≤ nowNs s off := by
    rw [Nat.add_assoc] at hout
    exact hout
  simp only [Bool.or_eq_false_iff, bne_eq_false_iff_eq, Bool.not_eq_false']
  exact ⟨⟨hmode, hbusy⟩, decide_eq_false (Nat.not_lt.mpr hlength)⟩

theorem ssiComplete_fails (hlevels : (startHigh && endLow) = false) (value : Nat) :
    ssiComplete s c value startHigh endLow off =
      signalFault (setPos s c { ssiIdle s c off with ssiErrors := (pos s c).ssiErrors + 1 }) c := by
  unfold ssiComplete
  dsimp only
  rw [if_neg (by simp [ssi_frame_out hmode hbusy hout]), ← Bool.not_and, hlevels]
  rfl

theorem ssiComplete_first (hlevels : (startHigh && endLow) = true) (hfirst : (pos s c).vPrev = none) (value : Nat) :
    let v := ssiValue s c value
    ssiComplete s c value startHigh endLow off = setPos s c { ssiIdle s c off with
      count := v, vPrev := some v, ssiErrors := 0, frames := [v],
      changedAt := if v = (pos s c).count then (pos s c).changedAt else some (nowNs s off) } := by
  unfold ssiComplete
  dsimp only
  rw [if_neg (by simp [ssi_frame_out hmode hbusy hout]), ← Bool.not_and, hlevels]
  simp only [hfirst, beq_iff_eq]
  rfl

theorem ssiComplete_later (hlevels : (startHigh && endLow) = true) {w : Nat} (hlater : (pos s c).vPrev = some w) (value : Nat) :
    let v := ssiValue s c value
    let d := ssiStep (rdN s (0x3200 + c) 8) v w
    let c1 := add32 (pos s c).count d
    let u := setPos s c { ssiIdle s c off with
      count := c1, vPrev := some v, ssiErrors := 0, frames := (c1 :: (pos s c).frames).take 65,
      down := if d = 0 then (pos s c).down else decide (d < 0),
      changedAt := if d = 0 then (pos s c).changedAt else some (nowNs s off) }
    ssiComplete s c value startHigh endLow off = if d = 0 then u else compareMove u c (pos s c).count c1 (nowNs s off) := by
  unfold ssiComplete
  dsimp only
  rw [if_neg (by simp [ssi_frame_out hmode hbusy hout]), ← Bool.not_and, hlevels]
  simp only [hlater, beq_iff_eq]
  rfl

end

/-- Settles O12: each timer's end, and the three outcomes of a frame, by its lemma above. -/
theorem positionTimersRunOut : Obligations.PositionTimersRunOut := by
  unfold Obligations.PositionTimersRunOut
  refine ⟨?standstill, ?pulse, ?frame⟩
  case standstill =>
    intro s c off t l h hstamps hlo hhi hdue
    rw [exec_standstillTimeout h, standstill_reached hstamps hlo hhi hdue]
  case pulse =>
    intro s c off e h hpulse hdue
    rw [exec_comparePulseEnd h]
    cases hport : cmpPort s c with
    | some n => rw [pulseEnd_served hpulse hdue hport]
    | none => rw [pulseEnd_unserved hpulse hdue hport]
  case frame =>
    intro s c value startHigh endLow off h hmode hbusy hout
    refine ⟨fun hlevels => ?_, fun hlevels hfirst => ?_, fun hlevels w hlater => ?_⟩
    · rw [exec_ssiFrameComplete h, ssiComplete_fails hmode hbusy hout hlevels]
      rfl
    · rw [exec_ssiFrameComplete h, ssiComplete_first hmode hbusy hout hlevels hfirst]
      rfl
    · rw [exec_ssiFrameComplete h, ssiComplete_later hmode hbusy hout hlevels hlater]
      rfl

-- Edges and index events (R121 to R125, R130, R131) ---------------------------------------------------------------

/-- Settles O10: the lemma of the channel's mode and of the edge, the counted edge, and the index event by its deviation. -/
theorem positionEvents : Obligations.PositionEvents := by
  unfold Obligations.PositionEvents
  refine ⟨⟨?edge, ?counted⟩, ?first, ?later⟩
  case edge =>
    intro s c a b z stable held off h hheld q ab abz back t faulted answers
    have hanswers {u : State} (hu : encoderEdge s c a b z stable held off = u) : answers u :=
      hu ▸ exec_encoderEdge h c a b z stable held off
    refine ⟨fun hcount => ⟨fun hlo hhi => ?quadrature, fun hmode => ?pulse, fun hmode hnew => ?hall⟩,
      fun hmode => hanswers (encoderEdge_follows_three hheld hmode ..),
      fun hstands hlo hhi => hanswers (encoderEdge_follows_two hheld hstands hlo hhi ..)⟩
    case quadrature =>
      have hquad := encoderEdge_quadrature hheld hcount hlo hhi a b z stable off
      exact ⟨fun ha hb => hanswers (hquad.trans (quadEdge_of_A ha hb hlo hhi _)),
        fun ha hb => hanswers (hquad.trans (quadEdge_of_B ha hb hlo hhi _)),
        fun ha hb => hanswers (hquad.trans (quadEdge_of_both ha hb _)),
        fun ha hb => hanswers (hquad.trans (quadEdge_of_none ha hb _))⟩
    case pulse =>
      have hpulse := encoderEdge_pulse hheld hcount hmode a b z stable off
      refine ⟨fun hnew hold hstable => ?_, fun hnew hold hstable => ?_,
        fun hother => hanswers (hpulse.trans (pulseEdge_of_other hother ..))⟩
      · exact hanswers (hpulse.trans (hstable ▸ pulseEdge_rises_stable hnew hold _))
      · exact hanswers (hpulse.trans (hstable ▸ pulseEdge_rises_unstable hnew hold _))
    case hall =>
      have hhall := encoderEdge_hall hheld hcount hmode a b z stable off
      refine ⟨fun i j hi hj => ?_, fun hinvalid => hanswers (hhall.trans (hallEdge_of_invalid hnew hinvalid _))⟩
      rw [hallEdge_between hnew hi hj] at hhall
      refine ⟨fun hup => hanswers ?_, fun hdown => hanswers ?_, fun hup hdown => hanswers ?_⟩
      · rw [hhall, if_pos hup]
        rfl
      · rw [hhall, if_neg (by omega), if_pos hdown]
        rfl
      · rw [hhall, if_neg hup, if_neg hdown]
        rfl
  case counted =>
    intro s c down t
    obtain ⟨e, he⟩ := pos_countEdge s c down t
    simp only [he]
    exact ⟨rfl, rfl, rfl, edgeCounted_stamps_head s c down t⟩
  case first =>
    intro s c level held off h hcount hheld hcheck hlo hhi hnew hactive hfirst
    rw [exec_indexEvent h, indexEdge_active hcount hheld hcheck hlo hhi hnew hactive,
      indexEvent_references (by simpa using hfirst)]
    simp [indexCounted, followZ]
  case later =>
    intro s c level held off h hcount hheld hcheck hlo hhi hnew hactive hlater m e p
    have hlater' : (pos (followZ s c level) c).referenced = true := by simpa using hlater
    have hdev : indexDeviation (followZ s c level) c = e := indexDeviation_followZ s c level
    rw [exec_indexEvent h, indexEdge_active hcount hheld hcheck hlo hhi hnew hactive]
    refine ⟨fun he => ?_, fun he htol => ?_, fun htol => ?_⟩
    · rw [indexEvent_in_place hlater' (hdev.trans he)]
      simp [indexCounted, p]
    · rw [indexEvent_realigns hlater' (hdev ▸ he) (hdev ▸ htol), hdev]
      simp [indexCounted, p, cycleNs]
    · rw [indexEvent_mismatches hlater' (hdev ▸ htol)]
      simp [indexCounted, p]

-- Requests that wait for tick s + 1 (R129, R131, R137) ------------------------------------------------------------

theorem base_add_beq_lower {base k : Nat} (h : k < base) (c : Nat) : (base + c == k) = false := beq_eq_false_iff_ne.mpr (by omega)
theorem within_base_add_lower {base hi : Nat} (h : hi < base) (c lo : Nat) : within (base + c) lo hi = false := by
  simp [within]
  omega
theorem within_base_add {base hi c : Nat} (h : base + c ≤ hi) : within (base + c) base hi = true := by simp [within, h]

section
variable (s : State) {c : Nat} (hc : c < 8) (client : Nat) (data : List Byte) (off : Nat) (item : Option Nat)
include hc

/-- A checked write of 0x3200+c:80 is a preset of the count. -/
theorem performAny_positionPreset : performAny s client (0x3200 + c) 0x80 data off item =
    success (setPos s c { pos s c with preset := (pos s c).preset ++ [(stamp s off + 1, leNat data)] }) client := by
  have hchannel : within (0x3200 + c) 0x3200 0x3207 = true := within_base_add (by omega)
  simp [performAny, perform, base_add_beq_lower, within_base_add_lower, hchannel]
/-- One of 0x3200+c:89 is a re-reference. -/
theorem performAny_reReference : performAny s client (0x3200 + c) 0x89 data off item =
    success (setPos s c { pos s c with reRef := (pos s c).reRef ++ [stamp s off + 1] }) client := by
  have hchannel : within (0x3200 + c) 0x3200 0x3207 = true := within_base_add (by omega)
  simp [performAny, perform, base_add_beq_lower, within_base_add_lower, hchannel]
/-- One of 0x3210+c:84 arms or disarms the compare list. -/
theorem performAny_compareArm : performAny s client (0x3210 + c) 0x84 data off item =
    success (setPos s c { pos s c with arm := (pos s c).arm ++ [(stamp s off + 1, leNat data)] }) client := by
  have hlist : within (0x3210 + c) 0x3210 0x3217 = true := within_base_add (by omega)
  simp [performAny, perform, base_add_beq_lower, within_base_add_lower, hlist]

end

/-- An accepted write that a position channel takes as a request is answered, and goes to the other member of a pair. -/
theorem put_posRequest {s : State} {client idx sub c : Nat} {data : List Byte} {off : Nat} {p : Pos}
    (h : Accepts s client idx sub data) (hlo : 0x3200 ≤ idx) (hhi : idx < 0x4F00) (hsub : 0x80 ≤ sub)
    (hperform : performAny { s with answers := Tab.del s.answers client } client idx sub data off none =
      success (setPos { s with answers := Tab.del s.answers client } c p) client) :
    put s client idx sub data off = paired (setPos (answered s client) c p) client idx sub data := by
  have ⟨_, hclient, _⟩ := h
  rw [success_le hclient] at hperform
  rw [put_performed h (by simp [structural, within]; omega) (by simp [ttStaged, within]; omega) (by omega) (by omega) hperform
    (by simp [aborted])]
  exact storeHash_same (paired_work ..)

theorem leNat_unsignedOf (i : Int) : leNat (leBytes 4 (unsignedOf 4 i)) = unsignedOf 4 i := by
  rw [leNat_leBytes]
  refine Nat.mod_eq_of_lt ?_
  simp only [unsignedOf]
  omega

/-- Settles O11: each request is an accepted write that its channel takes. -/
theorem positionRequestsWaitForTick : Obligations.PositionRequestsWaitForTick := by
  unfold Obligations.PositionRequestsWaitForTick
  intro s client c off hc
  refine ⟨fun value h => ?preset, fun h => ?reReference, fun h => ?arm, fun h => ?disarm⟩
  case preset =>
    refine congrArg (done s) (put_posRequest h (by omega) (by omega) (by omega) ?_)
    rw [performAny_positionPreset _ hc, leNat_unsignedOf]
    rfl
  case reReference =>
    exact congrArg (done s) (put_posRequest h (by omega) (by omega) (by omega) (performAny_reReference _ hc ..))
  case arm =>
    exact congrArg (done s) (put_posRequest h (by omega) (by omega) (by omega) (performAny_compareArm _ hc ..))
  case disarm =>
    exact congrArg (done s) (put_posRequest h (by omega) (by omega) (by omega) (performAny_compareArm _ hc ..))

end Sys2Proof.Machine
end

section
/-! SUPPORT. Requests on loops, zones and the trace (R171, R185, R190, R206, R215, R216): what the write of a request comes to, by
its own rule or by the Effect of its row. -/
namespace Sys2Proof.Machine
open Sys2Proof Sys2Proof.OD

-- A write that waits by the Effect of its row (R48) ---------------------------------------------------------------

/-- An accepted write that its rule carries out with success, with no work item changed: that effect, its answer, and the pair. -/
theorem put_succeeds {s u : State} {client idx sub : Nat} {data : List Byte} {off : Nat} (h : Accepts s client idx sub data)
    (hstruct : structural idx sub = false) (htt : ttStaged idx sub = false) (hcal : ¬ (idx = 0x2300 ∧ sub = 6))
    (hgroup : ¬ (idx = 0x2000 ∧ sub = 0x17))
    (hperform : performAny { s with answers := Tab.del s.answers client } client idx sub data off none = success u client)
    (hwork : u.work = s.work) :
    put s client idx sub data off = paired (success u client) client idx sub data := by
  have ⟨_, hclient, _⟩ := h
  rw [put_performed h hstruct htt hcal hgroup hperform (aborted_success hclient)]
  refine storeHash_same ?_
  rw [paired_work, success_le hclient]
  exact hwork

section
variable {idx sub : Nat} {r : Row} (hplain : Plain idx sub r)
include hplain

theorem Plain.not_calendarCommit : ¬ (idx = 0x2300 ∧ sub = 6) := by
  obtain ⟨_, _, _, hcommand⟩ := hplain
  rintro ⟨rfl, rfl⟩
  simp [commandSub, within] at hcommand
theorem Plain.not_groupCommand : ¬ (idx = 0x2000 ∧ sub = 0x17) := by
  obtain ⟨_, _, _, hcommand⟩ := hplain
  rintro ⟨rfl, rfl⟩
  simp [commandSub] at hcommand

/-- No owning rule takes a plain write for a command, so one whose Effect is TICK or PERIOD waits. -/
theorem performAny_pends (heff : r.eff = .tick ∨ r.eff = .period) (s : State) (client : Nat) (data : List Byte) (off : Nat)
    (item : Option Nat) :
    performAny s client idx sub data off item = success (pend s client (stamp s off + 1) idx sub (stored r data)) client := by
  obtain ⟨hrow, _, _, hcommand⟩ := hplain
  have hcalendar : within sub 1 6 = (within sub 1 5 || sub == 6) := by
    rw [Bool.eq_iff_iff]
    simp [within]
    omega
  simp only [commandSub, hcalendar, Bool.and_or_distrib_left, Bool.or_eq_false_iff] at hcommand
  simp only [performAny, perform, hcommand, hrow, Bool.false_and, Bool.false_eq_true, ↓reduceIte]
  rcases heff with heff | heff <;> simp only [heff]

theorem periodic_of_plain : periodic idx sub = (r.eff == .period) := by
  obtain ⟨hrow, _⟩ := hplain
  simp [periodic, hrow]

/-- R48: an accepted write of a plain TICK or PERIOD value, REAL32 aside, is answered and waits for tick s + 1 or, where its Effect
is PERIOD, for its boundary from there on. -/
theorem put_waits {s : State} {client : Nat} {data : List Byte} (h : Accepts s client idx sub data)
    (heff : r.eff = .tick ∨ r.eff = .period) (hty : r.ty ≠ .r32) (off : Nat) :
    put s client idx sub data off = paired { answered s client with
      pendingWrites := s.pendingWrites ++ [{ client := client, due := stamp s off + 1, period := r.eff == .period, idx := idx,
                                             sub := sub, data := data }] } client idx sub data := by
  have ⟨_, hclient, _⟩ := h
  have ⟨_, hstruct, htt, _⟩ := hplain
  have hstored : stored r data = data := by simp [stored, hty]
  rw [put_succeeds h hstruct htt hplain.not_calendarCommit hplain.not_groupCommand (performAny_pends hplain heff ..) rfl,
    success_le hclient, hstored]
  simp only [pend, periodic_of_plain hplain]
  rfl

end

-- The rows of the requests ----------------------------------------------------------------------------------------

theorem rowsFull_loop {n : Nat} (hn : n < 1024) : rowsFull (0x3400 + n) = rows3400 := by
  rw [rowsFull, if_neg (by omega), if_neg (by omega), if_neg (by omega), if_pos (by omega)]
theorem rowsFull_zone {z : Nat} (hz : z < 64) : rowsFull (0x3C00 + z) = rows3C00 := by
  rw [rowsFull, if_neg (by omega), if_neg (by omega), if_neg (by omega), if_neg (by omega), if_pos (by omega),
    if_pos (within_base_add (by omega))]
theorem rowsFull_learning {z : Nat} (hz : z < 64) : rowsFull (0x3C80 + z) = rows3C80 := by
  have hzone : ¬ within (0x3C80 + z) 0x3C00 0x3C3F = true := by simp [within]; omega
  have hcoupling : ¬ within (0x3C80 + z) 0x3C40 0x3C7F = true := by simp [within]; omega
  rw [rowsFull, if_neg (by omega), if_neg (by omega), if_neg (by omega), if_neg (by omega), if_pos (by omega), if_neg hzone,
    if_neg hcoupling, if_pos (within_base_add (by omega))]

/-- 0x3400+n:81, the mode command of a loop (R185). -/
def loopModeRow : Row := { lo := 0x81, hi := 0x81, ty := .u8, rng := [(0, 3)], acc := .rww, per := .v, eff := .period, dfl := [0] }
/-- 0x3C00+z:86, the estimator's request (R206). -/
def estimatorRow : Row := { lo := 0x86, hi := 0x86, ty := .u8, rng := [(1, 1)], acc := .wo, per := .v, eff := .period, dfl := [0] }
/-- 0x3C80+z:89, the command of a zone's learning (R215, R216). -/
def learningRow : Row := { lo := 0x89, hi := 0x89, ty := .u8, rng := [(1, 2)], acc := .wo, per := .v, eff := .tick, dfl := [0] }

/-- Of the objects of loops and zones no sub-index from 0x80 on is staged, and a loop's swap and restart are the only commands. -/
theorem plain_of_loop_or_zone {idx sub : Nat} {r : Row} (hrow : rowOf idx sub = some r) (hlo : 0x3400 ≤ idx) (hhi : idx < 0x3E00)
    (hsub : 0x80 ≤ sub) (hcommand : sub ≠ 0x84 ∧ sub ≠ 0x85) : Plain idx sub r := by
  refine ⟨hrow, ?_, ?_, ?_⟩
  · simp [structural, within]; omega
  · simp [ttStaged, within]; omega
  · simp [commandSub, within]; omega

theorem plain_loopMode {n : Nat} (hn : n < 1024) : Plain (0x3400 + n) 0x81 loopModeRow :=
  plain_of_loop_or_zone (by rw [rowOf, rowsFull_loop hn]; decide) (by omega) (by omega) (by omega) (by omega)
theorem plain_estimator {z : Nat} (hz : z < 64) : Plain (0x3C00 + z) 0x86 estimatorRow :=
  plain_of_loop_or_zone (by rw [rowOf, rowsFull_zone hz]; decide) (by omega) (by omega) (by omega) (by omega)
theorem plain_learning {z : Nat} (hz : z < 64) : Plain (0x3C80 + z) 0x89 learningRow :=
  plain_of_loop_or_zone (by rw [rowOf, rowsFull_learning hz]; decide) (by omega) (by omega) (by omega) (by omega)

-- Requests that are commands of their rules (R171, R190) ----------------------------------------------------------

/-- A checked write of 0x3400+n:85 marks the restart of the loop, its active bank being usable; a restart that waits stays. -/
theorem performAny_loopRestart {s : State} {n : Nat} (hn : n < 1024) (hbank : bankFault s n (activeBank s n) = 0) (client : Nat)
    (data : List Byte) (off : Nat) (item : Option Nat) : performAny s client (0x3400 + n) 0x85 data off item =
      success (setLoop s n { loopOf s n with restart := some ((loopOf s n).restart.getD (stamp s off + 1)) }) client := by
  have hloop : within (0x3400 + n) 0x3400 0x37FF = true := within_base_add (by omega)
  simp [performAny, perform, base_add_beq_lower, within_base_add_lower, hloop, loopRequestRefusal, hbank]
/-- One of 0x3E00:10 is a command of the trace. -/
theorem performAny_traceCommand (s : State) (client : Nat) (data : List Byte) (off : Nat) (item : Option Nat) :
    performAny s client 0x3E00 0x10 data off item =
      success { s with trace := { s.trace with cmds := s.trace.cmds ++ [(stamp s off + 1, leNat data)] } } client := by
  simp [performAny, perform, within]

/-- R171: the accepted restart command of a loop. -/
theorem put_loopRestart {s : State} {client n : Nat} {data : List Byte} (h : Accepts s client (0x3400 + n) 0x85 data)
    (hn : n < 1024) (hbank : bankFault s n (activeBank s n) = 0) (off : Nat) :
    put s client (0x3400 + n) 0x85 data off = paired (setLoop (answered s client) n
      { loopOf s n with restart := some ((loopOf s n).restart.getD (stamp s off + 1)) }) client (0x3400 + n) 0x85 data := by
  have ⟨_, hclient, _⟩ := h
  have hstruct : structural (0x3400 + n) 0x85 = false := by simp [structural, within]
  have htt : ttStaged (0x3400 + n) 0x85 = false := by simp [ttStaged, within]; omega
  have hbank' : bankFault { s with answers := Tab.del s.answers client } n
      (activeBank { s with answers := Tab.del s.answers client } n) = 0 := hbank
  rw [put_succeeds h hstruct htt (by omega) (by omega) (performAny_loopRestart hn hbank' ..) rfl, success_le hclient]
  rfl

/-- R190: an accepted command of the trace. -/
theorem put_traceCommand {s : State} {client : Nat} {data : List Byte} (h : Accepts s client 0x3E00 0x10 data) (off : Nat) :
    put s client 0x3E00 0x10 data off = paired { answered s client with
      trace := { s.trace with cmds := s.trace.cmds ++ [(stamp s off + 1, leNat data)] } } client 0x3E00 0x10 data := by
  have ⟨_, hclient, _⟩ := h
  rw [put_succeeds h (by decide) (by decide) (by omega) (by omega) (performAny_traceCommand ..) rfl, success_le hclient]
  rfl

/-- Settles O35: a restart and the trace's commands by their own rules, the other requests by the Effect of their rows. -/
theorem loopAndZoneRequestsWait : Obligations.LoopAndZoneRequestsWait := by
  unfold Obligations.LoopAndZoneRequestsWait
  intro s client off
  refine ⟨fun n hn h hbank => ?restart, fun n mode hn h => ?mode, fun z hz h => ?estimator, fun z hz h => ?reset,
    fun z hz h => ?save, fun h => ?arm, fun h => ?force, fun h => ?stop⟩
  case restart => exact congrArg (done s) (put_loopRestart h hn hbank off)
  case mode => exact congrArg (done s) (put_waits (plain_loopMode hn) h (.inr rfl) (by decide) off)
  case estimator => exact congrArg (done s) (put_waits (plain_estimator hz) h (.inr rfl) (by decide) off)
  case reset => exact congrArg (done s) (put_waits (plain_learning hz) h (.inl rfl) (by decide) off)
  case save => exact congrArg (done s) (put_waits (plain_learning hz) h (.inl rfl) (by decide) off)
  case arm => exact congrArg (done s) (put_traceCommand h off)
  case force => exact congrArg (done s) (put_traceCommand h off)
  case stop => exact congrArg (done s) (put_traceCommand h off)

end Sys2Proof.Machine
end

section
/-! SUPPORT. Bank swaps of loops (R179 to R181): what the mark of a swap changes, loop by loop of a request, what the other member of
a pair is told beside it, and the bank change at the swap tick. -/
namespace Sys2Proof.Machine
open Sys2Proof Sys2Proof.OD

-- The command of a request ----------------------------------------------------------------------------------------

/-- A checked write of 0x3400+n:84 marks the loops that the request names. -/
theorem performAny_swapRequest {s : State} {n : Nat} (hn : n < 1024) (hpass : swapRefusal s n = 0) (client : Nat)
    (data : List Byte) (off : Nat) (item : Option Nat) :
    performAny s client (0x3400 + n) 0x84 data off item = success (swapAccept s n (stamp s off)) client := by
  have hloop : within (0x3400 + n) 0x3400 0x37FF = true := within_base_add (by omega)
  simp [performAny, perform, base_add_beq_lower, within_base_add_lower, hloop, hpass]

-- The mark of one loop --------------------------------------------------------------------------------------------

/-- The swap that loop `k` waits with once it is marked: to the bank that is not active, with Kd of the one that is (R179). -/
def swapMark (s : State) (k due : Nat) (inSet : Bool) : Swap :=
  { bank := 1 - activeBank s k, kdOld := bankR s k (activeBank s k) 2, due := due, inSet := inSet }
/-- Loop `k` is marked: it waits with its swap, and its status bit SWAP_PENDING is set. -/
def markSwap (due : Nat) (inSet : Bool) (s : State) (k : Nat) : State :=
  wrBit (setLoop s k { loopOf s k with swap := some (swapMark s k due inSet) }) (lpObj k) 0x9C 15 true

theorem swapAccept_eq_foldS (s : State) (n st : Nat) :
    swapAccept s n st = foldS s (swapMembers s n) (markSwap (st + 1) (rdN s (lpObj n) 0x63 != 0)) := rfl

theorem Told.loopOf_eq {s t : State} (h : Told s t) (k : Nat) : loopOf t k = loopOf s k := by
  obtain ⟨_, _, _, _, _, _, rfl⟩ := h
  rfl

@[simp] theorem loopOf_settled (s t : State) (k : Nat) : loopOf (settled s t) k = loopOf t k := rfl

/-- The status of a loop is no other sub-index of any object. -/
theorem statusKey_ne {j : Nat} (hj : j < 256) (hne : j ≠ 0x9C) (k i : Nat) : key (lpObj k) 0x9C ≠ key i j := by
  rw [Ne, key_inj (by decide) hj]
  omega
/-- Nor is it the status of another loop. -/
theorem statusKey_ne_of_loop {k m : Nat} (h : m ≠ k) : key (lpObj m) 0x9C ≠ key (lpObj k) 0x9C := by
  rw [Ne, key_inj (by decide) (by decide), lpObj, lpObj]
  omega

/-- Bit 15 of a number, once set, reads as set in the 32 bits of 0x3400+n:9C. -/
theorem bit_setBit_mod_u32 (v : Nat) : bit (setBit v 15 true % 256 ^ Ty.u32.width) 15 = true := by
  have hwidth : 256 ^ Ty.u32.width = 4294967296 := by decide
  simp only [hwidth, setBit, bit, beq_iff_eq, ↓reduceIte]
  split <;> omega

section
variable (due : Nat) (inSet : Bool) (s : State)

theorem markSwap_work (m : Nat) : (markSwap due inSet s m).work = s.work := by simp [markSwap, wrBit, setLoop]
theorem loopOf_markSwap_self (m : Nat) :
    loopOf (markSwap due inSet s m) m = { loopOf s m with swap := some (swapMark s m due inSet) } := by
  rw [markSwap, (told_wrBit ..).loopOf_eq, loopOf_setLoop_self]
theorem loopOf_markSwap_ne {m k : Nat} (h : m ≠ k) : loopOf (markSwap due inSet s m) k = loopOf s k := by
  rw [markSwap, (told_wrBit ..).loopOf_eq, loopOf_setLoop_ne _ _ _ h]
theorem rdN_markSwap {m i j : Nat} (h : key (lpObj m) 0x9C ≠ key i j) : rdN (markSwap due inSet s m) i j = rdN s i j := by
  rw [markSwap, wrBit, rdN_wrN_ne _ _ h, rdN_setLoop]
theorem rdBit_markSwap_self {m : Nat} (hm : m < 1024) : rdBit (markSwap due inSet s m) (lpObj m) 0x9C 15 = true := by
  have hrow : rowOf (lpObj m) 0x9C = some { lo := 0x9C, hi := 0x9C, ty := .u32, acc := .ro, per := .v, eff := .none, dfl := [0] } := by
    rw [rowOf, lpObj, rowsFull_loop hm]
    decide
  rw [rdBit, markSwap, wrBit, rdN_wrN_self _ _ hrow]
  exact bit_setBit_mod_u32 _

/-- The banks of every loop read as before, so the mark of another loop is to be the same. -/
theorem swapMark_markSwap (m k : Nat) : swapMark (markSwap due inSet s m) k due inSet = swapMark s k due inSet := by
  have hread {j : Nat} (hj : j < 256) (hne : j ≠ 0x9C) :
      rdN (markSwap due inSet s m) (lpObj k) j = rdN s (lpObj k) j := rdN_markSwap _ _ _ (statusKey_ne hj hne m _)
  have hactive : activeBank (markSwap due inSet s m) k = activeBank s k := hread (by decide) (by decide)
  have hsub : bankSub (activeBank s k) 2 < 0x60 := by
    unfold bankSub
    split <;> decide
  simp only [swapMark, hactive, bankR, rdR, hread (show bankSub (activeBank s k) 2 < 256 by omega) (by omega)]

-- The marks of every loop of a request ----------------------------------------------------------------------------

theorem markSwaps_work (ms : List Nat) : (foldS s ms (markSwap due inSet)).work = s.work := by
  induction ms generalizing s with
  | nil => rfl
  | cons m ms ih => exact (ih _).trans (markSwap_work ..)

theorem loopOf_markSwaps_of_notMem {k : Nat} {ms : List Nat} (h : k ∉ ms) :
    loopOf (foldS s ms (markSwap due inSet)) k = loopOf s k := by
  induction ms generalizing s with
  | nil => rfl
  | cons m ms ih =>
    obtain ⟨hne, hrest⟩ := List.ne_and_not_mem_of_not_mem_cons h
    exact (ih _ hrest).trans (loopOf_markSwap_ne _ _ _ (Ne.symm hne))

theorem rdN_markSwaps {i j : Nat} {ms : List Nat} (h : ∀ m ∈ ms, key (lpObj m) 0x9C ≠ key i j) :
    rdN (foldS s ms (markSwap due inSet)) i j = rdN s i j := by
  induction ms generalizing s with
  | nil => rfl
  | cons m ms ih =>
    obtain ⟨hm, hrest⟩ := List.forall_mem_cons.mp h
    exact (ih _ hrest).trans (rdN_markSwap _ _ _ hm)

theorem swap_markSwaps_of_mem {k : Nat} {ms : List Nat} (h : k ∈ ms) :
    (loopOf (foldS s ms (markSwap due inSet)) k).swap = some (swapMark s k due inSet) := by
  induction ms generalizing s with
  | nil => simp at h
  | cons m ms ih =>
    by_cases hrest : k ∈ ms
    · exact (ih _ hrest).trans (congrArg some (swapMark_markSwap ..))
    · obtain rfl : k = m := (List.mem_cons.mp h).resolve_right hrest
      change (loopOf (foldS (markSwap due inSet s k) ms (markSwap due inSet)) k).swap = _
      rw [loopOf_markSwaps_of_notMem _ _ _ hrest, loopOf_markSwap_self]

theorem rdBit_markSwaps_of_mem {k : Nat} {ms : List Nat} (hk : k < 1024) (h : k ∈ ms) :
    rdBit (foldS s ms (markSwap due inSet)) (lpObj k) 0x9C 15 = true := by
  induction ms generalizing s with
  | nil => simp at h
  | cons m ms ih =>
    by_cases hrest : k ∈ ms
    · exact ih _ hrest
    · obtain rfl : k = m := (List.mem_cons.mp h).resolve_right hrest
      change rdBit (foldS (markSwap due inSet s k) ms (markSwap due inSet)) (lpObj k) 0x9C 15 = true
      rw [rdBit, rdN_markSwaps _ _ _ fun m hm => statusKey_ne_of_loop (ne_of_mem_of_not_mem hm hrest)]
      exact rdBit_markSwap_self due inSet s hk

end

-- The pair beside a write (R342) ----------------------------------------------------------------------------------

section
variable (t : State) (client idx sub : Nat) (data : List Byte)

theorem mirrorPut_keeps (m : MirrorItem) : (mirrorPut t m).loops = t.loops ∧ (mirrorPut t m).answers = t.answers := by
  unfold mirrorPut
  split
  · exact ⟨rfl, rfl⟩
  · exact ⟨wrN_loops .., wrN_answers ..⟩
theorem standbyWrite_keeps :
    (standbyWrite t client idx sub).loops = t.loops ∧ (standbyWrite t client idx sub).answers = t.answers := by
  unfold standbyWrite notReady
  split
  · exact ⟨wrN_loops .., wrN_answers ..⟩
  · exact ⟨rfl, rfl⟩
/-- The loops and the answers stay as the write left them. -/
theorem paired_keeps : (paired t client idx sub data).loops = t.loops ∧ (paired t client idx sub data).answers = t.answers := by
  obtain ⟨hloops, hanswers⟩ := standbyWrite_keeps t client idx sub
  unfold paired
  simp only
  split
  · obtain ⟨hloops', hanswers'⟩ := mirrorPut_keeps (standbyWrite t client idx sub) (.write idx sub data)
    exact ⟨hloops'.trans hloops, hanswers'.trans hanswers⟩
  · exact ⟨hloops, hanswers⟩
theorem paired_answers : (paired t client idx sub data).answers = t.answers := (paired_keeps t client idx sub data).right
theorem loopOf_paired (k : Nat) : loopOf (paired t client idx sub data) k = loopOf t k := by
  rw [loopOf, (paired_keeps t client idx sub data).left, loopOf]
/-- What the pair is told counts in values of 0x2500 only. -/
theorem rdN_paired {i j : Nat} (hi : i ≠ 0x2500) (hj : j < 256) : rdN (paired t client idx sub data) i j = rdN t i j := by
  have hkey {b : Nat} (hb : b < 256) : key 0x2500 b ≠ key i j := by
    rw [Ne, key_inj hb hj]
    omega
  have hstandby : rdN (standbyWrite t client idx sub) i j = rdN t i j := by
    unfold standbyWrite notReady
    split
    · exact rdN_wrN_ne _ _ (hkey (by decide))
    · rfl
  have hmirror (m : MirrorItem) (u : State) : rdN (mirrorPut u m) i j = rdN u i j := by
    unfold mirrorPut
    split
    · rfl
    · exact rdN_wrN_ne _ _ (hkey (by decide))
  unfold paired
  simp only
  split
  · rw [hmirror, hstandby]
  · exact hstandby

end

-- The request (R179, R181) ----------------------------------------------------------------------------------------

/-- An accepted request: its loops are marked, it is answered, and the other member of a pair is told. -/
theorem put_swapRequest {s : State} {client n : Nat} {data : List Byte} (h : Accepts s client (0x3400 + n) 0x84 data)
    (hn : n < 1024) (hpass : swapRefusal s n = 0) (off : Nat) :
    put s client (0x3400 + n) 0x84 data off = paired (success (foldS { s with answers := Tab.del s.answers client }
      (swapMembers s n) (markSwap (stamp s off + 1) (rdN s (0x3400 + n) 0x63 != 0))) client) client (0x3400 + n) 0x84 data := by
  have hstruct : structural (0x3400 + n) 0x84 = false := by simp [structural, within]
  have htt : ttStaged (0x3400 + n) 0x84 = false := by simp [ttStaged, within]; omega
  have hpass' : swapRefusal { s with answers := Tab.del s.answers client } n = 0 := hpass
  exact put_succeeds h hstruct htt (by omega) (by omega) (performAny_swapRequest hn hpass' ..) (markSwaps_work ..)

-- The swap tick (R180, R181) --------------------------------------------------------------------------------------

/-- At a tick of loops at which no reset, NMT change or commit is due, the swap tick is the loop's bank change there. -/
theorem exec_swapTick {s : State} (hunits : UnitsOn s) (heval : evaluates s = true) (hcontrol : controlDue s = false)
    (hcommit : commitNext s = false) (n : Nat) : exec (.swapTick n) s =
      .next (settled s (atTick s (s.now + 1) fun s => swapAt s n s.now s.tick)) := by
  change done s (runs s fun s => if evaluates s && !controlDue s && !commitNext s then
    atTick s (s.now + 1) fun s => swapAt s n s.now s.tick else s) = _
  rw [runs_on hunits, done]
  simp [heval, hcontrol, hcommit]

/-- A swap whose tick has come is made, of a set at once and of a single loop that is not suspended at its boundary. -/
theorem swapAt_made {s : State} {n own t : Nat} {w : Swap} (hswap : (loopOf s n).swap = some w) (hdue : w.due ≤ own)
    (hnot4 : loopState s n ≠ 4) (hnot5 : loopState s n ≠ 5)
    (hwhen : w.inSet = true ∨ (loopBoundary s n t = true ∧ loopState s n ≠ 6)) :
    swapAt s n own t =
      setLoop (wrN s (lpObj n) 0x83 w.bank) n { loopOf s n with swap := none, swapEval := some w.kdOld } := by
  have hruns : within (loopState s n) 4 5 = false := by
    simp [within]
    omega
  simp [swapAt, hswap, hdue, hruns, hwhen]

theorem activeBank_wrN {n bank : Nat} (hn : n < 1024) (hbank : bank < 2) (s : State) :
    activeBank (wrN s (lpObj n) 0x83 bank) n = bank := by
  have hrow : rowOf (lpObj n) 0x83 =
      some { lo := 0x83, hi := 0x83, ty := .u8, rng := [(0, 1)], acc := .ro, per := .v, eff := .none, dfl := [0] } := by
    rw [rowOf, lpObj, rowsFull_loop hn]
    decide
  have hwidth : 256 ^ Ty.u8.width = 256 := by decide
  rw [activeBank, rdN_wrN_self _ _ hrow, hwidth]
  omega

/-- Settles O34: a request by the marks of its loops one after the other, the swap tick by the bank change that it makes. -/
theorem bankSwapsAreMarkedThenMade : Obligations.BankSwapsAreMarkedThenMade := by
  unfold Obligations.BankSwapsAreMarkedThenMade
  refine ⟨fun s client n off hn h hpass hmembers => ?request, fun s n w hunits heval hcontrol hcommit hn hswap hdue hbank hnot4
    hnot5 hwhen => ?tick⟩
  case request =>
    have ⟨_, hclient, _⟩ := h
    have hloop (k : Nat) : 0x3400 + k ≠ 0x2500 := by omega
    refine ⟨_, congrArg (done s) (put_swapRequest h hn hpass off), fun k hk => ⟨?_, ?_, ?_⟩, fun k hk => ?_, ?_⟩
    · rw [loopOf_settled, loopOf_paired, success_le hclient]
      exact swap_markSwaps_of_mem _ _ _ hk
    · rw [rdBit, rdN_settled, rdN_paired _ _ _ _ _ (hloop k) (by decide), success_le hclient]
      exact rdBit_markSwaps_of_mem _ _ _ (hmembers k hk) hk
    · rw [activeBank, lpObj, rdN_settled, rdN_paired _ _ _ _ _ (hloop k) (by decide), success_le hclient]
      exact rdN_markSwaps _ _ _ fun m _ => statusKey_ne (by decide) (by decide) m _
    · rw [loopOf_settled, loopOf_paired, success_le hclient]
      exact loopOf_markSwaps_of_notMem _ _ _ hk
    · rw [settled_answers, paired_answers, success_le hclient]
      exact Tab.find_put_self ..
  case tick =>
    refine ⟨_, exec_swapTick hunits heval hcontrol hcommit n, ?_⟩
    have hmade := swapAt_made (s := { s with now := s.now + 1, tick := tickAt s (s.now + 1) }) hswap hdue hnot4 hnot5 hwhen
    simp only [atTick, hmade]
    refine ⟨?_, ?_, fun k hk => ?_⟩
    · rw [activeBank, rdN_settled]
      exact activeBank_wrN hn hbank _
    · rw [loopOf_settled]
      exact loopOf_setLoop_self ..
    · rw [loopOf_settled]
      refine (loopOf_setLoop_ne _ _ _ (Ne.symm hk)).trans ?_
      exact (told_wrN ..).loopOf_eq k

end Sys2Proof.Machine
end

section
/-! SUPPORT. Staged editing of the timetable (R238, R239): what an accepted write of a staged value and the commands of 0x4F00:80 come
to, the way of a write that its rule refuses, and what the pair is told beside them. -/
namespace Sys2Proof.Machine
open Sys2Proof Sys2Proof.OD

-- What the checks of a write have passed (R63) --------------------------------------------------------------------

theorem presentState_of_accepted {s : State} {client idx sub : Nat} {data : List Byte} (h : Accepts s client idx sub data) :
    presentState s client idx sub (leNat data) = false := by
  obtain ⟨_, _, _, hpass⟩ := h
  refine Bool.eq_false_iff.mpr fun hpresent => ?_
  simp only [writeRefusal, hpresent, if_true] at hpass
  grind

/-- R239: while a commit is under evaluation no command of the timetable is accepted. -/
theorem not_committing {s : State} {client : Nat} {data : List Byte} (h : Accepts s client 0x4F00 0x80 data) :
    rdN s 0x4F00 0x83 ≠ 2 := by
  intro hcommitting
  have hpresent := presentState_of_accepted h
  simp [presentState, hcommitting] at hpresent

-- The ways of a write beside the one of success -------------------------------------------------------------------

/-- The staging copy of the timetable is none of the configuration's (R55). -/
theorem structural_of_ttStaged {idx sub : Nat} (h : ttStaged idx sub = true) : structural idx sub = false := by
  simp [ttStaged, structural, within] at h ⊢
  omega

/-- An accepted write of the timetable enters its staging copy, is answered, and goes to the other member of a pair. -/
theorem put_ttStaged {s : State} {client idx sub : Nat} {data : List Byte} (h : Accepts s client idx sub data)
    (htt : ttStaged idx sub = true) (off : Nat) : put s client idx sub data off =
      paired (success (ttStage { s with answers := Tab.del s.answers client } idx sub data) client) client idx sub data := by
  obtain ⟨hserved, hclient, hgroup, hpass⟩ := h
  have hstruct := structural_of_ttStaged htt
  have hnot : (idx == 0x2000 && sub == 0x17) = false ∧ (idx == 0x2300 && sub == 6) = false := by
    simp [ttStaged, within] at htt ⊢
    omega
  have hgroup' : groupOf { s with answers := Tab.del s.answers client } client = none := hgroup
  have hwrite : writeOne s client idx sub data off none =
      paired (success (ttStage { s with answers := Tab.del s.answers client } idx sub data) client) client idx sub data := by
    simp [writeOne, accepted, hpass, hnot, hgroup', hstruct, htt, aborted_success hclient, paired]
  rw [put, up_served hserved, hwrite]
  refine storeHash_same ?_
  rw [paired_work, success_le hclient]
  simp [ttStage]

/-- An accepted write that its rule refuses by an abort leaves no more than that rule did. -/
theorem put_aborts {s t : State} {client idx sub : Nat} {data : List Byte} {off : Nat} (h : Accepts s client idx sub data)
    (hstruct : structural idx sub = false) (htt : ttStaged idx sub = false) (hgroup : ¬ (idx = 0x2000 ∧ sub = 0x17))
    (hperform : performAny { s with answers := Tab.del s.answers client } client idx sub data off none = t)
    (habort : aborted t client = true) (hwork : t.work = s.work) : put s client idx sub data off = t := by
  obtain ⟨hserved, _, hopen, hpass⟩ := h
  have hgroup' : (idx == 0x2000 && sub == 0x17) = false := by simpa using hgroup
  have hopen' : groupOf { s with answers := Tab.del s.answers client } client = none := hopen
  have hwrite : writeOne s client idx sub data off none = t := by
    simp [writeOne, accepted, hpass, hgroup', hopen', hstruct, htt, hperform, habort]
  rw [put, up_served hserved, hwrite]
  exact storeHash_same hwork

theorem wrN_eq (s : State) (i j v : Nat) : ∃ d, wrN s i j v = { s with dict := d } := by
  unfold wrN
  split
  · exact ⟨_, rfl⟩
  · exact ⟨s.dict, rfl⟩

/-- The pair's part of a write shows in the dictionary and in the unit of the pair alone. -/
theorem paired_eq (t : State) (client idx sub : Nat) (data : List Byte) :
    ∃ d u, paired t client idx sub data = { t with dict := d, dup := u } := by
  obtain ⟨d, hstandby⟩ : ∃ d, standbyWrite t client idx sub = { t with dict := d } := by
    unfold standbyWrite notReady wrBit
    split
    · exact wrN_eq ..
    · exact ⟨t.dict, rfl⟩
  unfold paired mirrorPut
  simp only [hstandby]
  split
  · split
    · exact ⟨d, t.dup, rfl⟩
    · obtain ⟨_, hcount⟩ := wrN_eq { t with dict := d } 0x2500 0x8E (rdN { t with dict := d } 0x2500 0x8E + 1)
      rw [inc, hcount]
      exact ⟨_, _, rfl⟩
  · exact ⟨d, t.dup, rfl⟩

-- The commands of 0x4F00:80 (R239) --------------------------------------------------------------------------------

/-- An answer and a value of the dictionary are held apart. -/
theorem success_wrN (s : State) (client i j v : Nat) : success (wrN s i j v) client = wrN (success s client) i j v := by
  unfold success answer wrN
  split <;> split <;> rfl

/-- A checked write of 0x4F00:80 is a command of the timetable. -/
theorem performAny_timetable (s : State) (client : Nat) (data : List Byte) (off : Nat) (item : Option Nat) :
    performAny s client 0x4F00 0x80 data off item = if leNat data = 1 then ttCommit s client else ttDiscard s client := by
  simp [performAny, perform, within]

section
variable {s : State} (hidle : rdN s 0x4F00 0x83 ≠ 2) (client : Nat)
include hidle

theorem ttDiscard_empties :
    ttDiscard s client = success (wrN (wrN { s with ttStaged := [] } 0x4F00 0x83 0) 0x4F00 0x84 0) client := by
  simp [ttDiscard, hidle]
theorem ttCommit_empty (hempty : s.ttStaged = []) : ttCommit s client = success s client := by
  simp [ttCommit, hidle, hempty]
theorem ttCommit_passes (hstaged : s.ttStaged ≠ []) (hpass : ttCommitRefusal s = 0) :
    ttCommit s client = setTT (wrN s 0x4F00 0x83 2) { s.tt with commit := some client } := by
  simp [ttCommit, hidle, hstaged, hpass]
theorem ttCommit_fails (hstaged : s.ttStaged ≠ []) (hfail : ttCommitRefusal s ≠ 0) : ttCommit s client =
    abort (wrN (wrN s 0x4F00 0x85 (ttCommitRefusal s)) 0x4F00 0x83 1) client (ttCommitRefusal s) := by
  simp [ttCommit, hidle, hstaged, hfail]

end

/-- Settles O38: a staged write by its own way, a discard and an empty commit as commands with success, a commit with values by its
checks. -/
theorem timetableIsStagedAndCommitted : Obligations.TimetableIsStagedAndCommitted := by
  unfold Obligations.TimetableIsStagedAndCommitted
  intro s client off
  refine ⟨fun idx sub data h htt => ?staged, fun h => ?discard, fun h hempty => ?empty, fun h hstaged hpass => ?passes,
    fun h hstaged hfail hcode => ?fails⟩
  case staged =>
    have ⟨_, hclient, _⟩ := h
    refine congrArg (done s) ((put_ttStaged h htt off).trans ?_)
    rw [ttStage, success_wrN, success_wrN, success_le hclient]
    rfl
  case discard =>
    have ⟨_, hclient, _⟩ := h
    have hidle : rdN { s with answers := Tab.del s.answers client } 0x4F00 0x83 ≠ 2 := not_committing h
    refine congrArg (done s) ((put_succeeds h (by decide) (by decide) (by omega) (by omega)
      ((performAny_timetable ..).trans (ttDiscard_empties hidle client)) (by simp)).trans ?_)
    rw [success_wrN, success_wrN, success_le hclient]
    rfl
  case empty =>
    have ⟨_, hclient, _⟩ := h
    have hidle : rdN { s with answers := Tab.del s.answers client } 0x4F00 0x83 ≠ 2 := not_committing h
    refine congrArg (done s) ((put_succeeds h (by decide) (by decide) (by omega) (by omega)
      ((performAny_timetable ..).trans (ttCommit_empty hidle client hempty)) rfl).trans ?_)
    rw [success_le hclient, answered]
  case passes =>
    have hidle : rdN { s with answers := Tab.del s.answers client } 0x4F00 0x83 ≠ 2 := not_committing h
    have hput := put_performed (off := off) h (by decide) (by decide) (by omega) (by omega)
      ((performAny_timetable ..).trans (ttCommit_passes hidle client hstaged hpass)) (by simp [aborted, setTT_eq])
    refine ⟨_, congrArg (done s) (hput.trans (storeHash_same ?_)), ?_⟩
    · rw [paired_work]
      simp [setTT_eq]
    obtain ⟨_, _, hpair⟩ := paired_eq (setTT (wrN { s with answers := Tab.del s.answers client } 0x4F00 0x83 2)
      { s.tt with commit := some client }) client 0x4F00 0x80 (leBytes 1 1)
    refine ⟨?_, ?_, ?_, ?_⟩
    · rw [settled_tt, hpair, setTT_tt]
    · rw [rdN_settled, rdN_paired _ _ _ _ _ (by decide) (by decide), rdN_setTT, rdN_wrN_self _ _ rfl]
      rfl
    · rw [settled_ttStaged, hpair]
      simp [setTT_eq]
    · rw [settled_answers, hpair]
      simp [setTT_eq]
  case fails =>
    have ⟨_, hclient, _⟩ := h
    have hidle : rdN { s with answers := Tab.del s.answers client } 0x4F00 0x83 ≠ 2 := not_committing h
    have hrefusal : ttCommitRefusal { s with answers := Tab.del s.answers client } = ttCommitRefusal s := rfl
    have habort := ttCommit_fails hidle client hstaged hfail
    rw [abort, answer, if_neg (by omega)] at habort
    have hput := put_aborts (off := off) h (by decide) (by decide) (by omega) ((performAny_timetable ..).trans habort)
      (by simp [aborted, hrefusal, hfail]) (by simp)
    refine ⟨_, congrArg (done s) hput, ?_, ?_, ?_, ?_⟩
    · simp
    · rw [rdN_settled]
      change rdN (wrN (wrN _ 0x4F00 0x85 _) 0x4F00 0x83 1) 0x4F00 0x85 = _
      rw [rdN_wrN_ne _ _ (by decide), rdN_wrN_self _ _ rfl]
      exact Nat.mod_eq_of_lt hcode
    · simp
    · simp [hrefusal]

end Sys2Proof.Machine
end

section
/-! SUPPORT. The walks of the timetable (R228 to R236): what a walk leaves of the walker's waiting results, what is supplied to each
zone, and the commands of the walk and of its results while the units run. -/
namespace Sys2Proof.Machine
open Sys2Proof Sys2Proof.OD

-- The commands while the units run --------------------------------------------------------------------------------

theorem exec_timetableWalk {s : State} (h : UnitsOn s) : exec .timetableWalk s = .next (settled s (timetableWalk s)) := by
  change done s (runs s timetableWalk) = _
  rw [runs_on h, done]
theorem exec_walkResultsDue {s : State} (h : UnitsOn s) :
    exec .walkResultsDue s = .next (settled s (atTick s (s.now + 1) fun s => walkDue s s.now)) := by
  change done s (runs s fun s => atTick s (s.now + 1) fun s => walkDue s s.now) = _
  rw [runs_on h, done]

-- What every step of a walk leaves alone --------------------------------------------------------------------------

/-- Own time, the zones, the seconds pulse and the results that are due stand in `t` as in `s`. -/
def KeepsDue (s t : State) : Prop := t.now = s.now ∧ t.zones = s.zones ∧ t.tt.pulse = s.tt.pulse ∧ t.tt.due = s.tt.due

theorem KeepsDue.refl (s : State) : KeepsDue s s := ⟨rfl, rfl, rfl, rfl⟩
theorem KeepsDue.trans {s t u : State} (h : KeepsDue s t) (k : KeepsDue t u) : KeepsDue s u := by
  obtain ⟨hnow, hzones, hpulse, hdue⟩ := h
  obtain ⟨hnow', hzones', hpulse', hdue'⟩ := k
  exact ⟨hnow'.trans hnow, hzones'.trans hzones, hpulse'.trans hpulse, hdue'.trans hdue⟩
theorem Told.keepsDue {s t : State} (h : Told s t) : KeepsDue s t := by
  obtain ⟨_, _, _, _, _, _, rfl⟩ := h
  exact KeepsDue.refl s
theorem keepsDue_setTT (s : State) {w : Walker} (hpulse : w.pulse = s.tt.pulse) (hdue : w.due = s.tt.due) :
    KeepsDue s (setTT s w) := ⟨rfl, rfl, hpulse, hdue⟩

/-- A fold keeps them whose every step does, `state` being the state within what it carries. -/
theorem keepsDue_foldl {α β : Type} (state : β → State) {f : β → α → β} (hf : ∀ b a, KeepsDue (state b) (state (f b a)))
    (l : List α) (b : β) : KeepsDue (state b) (state (l.foldl f b)) := by
  induction l generalizing b with
  | nil => exact KeepsDue.refl _
  | cons a l ih => exact (hf b a).trans (ih _)
theorem keepsDue_foldS {α : Type} {f : State → α → State} (hf : ∀ s a, KeepsDue s (f s a)) (l : List α) (s : State) :
    KeepsDue s (foldS s l f) := keepsDue_foldl id hf l s

theorem keepsDue_startInst (s : State) (z shape mag secs : Nat) : KeepsDue s (startInst s z shape mag secs) := by
  unfold startInst
  simp only
  split
  · refine KeepsDue.trans ?_ (told_event _ _ _).keepsDue
    exact keepsDue_setTT s rfl rfl
  · exact keepsDue_setTT s rfl rfl
theorem keepsDue_actOn (s : State) (a : Action) (z : Nat) : KeepsDue s (actOn s a z) := by
  unfold actOn
  simp only
  split
  case h_4 =>
    split
    · exact KeepsDue.refl s
    · exact keepsDue_setTT s rfl rfl
  case h_7 => exact keepsDue_startInst ..
  all_goals exact keepsDue_setTT s rfl rfl
theorem keepsDue_countAction (s : State) (a : Action) : KeepsDue s (countAction s a) := by
  unfold countAction
  simp only
  split
  · refine KeepsDue.trans ?_ (told_logAdd _ _ _ _ _).keepsDue
    exact keepsDue_setTT s rfl rfl
  · exact keepsDue_setTT s rfl rfl
theorem keepsDue_applyAction (s : State) (a : Action) : KeepsDue s (applyAction s a) :=
  (keepsDue_countAction s a).trans (keepsDue_foldS (fun s z => keepsDue_actOn s a z) _ _)
theorem keepsDue_discardAction (s : State) (a : Action) : KeepsDue s (discardAction s a) := by
  refine KeepsDue.trans ?_ (told_eventWith _ _ _ _ _ _).keepsDue
  exact keepsDue_setTT s rfl rfl
theorem keepsDue_advanceWalk (s : State) (k n : Nat) : KeepsDue s (advanceWalk s k n).1 := keepsDue_setTT s rfl rfl

theorem keepsDue_reevaluate (s : State) (n : Nat) (fresh : Bool) : KeepsDue s (reevaluate s n fresh) := by
  unfold reevaluate
  refine (keepsDue_setTT s rfl rfl).trans (keepsDue_foldl Prod.fst (fun p a => ?_) _ _)
  refine keepsDue_foldS (fun s z => ?_) _ _
  simp only
  split
  case h_1 => exact keepsDue_setTT s rfl rfl
  case h_2 => exact keepsDue_setTT s rfl rfl
  case h_6 => exact KeepsDue.refl s
  all_goals
    split
    · exact keepsDue_setTT s rfl rfl
    · exact KeepsDue.refl s

theorem keepsDue_spend (p : State × Nat × List Action) (a : Action) {f : State → State} (hf : ∀ s, KeepsDue s (f s)) :
    KeepsDue p.1 (spend p a f).1 := by
  unfold spend
  split
  · exact KeepsDue.refl _
  · exact hf _

/-- An action is counted and does to its zones what `f` says. -/
theorem keepsDue_counted (s : State) (a : Action) (zs : List Nat) {f : State → Nat → State} (hf : ∀ s z, KeepsDue s (f s z)) :
    KeepsDue s (foldS (countAction s a) zs f) := (keepsDue_countAction s a).trans (keepsDue_foldS hf zs _)

theorem keepsDue_skipInterval (s : State) (a b n room : Nat) : KeepsDue s (skipInterval s a b n room).1 := by
  unfold skipInterval
  simp only
  refine (keepsDue_foldl (state := Prod.fst) ?states _ _).trans (keepsDue_foldl (state := Prod.fst) ?others _ _)
  case states =>
    intro p x
    split
    · exact KeepsDue.refl _
    · exact keepsDue_spend _ _ fun s => keepsDue_counted s x _ fun s z => keepsDue_actOn s x z
  case others =>
    intro p x
    split
    case h_1 =>
      split
      · exact keepsDue_spend _ _ fun s => keepsDue_applyAction s x
      · exact KeepsDue.refl _
    case h_2 =>
      split
      · exact KeepsDue.refl _
      · split
        · exact keepsDue_spend _ _ fun s => keepsDue_applyAction s x
        · exact keepsDue_discardAction _ _
    case h_3 =>
      split
      · exact keepsDue_discardAction _ _
      · exact KeepsDue.refl _
    case h_4 =>
      split
      · exact KeepsDue.refl _
      · split
        · exact keepsDue_spend _ _ fun s => keepsDue_counted s x _ fun s z => keepsDue_startInst s z _ _ _
        · exact keepsDue_discardAction _ _
    case h_5 => exact KeepsDue.refl _

/-- The end of a walk of second `n`: the actions that it deferred wait, and the marks of R233 move. -/
def walkEnd (s : State) (n : Nat) (rest : List Action) : State :=
  let s := setTT s { s.tt with deferred := rest, nDeferred := s.tt.nDeferred + rest.length, last := n, high := Nat.max s.tt.high n }
  if rest.isEmpty then s else event s 27 0

theorem Told.tt_eq {s t : State} (h : Told s t) : t.tt = s.tt := by
  obtain ⟨_, _, _, _, _, _, rfl⟩ := h
  rfl

theorem keepsDue_walkEnd (s : State) (n : Nat) (rest : List Action) : KeepsDue s (walkEnd s n rest) := by
  unfold walkEnd
  simp only
  split
  · exact keepsDue_setTT s rfl rfl
  · refine KeepsDue.trans ?_ (told_event _ _ _).keepsDue
    exact keepsDue_setTT s rfl rfl
theorem walkEnd_last (s : State) (n : Nat) (rest : List Action) : (walkEnd s n rest).tt.last = n := by
  unfold walkEnd
  simp only
  split
  · rfl
  · rw [(told_event _ _ _).tt_eq]
    rfl

/-- A walk first advances instances and windows and applies deferred actions (R229, R234). -/
def walkDeferred (s : State) (n : Nat) : State :=
  let t := (advanceWalk s (if s.tt.last < n then n - s.tt.last else 1) n).1
  foldS (setTT t { t.tt with deferred := [] }) (s.tt.deferred.take 256) applyAction
/-- After a step back or with a new table the state for second `n` is then evaluated anew (R235, R239). -/
def walkReviewed (s : State) (n : Nat) (taken : Bool) : State :=
  if n ≤ s.tt.last || taken then reevaluate (walkDeferred s n) n false else walkDeferred s n

theorem keepsDue_walkDeferred (s : State) (n : Nat) : KeepsDue s (walkDeferred s n) := by
  refine KeepsDue.trans ?_ (keepsDue_foldS keepsDue_applyAction _ _)
  exact (keepsDue_advanceWalk s _ n).trans (keepsDue_setTT _ rfl rfl)
theorem keepsDue_walkReviewed (s : State) (n : Nat) (taken : Bool) : KeepsDue s (walkReviewed s n taken) := by
  unfold walkReviewed
  split
  · exact (keepsDue_walkDeferred s n).trans (keepsDue_reevaluate _ _ _)
  · exact keepsDue_walkDeferred s n

/-- A walk from nothing (R236) ends with its marks, any other with the end of its own. -/
theorem walkSecond_nothing {s : State} (h : s.tt.nothing = true) (n : Nat) (taken : Bool) : ∃ t, KeepsDue s t ∧
    walkSecond s n taken = setTT t { t.tt with last := n, high := n - 1 } := by
  unfold walkSecond
  simp only [h, if_true]
  refine ⟨_, KeepsDue.trans ?_ (keepsDue_reevaluate _ _ _), rfl⟩
  exact keepsDue_setTT s rfl rfl
theorem walkSecond_walking {s : State} (h : s.tt.nothing = false) (n : Nat) (taken : Bool) : ∃ t rest, KeepsDue s t ∧
    walkSecond s n taken = walkEnd t n rest := by
  unfold walkSecond
  simp only [h, Bool.false_eq_true, if_false]
  refine ⟨_, _, KeepsDue.trans ?_ (keepsDue_foldS keepsDue_applyAction _ _), rfl⟩
  split
  · exact (keepsDue_walkReviewed s n taken).trans (keepsDue_skipInterval _ _ _ _ _)
  · exact keepsDue_walkReviewed s n taken

theorem keepsDue_walkSecond (s : State) (n : Nat) (taken : Bool) : KeepsDue s (walkSecond s n taken) := by
  cases h : s.tt.nothing with
  | true =>
    obtain ⟨t, ht, hwalk⟩ := walkSecond_nothing h n taken
    rw [hwalk]
    exact ht.trans (keepsDue_setTT t rfl rfl)
  | false =>
    obtain ⟨t, rest, ht, hwalk⟩ := walkSecond_walking h n taken
    rw [hwalk]
    exact ht.trans (keepsDue_walkEnd t n rest)
theorem walkSecond_last (s : State) (n : Nat) (taken : Bool) : (walkSecond s n taken).tt.last = n := by
  cases h : s.tt.nothing with
  | true =>
    obtain ⟨t, _, hwalk⟩ := walkSecond_nothing h n taken
    rw [hwalk, setTT_tt]
  | false =>
    obtain ⟨t, rest, _, hwalk⟩ := walkSecond_walking h n taken
    rw [hwalk, walkEnd_last]

-- What is supplied to the zones (R228, R230, R236) ----------------------------------------------------------------

/-- A zone to which `q` is supplied: mode, whether an entry applies, profile used, profile in force. -/
def supplied (x : Zone) (q : Nat × Bool × Nat × Nat) : Zone :=
  { x with ttMode := q.1, ttEntry := q.2.1, ttProfile := q.2.2.1, ttInForce := q.2.2.2 }
/-- What a list of results supplies to zone `z`. -/
def supplyAt (sup : List (Nat × Bool × Nat × Nat)) (z : Nat) : Nat × Bool × Nat × Nat := sup.getD z (2, false, 255, 255)
/-- The step of `supplyZones` for one zone: the zone, and its word 0x4F00:C0 + z (R240). -/
def supplyZone (sup : List (Nat × Bool × Nat × Nat)) (insts : List Nat) (s : State) (z : Nat) : State :=
  let y := supplied (zoneOf s z) (supplyAt sup z)
  wrN (if zoneOf s z == y then s else setZone s z y) 0x4F00 (0xC0 + z)
    ((supplyAt sup z).2.2.2 + 256 * (supplyAt sup z).1 + 4096 * Nat.min 15 (insts.getD z 0))

/-- Beside the zones it supplies, the walker's channel values and words of the dictionary change. -/
theorem supplyZones_eq (s : State) (sup : List (Nat × Bool × Nat × Nat)) (insts : List Nat) (ch : List Real32) : ∃ chans bytes,
    supplyZones s sup insts ch =
      wrB { foldS s (List.range 64) (supplyZone sup insts) with ttChan := chans } 0x4F00 0x8E bytes := ⟨_, _, rfl⟩

theorem Told.zoneOf_eq {s t : State} (h : Told s t) (z : Nat) : zoneOf t z = zoneOf s z := by
  obtain ⟨_, _, _, _, _, _, rfl⟩ := h
  rfl

@[simp] theorem zoneOf_settled (s t : State) (z : Nat) : zoneOf (settled s t) z = zoneOf t z := rfl

section
variable (sup : List (Nat × Bool × Nat × Nat)) (insts : List Nat) (s : State)

theorem supplied_supplied (x : Zone) (q : Nat × Bool × Nat × Nat) : supplied (supplied x q) q = supplied x q := rfl
theorem supplyZone_tt (z : Nat) : (supplyZone sup insts s z).tt = s.tt := by
  unfold supplyZone
  simp only [wrN_tt]
  split <;> rfl
theorem zoneOf_supplyZone_self (z : Nat) :
    zoneOf (supplyZone sup insts s z) z = supplied (zoneOf s z) (supplyAt sup z) := by
  unfold supplyZone
  rw [(told_wrN ..).zoneOf_eq]
  split
  · next hsame => exact eq_of_beq hsame
  · exact zoneOf_setZone_self ..
theorem zoneOf_supplyZone_ne {z k : Nat} (h : z ≠ k) : zoneOf (supplyZone sup insts s z) k = zoneOf s k := by
  unfold supplyZone
  rw [(told_wrN ..).zoneOf_eq]
  split
  · rfl
  · exact zoneOf_setZone_ne s z _ h

theorem foldS_supplyZone_tt (zs : List Nat) : (foldS s zs (supplyZone sup insts)).tt = s.tt := by
  induction zs generalizing s with
  | nil => rfl
  | cons z zs ih => exact (ih _).trans (supplyZone_tt ..)
theorem zoneOf_foldS_supplyZone (zs : List Nat) (k : Nat) : zoneOf (foldS s zs (supplyZone sup insts)) k =
    if k ∈ zs then supplied (zoneOf s k) (supplyAt sup k) else zoneOf s k := by
  induction zs generalizing s with
  | nil => rfl
  | cons z zs ih =>
    refine (ih (supplyZone sup insts s z)).trans ?_
    by_cases hz : z = k
    · subst hz
      simp [zoneOf_supplyZone_self, supplied_supplied]
    · simp [zoneOf_supplyZone_ne _ _ _ hz, Ne.symm hz]

theorem supplyZones_tt (ch : List Real32) : (supplyZones s sup insts ch).tt = s.tt := by
  obtain ⟨chans, bytes, hsupply⟩ := supplyZones_eq s sup insts ch
  have htt := foldS_supplyZone_tt sup insts s (List.range 64)
  generalize foldS s (List.range 64) (supplyZone sup insts) = t at hsupply htt
  rw [hsupply, wrB_tt]
  exact htt
/-- Every zone is supplied. -/
theorem zoneOf_supplyZones (ch : List Real32) {z : Nat} (hz : z < 64) :
    zoneOf (supplyZones s sup insts ch) z = supplied (zoneOf s z) (supplyAt sup z) := by
  obtain ⟨chans, bytes, hsupply⟩ := supplyZones_eq s sup insts ch
  have hzone := zoneOf_foldS_supplyZone sup insts s (List.range 64) z
  rw [if_pos (List.mem_range.mpr hz)] at hzone
  generalize foldS s (List.range 64) (supplyZone sup insts) = t at hsupply hzone
  rw [hsupply, (told_wrB ..).zoneOf_eq]
  exact hzone

end

-- The answer of a commit (R239) -----------------------------------------------------------------------------------

theorem keepsDue_itemSet (s : State) (i : Nat) (f : WorkItem → WorkItem) : KeepsDue s (itemSet s i f) := by
  unfold itemSet
  split
  · exact KeepsDue.refl s
  · exact KeepsDue.refl s
theorem keepsDue_itemDone (s : State) (i : Nat) : KeepsDue s (itemDone s i) := by
  unfold itemDone
  split
  · split
    · simp only
      split
      · exact (keepsDue_itemSet ..).trans (told_irq _ _).keepsDue
      · exact keepsDue_itemSet ..
    · exact KeepsDue.refl s
  · exact KeepsDue.refl s
theorem keepsDue_itemFail (s : State) (i reason code : Nat) : KeepsDue s (itemFail s i reason code) := by
  unfold itemFail
  split
  · split
    · exact (keepsDue_itemSet ..).trans ((told_logAdd _ _ _ _ _).trans (told_irq _ _)).keepsDue
    · exact KeepsDue.refl s
  · exact KeepsDue.refl s
theorem keepsDue_hostReady (s : State) (tag : Nat) (ok : Bool) (data : List Byte) : KeepsDue s (hostReady s tag ok data) := by
  unfold hostReady
  refine KeepsDue.trans ?_ ((told_wrN _ _ _ _).trans (told_wrBit _ _ _ _ _)).keepsDue
  exact KeepsDue.refl s
theorem keepsDue_answer (s : State) (client code : Nat) (data : List Byte) : KeepsDue s (answer s client code data) := by
  unfold answer
  split
  · exact KeepsDue.refl s
  · exact KeepsDue.refl s
/-- The item of a request that is answered late ends with its answer. -/
def itemAnswered (s : State) (item : Option Nat) (code : Nat) : State :=
  match item with
  | some i => if code == 0 then itemDone s i else itemFail s i 14 code
  | none => s

theorem keepsDue_itemAnswered (s : State) (item : Option Nat) (code : Nat) : KeepsDue s (itemAnswered s item code) := by
  unfold itemAnswered
  split
  · split
    · exact keepsDue_itemDone _ _
    · exact keepsDue_itemFail _ _ _ _
  · exact KeepsDue.refl s
theorem keepsDue_later (s : State) (client idx code : Nat) (data : List Byte) : KeepsDue s (later s client idx code data) := by
  unfold later
  simp only
  refine (keepsDue_answer s client code data).trans ?_
  generalize answer s client code data = t
  split
  · exact KeepsDue.refl t
  · next w _ =>
    have hwaiting : KeepsDue t { t with waiting := t.waiting.filter (· != w) } := ⟨rfl, rfl, rfl, rfl⟩
    refine hwaiting.trans ?_
    generalize ({ t with waiting := t.waiting.filter (· != w) } : State) = u
    split
    · exact (keepsDue_itemAnswered u w.item code).trans (keepsDue_hostReady _ _ _ _)
    · exact keepsDue_itemAnswered u w.item code

theorem keepsDue_ttCommitDone (s : State) : KeepsDue s (ttCommitDone s) := by
  have hcount : KeepsDue s (rehash (inc s 0x4F00 0x81)) := (told_inc s 0x4F00 0x81).keepsDue
  have hvalues (t : State) : KeepsDue t (wrN (wrN (wrN t 0x4F00 0x85 0) 0x4F00 0x83 0) 0x4F00 0x84 0) :=
    (((told_wrN ..).trans (told_wrN ..)).trans (told_wrN ..)).keepsDue
  have hlogged (v : Nat) := (hcount.trans (hvalues _)).trans (told_logAdd _ 0x0081 0 0xFF v).keepsDue
  unfold ttCommitDone
  simp only
  split
  · refine KeepsDue.trans ?_ (keepsDue_later _ _ _ _ _)
    exact (hlogged _).trans (keepsDue_setTT _ rfl rfl)
  · exact hlogged _

-- The walk and its results ----------------------------------------------------------------------------------------

/-- The walk of a second takes the pulse. -/
def pulseTaken (s : State) : State := setTT s { s.tt with pulse := false }

/-- Without a table to take, a walker that may walk walks the current second, with its results due 200 ticks later (R228). -/
theorem timetableWalk_walks {s : State} (hpulse : s.tt.pulse = true) (hwalks : walks s = true) (hcommit : s.tt.commit = none) :
    ∃ t r, KeepsDue (pulseTaken s) t ∧ t.tt.last = s.cal.secs ∧ r.at_ = s.now + 200 ∧
      timetableWalk s = setTT t { t.tt with due := t.tt.due ++ [r] } := by
  have hwalk := keepsDue_walkSecond (pulseTaken s) s.cal.secs false
  refine ⟨_, walkResults (walkSecond (pulseTaken s) s.cal.secs false) s.cal.secs
    ((walkSecond (pulseTaken s) s.cal.secs false).now + 200) false, hwalk, walkSecond_last .., ?_, ?_⟩
  · obtain ⟨hnow, _⟩ := hwalk
    exact congrArg (· + 200) hnow
  · unfold timetableWalk
    rw [if_neg (by simp [hpulse])]
    have hwalks' : walks (pulseTaken s) = true := hwalks
    have hcommit' : (pulseTaken s).tt.commit.isSome = false := by simp [pulseTaken, hcommit]
    have hsecs : (pulseTaken s).cal.secs = s.cal.secs := rfl
    rw [← hsecs]
    generalize hu : pulseTaken s = u at hwalks' hcommit' ⊢
    rw [pulseTaken] at hu
    simp only [hu, hwalks', hcommit', Bool.not_true, Bool.false_eq_true, if_false]

/-- A walker that may not walk stops at the pulse (R236). -/
theorem timetableWalk_stops {s : State} (hpulse : s.tt.pulse = true) (hwalks : walks s = false) :
    timetableWalk s = walkerStop (pulseTaken s) := by
  unfold timetableWalk
  rw [if_neg (by simp [hpulse])]
  refine if_pos ?_
  rw [Bool.not_eq_true']
  exact hwalks

theorem walkerStop_tt (s : State) : (walkerStop s).tt =
    { s.tt with nothing := true, prof := [], mode := [], lead := [], wins := [], insts := [], deferred := [],
                due := (s.tt.due.filter (·.commits)).map fun d => { d with supply := [], chan := [], words := d.words.take 7 } } := by
  unfold walkerStop
  rw [wrN_tt, supplyZones_tt, setTT_tt]
theorem zoneOf_walkerStop (s : State) {z : Nat} (hz : z < 64) :
    zoneOf (walkerStop s) z = supplied (zoneOf s z) (2, false, 255, 255) := by
  unfold walkerStop
  rw [(told_wrN ..).zoneOf_eq, zoneOf_supplyZones _ _ _ _ hz]
  rfl

/-- The results of a walk in force: zones and channels are supplied, and the words 0x4F00:86 to 8D stand (R228, R240). -/
def walkInForce (s : State) (d : WalkDue) : State :=
  foldS (supplyZones s d.supply ((List.range 64).map fun z => (s.tt.insts.filter (·.zone == z)).length) d.chan) (List.range 8)
    fun s i => wrN s 0x4F00 (0x86 + i) (d.words.getD i 0)

theorem walkInForce_tt (s : State) (d : WalkDue) : (walkInForce s d).tt = s.tt := by
  unfold walkInForce
  rw [(told_foldS (fun s i => told_wrN s 0x4F00 (0x86 + i) (d.words.getD i 0)) _ _).tt_eq, supplyZones_tt]
theorem zoneOf_walkInForce (s : State) (d : WalkDue) {z : Nat} (hz : z < 64) :
    zoneOf (walkInForce s d) z = supplied (zoneOf s z) (supplyAt d.supply z) := by
  unfold walkInForce
  rw [(told_foldS (fun s i => told_wrN s 0x4F00 (0x86 + i) (d.words.getD i 0)) _ _).zoneOf_eq, zoneOf_supplyZones _ _ _ _ hz]

/-- The results that are due first are taken at their tick and come into force; a commit among them is answered. -/
theorem walkDue_takes {s : State} {d : WalkDue} {rest : List WalkDue} {own : Nat} (hdue : s.tt.due = d :: rest)
    (hnow : d.at_ ≤ own) : KeepsDue (walkInForce (setTT s { s.tt with due := rest }) d) (walkDue s own) := by
  have htaken : walkDue s own = if d.commits then ttCommitDone (walkInForce (setTT s { s.tt with due := rest }) d)
      else walkInForce (setTT s { s.tt with due := rest }) d := by
    unfold walkDue
    rw [hdue]
    exact if_neg (by omega)
  rw [htaken]
  split
  · exact keepsDue_ttCommitDone _
  · exact KeepsDue.refl _

/-- Settles O37: the walk by its frame and its end, the walker that stops by what it clears, results by the zones they supply. -/
theorem walksComeIntoForceLater : Obligations.WalksComeIntoForceLater := by
  unfold Obligations.WalksComeIntoForceLater
  refine ⟨fun s hunits hpulse hwalks hcommit => ?walk, fun s hunits hpulse hwalks => ?stop, fun s d rest hunits hdue hnow => ?due⟩
  case walk =>
    obtain ⟨t, r, ⟨_, _, htaken, hdue⟩, hlast, hat, hwalk⟩ := timetableWalk_walks hpulse hwalks hcommit
    rw [Reaches, exec_timetableWalk hunits, hwalk]
    refine ⟨_, rfl, htaken, hlast, ?_⟩
    rw [settled_tt, setTT_tt, hdue, List.map_append, List.map_singleton, hat]
    rfl
  case stop =>
    have htt := walkerStop_tt (pulseTaken s)
    rw [Reaches, exec_timetableWalk hunits, timetableWalk_stops hpulse hwalks]
    refine ⟨_, rfl, ?_⟩
    simp only [settled_tt, htt]
    refine ⟨rfl, trivial, ?_, ?_, fun z hz => ?_⟩
    · rw [List.map_map]
      rfl
    · intro d hd
      obtain ⟨_, _, rfl⟩ := List.mem_map.mp hd
      rfl
    · rw [zoneOf_settled, zoneOf_walkerStop _ hz]
      exact ⟨rfl, rfl⟩
  case due =>
    refine ⟨_, exec_walkResultsDue hunits, ?_⟩
    obtain ⟨_, hzones, _, hrest⟩ := walkDue_takes (s := { s with now := s.now + 1, tick := tickAt s (s.now + 1) }) hdue hnow
    refine ⟨?_, fun z hz => ?_⟩
    · refine hrest.trans ?_
      rw [walkInForce_tt, setTT_tt]
    · have hzone := zoneOf_walkInForce
        (setTT { s with now := s.now + 1, tick := tickAt s (s.now + 1) } { s.tt with due := rest }) d hz
      rw [zoneOf, ← hzones] at hzone
      exact ⟨congrArg Zone.ttMode hzone, congrArg Zone.ttEntry hzone, congrArg Zone.ttProfile hzone,
        congrArg Zone.ttInForce hzone⟩

end Sys2Proof.Machine
end

section
/-! SUPPORT. Requests to a panel port (R245, R255, R256, R265): what the commands of 0x3300+p:81, a write of the target image and a
write of 0x3340+p:B0 come to, and what is queued by an update request. -/
namespace Sys2Proof.Machine
open Sys2Proof Sys2Proof.OD

-- A new work item, and what follows a write that makes one (R59, R463) --------------------------------------------

/-- The item that a request makes in the free object is QUEUED, with the kind and the origin of the request. -/
theorem newItem_queued {s : State} {i : Nat} (hq : quiescing s = false) (hi : freeItem s = some i) (kind origin idx sub : Nat) :
    ∃ w n f, newItem s kind origin idx sub = ({ s with work := Tab.put s.work i w, nextId := n, idFloor := f }, some i) ∧
      w.kind = kind ∧ w.state = 0 ∧ w.origin = origin := by
  unfold newItem
  rw [hq, hi]
  exact ⟨_, _, _, rfl, rfl, rfl, rfl⟩

/-- The free object is a matter of the work table alone. -/
theorem freeItem_congr {s t : State} (h : t.work = s.work) : freeItem t = freeItem s := by
  unfold freeItem
  rw [h]

theorem storeHash_eq (s t : State) : ∃ x, storeHash s t = { t with hashed := x } := by
  unfold storeHash
  simp only
  split
  · exact ⟨t.hashed, rfl⟩
  · split
    · exact ⟨_, rfl⟩
    · exact ⟨t.hashed, rfl⟩

-- The status of a port (R263) -------------------------------------------------------------------------------------

theorem rowOf_port {p : Nat} (hp : p < 2) (j : Nat) : rowOf (ppObj p) j = rowOf 0x3300 j := by
  obtain rfl | rfl : p = 0 ∨ p = 1 := by omega
  · rfl
  · rfl

/-- An accepted write finds no stop on its way and no refusal of its owning rule. -/
theorem clear_of_accepted {s : State} {client idx sub : Nat} {data : List Byte} (h : Accepts s client idx sub data) :
    quiescing s = false ∧ ownerState s idx sub (leNat data) = false := by
  have hpresent := presentState_of_accepted h
  simp only [presentState, Bool.or_eq_false_iff] at hpresent
  obtain ⟨⟨⟨⟨⟨⟨hquiet, _⟩, _⟩, _⟩, _⟩, _⟩, howner⟩ := hpresent
  exact ⟨hquiet, howner⟩
theorem quiescing_of_accepted {s : State} {client idx sub : Nat} {data : List Byte} (h : Accepts s client idx sub data) :
    quiescing s = false := (clear_of_accepted h).left

/-- R263: the port states in which each command of 0x3300+p:81 is accepted. -/
theorem ppState_of_accepted {s : State} {client p : Nat} {data : List Byte} (hp : p < 2)
    (h : Accepts s client (0x3300 + p) 0x81 data) :
    (leNat data = 1 ∨ leNat data = 2 → ppState s p ≠ 0) ∧ (leNat data = 3 → within (ppState s p) 2 6 = false) ∧
    (leNat data = 4 → (ppState s p == 0 || ppState s p == 1 || ppState s p == 7) = false) := by
  have hobj : within (0x3300 + p) 0x3300 0x3301 = true := within_base_add (by omega)
  obtain ⟨-, howner⟩ := clear_of_accepted h
  unfold ownerState at howner
  rw [if_neg (by omega), if_neg (by omega), if_neg (by omega), within_base_add_lower (by decide), hobj] at howner
  refine ⟨fun hv => ?update, fun hv => ?on, fun hv => ?off⟩
  case update => rcases hv with hv | hv <;> simpa [hv] using howner
  case on => simpa [hv] using howner
  case off => simpa [hv] using howner

-- The update that a request queues (R245) -------------------------------------------------------------------------

/-- Bit 4 of the 16 bits of the status, once set, is no other bit's to change. -/
theorem bit_setBit_four (v : Nat) (b : Bool) : bit (setBit (setBit v 4 true % 256 ^ 2) 5 b % 256 ^ 2) 4 = true := by
  have hwidth : 256 ^ 2 = 65536 := by decide
  simp only [hwidth, setBit, bit, beq_iff_eq, ↓reduceIte]
  split <;> split <;> split <;> omega

theorem panelStatus_queued {s : State} {p : Nat} (hp : p < 2) (hq : (panel s p).queued.isSome = true) :
    rdBit (panelStatus s p) (0x3300 + p) 0x87 4 = true := by
  have hrow : rowOf (ppObj p) 0x87 = some { lo := 0x87, hi := 0x87, ty := .u16, acc := .ro, per := .v, eff := .none, dfl := [0] } := by
    rw [rowOf_port hp]
    rfl
  have hflags : key (ppObj p) 0x8D ≠ key (ppObj p) 0x87 := by simp [key]
  rw [rdBit, ← ppObj, panelStatus, rdN_wrN_ne _ _ hflags, hq]
  simp only [wrBit, rdN_wrN_self _ _ hrow]
  exact bit_setBit_four _ _

/-- In `t` port `p`, in state `x`, shows an update queued, whose work item stands in object `i` and whose client is answered; the
writes `ws` wait. -/
structure UpdateQueued (t : State) (client p i : Nat) (x : Panel) (ws : List PendingWrite) : Prop where
  port : panel t p = x
  status : rdBit t (0x3300 + p) 0x87 4 = true
  item : (Tab.find t.work i).map (fun w => (w.kind, w.state, w.origin)) = some (4, 0, client)
  answer : Tab.find t.answers client = some { code := 0, data := [] }
  writes : t.pendingWrites = ws

theorem updateRequest_queues {s : State} {client p i : Nat} (hclient : client ≤ 0x80) (hp : p < 2) (hstate : ppState s p ≠ 0)
    (hq : quiescing s = false) (hi : freeItem s = some i) (hnone : (panel s p).queued = none) (st : Nat) (clear : Bool) (sub : Nat) :
    UpdateQueued (updateRequest s p client st clear sub) client p i { panel s p with queued := some (some i, clear, st + 1) }
      s.pendingWrites := by
  obtain ⟨w, n, f, hnew, hkind, hfresh, horigin⟩ := newItem_queued hq hi 4 client (ppObj p) sub
  have hrequest : updateRequest s p client st clear sub = panelStatus (success (setPanel
      { s with work := Tab.put s.work i w, nextId := n, idFloor := f } p
      { panel s p with queued := some (some i, clear, st + 1) }) client) p := by
    simp [updateRequest, hstate, hnone, hnew]
  rw [hrequest, success_le hclient]
  generalize hu : ({ setPanel _ p _ with answers := _ } : State) = u
  have hport : panel u p = { panel s p with queued := some (some i, clear, st + 1) } := by
    rw [← hu]
    exact panel_setPanel_self ..
  have hstatus := panelStatus_queued hp (s := u) (by rw [hport]; rfl)
  have htold := told_panelStatus u p
  refine ⟨htold.panel_eq p ▸ hport, hstatus, ?item, ?answer, ?writes⟩
  all_goals
    obtain ⟨_, _, _, _, _, _, hsame⟩ := htold
    rw [hsame, ← hu]
  case item => simp [setPanel_eq, hkind, hfresh, horigin]
  case answer => exact Tab.find_put_self ..
  case writes => rfl

/-- One that finds an update queued joins it: a clear request makes it a clear update. -/
theorem updateRequest_joins {s : State} {p : Nat} {q : Option Nat × Bool × Nat} (hstate : ppState s p ≠ 0)
    (hq : (panel s p).queued = some q) (client st sub : Nat) : updateRequest s p client st true sub =
      panelStatus (success (setPanel s p { panel s p with queued := some (q.1, true, q.2.2) }) client) p := by
  simp [updateRequest, hstate, hq]

-- The writes of a panel port (R263, R265) -------------------------------------------------------------------------

section
variable (s : State) {p : Nat} (hp : p < 2) (client : Nat) (data : List Byte) (off : Nat) (item : Option Nat)
include hp

/-- A checked write of 0x3300+p:80 is a write of the target image. -/
theorem performAny_targetImage :
    performAny s client (0x3300 + p) 0x80 data off item = targetWrite s client p off data := by
  have hport : within (0x3300 + p) 0x3300 0x3301 = true := within_base_add (by omega)
  simp [performAny, perform, base_add_beq_lower, within_base_add_lower, hport]
/-- One of 0x3300+p:81 is a command of the port. -/
theorem performAny_portCommand :
    performAny s client (0x3300 + p) 0x81 data off item = portCommand s client p (leNat data) off := by
  have hport : within (0x3300 + p) 0x3300 0x3301 = true := within_base_add (by omega)
  simp [performAny, perform, base_add_beq_lower, within_base_add_lower, hport]
/-- One of 0x3340+p:B0 zeroes the account. -/
theorem performAny_accumulatorZero : performAny s client (0x3340 + p) 0xB0 data off item =
    success (setPanel s p { panel s p with zeroAt := some (stamp s off + 1) }) client := by
  have haccount : within (0x3340 + p) 0x3340 0x3341 = true := within_base_add (by omega)
  simp [performAny, perform, base_add_beq_lower, within_base_add_lower, haccount]

end

-- The path of an accepted request --------------------------------------------------------------------------------

/-- No sub-index from 0x80 on is staged with the configuration (R55). -/
theorem structural_of_value (idx : Nat) {sub : Nat} (hsub : 0x80 ≤ sub) : structural idx sub = false := by
  simp [structural, within]
  omega

section
variable {s : State} {client idx sub : Nat} {data : List Byte} (h : Accepts s client idx sub data) (hlo : 0x3300 ≤ idx)
  (hhi : idx < 0x4F00) (hsub : 0x80 ≤ sub) (off : Nat)
include h hlo hhi hsub

/-- An accepted request that its port carries out with success, with no work item changed. -/
theorem put_portSucceeds {u : State}
    (hperform : performAny { s with answers := Tab.del s.answers client } client idx sub data off none = success u client)
    (hwork : u.work = s.work) :
    put s client idx sub data off = paired (success u client) client idx sub data :=
  put_succeeds h (structural_of_value idx hsub) (by simp [ttStaged, within]; omega) (by omega) (by omega) hperform hwork

/-- One that changes the state of the port alone. -/
theorem put_portRequest {p : Nat} {x : Panel}
    (hperform : performAny { s with answers := Tab.del s.answers client } client idx sub data off none =
      success (setPanel { s with answers := Tab.del s.answers client } p x) client) :
    put s client idx sub data off = paired (setPanel (answered s client) p x) client idx sub data := by
  have ⟨_, hclient, _⟩ := h
  rw [put_portSucceeds h hlo hhi hsub off hperform rfl, success_le hclient]
  rfl

/-- Beside what its port makes of it, an accepted request shows in the pair, the hash and the dictionary's form alone. -/
theorem settled_put_port {t : State}
    (hperform : performAny { s with answers := Tab.del s.answers client } client idx sub data off none = t)
    (hanswer : aborted t client = false) :
    ∃ d u x, settled s (put s client idx sub data off) =
        { t with pending := s.pending, zh6432 := s.zh6432, now := s.now, dict := d, dup := u, hashed := x } ∧
      ∀ i j, i ≠ 0x2500 → j < 256 → rdN (settled s (put s client idx sub data off)) i j = rdN t i j := by
  obtain ⟨_, u, hpaired⟩ := paired_eq t client idx sub data
  obtain ⟨x, hhash⟩ := storeHash_eq s (paired t client idx sub data)
  have hput := put_performed h (structural_of_value idx hsub) (by simp [ttStaged, within]; omega) (by omega) (by omega)
    hperform hanswer
  refine ⟨_, u, x, by rw [hput, hhash, hpaired]; rfl, fun i j hi hj => ?_⟩
  rw [rdN_settled, hput, hhash]
  exact rdN_paired t client idx sub data hi hj

end

/-- What is queued by an accepted request stands once the command has settled. -/
theorem UpdateQueued.settled_put {s t : State} {client p i sub : Nat} {x : Panel} {ws : List PendingWrite} {data : List Byte}
    (h : Accepts s client (0x3300 + p) sub data) (hp : p < 2) (hsub : 0x80 ≤ sub) (off : Nat)
    (hperform : performAny { s with answers := Tab.del s.answers client } client (0x3300 + p) sub data off none = t)
    (hqueued : UpdateQueued t client p i x ws) :
    UpdateQueued (settled s (put s client (0x3300 + p) sub data off)) client p i x ws := by
  obtain ⟨hport, hstatus, hitem, hanswer, hwrites⟩ := hqueued
  obtain ⟨_, _, _, hsettled, hread⟩ := settled_put_port h (by omega) (by omega) hsub off hperform (by simp [aborted, hanswer])
  refine ⟨?_, ?_, ?_, ?_, ?_⟩
  · rw [hsettled]
    exact hport
  · rw [rdBit, hread _ _ (by omega) (by decide)]
    exact hstatus
  · rw [hsettled]
    exact hitem
  · rw [hsettled]
    exact hanswer
  · rw [hsettled]
    exact hwrites

-- What each request comes to --------------------------------------------------------------------------------------

/-- The write of a target image as it waits for its tick. -/
def imageWait (client p due : Nat) (data : List Byte) : PendingWrite :=
  { client := client, due := due, period := false, idx := 0x3300 + p, sub := 0x80, data := data }

section
variable {s : State} {client p : Nat} (hp : p < 2) (off : Nat)
include hp

theorem pend_targetImage (s : State) (client due : Nat) (data : List Byte) : pend s client due (0x3300 + p) 0x80 data =
    { s with pendingWrites := s.pendingWrites ++ [imageWait client p due data] } := by
  have hrow : rowOf (0x3300 + p) 0x80 = rowOf 0x3300 0x80 := rowOf_port hp 0x80
  have hperiod : periodic (0x3300 + p) 0x80 = false := by
    rw [periodic, hrow]
    rfl
  rw [pend, hperiod, imageWait]

/-- Commands 1 and 2 with no update queued: a new work item, to start at tick s + 1 (R245). -/
theorem put_updateCommand_queues {v i : Nat} {clear : Bool} (hv : v = 1 ∧ clear = false ∨ v = 2 ∧ clear = true)
    (h : Accepts s client (0x3300 + p) 0x81 (leBytes 1 v)) (hi : freeItem s = some i) (hnone : (panel s p).queued = none) :
    UpdateQueued (settled s (put s client (0x3300 + p) 0x81 (leBytes 1 v) off)) client p i
      { panel s p with queued := some (some i, clear, stamp s off + 1) } s.pendingWrites := by
  have ⟨_, hclient, _⟩ := h
  obtain ⟨hstate, -, -⟩ := ppState_of_accepted hp h
  have hcommand : leNat (leBytes 1 v) = 1 ∨ leNat (leBytes 1 v) = 2 := by rcases hv with ⟨rfl, -⟩ | ⟨rfl, -⟩ <;> decide
  have hfree : freeItem { s with answers := Tab.del s.answers client } = some i := (freeItem_congr (s := s) rfl).trans hi
  have hquiet : quiescing { s with answers := Tab.del s.answers client } = false := quiescing_of_accepted (s := s) h
  refine UpdateQueued.settled_put h hp (by decide) off ?_
    (updateRequest_queues (s := { s with answers := Tab.del s.answers client }) hclient hp (hstate hcommand) hquiet hfree hnone
      (stamp s off) clear 0x81)
  rw [performAny_portCommand _ hp]
  rcases hv with ⟨rfl, rfl⟩ | ⟨rfl, rfl⟩
  · rfl
  · rfl

/-- Command 2 with an update queued joins it (R245). -/
theorem put_clearUpdate_joins {q : Option Nat × Bool × Nat} (h : Accepts s client (0x3300 + p) 0x81 (leBytes 1 2))
    (hq : (panel s p).queued = some q) :
    panel (settled s (put s client (0x3300 + p) 0x81 (leBytes 1 2) off)) p =
        { panel s p with queued := some (q.1, true, q.2.2) } ∧
      (settled s (put s client (0x3300 + p) 0x81 (leBytes 1 2) off)).work = s.work := by
  have ⟨_, hclient, _⟩ := h
  obtain ⟨hstate, -, -⟩ := ppState_of_accepted hp h
  have hjoins := updateRequest_joins (s := { s with answers := Tab.del s.answers client }) (hstate (.inr rfl)) hq client
    (stamp s off) 0x81
  rw [success_le hclient] at hjoins
  obtain ⟨_, _, _, _, _, _, htold⟩ := told_panelStatus { setPanel { s with answers := Tab.del s.answers client } p
    { panel s p with queued := some (q.1, true, q.2.2) } with
      answers := Tab.put (Tab.del s.answers client) client { code := 0, data := [] } } p
  have hperform := (performAny_portCommand { s with answers := Tab.del s.answers client } hp client (leBytes 1 2) off none).trans
    (hjoins.trans htold)
  obtain ⟨_, _, _, hsettled, _⟩ := settled_put_port h (by omega) (by omega) (by decide) off hperform (by simp [aborted])
  rw [hsettled]
  exact ⟨panel_setPanel_self .., rfl⟩

/-- Command 3 (R255). -/
theorem put_powerOn (h : Accepts s client (0x3300 + p) 0x81 (leBytes 1 3)) :
    put s client (0x3300 + p) 0x81 (leBytes 1 3) off = paired (setPanel (answered s client) p
      { panel s p with onReq := some (stamp s off + 1) }) client (0x3300 + p) 0x81 (leBytes 1 3) := by
  obtain ⟨-, hstate, -⟩ := ppState_of_accepted hp h
  refine put_portRequest h (by omega) (by omega) (by decide) off ?_
  rw [performAny_portCommand _ hp]
  exact if_neg (ne_true_of_eq_false (hstate rfl))
/-- Command 4 (R256). -/
theorem put_powerOff (h : Accepts s client (0x3300 + p) 0x81 (leBytes 1 4)) :
    put s client (0x3300 + p) 0x81 (leBytes 1 4) off = paired (setPanel (answered s client) p
      { panel s p with offReq := some (stamp s off + 1) }) client (0x3300 + p) 0x81 (leBytes 1 4) := by
  obtain ⟨-, -, hstate⟩ := ppState_of_accepted hp h
  refine put_portRequest h (by omega) (by omega) (by decide) off ?_
  rw [performAny_portCommand _ hp]
  exact if_neg (ne_true_of_eq_false (hstate rfl))

/-- A target image that is no request waits for tick s + 1 (R245). -/
theorem put_targetImage_waits {data : List Byte} (h : Accepts s client (0x3300 + p) 0x80 data)
    (hno : targetRequests s p data = false) :
    put s client (0x3300 + p) 0x80 data off = paired { answered s client with
      pendingWrites := s.pendingWrites ++ [imageWait client p (stamp s off + 1) data] } client (0x3300 + p) 0x80 data := by
  have ⟨_, hclient, _⟩ := h
  have hno' : targetRequests { s with answers := Tab.del s.answers client } p data = false := hno
  have hperform : performAny { s with answers := Tab.del s.answers client } client (0x3300 + p) 0x80 data off none =
      success (pend { s with answers := Tab.del s.answers client } client (stamp s off + 1) (0x3300 + p) 0x80 data) client := by
    rw [performAny_targetImage _ hp, targetWrite, hno']
    rfl
  rw [put_portSucceeds h (by omega) (by omega) (by decide) off hperform rfl, success_le hclient, pend_targetImage hp]
  rfl

/-- One that is a request waits, and an update is queued for the same tick (R245). -/
theorem put_targetImage_queues {data : List Byte} {i : Nat} (h : Accepts s client (0x3300 + p) 0x80 data)
    (hrequests : targetRequests s p data = true) (hstate : ppState s p ≠ 0) (hi : freeItem s = some i)
    (hnone : (panel s p).queued = none) :
    UpdateQueued (settled s (put s client (0x3300 + p) 0x80 data off)) client p i
      { panel s p with queued := some (some i, false, stamp s off + 1) }
      (s.pendingWrites ++ [imageWait client p (stamp s off + 1) data]) := by
  have ⟨_, hclient, _⟩ := h
  have hquiet : quiescing { s with answers := Tab.del s.answers client } = false := quiescing_of_accepted (s := s) h
  have hfree : freeItem { s with answers := Tab.del s.answers client } = some i := (freeItem_congr (s := s) rfl).trans hi
  obtain ⟨_, _, _, hnew, -⟩ := newItem_queued hquiet hfree 4 0x100 (ppObj p) 0x80
  have hrequests' : targetRequests { s with answers := Tab.del s.answers client } p data = true := hrequests
  have hplace : targetRefused { s with answers := Tab.del s.answers client } p data = false := by
    simp [targetRefused, hnew]
  have hwaits := pend_targetImage hp { s with answers := Tab.del s.answers client } client (stamp s off + 1) data
  refine UpdateQueued.settled_put h hp (by decide) off ?_ (updateRequest_queues (s := { s with
    answers := Tab.del s.answers client
    pendingWrites := s.pendingWrites ++ [imageWait client p (stamp s off + 1) data] }) hclient hp hstate hquiet
    ((freeItem_congr (s := s) rfl).trans hi) hnone (stamp s off) false 0x80)
  rw [performAny_targetImage _ hp, targetWrite, hrequests', hplace, ← hwaits]
  rfl

end

theorem leNat_image {image : Nat} (h : image < 2 ^ 64) : leNat (leBytes 8 image) = image :=
  (leNat_leBytes 8 image).trans (Nat.mod_eq_of_lt h)

-- The statement ---------------------------------------------------------------------------------------------------

/-- Settles O39: commands 1 and 2 by the update that they queue or join, commands 3 and 4 and the zeroing by the state of their port,
a target image by the write that waits and, where it differs, by the update that it queues. -/
theorem panelRequestsAreQueued : Obligations.PanelRequestsAreQueued := by
  unfold Obligations.PanelRequestsAreQueued
  refine ⟨fun s client p off hp => ⟨fun i h hi hnone => ?update, fun i h hi hnone => ?clear, fun q h hq => ?join, fun h => ?on,
    fun h => ?off, fun image himage h hsame => ?image, fun h => ?zero⟩,
    fun s client p image off i hp himage h hon hdiffers hstate hi hnone => ?request⟩
  case update =>
    obtain ⟨hport, hstatus, hitem, hanswer, -⟩ := put_updateCommand_queues hp off (.inl ⟨rfl, rfl⟩) h hi hnone
    exact ⟨_, rfl, hport, hstatus, hitem, hanswer⟩
  case clear =>
    obtain ⟨hport, hstatus, hitem, hanswer, -⟩ := put_updateCommand_queues hp off (.inr ⟨rfl, rfl⟩) h hi hnone
    exact ⟨_, rfl, hport, hstatus, hitem, hanswer⟩
  case join => exact ⟨_, rfl, put_clearUpdate_joins hp off h hq⟩
  case on => exact congrArg (done s) (put_powerOn hp off h)
  case off => exact congrArg (done s) (put_powerOff hp off h)
  case zero =>
    exact congrArg (done s) (put_portRequest h (by omega) (by omega) (by decide) off (performAny_accumulatorZero _ hp ..))
  case image =>
    refine congrArg (done s) (put_targetImage_waits hp off h ?_)
    rcases hsame with hoff | hsame
    · simp [targetRequests, ppObj, hoff]
    · simp [targetRequests, ppObj, leNat_image himage, ← hsame]
  case request =>
    have hrequests : targetRequests s p (leBytes 8 image) = true := by
      simp [targetRequests, ppObj, leNat_image himage, hon, hdiffers, hstate]
    obtain ⟨hport, -, -, hanswer, hwrites⟩ := put_targetImage_queues hp off h hrequests hstate hi hnone
    exact ⟨_, rfl, congrArg Panel.queued hport, hwrites, hanswer⟩

end Sys2Proof.Machine
end

section
/-! SUPPORT. The timed steps of a panel port (R255 to R257, R259): the commands in a live device, what a port's own save leaves of
the port states, and what each step comes to. -/
namespace Sys2Proof.Machine
open Sys2Proof Sys2Proof.OD

-- The commands in a live device -----------------------------------------------------------------------------------

theorem exec_railVerifyTimeout {s : State} (h : Alive s) (p : Nat) :
    exec (.railVerifyTimeout p) s = .next (settled s (railVerifyTimeout s p)) := by
  change done s (act s fun s => railVerifyTimeout s p) = _
  rw [act_alive h, done]
theorem exec_lightRampStart {s : State} (h : Alive s) (p : Nat) :
    exec (.lightRampStart p) s = .next (settled s (lightRampStart s p)) := by
  change done s (act s fun s => lightRampStart s p) = _
  rw [act_alive h, done]
theorem exec_panelRecordPeriodic {s : State} (h : Alive s) (p : Nat) :
    exec (.panelRecordPeriodic p) s = .next (settled s (panelRecordPeriodic s p)) := by
  change done s (act s fun s => panelRecordPeriodic s p) = _
  rw [act_alive h, done]
/-- PANEL_POWER_OFF_STEP is taken in a dead device too (R244). -/
theorem exec_panelPowerOffStep (s : State) (p : Nat) :
    exec (.panelPowerOffStep p) s = .next (settled s (powerOffStep s p)) := rfl

-- What leaves the port states alone -------------------------------------------------------------------------------

/-- The ordering code and the states of both panel ports stand in `t` as in `s`. -/
def KeepsPortStates (s t : State) : Prop := t.zh6432 = s.zh6432 ∧ ∀ p, p < 2 → ppState t p = ppState s p

theorem KeepsPortStates.code {s t : State} (h : KeepsPortStates s t) : t.zh6432 = s.zh6432 := h.left
theorem KeepsPortStates.state {s t : State} (h : KeepsPortStates s t) {p : Nat} (hp : p < 2) : ppState t p = ppState s p :=
  h.right p hp
theorem KeepsPortStates.refl (s : State) : KeepsPortStates s s := ⟨rfl, fun _ _ => rfl⟩
theorem KeepsPortStates.trans {s t u : State} (h : KeepsPortStates s t) (k : KeepsPortStates t u) : KeepsPortStates s u := by
  obtain ⟨hcode, hstate⟩ := h
  obtain ⟨hcode', hstate'⟩ := k
  exact ⟨hcode'.trans hcode, fun p hp => (hstate' p hp).trans (hstate p hp)⟩
theorem keepsPortStates_of_dict {s t : State} (hcode : t.zh6432 = s.zh6432) (hdict : t.dict = s.dict) : KeepsPortStates s t :=
  ⟨hcode, fun p _ => by rw [ppState, rdN, rdB, hdict, ppState, rdN, rdB]⟩
/-- A value of another object than the panel ports'. -/
theorem keepsPortStates_wrN (s : State) {i j : Nat} (hi : i < 0x3300 ∨ 0x3302 ≤ i) (hj : j < 256) (v : Nat) :
    KeepsPortStates s (wrN s i j v) := by
  refine ⟨wrN_zh6432 .., fun p hp => rdN_wrN_ne s v ?_⟩
  rw [Ne, key_inj hj (by decide), ppObj]
  omega
theorem keepsPortStates_wrBit (s : State) {i j : Nat} (hi : i < 0x3300 ∨ 0x3302 ≤ i) (hj : j < 256) (n : Nat) (b : Bool) :
    KeepsPortStates s (wrBit s i j n b) := keepsPortStates_wrN s hi hj _
theorem keepsPortStates_inc (s : State) {i j : Nat} (hi : i < 0x3300 ∨ 0x3302 ≤ i) (hj : j < 256) :
    KeepsPortStates s (inc s i j) := keepsPortStates_wrN s hi hj _
theorem keepsPortStates_foldS {α : Type} {f : State → α → State} (hf : ∀ s a, KeepsPortStates s (f s a)) (l : List α)
    (s : State) : KeepsPortStates s (foldS s l f) := by
  induction l generalizing s with
  | nil => exact .refl s
  | cons a l ih => exact (hf s a).trans (ih _)

-- Pennants and log
theorem keepsPortStates_irq (s : State) (n : Nat) : KeepsPortStates s (irq s n) :=
  keepsPortStates_wrBit s (by omega) (by omega) n true
theorem keepsPortStates_logAdd (s : State) (code loc qual data : Nat) : KeepsPortStates s (logAdd s code loc qual data) := by
  have hentry (s : State) (l : List LogEntry) (v : Nat) :
      KeepsPortStates s (wrBit (wrN { s with log := l } 0x2710 0x80 v) 0x2810 0x80 2 true) := by
    refine KeepsPortStates.trans ?_ (keepsPortStates_wrBit _ (by omega) (by omega) _ _)
    exact (keepsPortStates_of_dict (t := { s with log := l }) rfl rfl).trans (keepsPortStates_wrN _ (by omega) (by omega) _)
  unfold logAdd
  simp only
  split
  · exact (keepsPortStates_inc s (by omega) (by omega)).trans (hentry _ _ _)
  · exact hentry _ _ _
theorem keepsPortStates_emcy (s : State) (e : Emcy) : KeepsPortStates s (emcy s e) := by
  unfold emcy
  split
  · exact keepsPortStates_inc s (by omega) (by omega)
  · exact keepsPortStates_of_dict rfl rfl
theorem keepsPortStates_announce (s : State) (p loc src : Nat) : KeepsPortStates s (announce s p loc src) := by
  unfold announce
  split
  · exact .refl s
  · refine KeepsPortStates.trans ?_ (keepsPortStates_emcy _ _)
    exact (keepsPortStates_of_dict (t := { s with announced := _ }) rfl rfl).trans (keepsPortStates_wrN _ (by omega) (by omega) _)
theorem keepsPortStates_raiseBit (s : State) {p : Nat} (hp : p < 128) : KeepsPortStates s (raiseBit s p) := by
  unfold raiseBit
  refine KeepsPortStates.trans ?_ (keepsPortStates_irq _ _)
  refine KeepsPortStates.trans ?_ (keepsPortStates_of_dict rfl rfl)
  exact (keepsPortStates_wrBit s (by omega) (by omega) _ _).trans (keepsPortStates_inc _ (by omega) (by omega))
theorem keepsPortStates_condStart (s : State) {p : Nat} (hp : p < 128) (c loc src : Nat) :
    KeepsPortStates s (condStart s p c loc src) := by
  have hcause : KeepsPortStates s { s with conds := (p, c) :: s.conds } := keepsPortStates_of_dict rfl rfl
  unfold condStart
  simp only
  split
  · exact .refl s
  · split
    · exact .refl s
    · split
      · refine hcause.trans (KeepsPortStates.trans ?_ (keepsPortStates_announce _ _ _ _))
        refine KeepsPortStates.trans ?_ (keepsPortStates_logAdd _ _ _ _ _)
        exact (keepsPortStates_wrBit _ (by omega) (by omega) _ _).trans (keepsPortStates_raiseBit _ hp)
      · exact hcause

-- Work items and answers
theorem itemSet_zh6432 (s : State) (i : Nat) (f : WorkItem → WorkItem) : (itemSet s i f).zh6432 = s.zh6432 := by
  unfold itemSet
  split <;> rfl
theorem keepsPortStates_itemSet (s : State) (i : Nat) (f : WorkItem → WorkItem) : KeepsPortStates s (itemSet s i f) :=
  keepsPortStates_of_dict (itemSet_zh6432 s i f) (itemSet_dict s i f)
theorem keepsPortStates_itemDone (s : State) (i : Nat) : KeepsPortStates s (itemDone s i) := by
  unfold itemDone
  split
  · split
    · simp only
      split
      · exact (keepsPortStates_itemSet ..).trans (keepsPortStates_irq _ _)
      · exact keepsPortStates_itemSet ..
    · exact .refl s
  · exact .refl s
theorem keepsPortStates_itemFail (s : State) (i reason code : Nat) : KeepsPortStates s (itemFail s i reason code) := by
  unfold itemFail
  split
  · split
    · exact ((keepsPortStates_itemSet ..).trans (keepsPortStates_logAdd ..)).trans (keepsPortStates_irq _ _)
    · exact .refl s
  · exact .refl s
theorem keepsPortStates_newItem (s : State) (kind origin idx sub : Nat) :
    KeepsPortStates s (newItem s kind origin idx sub).1 := by
  unfold newItem
  split
  · exact .refl s
  · exact keepsPortStates_of_dict rfl rfl
theorem keepsPortStates_hostReady (s : State) (tag : Nat) (ok : Bool) (data : List Byte) :
    KeepsPortStates s (hostReady s tag ok data) := by
  unfold hostReady
  refine KeepsPortStates.trans ?_ (keepsPortStates_wrBit _ (by omega) (by omega) _ _)
  exact (keepsPortStates_of_dict (t := { s with host := _ }) rfl rfl).trans (keepsPortStates_wrN _ (by omega) (by omega) _)
theorem keepsPortStates_answer (s : State) (client code : Nat) (data : List Byte) :
    KeepsPortStates s (answer s client code data) := by
  unfold answer
  split
  · exact .refl s
  · exact keepsPortStates_of_dict rfl rfl
theorem keepsPortStates_itemAnswered (s : State) (item : Option Nat) (code : Nat) :
    KeepsPortStates s (itemAnswered s item code) := by
  unfold itemAnswered
  split
  · split
    · exact keepsPortStates_itemDone _ _
    · exact keepsPortStates_itemFail _ _ _ _
  · exact .refl s
theorem keepsPortStates_later (s : State) (client idx code : Nat) (data : List Byte) :
    KeepsPortStates s (later s client idx code data) := by
  unfold later
  simp only
  refine (keepsPortStates_answer s client code data).trans ?_
  generalize answer s client code data = t
  split
  · exact .refl t
  · next w _ =>
    have hwaiting : KeepsPortStates t { t with waiting := t.waiting.filter (· != w) } := keepsPortStates_of_dict rfl rfl
    have hitem := hwaiting.trans (keepsPortStates_itemAnswered _ w.item code)
    split
    · exact hitem.trans (keepsPortStates_hostReady _ _ _ _)
    · exact hitem

-- The store (R418 to R424)
theorem keepsPortStates_journalAdd (s : State) (i : Nat) (targets : List (Nat × Nat)) :
    KeepsPortStates s (journalAdd s i targets) := by
  unfold journalAdd
  split
  · refine KeepsPortStates.trans ?_ (keepsPortStates_inc _ (by omega) (by omega))
    exact (keepsPortStates_itemSet s i _).trans (keepsPortStates_of_dict rfl rfl)
  · exact .refl s
theorem keepsPortStates_journalDrop (s : State) (i : Nat) : KeepsPortStates s (journalDrop s i) := by
  unfold journalDrop
  split
  · split
    · refine KeepsPortStates.trans ?_ (keepsPortStates_wrN _ (by omega) (by omega) _)
      exact keepsPortStates_of_dict rfl rfl
    · exact .refl s
  · exact .refl s
theorem keepsPortStates_serialsRaised (s : State) (w : StoreWork) : KeepsPortStates s (serialsRaised s w) := by
  unfold serialsRaised
  split
  · exact keepsPortStates_of_dict rfl rfl
  · exact .refl s
theorem keepsPortStates_storeTaken (s : State) (w : StoreWork) : KeepsPortStates s (storeTaken s w) := by
  unfold storeTaken
  split
  case h_1 => exact .refl s
  case h_2 => exact keepsPortStates_foldS (fun s tag => keepsPortStates_of_dict (t := setRecord s tag _) rfl rfl) _ _
  case h_3 => exact keepsPortStates_foldS (fun s z => keepsPortStates_wrN s (.inr (by unfold dcObj; omega)) (by omega) _) _ _
  all_goals exact keepsPortStates_of_dict rfl rfl
theorem keepsPortStates_storeEnd (s : State) (ok : Bool) (reason : Nat) : KeepsPortStates s (storeEnd s ok reason) := by
  unfold storeEnd
  split
  · exact .refl s
  · next q _ =>
    have hfree : KeepsPortStates s (setStore s { s.store with active := none, writes := [], attempt := 0 }) :=
      keepsPortStates_of_dict rfl rfl
    refine hfree.trans ?_
    generalize setStore s { s.store with active := none, writes := [], attempt := 0 } = t
    have hitem (i code : Nat) :
        KeepsPortStates t (if ok then itemDone (journalDrop t i) i else itemFail (journalDrop t i) i reason code) := by
      refine (keepsPortStates_journalDrop t i).trans ?_
      split
      · exact keepsPortStates_itemDone _ _
      · exact keepsPortStates_itemFail _ _ _ _
    simp only
    split
    · split
      · exact (hitem _ _).trans (keepsPortStates_later _ _ _ _ _)
      · exact keepsPortStates_later _ _ _ _ _
    · split
      · exact hitem _ _
      · exact .refl t
theorem keepsPortStates_bankErased (s : State) (tag : Nat) : KeepsPortStates s (bankErased s tag) := by
  have hdecay (one : Bool) : KeepsPortStates s (undecayed s tag one) := by
    unfold undecayed
    split
    · exact .refl s
    · exact keepsPortStates_of_dict rfl rfl
  have hrecord (s : State) (r : Record) : KeepsPortStates s (setRecord s tag r) := keepsPortStates_of_dict rfl rfl
  unfold bankErased
  simp only
  split
  · split
    · exact (hdecay _).trans (hrecord _ _)
    · exact hdecay _
  · split
    · exact (hdecay _).trans (hrecord _ _)
    · exact hdecay _
theorem keepsPortStates_bankBegin (s : State) (l : List (Nat × Nat × Payload)) : KeepsPortStates s (bankBegin s l) := by
  unfold bankBegin
  split
  · exact keepsPortStates_bankErased _ _
  · exact .refl s
/-- The store takes request `q`, first of its queue, as the item in object `i` (R421). -/
def storeTakes (s : State) (q : StoreReq) (rest : List StoreReq) (i : Nat) : State :=
  let t := itemActive (journalAdd s i (journalTargets s q.work)) i
  let w := storeWrites t q.work
  let u := serialsRaised t q.work
  let v := setStore u { u.store with active := some { q with item := some i }, queue := rest, writes := w, attempt := 0 }
  if w.isEmpty then storeEnd (storeTaken v q.work) true 0 else bankBegin v w

theorem keepsPortStates_storeTakes (s : State) (q : StoreReq) (rest : List StoreReq) (i : Nat) :
    KeepsPortStates s (storeTakes s q rest i) := by
  have hactive (s : State) : KeepsPortStates s (itemActive s i) := keepsPortStates_itemSet s i _
  have hbegun := ((keepsPortStates_journalAdd s i (journalTargets s q.work)).trans (hactive _)).trans
    (keepsPortStates_serialsRaised _ q.work)
  unfold storeTakes
  simp only
  split
  · refine KeepsPortStates.trans ?_ ((keepsPortStates_storeTaken _ _).trans (keepsPortStates_storeEnd _ _ _))
    exact hbegun.trans (keepsPortStates_of_dict rfl rfl)
  · refine KeepsPortStates.trans ?_ (keepsPortStates_bankBegin _ _)
    exact hbegun.trans (keepsPortStates_of_dict rfl rfl)

section
variable {s : State} {q : StoreReq} {rest : List StoreReq} (hactive : s.store.active = none) (hqueue : s.store.queue = q :: rest)
include hactive hqueue

theorem storeKick_of_item {i : Nat} (hitem : q.item = some i) : storeKick s = storeTakes s q rest i := by
  simp [storeKick, storeTakes, hactive, hqueue, hitem]
/-- A request without an item gets one, or waits (R463). -/
theorem storeKick_of_no_item (hitem : q.item = none) :
    let n := newItem s 2 0x100 (workObject q.work).1 (workObject q.work).2
    storeKick s = n.1 ∨ ∃ i, storeKick s = storeTakes n.1 q rest i := by
  simp only [storeKick, hactive, hqueue, hitem]
  obtain ⟨t, _ | i⟩ := newItem s 2 0x100 (workObject q.work).1 (workObject q.work).2
  · exact .inl rfl
  · exact .inr ⟨i, rfl⟩

end

theorem keepsPortStates_storeKick (s : State) : KeepsPortStates s (storeKick s) := by
  cases hactive : s.store.active with
  | some q => simpa [storeKick, hactive] using KeepsPortStates.refl s
  | none =>
    cases hqueue : s.store.queue with
    | nil => simpa [storeKick, hactive, hqueue] using KeepsPortStates.refl s
    | cons q rest =>
      cases hitem : q.item with
      | some i =>
        rw [storeKick_of_item hactive hqueue hitem]
        exact keepsPortStates_storeTakes s q rest i
      | none =>
        have hnew := keepsPortStates_newItem s 2 0x100 (workObject q.work).1 (workObject q.work).2
        obtain hwaits | ⟨i, htakes⟩ := storeKick_of_no_item hactive hqueue hitem
        · rwa [hwaits]
        · rw [htakes]
          exact hnew.trans (keepsPortStates_storeTakes _ q rest i)
theorem keepsPortStates_storeAsk (s : State) (q : StoreReq) : KeepsPortStates s (storeAsk s q) :=
  (keepsPortStates_of_dict (t := setStore s _) rfl rfl).trans (keepsPortStates_storeKick _)

-- The pair, and a unit's own save
theorem keepsPortStates_mirrorPut (s : State) (m : MirrorItem) : KeepsPortStates s (mirrorPut s m) := by
  unfold mirrorPut
  split
  · exact .refl s
  · exact (keepsPortStates_inc s (by omega) (by omega)).trans (keepsPortStates_of_dict rfl rfl)
theorem keepsPortStates_unitSave (s : State) (w : StoreWork) : KeepsPortStates s (unitSave s w) := by
  have hitem (t : State) (kind origin idx sub : Nat) : KeepsPortStates t
      (if (newItem t kind origin idx sub).2.isNone then waited (newItem t kind origin idx sub).1
        else (newItem t kind origin idx sub).1) := by
    refine (keepsPortStates_newItem t kind origin idx sub).trans ?_
    split
    · exact keepsPortStates_inc _ (by omega) (by omega)
    · exact .refl _
  unfold unitSave
  split
  · exact .refl s
  · refine KeepsPortStates.trans ?_ (keepsPortStates_storeAsk _ _)
    refine KeepsPortStates.trans ?_ (hitem _ _ _ _ _)
    split
    · exact keepsPortStates_mirrorPut s _
    · exact keepsPortStates_mirrorPut s _
    · exact .refl s

-- Rail faults (R255, R257) ----------------------------------------------------------------------------------------

/-- R255: a rail that has had its time without being verified is a rail fault. -/
theorem railVerifyTimeout_faults {s : State} {p : Nat} (hstate : ppState s p = 2)
    (hstep : (panel s p).onStep = 1 ∨ (panel s p).onStep = 2)
    (hdue : (panel s p).onAt + rdN s (0x3300 + p) 0x26 * 10 ≤ s.now) :
    railVerifyTimeout s p = railFault s p ((panel s p).onStep - 1) := by
  simp [railVerifyTimeout, ppObj, hstate, hstep, hdue]

theorem Told.zh6432_eq {s t : State} (h : Told s t) : t.zh6432 = s.zh6432 := by
  obtain ⟨_, _, _, _, _, _, rfl⟩ := h
  rfl

theorem updateEnd_zh6432 (s : State) (p : Nat) (r : PanelRun) : (updateEnd s p r).zh6432 = s.zh6432 := by
  have hretain (s : State) : (retain s p false).zh6432 = s.zh6432 := rfl
  have hidle (s : State) : (if ppState s p == 4 then setPpState s p 3 else s).zh6432 = s.zh6432 := by
    split
    · exact wrN_zh6432 ..
    · rfl
  have hdone (s : State) (i : Nat) : (itemDone s i).zh6432 = s.zh6432 := (keepsPortStates_itemDone s i).code
  unfold updateEnd
  simp only
  rw [hretain, hidle]
  split
  · rw [hdone]
    simp [inc]
  · simp [inc]
theorem updateCut_zh6432 (s : State) (p reason : Nat) : (updateCut s p reason).zh6432 = s.zh6432 := by
  unfold updateCut
  split
  · rfl
  · rw [(told_panelStatus _ _).zh6432_eq, wrN_zh6432]
    split
    · exact (keepsPortStates_itemFail _ _ _ _).code
    · rfl
theorem updateStop_zh6432 (s : State) (p reason : Nat) : (updateStop s p reason).zh6432 = s.zh6432 := by
  unfold updateStop
  split
  · split
    · exact updateEnd_zh6432 ..
    · exact updateCut_zh6432 ..
  · rfl

theorem ppState_setPpState (s : State) {p v : Nat} (hp : p < 2) (hv : v < 256) : ppState (setPpState s p v) p = v := by
  have hrow : rowOf (ppObj p) 0x83 =
      some { lo := 0x83, hi := 0x83, ty := .u8, rng := [(0, 7)], acc := .ro, per := .v, eff := .none, dfl := [0] } := by
    rw [rowOf_port hp]
    rfl
  have hwidth : 256 ^ Ty.u8.width = 256 := by decide
  rw [ppState, setPpState, rdN_wrN_self _ _ hrow, hwidth]
  omega

/-- R256: step 2 of a power-off or discharge leaves the port in the state that its event names. -/
theorem offBegin_enters (s : State) {p st : Nat} (hp : p < 2) (hst : st < 256) (kind : Nat) :
    (offBegin s p kind st).zh6432 = s.zh6432 ∧ ppState (offBegin s p kind st) p = st := by
  unfold offBegin
  simp only
  generalize hu : setPanel (wrR s (ppObj p) 0x8E F32.zero) p _ = u
  obtain ⟨hcode, hstate⟩ := keepsPortStates_unitSave (setPpState u p st) (.panel p false)
  refine ⟨hcode.trans ?_, (hstate p hp).trans (ppState_setPpState u hp hst)⟩
  rw [setPpState, wrN_zh6432, ← hu, setPanel_zh6432, wrR, wrN_zh6432]

-- Once a condition has started its cause holds.
theorem logAdd_conds (s : State) (code loc qual data : Nat) : (logAdd s code loc qual data).conds = s.conds := by
  unfold logAdd
  simp only
  split <;> simp [wrBit, inc]
theorem raiseBit_conds (s : State) (p : Nat) : (raiseBit s p).conds = s.conds := by simp [raiseBit, irq, wrBit, inc]
theorem emcy_conds (s : State) (e : Emcy) : (emcy s e).conds = s.conds := by
  unfold emcy
  split
  · exact wrN_conds ..
  · rfl
theorem announce_conds (s : State) (p loc src : Nat) : (announce s p loc src).conds = s.conds := by
  unfold announce
  split
  · rfl
  · rw [emcy_conds, errorRegister, wrN_conds]
theorem mem_conds_condStart {s : State} {p : Nat} (hpart : pennantAbsent s p = false) (c loc src : Nat) :
    (p, c) ∈ (condStart s p c loc src).conds := by
  unfold condStart
  rw [if_neg (ne_true_of_eq_false hpart)]
  split
  · next hholds => simpa using hholds
  · simp only
    split
    · rw [announce_conds, logAdd_conds, raiseBit_conds, wrBit, wrN_conds]
      exact List.mem_cons_self
    · exact List.mem_cons_self

/-- R257: a rail fault of a ZH6480 enters port state 7 and starts PANEL_RAIL_FAULT. -/
theorem railFault_enters (s : State) {p : Nat} (hp : p < 2) (hpart : s.zh6432 = false) (rail : Nat) :
    ppState (railFault s p rail) p = 7 ∧ (29, p) ∈ (railFault s p rail).conds := by
  obtain ⟨hcode, hstate⟩ := offBegin_enters (updateStop s p 13) hp (st := 7) (by decide) 2
  have hpresent : pennantAbsent (offBegin (updateStop s p 13) p 2 7) 29 = false := by
    rw [pennantAbsent, hcode, updateStop_zh6432, hpart, Bool.false_and]
  refine ⟨?_, mem_conds_condStart hpresent _ _ _⟩
  exact ((keepsPortStates_condStart _ (by decide) _ _ _).state hp).trans hstate

-- Power-off and light (R255, R256) --------------------------------------------------------------------------------

theorem live_of_alive {s : State} (h : Alive s) : s.inReset = false ∧ s.th.hold = 0 ∧ s.pw.off = false := by
  simpa [Alive, alive, and_assoc] using h

section
variable {s : State} {p : Nat} (h : Alive s) (hkind : (panel s p).offKind = 1)
include h hkind

/-- Step 3 of a power-off of class L: the drivers are high-Z and PSU_EN1 falls. -/
theorem powerOffStep_highZ (hstep : (panel s p).offStep = 2) (hdue : (panel s p).offAt + 10 ≤ s.now) :
    powerOffStep s p = setPanel s p { panel s p with offStep := 3, hiZ := true, en := setBit (panel s p).en 1 false } := by
  have hlive := live_of_alive h
  simp [powerOffStep, hlive, hkind, hstep, hdue]

/-- Step 4 of one whose port stays enabled: PSU_EN0 falls, and the port is off; a power-on that is to follow is asked for. -/
theorem powerOffStep_ends (hstep : (panel s p).offStep = 3) (hdue : (panel s p).offAt + 110 ≤ s.now)
    (hfault : ppState s p ≠ 7) (henabled : rdN s (0x3300 + p) 1 ≠ 0) :
    powerOffStep s p = setPpState (setPanel s p { panel s p with
      offKind := 0, offStep := 0, thenOn := false, en := setBit (panel s p).en 0 false,
      onReq := if (panel s p).thenOn then some s.now else (panel s p).onReq }) p 1 := by
  have hlive := live_of_alive h
  have hfault' (x : Panel) : ppState (setPanel s p x) p ≠ 7 := hfault
  have henabled' : rdN s (ppObj p) 1 ≠ 0 := henabled
  simp [powerOffStep, hlive, hkind, hstep, hdue, hfault', henabled']

end

/-- R255 step 8: 20 ms after PSU_EN2 the ramp starts, and one of no length is over at once. -/
theorem lightRampStart_starts {s : State} {p a : Nat} (hlight : (panel s p).lightAt = some a) (hdue : a + 200 ≤ s.now) :
    let t := setPanel s p { panel s p with lightAt := none, rampAt := some s.now }
    lightRampStart s p = if rdN s (0x3300 + p) 0x25 = 0 then wrR t (0x3300 + p) 0x8E F32.one else t := by
  simp [lightRampStart, hlight, hdue, ppObj]

-- The periodic record (R259) --------------------------------------------------------------------------------------

theorem mirrorPut_eq (s : State) (m : MirrorItem) : ∃ d u, mirrorPut s m = { s with dict := d, dup := u } := by
  unfold mirrorPut inc
  split
  · exact ⟨s.dict, s.dup, rfl⟩
  · obtain ⟨_, hcount⟩ := wrN_eq s 0x2500 0x8E (rdN s 0x2500 0x8E + 1)
    rw [hcount]
    exact ⟨_, _, rfl⟩
theorem quiescing_mirrorPut (s : State) (m : MirrorItem) : quiescing (mirrorPut s m) = quiescing s := by
  have hread {i j : Nat} (h : key 0x2500 0x8E ≠ key i j) : rdN (mirrorPut s m) i j = rdN s i j := by
    unfold mirrorPut
    split
    · rfl
    · exact rdN_wrN_ne _ _ h
  rw [quiescing, hread (by decide), hread (by decide), quiescing]

theorem itemSet_panels (s : State) (i : Nat) (f : WorkItem → WorkItem) : (itemSet s i f).panels = s.panels := by
  unfold itemSet
  split <;> rfl
theorem journalAdd_panels (s : State) (i : Nat) (targets : List (Nat × Nat)) : (journalAdd s i targets).panels = s.panels := by
  unfold journalAdd
  split
  · rw [inc, wrN_panels]
    exact itemSet_panels ..
  · rfl

/-- The erasure of a bank changes records of the store alone. -/
theorem bankErased_keeps (s : State) (tag : Nat) :
    (bankErased s tag).store.active = s.store.active ∧ (bankErased s tag).panels = s.panels := by
  have hdecay (one : Bool) : (undecayed s tag one).store.active = s.store.active ∧ (undecayed s tag one).panels = s.panels := by
    unfold undecayed
    split <;> exact ⟨rfl, rfl⟩
  unfold bankErased
  simp only
  split <;> split <;> exact hdecay _

/-- The record of a panel port is a bank to write, so its request is in progress once it is taken. -/
theorem storeTakes_panel (s : State) {q : StoreReq} {p : Nat} {periodic : Bool} (hwork : q.work = .panel p periodic)
    (rest : List StoreReq) (i : Nat) : (storeTakes s q rest i).store.active = some { q with item := some i } ∧
      (storeTakes s q rest i).panels = s.panels := by
  unfold storeTakes
  rw [hwork]
  obtain ⟨hactive, hpanels⟩ := bankErased_keeps (setStore (itemActive (journalAdd s i (journalTargets s (.panel p periodic))) i) _) _
  refine ⟨hactive, hpanels.trans ?_⟩
  exact (itemSet_panels ..).trans (journalAdd_panels ..)

/-- An idle store takes a request with an item at once. -/
theorem storeAsk_idle {s : State} {q : StoreReq} {i : Nat} (hactive : s.store.active = none) (hqueue : s.store.queue = [])
    (hitem : q.item = some i) : ∃ u, u.panels = s.panels ∧ storeAsk s q = storeTakes u q [] i := by
  refine ⟨setStore s { s.store with queue := s.store.queue ++ [q] }, rfl, storeKick_of_item ?_ ?_ hitem⟩
  · exact hactive
  · simp [hqueue]

/-- The item of a port's own save; what the pair is told before it takes no object (R342). -/
theorem newItem_mirrorPut {s : State} {i : Nat} (hq : quiescing s = false) (hi : freeItem s = some i) (m : MirrorItem)
    (kind origin idx sub : Nat) :
    ∃ t, newItem (mirrorPut s m) kind origin idx sub = (t, some i) ∧ t.store = s.store ∧ t.panels = s.panels := by
  obtain ⟨d, u, hmirror⟩ := mirrorPut_eq s m
  have hquiet : quiescing (mirrorPut s m) = false := (quiescing_mirrorPut s m).trans hq
  have hfree : freeItem (mirrorPut s m) = some i := (freeItem_congr (mirrorPut_work s m)).trans hi
  obtain ⟨_, _, _, hnew, -⟩ := newItem_queued hquiet hfree kind origin idx sub
  refine ⟨_, hnew, ?_, ?_⟩
  · rw [hmirror]
  · rw [hmirror]

/-- A port's own save, with the store idle and an object free, is in progress at once (R259, R421). -/
theorem unitSave_panel {s : State} {i : Nat} (hq : quiescing s = false) (hi : freeItem s = some i)
    (hactive : s.store.active = none) (hqueue : s.store.queue = []) (p : Nat) (periodic : Bool) :
    (unitSave s (.panel p periodic)).store.active = some { item := some i, client := none, work := .panel p periodic } ∧
      (unitSave s (.panel p periodic)).panels = s.panels := by
  obtain ⟨t, hnew, hstore, hpanels⟩ := newItem_mirrorPut hq hi (.panel p (panelRec s p periodic)) 2 0x100 (0x3340 + p) 0
  obtain ⟨u, hsame, hask⟩ := storeAsk_idle (s := t) (q := { item := some i, client := none, work := .panel p periodic })
    (by rw [hstore, hactive]) (by rw [hstore, hqueue]) rfl
  have hsave : unitSave s (.panel p periodic) =
      storeAsk t { item := some i, client := none, work := .panel p periodic } := by
    unfold unitSave
    rw [if_neg (ne_true_of_eq_false hq)]
    simp only [workObject, hnew, Option.isNone_some, Bool.false_eq_true, if_false]
  obtain ⟨htaken, hkept⟩ := storeTakes_panel u (q := { item := some i, client := none, work := .panel p periodic }) rfl [] i
  rw [hsave, hask]
  exact ⟨htaken, hkept.trans (hsame.trans hpanels)⟩

/-- R259: 3 600 s after the last record a powered port stores its account. -/
theorem panelRecordPeriodic_stores {s : State} {p : Nat} (hlo : 2 ≤ ppState s p) (hhi : ppState s p ≤ 4)
    (hdue : (panel s p).recAt + 36000000 ≤ s.now) :
    panelRecordPeriodic s p = unitSave (setPanel s p { panel s p with recAt := s.now }) (.panel p true) := by
  simp [panelRecordPeriodic, within, hlo, hhi, hdue]

-- The statement ---------------------------------------------------------------------------------------------------

@[simp] theorem panel_settled (s t : State) (p : Nat) : panel (settled s t) p = panel t p := rfl
@[simp] theorem ppState_settled (s t : State) (p : Nat) : ppState (settled s t) p = ppState t p := rdN_settled ..
theorem panel_setPpState (s : State) (p v : Nat) : panel (setPpState s p v) p = panel s p := (told_wrN ..).panel_eq p

/-- Settles O40: each timed step by its lemma above, in a device that is live. -/
theorem panelTimersStep : Obligations.PanelTimersStep := by
  unfold Obligations.PanelTimersStep
  refine ⟨fun s p h hp hstate hstep hdue => ?timeout, fun s p rail hp hpart => railFault_enters s hp hpart rail,
    fun s p h hkind hstep hdue => ?highZ, fun s p h hp hkind hstep hdue hfault henabled => ?ends,
    fun s p a h hp hlight hdue => ?light, fun s p i h hp hlo hhi hdue hq hi hactive hqueue => ?record⟩
  case timeout => rw [exec_railVerifyTimeout h, railVerifyTimeout_faults hstate hstep hdue]
  case highZ => rw [exec_panelPowerOffStep, powerOffStep_highZ h hkind hstep hdue]
  case ends =>
    refine ⟨_, exec_panelPowerOffStep s p, ?_⟩
    rw [powerOffStep_ends h hkind hstep hdue hfault henabled]
    simp only [panel_settled, ppState_settled, panel_setPpState, panel_setPanel_self, true_and]
    exact ppState_setPpState _ hp (by decide)
  case light => rw [exec_lightRampStart h, lightRampStart_starts hlight hdue]
  case record =>
    refine ⟨_, exec_panelRecordPeriodic h p, ?_⟩
    rw [panelRecordPeriodic_stores hlo hhi hdue]
    obtain ⟨hstore, hpanels⟩ := unitSave_panel (s := setPanel s p { panel s p with recAt := s.now }) hq
      ((freeItem_congr (s := s) rfl).trans hi) hactive hqueue p true
    refine ⟨hstore, ?_⟩
    rw [panel_settled, panel, hpanels]
    exact congrArg Panel.recAt (panel_setPanel_self ..)

end Sys2Proof.Machine
end

section
/-! SUPPORT. Reception (R272 to R275): a frame stored without loss beside a counter of lost frames wider than its type. -/
namespace Sys2Proof.Machine
open Sys2Proof Sys2Proof.OD

theorem exec_frameReceived {s : State} (h : Alive s) (x : Nat) (f : Frame) (start : FrameStart) (opened : Bool) :
    exec (.frameReceived x f start opened) s = .next (settled s (frameReceived s x f start.back start.cycle opened)) := by
  change done s (act s fun s => frameReceived s x f start.back start.cycle opened) = _
  rw [act_alive h, done]

/-- A filter that directs every frame with a base identifier to buffer 0. -/
def everyBaseFrame : Filter := { enabled := true, ide := false, id := 0, mask := 0, target := 0, reader := 1 }

/-- A live device whose CAN0 is error-active with that filter and empty buffers. It holds five bytes, 2^32, as the count of lost
frames 0x2800:89, an UNSIGNED32: no Default, and so a canonical dictionary. -/
def overwideLosses : State := { State.reset with
  inReset := false, dict := [(key 0x2800 0x80, leBytes 1 2), (key 0x2800 0x89, leBytes 5 (2 ^ 32))],
  cans := [(0, { table0 := [everyBaseFrame] })] }

/-- Refutes O44, by what it says of 0x2800+x:89 where no frame is lost: the count modulo 2^32. Then no one writes the count, and
neither `Alive` nor `Inv` bounds a value by its type: 2^32 stands, and is not 0. -/
theorem not_canReceptionAndRelease : ¬ Obligations.CanReceptionAndRelease := by
  unfold Obligations.CanReceptionAndRelease
  rintro ⟨hreceived, -, -, -⟩
  have halive : Alive overwideLosses := by decide
  have hfiltered : (filtersInUse (can overwideLosses 0)).find? (matches_ { id := 0 }) = some everyBaseFrame := by decide
  have hstands : rdN (frameReceived overwideLosses 0 { id := 0 } 0 0 false) 0x2800 0x89 = 2 ^ 32 := by decide
  obtain ⟨hstored, -, -⟩ := hreceived overwideLosses 0 { id := 0 } 0 0 false everyBaseFrame halive (by decide) (.inl (by decide))
    rfl (by decide) hfiltered
  obtain ⟨t, hstep, -, -, -, -, -, -, -, hcount, -⟩ := hstored (by decide) (by decide)
  rw [exec_frameReceived halive] at hstep
  obtain rfl := Host.Outcome.next.inj hstep
  rw [rdN_settled, hstands] at hcount
  exact absurd hcount (by decide)

end Sys2Proof.Machine
end

section
/-! SUPPORT. What the reports of the block leave of every other object, and the CAN controllers' own operations (R272 to R286): the
registers that each writes, what it leaves of the transmit queue, and when it enters bus-off. -/
namespace Sys2Proof.Machine
open Sys2Proof Sys2Proof.OD

-- Reports: pennants, the log, EMCYs and work items ------------------------------------------------------------------

/-- The objects that reports write: error register, network counters, the journal's count, pennants, log and IRQ sources. -/
def reportObjects : List Nat := [0x1001, 0x1FF0, 0x2400, 0x2700, 0x2710, 0x2810]

/-- A write leaves the other sub-indices of its object. -/
theorem rdN_wrN_sub (s : State) (i : Nat) {j j' : Nat} (v : Nat) (h : j ≠ j') : rdN (wrN s i j v) i j' = rdN s i j' :=
  rdN_wrN_ne s v fun hkey => h (Nat.add_left_cancel hkey)

section
variable {idx sub : Nat} (hidx : idx ∉ reportObjects) (hsub : sub < 256) (s : State)
include hidx hsub

theorem rdN_wrN_report {i j : Nat} (hi : i ∈ reportObjects) (hj : j < 256) (v : Nat) :
    rdN (wrN s i j v) idx sub = rdN s idx sub := by
  refine rdN_wrN_ne s v fun hkey => hidx ?_
  obtain ⟨rfl, -⟩ := (key_inj hj hsub).mp hkey
  exact hi
theorem rdN_irq (n : Nat) : rdN (irq s n) idx sub = rdN s idx sub := by
  rw [irq, wrBit, rdN_wrN_report hidx hsub _ (by decide) (by decide)]
theorem rdN_logAdd (code loc qual data : Nat) : rdN (logAdd s code loc qual data) idx sub = rdN s idx sub := by
  have hentered (t : State) (l : List LogEntry) (n : Nat) :
      rdN (wrBit (wrN { t with log := l } 0x2710 0x80 n) 0x2810 0x80 2 true) idx sub = rdN t idx sub := by
    rw [wrBit, rdN_wrN_report hidx hsub _ (by decide) (by decide), rdN_wrN_report hidx hsub _ (by decide) (by decide)]
    rfl
  unfold logAdd
  simp only
  split
  · rw [hentered, inc, rdN_wrN_report hidx hsub _ (by decide) (by decide)]
  · exact hentered _ _ _
theorem rdN_emcy (e : Emcy) : rdN (emcy s e) idx sub = rdN s idx sub := by
  unfold emcy
  split
  · exact rdN_wrN_report hidx hsub _ (by decide) (by decide) _
  · rfl
theorem rdN_errorRegister (l : List Nat) : rdN (errorRegister { s with announced := l }) idx sub = rdN s idx sub := by
  rw [errorRegister, rdN_wrN_report hidx hsub _ (by decide) (by decide)]
  rfl
theorem rdN_announce (p loc src : Nat) : rdN (announce s p loc src) idx sub = rdN s idx sub := by
  unfold announce
  split
  · rfl
  · rw [rdN_emcy hidx hsub, rdN_errorRegister hidx hsub]
theorem rdN_unannounce (p : Nat) : rdN (unannounce s p) idx sub = rdN s idx sub := by
  unfold unannounce
  split
  · simp only
    split
    · rw [rdN_emcy hidx hsub, rdN_errorRegister hidx hsub]
    · exact rdN_errorRegister hidx hsub s _
  · rfl
theorem rdN_raiseBit {p : Nat} (hp : p < 128) : rdN (raiseBit s p) idx sub = rdN s idx sub := by
  have hpennant (t : State) (m : Tab Nat) : rdN { t with penTick := m } idx sub = rdN t idx sub := rfl
  rw [raiseBit, rdN_irq hidx hsub, hpennant, inc, rdN_wrN_report hidx hsub _ (by decide) (by decide), wrBit,
    rdN_wrN_report hidx hsub _ (by decide) (by omega)]
theorem rdN_eventWith {p : Nat} (hp : p < 128) (loc code data src : Nat) :
    rdN (eventWith s p loc code data src) idx sub = rdN s idx sub := by
  have hentered : rdN (logAdd (raiseBit s p) code loc p data) idx sub = rdN s idx sub := by
    rw [rdN_logAdd hidx hsub, rdN_raiseBit hidx hsub s hp]
  unfold eventWith
  split
  · rfl
  · simp only
    split
    · exact (rdN_announce hidx hsub ..).trans hentered
    · exact hentered
theorem rdN_condStart {p : Nat} (hp : p < 128) (c loc src : Nat) : rdN (condStart s p c loc src) idx sub = rdN s idx sub := by
  unfold condStart
  split
  · rfl
  · split
    · rfl
    · simp only
      split
      · rw [rdN_announce hidx hsub, rdN_logAdd hidx hsub, rdN_raiseBit hidx hsub _ hp, wrBit,
          rdN_wrN_report hidx hsub _ (by decide) (by omega)]
        rfl
      · rfl
theorem rdN_condEnd {p : Nat} (hp : p < 128) (c loc : Nat) : rdN (condEnd s p c loc) idx sub = rdN s idx sub := by
  unfold condEnd
  split
  · simp only
    split
    · rfl
    · rw [rdN_unannounce hidx hsub, rdN_logAdd hidx hsub, wrBit, rdN_wrN_report hidx hsub _ (by decide) (by omega)]
      rfl
  · rfl
theorem rdN_cond {p : Nat} (hp : p < 128) (b : Bool) (c loc src : Nat) : rdN (cond s b p c loc src) idx sub = rdN s idx sub := by
  unfold cond
  split
  · exact rdN_condStart hidx hsub s hp ..
  · exact rdN_condEnd hidx hsub s hp ..
theorem rdN_itemFail (i reason code : Nat) : rdN (itemFail s i reason code) idx sub = rdN s idx sub := by
  have hset (f : WorkItem → WorkItem) : rdN (itemSet s i f) idx sub = rdN s idx sub := by rw [rdN, rdB, itemSet_dict]; rfl
  unfold itemFail
  split
  · split
    · rw [rdN_irq hidx hsub, rdN_logAdd hidx hsub, hset]
    · rfl
  · rfl
theorem rdN_journalDrop (i : Nat) : rdN (journalDrop s i) idx sub = rdN s idx sub := by
  unfold journalDrop
  split
  · split
    · exact (rdN_wrN_report hidx hsub _ (by decide) (by decide) _).trans rfl
    · rfl
  · rfl

end

-- The transfers that a bus error aborts (R287) ----------------------------------------------------------------------

/-- What no step of a fold changes stands after it. -/
theorem foldS_keeps {α β : Type} (g : State → β) {f : State → α → State} (hf : ∀ s a, g (f s a) = g s) (l : List α) (s : State) :
    g (foldS s l f) = g s := by
  induction l generalizing s with
  | nil => rfl
  | cons a l ih => exact (ih _).trans (hf s a)

theorem rdN_answer (s : State) (client code : Nat) (data : List Byte) (idx sub : Nat) :
    rdN (answer s client code data) idx sub = rdN s idx sub := by
  unfold answer
  split <;> rfl
theorem rdN_usdoBusError {idx sub : Nat} (hidx : idx ∉ reportObjects) (hsub : sub < 256) (s : State) (bus : Nat) :
    rdN (usdoBusError s bus) idx sub = rdN s idx sub := by
  have habort (s : State) (client : Nat) (x : Transfer) : rdN (xferAbort s client x 8) idx sub = rdN s idx sub := by
    simp only [xferAbort, inc, abort]
    rw [rdN_wrN_report hidx hsub _ (by decide) (by decide), rdN_journalDrop hidx hsub, rdN_answer, rdN_itemFail hidx hsub]
    rfl
  refine foldS_keeps (rdN · idx sub) (fun s p => ?_) s.net.xfers s
  split
  · exact habort ..
  · rfl

theorem itemFail_conds (s : State) (i reason code : Nat) : (itemFail s i reason code).conds = s.conds := by
  have hset (f : WorkItem → WorkItem) : (itemSet s i f).conds = s.conds := by
    unfold itemSet
    split <;> rfl
  unfold itemFail
  split
  · split
    · rw [irq, wrBit, wrN_conds, logAdd_conds, hset]
    · rfl
  · rfl
theorem journalDrop_conds (s : State) (i : Nat) : (journalDrop s i).conds = s.conds := by
  unfold journalDrop
  split
  · split
    · exact wrN_conds ..
    · rfl
  · rfl
theorem usdoBusError_conds (s : State) (bus : Nat) : (usdoBusError s bus).conds = s.conds := by
  have habort (s : State) (client : Nat) (x : Transfer) : (xferAbort s client x 8).conds = s.conds := by
    have hanswer (s : State) (code : Nat) : (abort s client code).conds = s.conds := by
      unfold abort answer
      split <;> rfl
    rw [xferAbort, inc, wrN_conds, journalDrop_conds, hanswer, itemFail_conds]
    rfl
  refine foldS_keeps State.conds (fun s p => ?_) s.net.xfers s
  split
  · exact habort ..
  · rfl

-- The registers of a controller (R291) ------------------------------------------------------------------------------

theorem canObj_not_report {x : Nat} (hx : x < 4) : canObj x ∉ reportObjects := by
  simp [canObj, reportObjects]
  omega
theorem rowOf_can {x : Nat} (hx : x < 4) (j : Nat) : rowOf (canObj x) j = rowOf 0x2800 j := by
  obtain rfl | rfl | rfl | rfl : x = 0 ∨ x = 1 ∨ x = 2 ∨ x = 3 := by omega
  all_goals rfl
theorem rdN_wrN_can (s : State) {x j : Nat} (hx : x < 4) {r : Row} (hrow : rowOf 0x2800 j = some r) (v : Nat) :
    rdN (wrN s (canObj x) j v) (canObj x) j = v % 256 ^ r.ty.width :=
  rdN_wrN_self s v ((rowOf_can hx j).trans hrow)

/-- Error-active and error-passive are the states 2 and 3. -/
theorem within_active {s : State} {x : Nat} (h : canState s x = 2 ∨ canState s x = 3) : within (canState s x) 2 3 = true := by
  rcases h with h | h
  · rw [h]
    rfl
  · rw [h]
    rfl

theorem Told.can_eq {s t : State} (h : Told s t) (x : Nat) : can t x = can s x := by
  obtain ⟨_, _, _, _, _, _, rfl⟩ := h
  rfl
@[simp] theorem can_settled (s t : State) (x : Nat) : can (settled s t) x = can t x := rfl

/-- Everything that storing a frame in a buffer does: the buffers change, and a frame lost is counted with its event. -/
theorem storeBuffer_cases (s : State) (x n reader : Nat) (f : Frame) (stamp : Nat × Nat) (opened : Bool) :
    (∃ bs, storeBuffer s x n reader f stamp opened = setCan s x { can s x with bufs := bs }) ∨
    ∃ bs loc, storeBuffer s x n reader f stamp opened =
      eventWith (inc (setCan s x { can s x with bufs := bs }) (canObj x) 0x89) (44 + x) loc 0x0001 0 x := by
  unfold storeBuffer
  extract_lets
  split
  · exact .inr ⟨_, _, rfl⟩
  · exact .inl ⟨_, rfl⟩
/-- Where a frame can go by its filter (R272 to R275): nowhere, to a buffer, or to the FIFO, which may be full. -/
theorem routeFrame_cases (s : State) (x : Nat) (f : Frame) (stamp : Nat × Nat) (opened : Bool) :
    routeFrame s x f stamp opened = s ∨
    (∃ bs, routeFrame s x f stamp opened = setCan s x { can s x with bufs := bs }) ∨
    (∃ bs loc, routeFrame s x f stamp opened =
      eventWith (inc (setCan s x { can s x with bufs := bs }) (canObj x) 0x89) (44 + x) loc 0x0001 0 x) ∨
    (∃ l n, routeFrame s x f stamp opened = wrN (setCan s x { can s x with fifo := l }) (canObj x) 0x93 n) ∨
    ∃ loc, routeFrame s x f stamp opened = eventWith (inc s (canObj x) 0x8A) (44 + x) loc 0x0001 0 x := by
  unfold routeFrame
  split
  · split
    · obtain hstored | hlossy := storeBuffer_cases s x _ _ f stamp opened
      · exact .inr (.inl hstored)
      · exact .inr (.inr (.inl hlossy))
    · split
      · unfold storeFifo
        extract_lets
        split
        · exact .inr (.inr (.inr (.inr ⟨_, rfl⟩)))
        · exact .inr (.inr (.inr (.inl ⟨_, _, rfl⟩)))
      · exact .inl rfl
  · exact .inl rfl

section
variable {x j : Nat} (hx : x < 4) (hj : j < 256) (s : State)
include hx hj

theorem rdN_passiveCheck (hstate : j ≠ 0x80) : rdN (passiveCheck s x) (canObj x) j = rdN s (canObj x) j := by
  unfold passiveCheck
  simp only
  rw [rdN_cond (canObj_not_report hx) hj _ (by omega)]
  split
  · exact rdN_wrN_sub _ _ _ hstate.symm
  · rfl
theorem rdN_solitaryEnd (hsolitary : j ≠ 0x82) (hacks : j ≠ 0x94) :
    rdN (solitaryEnd s x) (canObj x) j = rdN s (canObj x) j := by
  unfold solitaryEnd
  simp only
  split
  · rw [rdN_condEnd (canObj_not_report hx) hj _ (by omega), wrF, rdN_wrN_sub _ _ _ hsolitary.symm, rdN_wrN_sub _ _ _ hacks.symm]
  · exact rdN_wrN_sub _ _ _ hacks.symm
/-- A success in sending changes counters, state, last error codes and SOLITARY. -/
theorem rdN_txSuccess (h : j ∉ [0x80, 0x82, 0x83, 0x85, 0x86, 0x94]) : rdN (txSuccess s x) (canObj x) j = rdN s (canObj x) j := by
  have hother {k : Nat} (hk : k ∈ [0x80, 0x82, 0x83, 0x85, 0x86, 0x94]) : k ≠ j := fun heq => h (heq ▸ hk)
  rw [txSuccess, rdN_solitaryEnd hx hj _ (hother (by decide)).symm (hother (by decide)).symm,
    rdN_passiveCheck hx hj _ (hother (by decide)).symm, rdN_wrN_sub _ _ _ (hother (by decide)),
    rdN_wrN_sub _ _ _ (hother (by decide)), rdN_wrN_sub _ _ _ (hother (by decide))]
theorem rdN_routeFrame (h : j ∉ [0x89, 0x8A, 0x93]) (f : Frame) (stamp : Nat × Nat) (opened : Bool) :
    rdN (routeFrame s x f stamp opened) (canObj x) j = rdN s (canObj x) j := by
  have hother {k : Nat} (hk : k ∈ [0x89, 0x8A, 0x93]) : k ≠ j := fun heq => h (heq ▸ hk)
  have hevent (t : State) (loc : Nat) : rdN (eventWith t (44 + x) loc 0x0001 0 x) (canObj x) j = rdN t (canObj x) j :=
    rdN_eventWith (canObj_not_report hx) hj t (by omega) ..
  obtain hnone | ⟨bs, hstored⟩ | ⟨bs, loc, hlossy⟩ | ⟨l, n, htaken⟩ | ⟨loc, hfull⟩ := routeFrame_cases s x f stamp opened
  · rw [hnone]
  · rw [hstored, rdN_setCan]
  · rw [hlossy, hevent, inc, rdN_wrN_sub _ _ _ (hother (by decide)), rdN_setCan]
  · rw [htaken, rdN_wrN_sub _ _ _ (hother (by decide)), rdN_setCan]
  · rw [hfull, hevent, inc, rdN_wrN_sub _ _ _ (hother (by decide))]

end
theorem told_passiveCheck (s : State) (x : Nat) : Told s (passiveCheck s x) := by
  unfold passiveCheck
  simp only
  refine Told.trans ?_ (told_cond ..)
  split
  · exact told_wrN ..
  · exact .refl s
theorem told_solitaryEnd (s : State) (x : Nat) : Told s (solitaryEnd s x) := by
  unfold solitaryEnd
  simp only
  split
  · exact ((told_wrN ..).trans (told_wrN ..)).trans (told_condEnd ..)
  · exact told_wrN ..
theorem told_txSuccess (s : State) (x : Nat) : Told s (txSuccess s x) :=
  ((((told_wrN ..).trans (told_wrN ..)).trans (told_wrN ..)).trans (told_passiveCheck ..)).trans (told_solitaryEnd ..)

-- The loop delay (R270)
theorem sentDelay_cases (s : State) (x : Nat) (delay : Option Nat) :
    sentDelay s x delay = s ∨ ∃ d, sentDelay s x delay = wrN s (canObj x) 0x91 d := by
  unfold sentDelay
  split
  · exact .inl rfl
  · split
    · split
      · exact .inr ⟨_, rfl⟩
      · exact .inl rfl
    · exact .inl rfl
theorem told_sentDelay (s : State) (x : Nat) (delay : Option Nat) : Told s (sentDelay s x delay) := by
  obtain h | ⟨d, h⟩ := sentDelay_cases s x delay
  · rw [h]
    exact .refl s
  · rw [h]
    exact told_wrN ..
theorem rdN_sentDelay (s : State) {x j : Nat} (h : j ≠ 0x91) (delay : Option Nat) :
    rdN (sentDelay s x delay) (canObj x) j = rdN s (canObj x) j := by
  obtain heq | ⟨d, heq⟩ := sentDelay_cases s x delay
  · rw [heq]
  · rw [heq, rdN_wrN_sub _ _ _ h.symm]

-- The frame at the head of the queue (R277 to R280) -----------------------------------------------------------------

theorem headFrame_keeps (x fuel : Nat) (s : State) : (headFrame s x fuel).1.zh6432 = s.zh6432 ∧
    ∀ j, j ≠ 0x8B → j ≠ 0x92 → rdN (headFrame s x fuel).1 (canObj x) j = rdN s (canObj x) j := by
  have hdiscard (s : State) (c : Can) : (fillTx (inc (setCan s x c) (canObj x) 0x8B) x).zh6432 = s.zh6432 ∧
      ∀ j, j ≠ 0x8B → j ≠ 0x92 → rdN (fillTx (inc (setCan s x c) (canObj x) 0x8B) x) (canObj x) j = rdN s (canObj x) j := by
    refine ⟨by simp [fillTx, inc], fun j hdiscarded hfill => ?_⟩
    rw [fillTx, inc, rdN_wrN_sub _ _ _ hfill.symm, rdN_wrN_sub _ _ _ hdiscarded.symm, rdN_setCan]
  induction fuel generalizing s with
  | zero => exact ⟨rfl, fun _ _ _ => rfl⟩
  | succ fuel ih =>
    have hagain (c : Can) := ih (fillTx (inc (setCan s x c) (canObj x) 0x8B) x)
    have hdrop (c : Can) : (headFrame (fillTx (inc (setCan s x c) (canObj x) 0x8B) x) x fuel).1.zh6432 = s.zh6432 ∧
        ∀ j, j ≠ 0x8B → j ≠ 0x92 →
          rdN (headFrame (fillTx (inc (setCan s x c) (canObj x) 0x8B) x) x fuel).1 (canObj x) j = rdN s (canObj x) j :=
      ⟨(hagain c).left.trans (hdiscard s c).left, fun j h k => ((hagain c).right j h k).trans ((hdiscard s c).right j h k)⟩
    unfold headFrame
    simp only
    split
    · split
      · exact hdrop _
      · exact ⟨rfl, fun _ _ _ => rfl⟩
    · split
      · exact ⟨rfl, fun _ _ _ => rfl⟩
      · split
        · exact hdrop _
        · exact ⟨rfl, fun _ _ _ => rfl⟩

/-- With no frame held, the one that wins arbitration is at the head unless it is too old. -/
theorem headFrame_winner {s : State} {x : Nat} {f : TxFrame} (hheld : (can s x).held = none)
    (hwins : winner (can s x).txq = some f) (hage : tooOld s x f false = false) (fuel : Nat) :
    headFrame s x (fuel + 1) = (s, some f) := by
  simp [headFrame, hheld, hwins, hage]

end Sys2Proof.Machine
end

section
/-! SUPPORT. Transmission (R277 to R281, R286): what the submission of a frame comes to, and what a frame sent leaves of the
queue. -/
namespace Sys2Proof.Machine
open Sys2Proof Sys2Proof.OD

-- The commands in a live device -----------------------------------------------------------------------------------

theorem exec_frameSubmitted {s : State} (h : Alive s) (x : Nat) (f : Frame) (pdo : Bool) :
    exec (.frameSubmitted x f pdo) s = .next (settled s (submit s x f pdo)) := by
  change done s (act s fun s => submit s x f pdo) = _
  rw [act_alive h, done]
theorem exec_frameTransmitted {s : State} (h : Alive s) (x : Nat) (sent : FrameSent) :
    exec (.frameTransmitted x sent) s =
      .next (settled s (arbitrationWon s x sent.delay sent.start.back sent.start.cycle)) := by
  change done s (act s fun s => arbitrationWon s x sent.delay sent.start.back sent.start.cycle) = _
  rw [act_alive h, done]
theorem exec_solitaryRetry {s : State} (h : Alive s) (x : Nat) (attempt : Attempt) :
    exec (.solitaryRetry x attempt) s = .next (settled s
      (solitaryRetry s x attempt.acked attempt.sent.delay attempt.sent.start.back attempt.sent.start.cycle)) := by
  change done s (act s fun s =>
    solitaryRetry s x attempt.acked attempt.sent.delay attempt.sent.start.back attempt.sent.start.cycle) = _
  rw [act_alive h, done]

-- Submission (R280) -------------------------------------------------------------------------------------------------

/-- The frame as it joins the queue: a classical one where FD is off (R268). -/
def asQueued (s : State) (x : Nat) (f : Frame) : Frame :=
  if rdF s (0x2800 + x) 9 then f else { f with fd := false, brs := false, esi := false }

section
variable {s : State} {x : Nat} {f : Frame} (hpart : (s.zh6432 && x == 3) = false) (hon : canState s x ≠ 0)
include hpart hon

theorem controller_on : (s.zh6432 && x == 3 || canState s x == 0) = false := by simp [hpart, hon]

theorem submit_queues (hmode : canMode s x ≠ 1) (hdata : f.rtr = false)
    (hroom : (can s x).txq.length + (if (can s x).held.isSome then 1 else 0) < 32)
    (hfits : rdF s (0x2800 + x) 9 = true ∨ f.fd = false ∨ f.data.length ≤ 8) (pdo : Bool) :
    submit s x f pdo = wrN
      (setCan s x { can s x with txq := (can s x).txq ++ [{ frame := asQueued s x f, pdo := pdo, at_ := s.now }] })
      (0x2800 + x) 0x92 ((can s x).txq.length + 1 + (if (can s x).held.isSome then 1 else 0)) := by
  have htakes : (canMode s x == 1 || f.rtr || (!rdF s (canObj x) 9 && f.fd && decide (f.data.length > 8))) = false := by
    rcases hfits with h | h | h
    · simp [canObj, h, hmode, hdata]
    · simp [h, hmode, hdata]
    · simp [Nat.not_lt.mpr h, hmode, hdata]
  unfold submit
  simp only [controller_on hpart hon, htakes, hroom, Bool.false_eq_true, if_false, if_true]
  rw [fillTx, can_setCan_self, List.length_append]
  rfl

theorem submit_discards
    (hbad : canMode s x = 1 ∨ f.rtr = true ∨ (rdF s (0x2800 + x) 9 = false ∧ f.fd = true ∧ 8 < f.data.length)) (pdo : Bool) :
    submit s x f pdo = inc s (0x2800 + x) 0x8B := by
  have hbad' : (canMode s x == 1 || f.rtr || (!rdF s (canObj x) 9 && f.fd && decide (f.data.length > 8))) = true := by
    rcases hbad with h | h | ⟨hfd, hframe, hlong⟩
    · simp [h]
    · simp [h]
    · simp [canObj, hfd, hframe, hlong]
  unfold submit
  simp only [controller_on hpart hon, hbad', Bool.false_eq_true, if_false, if_true]
  rfl

end

-- A frame sent (R277) -----------------------------------------------------------------------------------------------

/-- `s` once the controller has taken frame `f` from its queue and counted it as sent. -/
def takenOut (s : State) (x : Nat) (f : TxFrame) : State :=
  inc (fillTx (setCan s x { can s x with txq := dropFirst f (can s x).txq }) x) (canObj x) 0x88

/-- The transmit queue, the held frame and the time of the last attempt stand. -/
def KeepsQueue (x : Nat) (s t : State) : Prop :=
  (can t x).txq = (can s x).txq ∧ (can t x).held = (can s x).held ∧ (can t x).tryAt = (can s x).tryAt

theorem KeepsQueue.trans {x : Nat} {s t u : State} (h : KeepsQueue x s t) (k : KeepsQueue x t u) : KeepsQueue x s u := by
  obtain ⟨hqueue, hheld, htry⟩ := h
  obtain ⟨kqueue, kheld, ktry⟩ := k
  exact ⟨kqueue.trans hqueue, kheld.trans hheld, ktry.trans htry⟩
theorem Told.keepsQueue {s t : State} (h : Told s t) (x : Nat) : KeepsQueue x s t := by
  rw [KeepsQueue, h.can_eq]
  exact ⟨rfl, rfl, rfl⟩
theorem keepsQueue_setCan {s : State} {x : Nat} {c : Can} (hqueue : c.txq = (can s x).txq) (hheld : c.held = (can s x).held)
    (htry : c.tryAt = (can s x).tryAt) : KeepsQueue x s (setCan s x c) := by
  rw [KeepsQueue, can_setCan_self]
  exact ⟨hqueue, hheld, htry⟩
/-- A frame received, an own one too, is no matter of the transmit queue. -/
theorem keepsQueue_routeFrame (s : State) (x : Nat) (f : Frame) (stamp : Nat × Nat) (opened : Bool) :
    KeepsQueue x s (routeFrame s x f stamp opened) := by
  have hcounted (t : State) (j loc : Nat) : KeepsQueue x t (eventWith (inc t (canObj x) j) (44 + x) loc 0x0001 0 x) :=
    ((told_inc ..).trans (told_eventWith ..)).keepsQueue x
  have hbuffers (bs : Tab RxBuf) : KeepsQueue x s (setCan s x { can s x with bufs := bs }) := keepsQueue_setCan rfl rfl rfl
  have hfifo (l : List RxFifo) : KeepsQueue x s (setCan s x { can s x with fifo := l }) := keepsQueue_setCan rfl rfl rfl
  obtain hnone | ⟨bs, hstored⟩ | ⟨bs, loc, hlossy⟩ | ⟨l, n, htaken⟩ | ⟨loc, hfull⟩ := routeFrame_cases s x f stamp opened
  · rw [hnone]
    exact (Told.refl s).keepsQueue x
  · rw [hstored]
    exact hbuffers bs
  · rw [hlossy]
    exact (hbuffers bs).trans (hcounted ..)
  · rw [htaken]
    exact (hfifo l).trans ((told_wrN ..).keepsQueue x)
  · rw [hfull]
    exact hcounted ..

section
variable {s : State} {x : Nat} {f : TxFrame} (hstate : canState s x = 2 ∨ canState s x = 3) (hmode : canMode s x ≠ 1)
  (hheld : (can s x).held = none) (hwins : winner (can s x).txq = some f) (hage : tooOld s x f false = false)
include hstate hmode hheld hwins hage

/-- The winner is taken out of the queue and succeeds; in the loopback modes it comes back as a frame received (R281). -/
theorem transmitted_takes_out (delay back cycle : Nat) : ∃ u, Told s u ∧ (∀ j, j ≠ 0x91 → rdN u (canObj x) j = rdN s (canObj x) j) ∧
    (transmitted s x delay back cycle = txSuccess (takenOut u x f) x ∨
      ∃ own stamp, transmitted s x delay back cycle =
        routeFrame (inc (txSuccess (takenOut u x f) x) (canObj x) 0x87) x own stamp false) := by
  have hruns : (!within (canState s x) 2 3 || canMode s x == 1) = false := by simp [within_active hstate, hmode]
  have htold := told_sentDelay s x (some delay)
  have hregs {j : Nat} (hj : j ≠ 0x91) := rdN_sentDelay s (x := x) hj (some delay)
  have hcan := htold.can_eq x
  have hnow : (sentDelay s x (some delay)).now = s.now := by
    obtain ⟨_, _, _, _, _, _, hsame⟩ := htold
    rw [hsame]
  have hage' : tooOld (sentDelay s x (some delay)) x f false = false := by
    rw [tooOld, hregs (by decide), hnow]
    exact hage
  have hhead : headFrame (sentDelay s x (some delay)) x 33 = (sentDelay s x (some delay), some f) :=
    headFrame_winner (by rw [hcan, hheld]) (by rw [hcan, hwins]) hage' 32
  refine ⟨_, htold, fun j => hregs, ?_⟩
  have hnone : ((can (sentDelay s x (some delay)) x).held == some f) = false := by simp [hcan, hheld]
  unfold transmitted
  simp only [hruns, hhead, hnone, Bool.false_eq_true, if_false]
  split
  · exact .inr ⟨_, _, rfl⟩
  · exact .inl rfl

theorem transmitted_sends (hx : x < 4) (delay back cycle : Nat) :
    let t := transmitted s x delay back cycle
    (can t x).txq = dropFirst f (can s x).txq ∧ (can t x).held = none ∧ (can t x).tryAt = (can s x).tryAt ∧
      rdN t (canObj x) 0x88 = (rdN s (canObj x) 0x88 + 1) % 2 ^ 32 := by
  obtain ⟨u, htold, hregs, hsent⟩ := transmitted_takes_out hstate hmode hheld hwins hage delay back cycle
  have hqueue : can (takenOut u x f) x = { can s x with txq := dropFirst f (can s x).txq } := by
    rw [takenOut, (told_inc ..).can_eq, fillTx, (told_wrN ..).can_eq, can_setCan_self, htold.can_eq]
  have hcount : rdN (takenOut u x f) (canObj x) 0x88 = (rdN s (canObj x) 0x88 + 1) % 2 ^ 32 := by
    rw [takenOut, inc, rdN_wrN_can _ hx rfl, fillTx, rdN_wrN_sub _ _ _ (by decide), rdN_setCan, hregs _ (by decide)]
    rfl
  have hsuccess := (told_txSuccess (takenOut u x f) x).keepsQueue x
  have hsuccessCount := (rdN_txSuccess hx (by decide) (takenOut u x f) (j := 0x88) (by decide)).trans hcount
  have hkept : KeepsQueue x (takenOut u x f) (transmitted s x delay back cycle) ∧
      rdN (transmitted s x delay back cycle) (canObj x) 0x88 = (rdN s (canObj x) 0x88 + 1) % 2 ^ 32 := by
    obtain hsent | ⟨own, stamp, hsent⟩ := hsent
    · rw [hsent]
      exact ⟨hsuccess, hsuccessCount⟩
    · rw [hsent]
      refine ⟨(hsuccess.trans ((told_inc ..).keepsQueue x)).trans (keepsQueue_routeFrame ..), ?_⟩
      rw [rdN_routeFrame hx (by decide) _ (by decide), inc, rdN_wrN_sub _ _ _ (by decide), hsuccessCount]
  obtain ⟨⟨hkqueue, hkheld, hktry⟩, hkcount⟩ := hkept
  rw [hqueue] at hkqueue hkheld hktry
  exact ⟨hkqueue, hkheld.trans hheld, hktry, hkcount⟩

end

/-- R286: a retry that is due and acknowledged notes its time and sends. -/
theorem solitaryRetry_acked {s : State} {x : Nat} {f : TxFrame} (hsolitary : solitary s x = true)
    (hdue : (can s x).tryAt + rdN s (0x2800 + x) 0x0F * 10 ≤ s.now) (hheld : (can s x).held = none)
    (hwins : winner (can s x).txq = some f) (hage : tooOld s x f false = false) (delay back cycle : Nat) :
    solitaryRetry s x true delay back cycle = transmitted (setCan s x { can s x with tryAt := s.now }) x delay back cycle := by
  have hdue' : ¬ s.now < (can s x).tryAt + rdN s (canObj x) 0x0F * 10 := Nat.not_lt.mpr hdue
  have hhead : headFrame (setCan s x { can s x with tryAt := s.now }) x 33 =
      (setCan s x { can s x with tryAt := s.now }, some f) :=
    headFrame_winner (s := setCan s x _) (by rw [can_setCan_self, hheld]) (by rw [can_setCan_self, hwins]) hage 32
  simp [solitaryRetry, hsolitary, hdue', hhead]

/-- Settles O45: a submission by what the controller takes, a frame sent by the winner's way out of the queue, in SOLITARY after the
retry has noted its time. -/
theorem canTransmission : Obligations.CanTransmission := by
  unfold Obligations.CanTransmission
  refine ⟨?queued, ?discarded, ?sent, ?retried⟩
  case queued =>
    intro s x f pdo h hpart hon hmode hdata hroom hfits
    rw [exec_frameSubmitted h, submit_queues hpart hon hmode hdata hroom hfits]
    rfl
  case discarded =>
    intro s x f pdo h hpart hon hbad
    rw [exec_frameSubmitted h, submit_discards hpart hon hbad]
  case sent =>
    intro s x delay back cycle f h hx hsolitary hstate hmode hheld hwins hage
    refine ⟨_, exec_frameTransmitted h x _, ?_⟩
    obtain ⟨hqueue, hnone, -, hcount⟩ := transmitted_sends hstate hmode hheld hwins hage hx delay back cycle
    rw [arbitrationWon, hsolitary, if_neg Bool.false_ne_true, can_settled, rdN_settled]
    exact ⟨hqueue, hnone, hcount⟩
  case retried =>
    intro s x f delay back cycle h hx hsolitary hdue hstate hmode hheld hwins hage
    refine ⟨_, exec_solitaryRetry h x _, ?_⟩
    have hcan : can (setCan s x { can s x with tryAt := s.now }) x = { can s x with tryAt := s.now } := can_setCan_self ..
    obtain ⟨hqueue, -, htry, hcount⟩ := transmitted_sends (s := setCan s x { can s x with tryAt := s.now }) hstate hmode
      (by rw [hcan, hheld]) (by rw [hcan, hwins]) hage hx delay back cycle
    simp only [solitaryRetry_acked hsolitary hdue hheld hwins hage, can_settled, rdN_settled]
    rw [hcan] at hqueue htry
    exact ⟨hqueue, htry, hcount⟩

end Sys2Proof.Machine
end

section
/-! SUPPORT. Error counters, bus-off, recovery and modes (R282 to R286, R289): what an error counts, when it ends in bus-off, and
what a change of mode, the commands and the end of recovery come to. -/
namespace Sys2Proof.Machine
open Sys2Proof Sys2Proof.OD

-- The commands in a live device -----------------------------------------------------------------------------------

/-- The state after an error, the transfers aside that it aborts on the building pair (R287). -/
def errorCounted (s : State) (x : Nat) (tx : Bool) (kind : Nat) (dataPhase : Bool) (count : ErrorCount) : State :=
  canError (if tx then sentDelay s x count.delay else s) x tx kind dataPhase count.eight

theorem exec_canError {s : State} (h : Alive s) (x : Nat) (tx : Bool) (kind : Nat) (dataPhase : Bool) (count : ErrorCount) :
    exec (.canError x tx kind dataPhase count) s = .next (settled s
      (if x ≤ 1 then usdoBusError (errorCounted s x tx kind dataPhase count) x else errorCounted s x tx kind dataPhase count)) := by
  change done s (act s fun s => if x ≤ 1 then usdoBusError (errorCounted s x tx kind dataPhase count) x
    else errorCounted s x tx kind dataPhase count) = _
  rw [act_alive h, done]
theorem exec_busOffHoldoffExpired {s : State} (h : Alive s) (x : Nat) :
    exec (.busOffHoldoffExpired x) s = .next (settled s (holdoffExpired s x)) := by
  change done s (act s fun s => holdoffExpired s x) = _
  rw [act_alive h, done]
theorem exec_recoveryComplete {s : State} (h : Alive s) (x : Nat) :
    exec (.recoveryComplete x) s = .next (settled s (recoveryComplete s x)) := by
  change done s (act s fun s => recoveryComplete s x) = _
  rw [act_alive h, done]
theorem exec_canModeChange {s : State} (h : Alive s) (x : Nat) :
    exec (.canModeChange x) s = .next (settled s (modeChange s x)) := by
  change done s (act s fun s => modeChange s x) = _
  rw [act_alive h, done]
theorem exec_busIntegrationComplete {s : State} (h : Alive s) (x : Nat) :
    exec (.busIntegrationComplete x) s = .next (settled s (integrationComplete s x)) := by
  change done s (act s fun s => integrationComplete s x) = _
  rw [act_alive h, done]

/-- An error leaves the controllers as it counted them: the transfers it aborts are no matter of theirs. -/
theorem canError_reaches {s : State} (h : Alive s) {x : Nat} (hx : x < 4) (tx : Bool) (kind : Nat) (dataPhase : Bool)
    (count : ErrorCount) : Reaches (.canError x tx kind dataPhase count) s fun t =>
      t.conds = (errorCounted s x tx kind dataPhase count).conds ∧
      ∀ j, j < 256 → rdN t (canObj x) j = rdN (errorCounted s x tx kind dataPhase count) (canObj x) j := by
  refine ⟨_, exec_canError h x tx kind dataPhase count, ?_⟩
  split
  · exact ⟨usdoBusError_conds .., fun j hj => (rdN_settled ..).trans (rdN_usdoBusError (canObj_not_report hx) hj _ x)⟩
  · exact ⟨rfl, fun j _ => rdN_settled ..⟩

-- Bus-off (R284) ----------------------------------------------------------------------------------------------------

/-- Whatever frame is held, bus-off sets the transmit counter to 256, enters the state and starts its condition. -/
theorem busOff_eq (s : State) (x : Nat) : ∃ c, busOff s x = condStart (condEnd
    (inc (wrN (wrN (setCan (headFrame s x 33).1 x c) (canObj x) 0x83 256) (canObj x) 0x80 4) (canObj x) 0x8C)
    (32 + x) 0 (canLoc x 0 0 0)) (36 + x) 0 (canLoc x 0 0 0) x := by
  unfold busOff
  simp only
  split <;> exact ⟨_, rfl⟩

section
variable {x : Nat} (hx : x < 4) (s : State)
include hx

theorem rdN_busOff {j : Nat} (hj : j < 256) (hcount : j ≠ 0x8C) : rdN (busOff s x) (canObj x) j =
    rdN (wrN (wrN (headFrame s x 33).1 (canObj x) 0x83 256) (canObj x) 0x80 4) (canObj x) j := by
  have hobj := canObj_not_report hx
  obtain ⟨c, hoff⟩ := busOff_eq s x
  rw [hoff, rdN_condStart hobj hj _ (by omega), rdN_condEnd hobj hj _ (by omega), inc, rdN_wrN_sub _ _ _ hcount.symm]
  simp only [rdN_wrN, rdN_setCan]
theorem canState_busOff : canState (busOff s x) x = 4 := by
  rw [canState, rdN_busOff hx s (by decide) (by decide), rdN_wrN_can _ hx rfl]
  rfl
theorem rdN_busOff_txCount : rdN (busOff s x) (canObj x) 0x83 = 256 := by
  rw [rdN_busOff hx s (by decide) (by decide), rdN_wrN_sub _ _ _ (by decide), rdN_wrN_can _ hx rfl]
  rfl
theorem rdN_busOff_rxCount : rdN (busOff s x) (canObj x) 0x84 = rdN s (canObj x) 0x84 := by
  obtain ⟨-, hregs⟩ := headFrame_keeps x 33 s
  rw [rdN_busOff hx s (by decide) (by decide), rdN_wrN_sub _ _ _ (by decide), rdN_wrN_sub _ _ _ (by decide),
    hregs _ (by decide) (by decide)]

end

theorem busOff_conds {s : State} (hpart : s.zh6432 = false) (x : Nat) : (36 + x, 0) ∈ (busOff s x).conds := by
  obtain ⟨hcode, -⟩ := headFrame_keeps x 33 s
  obtain ⟨c, hoff⟩ := busOff_eq s x
  rw [hoff]
  refine mem_conds_condStart ?_ _ _ _
  rw [pennantAbsent, (told_condEnd ..).zh6432_eq]
  simp [inc, hcode, hpart]

-- Errors counted (R284, R286) ---------------------------------------------------------------------------------------

/-- `s` with the kind of an error as the last of its phase. -/
def errorNoted (s : State) (x kind : Nat) (dataPhase : Bool) : State := wrN s (canObj x) (if dataPhase then 0x86 else 0x85) kind

/-- The fault confinement state that the counters come to. -/
def confined (s : State) (x : Nat) : State := if rdN s (canObj x) 0x83 > 255 then busOff s x else passiveCheck s x

theorem rdN_errorNoted (s : State) (x kind : Nat) (dataPhase : Bool) {j : Nat} (hlast : j ≠ 0x85) (hlastData : j ≠ 0x86) :
    rdN (errorNoted s x kind dataPhase) (canObj x) j = rdN s (canObj x) j := by
  unfold errorNoted
  split
  · exact rdN_wrN_sub _ _ _ hlastData.symm
  · exact rdN_wrN_sub _ _ _ hlast.symm

section
variable {s : State} {x : Nat} (hstate : canState s x = 2 ∨ canState s x = 3) (hmode : canMode s x ≠ 1)
include hstate hmode

theorem canError_receiver (kind : Nat) (dataPhase eight : Bool) : canError s x false kind dataPhase eight =
    confined (wrN (errorNoted s x kind dataPhase) (canObj x) 0x84
      (Nat.min 255 (rdN s (canObj x) 0x84 + if eight then 8 else 1))) x := by
  have hmode' : canMode (errorNoted s x kind dataPhase) x ≠ 1 := by rwa [canMode, rdN_errorNoted _ _ _ _ (by decide) (by decide)]
  have hcount := rdN_errorNoted s x kind dataPhase (j := 0x84) (by decide) (by decide)
  unfold errorNoted at hmode' hcount
  simp [canError, confined, errorNoted, within_active hstate, hmode', hcount]
/-- Not one of acknowledgement, which an error-passive transmitter does not count (R286). -/
theorem canError_transmitter {kind : Nat} (hkind : kind ≠ 3) (dataPhase eight : Bool) : canError s x true kind dataPhase eight =
    confined (wrN (errorNoted s x kind dataPhase) (canObj x) 0x83 (Nat.min 256 (rdN s (canObj x) 0x83 + 8))) x := by
  have hmode' : canMode (errorNoted s x kind dataPhase) x ≠ 1 := by rwa [canMode, rdN_errorNoted _ _ _ _ (by decide) (by decide)]
  have hcount := rdN_errorNoted s x kind dataPhase (j := 0x83) (by decide) (by decide)
  unfold errorNoted at hmode' hcount
  simp [canError, confined, errorNoted, within_active hstate, hmode', hcount, hkind]

end

section
variable {x : Nat} (hx : x < 4)
include hx

theorem rdN_confined_rxCount (s : State) : rdN (confined s x) (canObj x) 0x84 = rdN s (canObj x) 0x84 := by
  unfold confined
  split
  · exact rdN_busOff_rxCount hx s
  · exact rdN_passiveCheck hx (by decide) s (by decide)
theorem rdN_confined_txCount {s : State} (hcap : rdN s (canObj x) 0x83 ≤ 256) :
    rdN (confined s x) (canObj x) 0x83 = rdN s (canObj x) 0x83 := by
  unfold confined
  split
  · rw [rdN_busOff_txCount hx]
    omega
  · exact rdN_passiveCheck hx (by decide) s (by decide)

theorem rdN_errorCounted_receiver {s : State} (hstate : canState s x = 2 ∨ canState s x = 3) (hmode : canMode s x ≠ 1) (kind : Nat)
    (dataPhase : Bool) (count : ErrorCount) : rdN (errorCounted s x false kind dataPhase count) (canObj x) 0x84 =
      min 255 (rdN s (canObj x) 0x84 + if count.eight then 8 else 1) := by
  have hwidth : 256 ^ Ty.u16.width = 65536 := by decide
  rw [errorCounted, if_neg Bool.false_ne_true, canError_receiver hstate hmode, rdN_confined_rxCount hx,
    rdN_wrN_can _ hx rfl, hwidth]
  exact Nat.mod_eq_of_lt (Nat.lt_of_le_of_lt (Nat.min_le_left ..) (by decide))

theorem errorCounted_transmitter {s : State} (hpart : s.zh6432 = false) (hstate : canState s x = 2 ∨ canState s x = 3)
    (hmode : canMode s x ≠ 1) {kind : Nat} (hkind : kind ≠ 3) (dataPhase : Bool) (count : ErrorCount) :
    let t := errorCounted s x true kind dataPhase count
    rdN t (canObj x) 0x83 = min 256 (rdN s (canObj x) 0x83 + 8) ∧
      (255 < rdN s (canObj x) 0x83 + 8 → canState t x = 4 ∧ (36 + x, 0) ∈ t.conds) := by
  have hwidth : 256 ^ Ty.u16.width = 65536 := by decide
  have hregs {j : Nat} (hj : j ≠ 0x91) := rdN_sentDelay s (x := x) hj count.delay
  have hstate' : canState (sentDelay s x count.delay) x = 2 ∨ canState (sentDelay s x count.delay) x = 3 := by
    rwa [canState, hregs (by decide)]
  have hmode' : canMode (sentDelay s x count.delay) x ≠ 1 := by rwa [canMode, hregs (by decide)]
  rw [errorCounted, if_pos rfl, canError_transmitter hstate' hmode' hkind, hregs (by decide)]
  generalize hu : wrN (errorNoted _ x kind dataPhase) (canObj x) 0x83 _ = u
  have hcount : rdN u (canObj x) 0x83 = min 256 (rdN s (canObj x) 0x83 + 8) := by
    rw [← hu, rdN_wrN_can _ hx rfl, hwidth]
    exact Nat.mod_eq_of_lt (Nat.lt_of_le_of_lt (Nat.min_le_left ..) (by decide))
  have hcode : u.zh6432 = false := by rw [← hu, wrN_zh6432, errorNoted, wrN_zh6432, (told_sentDelay ..).zh6432_eq, hpart]
  refine ⟨(rdN_confined_txCount hx (by omega)).trans hcount, fun hover => ?_⟩
  rw [confined, if_pos (by omega)]
  exact ⟨canState_busOff hx u, busOff_conds hcode x⟩

end

-- Recovery (R285) ---------------------------------------------------------------------------------------------------

theorem holdoffExpired_recovers {s : State} {x : Nat} (hstate : canState s x = 4) (hauto : rdN s (0x2800 + x) 0x0D = 1)
    (hdue : (can s x).offAt + rdN s (0x2800 + x) 0x0E * 10 ≤ s.now) : holdoffExpired s x = wrN s (0x2800 + x) 0x80 5 := by
  simp [holdoffExpired, canObj, hstate, hauto, hdue]

theorem recoveryComplete_clears {s : State} {x : Nat} (hx : x < 4) (hstate : canState s x = 5) :
    let t := recoveryComplete s x
    canState t x = 2 ∧ rdN t (canObj x) 0x83 = 0 ∧ rdN t (canObj x) 0x84 = 0 ∧ t.conds = s.conds.filter (· != (36 + x, 0)) := by
  have hobj := canObj_not_report hx
  have hregs (u : State) (e : Emcy) {j : Nat} (hj : j < 256) :
      rdN (condEnd (emcy u e) (36 + x) 0 (canLoc x 0 0 0)) (canObj x) j = rdN u (canObj x) j := by
    rw [rdN_condEnd hobj hj _ (by omega), rdN_emcy hobj hj]
  unfold recoveryComplete
  simp only [hstate, bne_self_eq_false, Bool.false_eq_true, if_false]
  refine ⟨?_, ?_, ?_, ?_⟩
  · rw [canState, hregs _ _ (by decide), rdN_wrN_can _ hx rfl]
    rfl
  · rw [hregs _ _ (by decide), rdN_wrN_sub _ _ _ (by decide), rdN_wrN_sub _ _ _ (by decide), rdN_wrN_can _ hx rfl]
    rfl
  · rw [hregs _ _ (by decide), rdN_wrN_sub _ _ _ (by decide), rdN_wrN_can _ hx rfl]
    rfl
  · rw [condEnd_conds, emcy_conds]
    simp

-- Modes (R282, R283) ------------------------------------------------------------------------------------------------

/-- The frames that a change to listen-only discards: the queue and its counts change, the mode waits no more than before. -/
theorem flushTx_keeps (s : State) (x : Nat) : (can (flushTx s x) x).modeDue = (can s x).modeDue ∧
    rdN (flushTx s x) (canObj x) 0x81 = rdN s (canObj x) 0x81 := by
  unfold flushTx
  simp only
  constructor
  · rw [(told_wrN ..).can_eq, incBy, (told_wrN ..).can_eq, can_setCan_self]
  · rw [rdN_wrN_sub _ _ _ (by decide), incBy, rdN_wrN_sub _ _ _ (by decide), rdN_setCan]

/-- `s` with the mode wanted in use at controller `x`. -/
def modeTaken (s : State) (x : Nat) : State := wrN (setCan s x { can s x with modeDue := false }) (canObj x) 0x81 (modeWanted s x)

theorem can_modeTaken (s : State) (x : Nat) : can (modeTaken s x) x = { can s x with modeDue := false } := by
  rw [modeTaken, (told_wrN ..).can_eq, can_setCan_self]

/-- The controller integrates again (R289): no frame waits, its counters are clear and its conditions ended. -/
def integrating (s : State) (x : Nat) : State :=
  condEnd (condEnd (wrN (wrN (wrN (wrN (setCan s x { can s x with txq := [], held := none }) (canObj x) 0x83 0) (canObj x) 0x84 0)
    (canObj x) 0x80 1) (canObj x) 0x92 0) (32 + x) 0 (canLoc x 0 0 0)) (36 + x) 0 (canLoc x 0 0 0)

theorem can_integrating (s : State) (x : Nat) : can (integrating s x) x = { can s x with txq := [], held := none } := by
  simp only [integrating, (told_condEnd ..).can_eq, (told_wrN ..).can_eq, can_setCan_self]
theorem rdN_integrating (s : State) {x : Nat} (hx : x < 4) :
    canMode (integrating s x) x = canMode s x ∧ canState (integrating s x) x = 1 := by
  have hobj := canObj_not_report hx
  have hregs {u : State} {j : Nat} (hj : j < 256) :
      rdN (condEnd (condEnd u (32 + x) 0 (canLoc x 0 0 0)) (36 + x) 0 (canLoc x 0 0 0)) (canObj x) j = rdN u (canObj x) j := by
    rw [rdN_condEnd hobj hj _ (by omega), rdN_condEnd hobj hj _ (by omega)]
  unfold integrating
  constructor
  · rw [canMode, hregs (by decide), rdN_wrN_sub _ _ _ (by decide), rdN_wrN_sub _ _ _ (by decide), rdN_wrN_sub _ _ _ (by decide),
      rdN_wrN_sub _ _ _ (by decide), rdN_setCan, canMode]
  · rw [canState, hregs (by decide), rdN_wrN_sub _ _ _ (by decide), rdN_wrN_can _ hx rfl]
    rfl

section
variable {s : State} {x : Nat} (hon : canState s x ≠ 0) (hnew : canMode s x ≠ modeWanted s x)
include hon hnew

theorem modeChange_eq : modeChange s x =
    if modeWanted s x = 1 then wrN (flushTx (modeTaken s x) x) (canObj x) 0x80 6
    else if canMode s x = 1 then integrating (modeTaken s x) x else modeTaken s x := by
  have hgoes : (canState (setCan s x { can s x with modeDue := false }) x == 0 ||
      canMode (setCan s x { can s x with modeDue := false }) x == modeWanted s x) = false := by
    simpa using ⟨hon, hnew⟩
  unfold modeChange
  simp only [hgoes, beq_iff_eq, Bool.false_eq_true, if_false]
  rfl

theorem modeChange_takes (hx : x < 4) (hwanted : modeWanted s x ≤ 3) :
    let t := modeChange s x
    canMode t x = modeWanted s x ∧ (can t x).modeDue = false ∧ (modeWanted s x = 1 → canState t x = 6) ∧
      (canMode s x = 1 → canState t x = 1) := by
  have hmode : canMode (modeTaken s x) x = modeWanted s x := by
    rw [canMode, modeTaken, rdN_wrN_can _ hx rfl]
    exact Nat.mod_eq_of_lt (Nat.lt_of_le_of_lt hwanted (by decide))
  have hdone : (can (modeTaken s x) x).modeDue = false := by rw [can_modeTaken]
  rw [modeChange_eq hon hnew]
  by_cases hlisten : modeWanted s x = 1
  · obtain ⟨hdue, hkept⟩ := flushTx_keeps (modeTaken s x) x
    rw [if_pos hlisten]
    refine ⟨?_, ?_, fun _ => ?_, fun hold => absurd (hold.trans hlisten.symm) hnew⟩
    · rw [canMode, rdN_wrN_sub _ _ _ (by decide), hkept]
      exact hmode
    · rw [(told_wrN ..).can_eq, hdue, hdone]
    · rw [canState, rdN_wrN_can _ hx rfl]
      rfl
  · rw [if_neg hlisten]
    by_cases hold : canMode s x = 1
    · obtain ⟨hkept, hstate⟩ := rdN_integrating (modeTaken s x) hx
      rw [if_pos hold]
      refine ⟨hkept.trans hmode, ?_, fun h => absurd h hlisten, fun _ => hstate⟩
      rw [can_integrating]
      exact hdone
    · rw [if_neg hold]
      exact ⟨hmode, hdone, fun h => absurd h hlisten, fun h => absurd h hold⟩

end

/-- R289: integration ends error-active, or in listen-only. -/
theorem integrationComplete_enters {s : State} {x : Nat} (hstate : canState s x = 1) :
    integrationComplete s x = wrN s (0x2800 + x) 0x80 (if canMode s x = 1 then 6 else 2) := by
  simp [integrationComplete, canObj, hstate]

-- The requests of a client (R282, R285) -----------------------------------------------------------------------------

section
variable {x : Nat} (hx : x < 4) (s : State) (client : Nat) (data : List Byte) (off : Nat) (item : Option Nat)
include hx

/-- A checked write of 0x2800+x:11 starts recovery. -/
theorem performAny_startRecovery : performAny s client (0x2800 + x) 0x11 data off item =
    success (wrN s (0x2800 + x) 0x80 5) client := by
  have hcan : within (0x2800 + x) 0x2800 0x2803 = true := within_base_add (by omega)
  simp [performAny, perform, base_add_beq_lower, within_base_add_lower, hcan]
/-- One of 0x2800+x:0C is a request of a mode, and its word is good again (R58). -/
theorem performAny_modeRequest : performAny s client (0x2800 + x) 0x0C data off item =
    success (modeRequest (eccMended s [key (0x2800 + x) 0x0C]) x (leNat data)) client := by
  have hcan : within (0x2800 + x) 0x2800 0x2803 = true := within_base_add (by omega)
  have hloop : within (0x2800 + x) 0x3400 0x37FF = false := by simp [within]; omega
  have hrow : rowOf (0x2800 + x) 0x0C =
      some { lo := 0x0C, hi := 0x0C, ty := .u8, rng := [(0, 3)], acc := .rw, per := .v, eff := .imm, dfl := [0] } :=
    rowOf_can hx 0x0C
  simp [performAny, perform, base_add_beq_lower, within_base_add_lower, hcan, hloop, hrow, stored, putValue]

end

/-- An accepted request of a client to a controller is carried out at once, answered, and goes to the other member of a pair. -/
theorem put_canRequest {s u : State} {client x sub : Nat} {data : List Byte} {off : Nat} (hx : x < 4)
    (h : Accepts s client (0x2800 + x) sub data)
    (hperform : performAny { s with answers := Tab.del s.answers client } client (0x2800 + x) sub data off none = success u client)
    (hwork : u.work = s.work) : put s client (0x2800 + x) sub data off = paired (success u client) client (0x2800 + x) sub data :=
  put_succeeds h (by simp [structural, within]; omega) (by simp [ttStaged, within]; omega) (by omega) (by omega) hperform hwork

theorem success_setCan (s : State) (client x : Nat) (c : Can) : success (setCan s x c) client = setCan (success s client) x c := by
  unfold success answer
  split <;> rfl

/-- Settles O46: errors by what they count, the other commands each by its lemma above, the requests as accepted writes. -/
theorem canErrorsAndModes : Obligations.CanErrorsAndModes := by
  unfold Obligations.CanErrorsAndModes
  refine ⟨?receiver, ?transmitter, ?holdoff, ?start, ?recovered, ?mode, ?request, ?integrated⟩
  case receiver =>
    intro s x kind dataPhase eight delay h hx hstate hmode
    obtain ⟨t, hstep, -, hregs⟩ := canError_reaches h hx false kind dataPhase ⟨eight, delay⟩
    exact ⟨t, hstep, (hregs _ (by decide)).trans (rdN_errorCounted_receiver hx hstate hmode kind dataPhase _)⟩
  case transmitter =>
    intro s x kind dataPhase eight delay h hx hpart hstate hmode hkind
    obtain ⟨t, hstep, hconds, hregs⟩ := canError_reaches h hx true kind dataPhase ⟨eight, delay⟩
    obtain ⟨hcount, hoff⟩ := errorCounted_transmitter hx hpart hstate hmode hkind dataPhase ⟨eight, delay⟩
    refine ⟨t, hstep, (hregs _ (by decide)).trans hcount, fun hover => ?_⟩
    obtain ⟨hstate', hcond⟩ := hoff hover
    exact ⟨(hregs _ (by decide)).trans hstate', hconds ▸ hcond⟩
  case holdoff =>
    intro s x h hstate hauto hdue
    rw [exec_busOffHoldoffExpired h, holdoffExpired_recovers hstate hauto hdue]
  case start =>
    intro s client x off hx h
    have ⟨_, hclient, _⟩ := h
    refine congrArg (done s) ((put_canRequest hx h (performAny_startRecovery hx ..) (by simp)).trans ?_)
    rw [success_wrN, success_le hclient]
    rfl
  case recovered =>
    intro s x h hx hstate
    refine ⟨_, exec_recoveryComplete h x, ?_⟩
    simp only [canState, rdN_settled]
    exact recoveryComplete_clears hx hstate
  case mode =>
    intro s x h hx hon hnew hwanted
    refine ⟨_, exec_canModeChange h x, ?_⟩
    simp only [canState, canMode, rdN_settled, can_settled]
    exact modeChange_takes hon hnew hx hwanted
  case request =>
    intro s client x mode off hx hmode h
    have ⟨_, hclient, _⟩ := h
    have hbytes : leNat (leBytes 1 mode) = mode := by
      rw [leNat_leBytes]
      exact Nat.mod_eq_of_lt hmode
    refine congrArg (done s) ((put_canRequest hx h (performAny_modeRequest hx ..) ?_).trans ?_)
    · simp [modeRequest, setCan_eq, eccMended]
    · rw [hbytes, modeRequest, success_setCan, success_wrN, success_le hclient, (told_wrN ..).can_eq]
      rfl
  case integrated =>
    intro s x h hstate
    rw [exec_busIntegrationComplete h, integrationComplete_enters hstate]

end Sys2Proof.Machine
end

section
/-! SUPPORT. What the network services' operations leave alone (R293 to R319): the submission of a frame, reports and the ends of work
items, and folds over a list of nodes or entries. -/
namespace Sys2Proof.Machine
open Sys2Proof Sys2Proof.OD

-- Reports -----------------------------------------------------------------------------------------------------------

theorem Told.now_eq {s t : State} (h : Told s t) : t.now = s.now := by
  obtain ⟨d, cs, pt, an, eq, lg, rfl⟩ := h
  rfl

theorem Told.net_eq {s t : State} (h : Told s t) : t.net = s.net := by
  obtain ⟨d, cs, pt, an, eq, lg, rfl⟩ := h
  rfl

theorem Told.work_eq {s t : State} (h : Told s t) : t.work = s.work := by
  obtain ⟨d, cs, pt, an, eq, lg, rfl⟩ := h
  rfl

theorem Told.answers_eq {s t : State} (h : Told s t) : t.answers = s.answers := by
  obtain ⟨d, cs, pt, an, eq, lg, rfl⟩ := h
  rfl

theorem Told.cal_eq {s t : State} (h : Told s t) : t.cal = s.cal := by
  obtain ⟨d, cs, pt, an, eq, lg, rfl⟩ := h
  rfl

theorem Told.fieldNode_eq {s t : State} (h : Told s t) (k : Nat) : fieldNode t k = fieldNode s k := by
  rw [fieldNode, h.net_eq, fieldNode]

theorem rdN_wrN_object (s : State) {i j i' j' : Nat} (hi : i ≠ i') (hj : j < 256) (hj' : j' < 256) (v : Nat) :
    rdN (wrN s i j v) i' j' = rdN s i' j' :=
  rdN_wrN_ne s v fun hkey => hi ((key_inj hj hj').mp hkey).left

theorem emcy_of_room {s : State} (hroom : s.emcyQ.length < 32) (e : Emcy) : emcy s e = { s with emcyQ := s.emcyQ ++ [e] } :=
  if_neg (Nat.not_le.mpr hroom)

section
variable (s : State) {idx sub : Nat} (hsub : sub < 256)
include hsub

/-- A log entry is told in the objects of the log and of the host port only. -/
theorem rdN_logAdd_object (hlog : idx ≠ 0x2710) (hhost : idx ≠ 0x2810) (code loc qual data : Nat) :
    rdN (logAdd s code loc qual data) idx sub = rdN s idx sub := by
  have hentered (t : State) (l : List LogEntry) (n : Nat) :
      rdN (wrBit (wrN { t with log := l } 0x2710 0x80 n) 0x2810 0x80 2 true) idx sub = rdN t idx sub := by
    rw [wrBit, rdN_wrN_object _ hhost.symm (by decide) hsub, rdN_wrN_object _ hlog.symm (by decide) hsub]
    rfl
  unfold logAdd
  simp only
  split
  · rw [hentered, inc, rdN_wrN_object _ hlog.symm (by decide) hsub]
  · exact hentered ..

theorem rdN_irq_object (hhost : idx ≠ 0x2810) (n : Nat) : rdN (irq s n) idx sub = rdN s idx sub := by
  rw [irq, wrBit, rdN_wrN_object _ hhost.symm (by decide) hsub]

theorem rdN_emcy_object (hnet : idx ≠ 0x1FF0) (e : Emcy) : rdN (emcy s e) idx sub = rdN s idx sub := by
  unfold emcy
  split
  · exact rdN_wrN_object _ hnet.symm (by decide) hsub _
  · rfl

/-- An announcement is told in the error register and the network's counters only. -/
theorem rdN_announce_object (hregister : idx ≠ 0x1001) (hnet : idx ≠ 0x1FF0) (p loc src : Nat) :
    rdN (announce s p loc src) idx sub = rdN s idx sub := by
  unfold announce
  split
  · rfl
  · rw [rdN_emcy_object _ hsub hnet, errorRegister, rdN_wrN_object _ hregister.symm (by decide) hsub]
    rfl

theorem rdN_itemFail_object (hlog : idx ≠ 0x2710) (hhost : idx ≠ 0x2810) (i reason code : Nat) :
    rdN (itemFail s i reason code) idx sub = rdN s idx sub := by
  unfold itemFail
  split
  · split
    · rw [rdN_irq_object _ hsub hhost, rdN_logAdd_object _ hsub hlog hhost, rdN, rdB, itemSet_dict]
      rfl
    · rfl
  · rfl

theorem rdN_itemDone_object (hhost : idx ≠ 0x2810) (i : Nat) : rdN (itemDone s i) idx sub = rdN s idx sub := by
  have hset (f : WorkItem → WorkItem) : rdN (itemSet s i f) idx sub = rdN s idx sub := by rw [rdN, rdB, itemSet_dict]; rfl
  unfold itemDone
  split
  · split
    · simp only
      split
      · rw [rdN_irq_object _ hsub hhost, hset]
      · exact hset _
    · rfl
  · rfl

end

-- Bits of status values ---------------------------------------------------------------------------------------------

theorem bit_eq_testBit (v n : Nat) : bit v n = v.testBit n := by
  rw [bit, Nat.testBit_eq_decide_div_mod_eq, Bool.beq_eq_decide_eq]

/-- A bit once set reads as set in a value wide enough for it. -/
theorem bit_setBit_self (v : Nat) {n w : Nat} (hn : n < 8 * w) : bit (setBit v n true % 256 ^ w) n = true := by
  have hwidth : 256 ^ w = 2 ^ (8 * w) := (Nat.pow_mul 2 8 w).symm
  have hset : (setBit v n true).testBit n = true := by
    rw [setBit, if_pos rfl]
    split
    · next hbit => rwa [bit_eq_testBit] at hbit
    · next hbit =>
      rw [Nat.add_comm, Nat.testBit_two_pow_add_eq, ← bit_eq_testBit]
      simpa using hbit
  rw [bit_eq_testBit, hwidth, Nat.testBit_mod_two_pow, hset]
  simpa using hn

/-- A bit once set in a status value reads as set. -/
theorem rdBit_wrBit_self (s : State) {idx sub n : Nat} {r : Row} (hrow : rowOf idx sub = some r) (hn : n < 8 * r.ty.width) :
    rdBit (wrBit s idx sub n true) idx sub n = true := by
  rw [rdBit, wrBit, rdN_wrN_self s _ hrow]
  exact bit_setBit_self _ hn

-- Folds -------------------------------------------------------------------------------------------------------------

/-- What no step of a fold over `l` changes stands after it. -/
theorem foldS_keeps_mem {α β : Type} (g : State → β) {f : State → α → State} {l : List α}
    (hf : ∀ s, ∀ a ∈ l, g (f s a) = g s)
    (s : State) : g (foldS s l f) = g s := by
  induction l generalizing s with
  | nil => rfl
  | cons a l ih => exact (ih (fun s b hb => hf s b (List.mem_cons_of_mem a hb)) _).trans (hf s a List.mem_cons_self)

/-- What step `a` of a fold brings about, and no step undoes, stands at its end; `I` is what every step keeps. -/
theorem foldS_brings {α : Type} {f : State → α → State} {I P : State → Prop} {a : α} {l : List α} (ha : a ∈ l)
    (hkeeps : ∀ s, ∀ b ∈ l, I s → I (f s b)) (hbrings : ∀ s, I s → P (f s a))
    (hstands : ∀ s, ∀ b ∈ l, b ≠ a → I s → P s → P (f s b)) {s : State} (hs : I s) : P (foldS s l f) := by
  suffices hgen : ∀ s, I s → a ∈ l ∨ P s → P (foldS s l f) from hgen s hs (.inl ha)
  clear ha hs s
  induction l with
  | nil => exact fun s _ h => h.resolve_left List.not_mem_nil
  | cons b l ih =>
    intro s hs h
    refine ih (fun s c hc => hkeeps s c (List.mem_cons_of_mem b hc)) (fun s c hc => hstands s c (List.mem_cons_of_mem b hc)) _
      (hkeeps s b List.mem_cons_self hs) ?_
    by_cases hb : b = a
    · exact .inr (hb ▸ hbrings s hs)
    · rcases h with hmem | hP
      · exact .inl (List.mem_of_ne_of_mem (Ne.symm hb) hmem)
      · exact .inr (hstands s b List.mem_cons_self hb hs hP)

-- Submission (R280) -------------------------------------------------------------------------------------------------

/-- `t` is `s` but for the controllers' records and values of the objects from theirs on. -/
def Submitted (s t : State) : Prop :=
  (∃ d cs, t = { s with dict := d, cans := cs }) ∧ ∀ i j, i < 0x2800 → j < 256 → rdN t i j = rdN s i j

theorem Submitted.refl (s : State) : Submitted s s := ⟨⟨s.dict, s.cans, rfl⟩, fun _ _ _ _ => rfl⟩
theorem Submitted.trans {s t u : State} (h : Submitted s t) (k : Submitted t u) : Submitted s u := by
  obtain ⟨⟨d, cs, rfl⟩, hregs⟩ := h
  obtain ⟨⟨d', cs', rfl⟩, hregs'⟩ := k
  exact ⟨⟨d', cs', rfl⟩, fun i j hi hj => (hregs' i j hi hj).trans (hregs i j hi hj)⟩

theorem submitted_setCan (s : State) (x : Nat) (c : Can) : Submitted s (setCan s x c) :=
  ⟨⟨s.dict, _, rfl⟩, fun _ _ _ _ => rfl⟩

theorem submitted_wrN (s : State) (x : Nat) {j : Nat} (hj : j < 256) (v : Nat) : Submitted s (wrN s (canObj x) j v) := by
  obtain ⟨d, hd⟩ := wrN_eq s (canObj x) j v
  refine ⟨⟨d, s.cans, hd⟩, fun i j' hi hj' => rdN_wrN_object s ?_ hj hj' v⟩
  unfold canObj
  omega

/-- A submission changes the queue of its controller and the counters in its object. -/
theorem submitted_submit (s : State) (x : Nat) (f : Frame) (pdo : Bool) : Submitted s (submit s x f pdo) := by
  have hqueued (s : State) (c : Can) : Submitted s (fillTx (setCan s x c) x) :=
    (submitted_setCan s x c).trans (submitted_wrN _ x (by decide) _)
  have hdiscards (s : State) : Submitted s (inc s (canObj x) 0x8B) := submitted_wrN s x (by decide) _
  unfold submit
  simp only
  generalize (if rdF s (canObj x) 9 then f else { f with fd := false, brs := false, esi := false }) = g
  generalize (if (can s x).held.isSome then 1 else 0) = heldFrames
  split
  · exact .refl s
  · split
    · exact hdiscards s
    · split
      · exact hqueued s _
      · split
        · exact ((submitted_setCan s x _).trans (hdiscards _)).trans (submitted_wrN _ x (j := 0x92) (by decide) _)
        · exact hdiscards s

theorem submitted_submitPair (s : State) (f : Frame) (pdo : Bool) : Submitted s (submitPair s f pdo) :=
  (submitted_submit s 0 f pdo).trans (submitted_submit _ 1 f pdo)

section
variable {s t : State} (h : Submitted s t)
include h

theorem Submitted.rdN_eq {i j : Nat} (hi : i < 0x2800) (hj : j < 256) : rdN t i j = rdN s i j := h.right i j hi hj
theorem Submitted.now_eq : t.now = s.now := by
  obtain ⟨⟨d, cs, rfl⟩, -⟩ := h
  rfl

theorem Submitted.net_eq : t.net = s.net := by
  obtain ⟨⟨d, cs, rfl⟩, -⟩ := h
  rfl

theorem Submitted.work_eq : t.work = s.work := by
  obtain ⟨⟨d, cs, rfl⟩, -⟩ := h
  rfl

theorem Submitted.emcy_eq : t.emcyQ = s.emcyQ ∧ t.emcyAt = s.emcyAt := by
  obtain ⟨⟨d, cs, rfl⟩, -⟩ := h
  exact ⟨rfl, rfl⟩

theorem Submitted.fieldNode_eq (k : Nat) : fieldNode t k = fieldNode s k := by rw [fieldNode, h.net_eq, fieldNode]

end

end Sys2Proof.Machine
end

section
/-! SUPPORT. NMT commands, SYNC and TIME (R296, R312, R313): what each frame comes to, and what a step of the calendar leaves. -/
namespace Sys2Proof.Machine
open Sys2Proof Sys2Proof.OD

-- The commands in a live device -----------------------------------------------------------------------------------

/-- The NMT commands, each with its command byte. -/
theorem exec_nmt {s : State} (h : Alive s) {node off : Nat} {p : Instr × Nat}
    (hp : p ∈ [(Instr.nmtStart node off, 0x01), (.nmtStop node off, 0x02), (.nmtEnterPreOperational node off, 0x80),
      (.nmtResetApplication node off, 0x81), (.nmtResetCommunication node off, 0x82)]) :
    exec p.1 s = .next (settled s (nmtCommand s p.2 node off)) := by
  have hact (cmd : Nat) : done s (act s fun s => nmtCommand s cmd node off) = .next (settled s (nmtCommand s cmd node off)) := by
    rw [act_alive h, done]
  simp only [List.mem_cons, List.not_mem_nil, or_false] at hp
  obtain rfl | rfl | rfl | rfl | rfl := hp
  all_goals exact hact _

theorem exec_syncReceived {s : State} (h : Alive s) (ctr : Option Nat) (off : Nat) :
    exec (.syncReceived ctr off) s = .next (settled s (syncReceived s ctr off)) := by
  change done s (act s fun s => syncReceived s ctr off) = _
  rw [act_alive h, done]

theorem exec_timeReceived {s : State} (h : Served s) (ms : Int) :
    exec (.timeReceived ms) s = .next (settled s (timeFrame s ms)) := by
  obtain ⟨halive, hbooted⟩ := h
  change done s (act s fun s => if booted s then timeFrame s ms else s) = _
  rw [act_alive halive, if_pos hbooted, done]

-- NMT (R296) --------------------------------------------------------------------------------------------------------

theorem nmtCommand_waits {s : State} {node : Nat} (hbooted : booted s = true) (hpair : inPair s = true → s.ensign = true)
    (hnode : node = 0 ∨ node = nodeId s) (cmd off : Nat) :
    nmtCommand s cmd node off =
      { s with net := { s.net with nmtDue := s.net.nmtDue ++ [(stamp s off + 1, cmd)], nmtSeen := true } } := by
  have hfollows : (inPair s && !s.ensign) = false := by
    cases hin : inPair s with
    | false => rfl
    | true => simp [hpair hin]
  have hnamed : (node == 0 || node == nodeId s) = true := by simpa using hnode
  simp only [nmtCommand, hbooted, hnamed, hfollows, Bool.not_true, Bool.or_self, Bool.false_eq_true, if_false]
  rfl

theorem nmtCommand_other {s : State} {node : Nat} (hall : node ≠ 0) (hown : node ≠ nodeId s) (cmd off : Nat) :
    nmtCommand s cmd node off = s := by simp [nmtCommand, hall, hown]

-- SYNC (R312) -------------------------------------------------------------------------------------------------------

section
variable {s : State} (hbooted : booted s = true)
include hbooted

theorem syncReceived_mismatch {ctr : Option Nat} (hmismatch : ctr.isSome = !(rdN s 0x1019 0 != 0)) (off : Nat) :
    syncReceived s ctr off = inc s 0x1FF0 0x82 := by simp [syncReceived, hbooted, hmismatch]

theorem syncReceived_duplicate {c : Nat} (hwants : rdN s 0x1019 0 ≠ 0) (hrepeats : s.net.syncCtr = some c) (off : Nat) :
    syncReceived s (some c) off = inc s 0x1FF0 0x81 := by simp [syncReceived, hbooted, hwants, hrepeats]

/-- The writes of the values that RPDOs hold for a SYNC, accepted `off` ns after the tick. -/
def syncWrites (s : State) (off : Nat) : List PendingWrite :=
  (s.net.rpdo.filterMap fun p => p.2.pend).flatten.map fun w =>
    { client := 0x100, due := stamp s off + 1, period := periodic w.1 w.2.1, idx := w.1, sub := w.2.1, data := w.2.2 }

theorem syncReceived_new {ctr : Option Nat} (hmatch : ctr.isSome = (rdN s 0x1019 0 != 0))
    (hnew : ctr.isSome = true → s.net.syncCtr ≠ ctr) (off : Nat) :
    syncReceived s ctr off =
      { s with pendingWrites := s.pendingWrites ++ (if operational s then syncWrites s off else []),
               net := { s.net with syncCtr := if ctr.isSome then ctr else s.net.syncCtr, syncDue := some (s.now + 1),
                                   rpdo := s.net.rpdo.map fun p => (p.1, { p.2 with pend := none }) } } := by
  have hfresh : (ctr.isSome && ctr == s.net.syncCtr) = false := by
    cases hsome : ctr.isSome with
    | false => rfl
    | true => simpa using (hnew hsome).symm
  simp only [syncReceived, hbooted, ← hmatch, hfresh, bne_self_eq_false, Bool.not_true, Bool.false_eq_true, if_false]
  rfl

end

theorem mem_syncWrites {s : State} {n : Nat} {x : Rpdo} {vs : List (Nat × Nat × List Byte)} {v : Nat × Nat × List Byte}
    (hx : (n, x) ∈ s.net.rpdo) (hpend : x.pend = some vs) (hv : v ∈ vs) (off : Nat) :
    { client := 0x100, due := stamp s off + 1, period := periodic v.1 v.2.1, idx := v.1, sub := v.2.1, data := v.2.2 } ∈
      syncWrites s off :=
  List.mem_map_of_mem (List.mem_flatten.mpr ⟨vs, List.mem_filterMap.mpr ⟨(n, x), hx, hpend⟩, hv⟩)

-- TIME (R313) -------------------------------------------------------------------------------------------------------

/-- The second, its frozen shadows, the validity and the count of steps stand in `t` as in `s`. -/
def KeepsSecond (s t : State) : Prop :=
  t.cal.secs = s.cal.secs ∧ t.cal.shadows = s.cal.shadows ∧ ∀ j ∈ [0x09, 0x0F], rdN t 0x2300 j = rdN s 0x2300 j

theorem KeepsSecond.refl (s : State) : KeepsSecond s s := ⟨rfl, rfl, fun _ _ => rfl⟩
theorem KeepsSecond.trans {s t u : State} (h : KeepsSecond s t) (k : KeepsSecond t u) : KeepsSecond s u := by
  obtain ⟨hsecs, hshadows, hvalues⟩ := h
  obtain ⟨ksecs, kshadows, kvalues⟩ := k
  exact ⟨ksecs.trans hsecs, kshadows.trans hshadows, fun j hj => (kvalues j hj).trans (hvalues j hj)⟩

theorem keepsSecond_foldS {α : Type} {f : State → α → State} (hf : ∀ s a, KeepsSecond s (f s a)) (l : List α) (s : State) :
    KeepsSecond s (foldS s l f) := by
  induction l generalizing s with
  | nil => exact .refl s
  | cons a l ih => exact (hf s a).trans (ih _)

theorem keepsSecond_wrN (s : State) {i j : Nat} (hj : j < 256) (h : i ≠ 0x2300 ∨ j ≠ 0x09 ∧ j ≠ 0x0F) (v : Nat) :
    KeepsSecond s (wrN s i j v) := by
  refine ⟨by rw [wrN_cal], by rw [wrN_cal], fun j' hj' => rdN_wrN_ne s v ?_⟩
  simp only [List.mem_cons, List.not_mem_nil, or_false] at hj'
  rw [Ne, key_inj hj (by omega)]
  omega

theorem keepsSecond_setCal (s : State) {c : Cal} (hsecs : c.secs = s.cal.secs) (hshadows : c.shadows = s.cal.shadows) :
    KeepsSecond s (setCal s c) := ⟨hsecs, hshadows, fun _ _ => rfl⟩

theorem keepsSecond_logAdd (s : State) (code loc qual data : Nat) : KeepsSecond s (logAdd s code loc qual data) := by
  refine ⟨by rw [(told_logAdd ..).cal_eq], by rw [(told_logAdd ..).cal_eq],
    fun j hj => rdN_logAdd_object s ?_ (by decide) (by decide) ..⟩
  simp only [List.mem_cons, List.not_mem_nil, or_false] at hj
  omega

theorem keepsSecond_condEnd (s : State) {p : Nat} (hp : p < 128) (c loc : Nat) : KeepsSecond s (condEnd s p c loc) := by
  refine ⟨by rw [(told_condEnd ..).cal_eq], by rw [(told_condEnd ..).cal_eq], fun j hj => rdN_condEnd (by decide) ?_ s hp ..⟩
  simp only [List.mem_cons, List.not_mem_nil, or_false] at hj
  omega

theorem keepsSecond_pwronAssert (s : State) (cause alarm : Nat) : KeepsSecond s (pwronAssert s cause alarm) := by
  unfold pwronAssert
  simp only
  refine KeepsSecond.trans (KeepsSecond.trans (keepsSecond_wrN s (i := 0x2300) (j := 0x82) (by decide) (by decide) cause) ?_)
    (keepsSecond_setCal _ rfl rfl)
  split
  · exact keepsSecond_wrN _ (by decide) (by decide) _
  · exact .refl _

theorem keepsSecond_alarmFire (s : State) {a : Nat} (instant : Nat) (skipped : Bool) :
    KeepsSecond s (alarmFire s a instant skipped) := by
  have halarm (s : State) {j : Nat} (hj : j < 256) (v : Nat) : KeepsSecond s (wrN s (alarmObj a) j v) :=
    keepsSecond_wrN s hj (.inl (by unfold alarmObj; omega)) v
  have hfired (s : State) : KeepsSecond s (inc (wrN (wrN (wrN s (alarmObj a) 0x85 instant) (alarmObj a) 0x80 instant)
      (alarmObj a) 0x81 (if skipped then 1 else 0)) (alarmObj a) 0x83) :=
    (((halarm s (by decide) _).trans (halarm _ (by decide) _)).trans (halarm _ (by decide) _)).trans (halarm _ (by decide) _)
  have hpwron (t : State) (b : Bool) : KeepsSecond t (if b then pwronAssert t 2 a else t) := by
    split
    · exact keepsSecond_pwronAssert t 2 a
    · exact .refl t
  unfold alarmFire
  simp only
  refine (hfired s).trans ?_
  generalize inc (wrN (wrN (wrN s (alarmObj a) 0x85 instant) (alarmObj a) 0x80 instant) (alarmObj a) 0x81
    (if skipped then 1 else 0)) (alarmObj a) 0x83 = t
  refine (hpwron t (bit (rdN t (alarmObj a) 3) 0)).trans ?_
  generalize (if bit (rdN t (alarmObj a) 3) 0 then pwronAssert t 2 a else t) = u
  split
  · exact keepsSecond_logAdd ..
  · exact .refl _

theorem keepsSecond_alarmsAt (s : State) (past n : Nat) : KeepsSecond s (alarmsAt s past n) := by
  have hskipped (s : State) (a k instant : Nat) : KeepsSecond s (alarmFire (incBy s (alarmObj a) 0x82 k) a instant true) := by
    have hcounted : KeepsSecond s (incBy s (alarmObj a) 0x82 k) :=
      keepsSecond_wrN s (by omega) (.inl (by unfold alarmObj; omega)) _
    exact hcounted.trans (keepsSecond_alarmFire ..)
  unfold alarmsAt
  simp only
  refine KeepsSecond.trans (keepsSecond_foldS (fun s a => ?_) (List.range 8) s) (keepsSecond_foldS (fun s a => ?_) _ _)
  · split
    · exact .refl s
    · split
      · exact .refl s
      · exact hskipped s a _ _
  · split
    · exact .refl s
    · split
      · exact keepsSecond_alarmFire ..
      · exact .refl s

theorem keepsSecond_pulse (s : State) (past n : Nat) : KeepsSecond s (pulse s past n) := by
  have halarms := keepsSecond_alarmsAt s past n
  unfold pulse
  simp only
  generalize alarmsAt s past n = t at halarms ⊢
  exact halarms.trans ⟨rfl, rfl, fun _ _ => rfl⟩

theorem wrI_eq (s : State) (i j : Nat) (v : Int) : wrI s i j v = s ∨ ∃ n, wrI s i j v = wrN s i j n := by
  unfold wrI wrN
  split
  · exact .inr ⟨_, rfl⟩
  · exact .inl rfl

theorem keepsSecond_slewShow (s : State) : KeepsSecond s (slewShow s) := by
  unfold slewShow wrF
  refine (keepsSecond_wrN s (i := 0x2300) (j := 0x0C) (by decide) (by decide) (if s.cal.slew.isSome then 1 else 0)).trans ?_
  generalize wrN s 0x2300 0x0C (if s.cal.slew.isSome then 1 else 0) = t
  obtain hstays | ⟨n, hwritten⟩ := wrI_eq t 0x2300 0x0D (if s.cal.slew.isSome then roundRat (slewLeft s) else 0)
  · rw [hstays]
    exact .refl t
  · rw [hwritten]
    exact keepsSecond_wrN t (by decide) (by decide) n

/-- The calendar as a jump leaves it, before its condition ends and its alarms are looked at. -/
def jumped (s : State) (n sub : Nat) : State :=
  let u := setCal s { s.cal with secs := n, pulseAt := s.now, sub0 := sub, slew := none, shadows := [] }
  wrN (inc (slewShow u) 0x2300 0x0F) 0x2300 0x09 1

theorem jumped_stands (s : State) (n sub : Nat) : (jumped s n sub).cal.secs = n ∧ (jumped s n sub).cal.shadows = [] ∧
    rdN (jumped s n sub) 0x2300 0x09 = 1 ∧ rdN (jumped s n sub) 0x2300 0x0F = (rdN s 0x2300 0x0F + 1) % 2 ^ 32 := by
  obtain ⟨hsecs, hshadows, hvalues⟩ := keepsSecond_slewShow
    (setCal s { s.cal with secs := n, pulseAt := s.now, sub0 := sub, slew := none, shadows := [] })
  refine ⟨?_, ?_, ?valid, ?count⟩
  · rw [jumped, wrN_cal, inc, wrN_cal, hsecs]
    rfl
  · rw [jumped, wrN_cal, inc, wrN_cal, hshadows]
    rfl
  case valid =>
    rw [jumped, rdN_wrN_self _ _ (r := rowOf 0x2300 0x09 |>.get rfl) rfl]
    rfl
  case count =>
    rw [jumped, rdN_wrN_sub _ _ _ (by omega), inc, rdN_wrN_self _ _ (r := rowOf 0x2300 0x0F |>.get rfl) rfl,
      hvalues _ (by decide)]
    rfl

theorem keepsSecond_calJump (s : State) (n sub : Nat) (commit : Bool) : KeepsSecond (jumped s n sub) (calJump s n sub commit) := by
  have hended := keepsSecond_condEnd (jumped s n sub) (p := 64) (by omega) 0 0x01300000
  have hjump : calJump s n sub commit = condEnd (jumped s n sub) 64 0 0x01300000 ∨
      ∃ past, calJump s n sub commit = pulse (condEnd (jumped s n sub) 64 0 0x01300000) past n := by
    unfold calJump
    simp only
    split
    · exact .inr ⟨_, rfl⟩
    · exact .inl rfl
  obtain hplain | ⟨past, hpulse⟩ := hjump
  · rwa [hplain]
  · rw [hpulse]
    exact hended.trans (keepsSecond_pulse ..)

/-- R369: the calendar stands at the new second, valid, without shadows, and one more step is counted. -/
theorem calJump_steps (s : State) (n sub : Nat) (commit : Bool) :
    let t := calJump s n sub commit
    t.cal.secs = n ∧ t.cal.shadows = [] ∧ calValid t = true ∧ rdN t 0x2300 0x0F = (rdN s 0x2300 0x0F + 1) % 2 ^ 32 := by
  obtain ⟨hsecs, hshadows, hvalid, hcount⟩ := jumped_stands s n sub
  obtain ⟨ksecs, kshadows, kvalues⟩ := keepsSecond_calJump s n sub commit
  have kvalid := (kvalues 0x09 (by decide)).trans hvalid
  refine ⟨ksecs.trans hsecs, kshadows.trans hshadows, ?_, (kvalues 0x0F (by decide)).trans hcount⟩
  rw [calValid, rdF, kvalid]
  rfl

/-- The calendar ends 12 622 780 800 000 ms after 2000-01-01 (R363). -/
theorem calMax_ms : ((calMax : Int) + 1) * 1000 = 12622780800000 := by
  rw [calMax]
  omega

theorem time_in_range {ms : Int} (hlo : 0 ≤ ms) (hhi : ms < 12622780800000) :
    (decide (ms < 0) || decide (((calMax : Int) + 1) * 1000 ≤ ms)) = false := by
  rw [calMax_ms]
  simp
  omega

section
variable {s : State} (htakes : rdBit s 0x1012 0 31 = true) {ms : Int}
include htakes

theorem timeFrame_out_of_range (hrange : ms < 0 ∨ 12622780800000 ≤ ms) : timeFrame s ms = inc s 0x1FF0 0x82 := by
  have hout : (decide (ms < 0) || decide (((calMax : Int) + 1) * 1000 ≤ ms)) = true := by
    rw [calMax_ms]
    simpa using hrange
  simp only [timeFrame, htakes, hout, Bool.not_true, Bool.false_eq_true, if_false, if_true]

section
variable (hlo : 0 ≤ ms) (hhi : ms < 12622780800000)
include hlo hhi

theorem timeFrame_near (hvalid : calValid s = true) (hbelow : (-5 : Rat) < (ms : Rat) - (calCounts s : Rat) * 1000 / 32768)
    (habove : (ms : Rat) - (calCounts s : Rat) * 1000 / 32768 < 5) : timeFrame s ms = s := by
  simp only [timeFrame, htakes, time_in_range hlo hhi, hvalid, hbelow, habove, Bool.not_true, Bool.false_eq_true, if_false,
    if_true, decide_true, Bool.and_self]

theorem timeFrame_sets (hinvalid : calValid s = false) :
    timeFrame s ms = calJump s (ms / 1000).toNat (roundRat (((ms % 1000 : Int) : Rat) * 32768 / 1000)).toNat false := by
  simp only [timeFrame, htakes, time_in_range hlo hhi, hinvalid, Bool.not_true, Bool.not_false, Bool.false_eq_true, if_false,
    if_true]

end
end

-- The statement ---------------------------------------------------------------------------------------------------

/-- Settles O47: each frame by its lemma above. -/
theorem nmtSyncAndTimeFrames : Obligations.NmtSyncAndTimeFrames := by
  unfold Obligations.NmtSyncAndTimeFrames
  refine ⟨?nmt, ?mismatch, ?duplicate, ?sync, ?range, ?near, ?sets⟩
  case nmt =>
    intro s node off h p hp
    rw [exec_nmt h hp]
    exact ⟨fun hbooted hpair hnode => by rw [nmtCommand_waits hbooted hpair hnode]; rfl,
      fun hall hown => by rw [nmtCommand_other hall hown]⟩
  case mismatch =>
    intro s ctr off ⟨halive, hbooted⟩ hmismatch
    rw [exec_syncReceived halive, syncReceived_mismatch hbooted hmismatch]
  case duplicate =>
    intro s c off ⟨halive, hbooted⟩ hwants hrepeats
    rw [exec_syncReceived halive, syncReceived_duplicate hbooted hwants hrepeats]
  case sync =>
    intro s ctr off ⟨halive, hbooted⟩ hmatch hnew
    refine ⟨_, exec_syncReceived halive .., ?_⟩
    rw [syncReceived_new hbooted hmatch hnew]
    refine ⟨rfl, fun hsome => if_pos hsome, fun p hp => ?emptied, rfl, fun hop n x vs v hx hpend hv => ?written⟩
    case emptied =>
      obtain ⟨q, -, rfl⟩ := List.mem_map.mp hp
      rfl
    case written =>
      have hoperational : operational s = true := by simpa [operational] using hop
      rw [settled_pendingWrites, if_pos hoperational]
      exact List.mem_append_right _ (mem_syncWrites hx hpend hv off)
  case range =>
    intro s ms h htakes hrange
    rw [exec_timeReceived h, timeFrame_out_of_range htakes hrange]
  case near =>
    intro s ms h htakes hlo hhi hvalid hbelow habove
    rw [exec_timeReceived h, timeFrame_near htakes hlo hhi hvalid hbelow habove]
  case sets =>
    intro s ms h htakes hlo hhi hinvalid
    obtain ⟨hsecs, hshadows, hvalid, hcount⟩ :=
      calJump_steps s (ms / 1000).toNat (roundRat (((ms % 1000 : Int) : Rat) * 32768 / 1000)).toNat false
    refine ⟨_, exec_timeReceived h ms, ?_⟩
    rw [timeFrame_sets htakes hlo (by omega) hinvalid]
    simp only [calValid, rdN_settled, rdF_settled]
    exact ⟨hsecs, hvalid, hcount, hshadows⟩

end Sys2Proof.Machine
end

section
/-! SUPPORT. PDOs (R298, R300 to R303): what the data of an RPDO come to, the time-outs of RPDOs and slots, and the assembly of a
TPDO. -/
namespace Sys2Proof.Machine
open Sys2Proof Sys2Proof.OD

-- The commands in a live device -----------------------------------------------------------------------------------

theorem exec_rpdoReceived {s : State} (h : Alive s) (n : Nat) (data : List Byte) (off : Nat) :
    exec (.rpdoReceived n data off) s = .next (settled s (rpdoReceived s n data off)) := by
  change done s (act s fun s => rpdoReceived s n data off) = _
  rw [act_alive h, done]

theorem exec_rpdoTimeout {s : State} (h : Alive s) (n : Nat) : exec (.rpdoTimeout n) s = .next (settled s (rpdoTimeout s n)) := by
  change done s (act s fun s => rpdoTimeout s n) = _
  rw [act_alive h, done]

theorem exec_remoteSlotTimeout {s : State} (h : Alive s) (n : Nat) :
    exec (.remoteSlotTimeout n) s = .next (settled s (slotTimeout s n)) := by
  change done s (act s fun s => slotTimeout s n) = _
  rw [act_alive h, done]

theorem exec_tpdoAssembly {s : State} (h : Alive s) (n : Nat) :
    exec (.tpdoAssembly n) s = .next (settled s (tpdoAssembly s n)) := by
  change done s (act s fun s => tpdoAssembly s n) = _
  rw [act_alive h, done]

-- RPDOs (R297, R298, R300, R302) ------------------------------------------------------------------------------------

/-- The bytes that the mapping of RPDO `n` takes. -/
def mappedBytes (s : State) (n : Nat) : Nat := ((entries s (rMap n)).map (·.2.2)).foldl (· + ·) 0
/-- The record of RPDO `n` that notes the time and the sequence number of `data`. -/
def rpdoNoted (s : State) (n : Nat) (data : List Byte) : Rpdo :=
  { Tab.get s.net.rpdo n {} with
    rxAt := some s.now, timed := false,
    seq := if sequenced s n && 2 ≤ data.length then some (leNat (data.take 2), s.now) else (Tab.get s.net.rpdo n {}).seq }

/-- The values that `data` bring to the objects mapped, as they are stored. -/
def rpdoValues (s : State) (n : Nat) (data : List Byte) : List (Nat × Nat × List Byte) :=
  ((cutValues (entries s (rMap n)) data).filter fun v => !dummy v.1).map fun v =>
    (v.1, v.2.1, match rowOf v.1 v.2.1 with | some r => stored r v.2.2 | none => v.2.2)

/-- A value is refused, or would ask for an update that finds no place in the work table (R245, R302). -/
def valueRefused (s : State) (v : Nat × Nat × List Byte) : Bool :=
  writeRefusal s 0x100 v.1 v.2.1 v.2.2 .rpdo != 0 ||
    (within v.1 0x3300 0x3301 && v.2.1 == 0x80 && holdsEnsign s && targetRefused s (v.1 - 0x3300) v.2.2)

def setRpdo (s : State) (n : Nat) (x : Rpdo) : State := setNet s { s.net with rpdo := Tab.put s.net.rpdo n x }

section
variable {s : State} {n : Nat} {data : List Byte} (hbooted : booted s = true) (hvalid : s.net.rValid.contains n = true)
  (hmapped : entries s (rMap n) ≠ [])
include hbooted hvalid hmapped

theorem rpdoReceived_duplicate (hseq : sequenced s n = true) (hlong : 2 ≤ data.length)
    (hold : seqNew s n (leNat (data.take 2)) = false) (off : Nat) : rpdoReceived s n data off = inc s 0x1FF0 0x81 := by
  simp [rpdoReceived, hbooted, List.contains_iff_mem.mp hvalid, hmapped, hseq, hlong, hold]

/-- What a frame that is new comes to in a device that takes it, by its length, its values and its type. -/
theorem rpdoReceived_new (htakes : takesRpdos s = true)
    (hnew : sequenced s n = true → 2 ≤ data.length → seqNew s n (leNat (data.take 2)) = true) (off : Nat) :
    rpdoReceived s n data off =
      let u := setRpdo s n (rpdoNoted s n data)
      if data.length < mappedBytes s n then
        inc (emcy u { code := 0x8210, loc := 0, pennant := 0xFF, source := 0xFF, obj := 0 }) 0x1FF0 0x82
      else if (rpdoValues s n data).any (valueRefused u) then inc u 0x1FF0 0x82
      else if rdN s (rComm n) 2 ≥ 0xFE then
        foldS u (rpdoValues s n data) fun t v => pend t 0x100 (stamp t off + 1) v.1 v.2.1 v.2.2
      else setRpdo u n { rpdoNoted s n data with pend := some (rpdoValues s n data) } := by
  have hfresh : ((sequenced s n && decide (data.length ≥ 2)) && !seqNew s n (leNat (data.take 2))) = false := by
    cases hcarries : sequenced s n && decide (data.length ≥ 2) with
    | false => rfl
    | true =>
      rw [Bool.and_eq_true, decide_eq_true_eq] at hcarries
      simp [hnew hcarries.left hcarries.right]
  have hin : (!booted s || !s.net.rValid.contains n) = false := by rw [hbooted, hvalid]; rfl
  have hsome : (entries s (rMap n)).isEmpty = false := by simpa using hmapped
  simp only [rpdoReceived, hin, hsome, hfresh, htakes, Bool.not_true, Bool.false_eq_true, if_false]
  rfl

end

/-- Values that wait by one stamp wait as one write. -/
theorem foldS_pend_stamp (vs : List (Nat × Nat × List Byte)) (off : Nat) {s t : State} (hnow : t.now = s.now) :
    foldS t vs (fun t v => pend t 0x100 (stamp t off + 1) v.1 v.2.1 v.2.2) =
      foldS t vs fun t v => pend t 0x100 (stamp s off + 1) v.1 v.2.1 v.2.2 := by
  induction vs generalizing t with
  | nil => rfl
  | cons v vs ih =>
    have hstamp : stamp t off = stamp s off := by rw [stamp, hnow, stamp]
    exact (ih (t := pend t 0x100 (stamp t off + 1) v.1 v.2.1 v.2.2) hnow).trans (by rw [hstamp]; rfl)

theorem rpdoTimeout_silent {s : State} {n t₀ : Nat} {x : Rpdo} (htakes : takesRpdos s = true)
    (hvalid : s.net.rValid.contains n = true) (hx : Tab.find s.net.rpdo n = some x) (hat : x.rxAt = some t₀)
    (hunreported : x.timed = false) (htime : rdN s (rComm n) 5 ≠ 0) (hdue : t₀ + 10 * rdN s (rComm n) 5 ≤ s.now) :
    rpdoTimeout s n = emcy (setRpdo s n { x with timed := true, seq := none })
      { code := 0x8250, loc := 0, pennant := 0xFF, source := 0xFF, obj := 0 } := by
  have hget : Tab.get s.net.rpdo n {} = x := by rw [Tab.get, hx]; rfl
  have htakes' : (operational s || standby s) = true := htakes
  rw [Nat.mul_comm] at hdue
  have htime' : (rdN s (rComm n) 5 != 0) = true := bne_iff_ne.mpr htime
  simp only [rpdoTimeout, hget, hat, hvalid, htakes', hunreported, msT, hdue, htime', decide_true, Bool.and_self, Bool.not_false,
    if_true]
  rfl

theorem slotTimeout_silent {s : State} {n t₀ : Nat} (hat : Tab.find s.net.slotAt n = some t₀)
    (htime : rdN s (0x4000 + n) 0x22 ≠ 0) (hdue : t₀ + 10 * rdN s (0x4000 + n) 0x22 ≤ s.now) :
    slotTimeout s n = { s with remoteValid := s.remoteValid.filter (· != n) } := by
  rw [Nat.mul_comm] at hdue
  simp [slotTimeout, slotObj, hat, htime, msT, hdue]

-- TPDOs (R301) ------------------------------------------------------------------------------------------------------

theorem tpdoAssembly_sends {s : State} {n : Nat} (hop : operational s = true) (hspeaks : speaks s = true)
    (hvalid : s.net.tValid.contains n = true) (hwant : (Tab.get s.net.tpdo n {}).want = true)
    (hfree : (Tab.get s.net.tpdo n {}).sentAt.all (fun t₀ => t₀ + rdN s (tComm n) 3 ≤ s.now) = true) :
    tpdoAssembly s n =
      let x := Tab.get s.net.tpdo n {}
      let data := leBytes 2 s.tick ++ tpdoValues s n
      let f : Frame := { ide := bit (rdN s (tComm n) 1) 29, id := rdN s (tComm n) 1 % 2 ^ 29, data := data }
      let u := setTpdo s n { x with k0 := some (x.k0.getD s.tick), sentAt := some s.now, last := some (tpdoValues s n), want := false }
      pageData (if n > 256 then submit u 2 f true else submitPair u f true) (0x8000 + n) data := by
  have hspeaks' (x : Tpdo) : speaks (setTpdo s n x) = true := hspeaks
  have hsends : sendsTpdos s = true := by rw [sendsTpdos, hop, hspeaks]; rfl
  unfold tpdoAssembly
  simp only [hsends, hvalid, hwant, hspeaks']
  split
  · next t hat =>
    have hdue : t + rdN s (tComm n) 3 ≤ s.now := by simpa [hat] using hfree
    simp [hdue]
  · simp

-- The statement ---------------------------------------------------------------------------------------------------

/-- Settles O48: each frame and timer by its lemma above. -/
theorem pdosComeAndGo : Obligations.PdosComeAndGo := by
  unfold Obligations.PdosComeAndGo
  refine ⟨?taken, ?duplicate, ?short, ?silent, ?slot, ?tpdo⟩
  case taken =>
    intro s n data off ⟨halive, hbooted⟩ hvalid hmapped htakes hnew hlong x u vs haccepted
    have hvalues : (rpdoValues s n data).any (valueRefused (setRpdo s n (rpdoNoted s n data))) = false := by
      refine List.any_eq_false.mpr fun v hv => ?_
      obtain ⟨hpasses, hplace⟩ := haccepted v hv
      simp only [valueRefused, Bool.or_eq_true, Bool.and_eq_true, bne_iff_ne, beq_iff_eq, not_or]
      exact ⟨fun hne => hne hpasses, fun ⟨⟨⟨hport, himage⟩, hholds⟩, hrefused⟩ => hplace ⟨hport, himage, hholds, hrefused⟩⟩
    rw [exec_rpdoReceived halive, rpdoReceived_new hbooted hvalid hmapped htakes hnew]
    simp only [mappedBytes, Nat.not_lt.mpr hlong, hvalues, Bool.false_eq_true, if_false]
    rw [foldS_pend_stamp _ _ (s := s) (t := setRpdo s n (rpdoNoted s n data)) rfl]
    rfl
  case duplicate =>
    intro s n data off ⟨halive, hbooted⟩ hvalid hmapped _ hseq hlong hold
    rw [exec_rpdoReceived halive, rpdoReceived_duplicate hbooted hvalid hmapped hseq hlong hold]
  case short =>
    intro s n data off ⟨halive, hbooted⟩ hvalid hmapped htakes hseq hshort hroom
    refine ⟨_, exec_rpdoReceived halive .., ?_⟩
    have hnew : sequenced s n = true → 2 ≤ data.length → seqNew s n (leNat (data.take 2)) = true := by simp [hseq]
    rw [rpdoReceived_new hbooted hvalid hmapped htakes hnew]
    simp only [mappedBytes, hshort, if_true]
    rw [emcy_of_room (s := setRpdo s n (rpdoNoted s n data)) hroom]
    simp only [inc, settled_emcyQ, settled_pendingWrites, rdN_settled, wrN_emcyQ, wrN_pendingWrites]
    rw [rdN_wrN_self _ _ (r := rowOf 0x1FF0 0x82 |>.get rfl) rfl]
    exact ⟨rfl, rfl, rfl⟩
  case silent =>
    intro s n x t₀ h htakes hvalid hx hat hunreported htime hdue hroom
    rw [exec_rpdoTimeout h, rpdoTimeout_silent htakes hvalid hx hat hunreported htime hdue,
      emcy_of_room (s := setRpdo s n { x with timed := true, seq := none }) hroom]
    rfl
  case slot =>
    intro s n t₀ h hat htime hdue
    rw [exec_remoteSlotTimeout h, slotTimeout_silent hat htime hdue]
  case tpdo =>
    intro s n h hop hspeaks hvalid hwant hfree
    rw [exec_tpdoAssembly h, tpdoAssembly_sends hop hspeaks hvalid hwant hfree]
    rfl

end Sys2Proof.Machine
end

section
/-! SUPPORT. Heartbeats and EMCYs (R309, R311): what a heartbeat that falls due sends, what one received or missed comes to, and the
EMCY that leaves its queue. -/
namespace Sys2Proof.Machine
open Sys2Proof Sys2Proof.OD

-- The commands in a live device -----------------------------------------------------------------------------------

theorem exec_heartbeatProduce {s : State} (h : Alive s) : exec .heartbeatProduce s = .next (settled s (heartbeatProduce s)) := by
  change done s (act s heartbeatProduce) = _
  rw [act_alive h, done]

theorem exec_heartbeatReceived {s : State} (h : Alive s) (field : Bool) (k st : Nat) :
    exec (.heartbeatReceived field k st) s = .next (settled s (heartbeatReceived s field k st)) := by
  change done s (act s fun s => heartbeatReceived s field k st) = _
  rw [act_alive h, done]

theorem exec_heartbeatConsumerTimeout {s : State} (h : Alive s) (e : Nat) :
    exec (.heartbeatConsumerTimeout e) s = .next (settled s (heartbeatTimeout s e)) := by
  change done s (act s fun s => heartbeatTimeout s e) = _
  rw [act_alive h, done]

theorem exec_emcySend {s : State} (h : Alive s) : exec .emcySend s = .next (settled s (emcySend s)) := by
  change done s (act s emcySend) = _
  rw [act_alive h, done]

-- Heartbeats (R311) -------------------------------------------------------------------------------------------------

theorem heartbeatProduce_due {s : State} (hbooted : booted s = true) (hspeaks : speaks s = true) (htime : rdN s 0x1017 0 ≠ 0)
    (hdue : s.net.hbAt + 10 * rdN s 0x1017 0 ≤ s.now) :
    heartbeatProduce s = heartbeatNow (setNet s { s.net with hbAt := s.now }) := by
  have hnow : ¬ s.now < s.net.hbAt + rdN s 0x1017 0 * 10 := by omega
  simp [heartbeatProduce, hbooted, hspeaks, htime, msT, hnow]

theorem heartbeatProduce_early {s : State} (h : rdN s 0x1017 0 = 0 ∨ s.now < s.net.hbAt + 10 * rdN s 0x1017 0) :
    heartbeatProduce s = s := by
  rcases h with hoff | hearly
  · simp [heartbeatProduce, hoff]
  · have hwaits : s.now < s.net.hbAt + rdN s 0x1017 0 * 10 := by omega
    simp [heartbeatProduce, msT, hwaits]

/-- What a heartbeat of producer `k` on the building pair does to entry `i` + 1 of 0x1016. -/
def entryHears (k : Nat) (s : State) (i : Nat) : State :=
  let e := rdN s 0x1016 (i + 1)
  if e / 65536 % 256 == k && e % 65536 != 0 then
    condEnd (setNet s { s.net with heard := Tab.put s.net.heard (i + 1) s.now }) 48 (i + 1) 0
  else s

theorem heartbeatReceived_pair {s : State} (hbooted : booted s = true) (hactive : standby s = false) (k st : Nat) :
    heartbeatReceived s false k st = foldS s (List.range 8) (entryHears k) := by
  simp only [heartbeatReceived, hbooted, hactive, Bool.not_true, Bool.false_eq_true, if_false]
  rfl

theorem heartbeatReceived_field {s : State} (hbooted : booted s = true) {k : Nat} (hassigned : assigned s k = true) (st : Nat) :
    heartbeatReceived s true k st = wrN (setNode s k { fieldNode s k with heardAt := some s.now }) 0x1F82 k st := by
  simp [heartbeatReceived, hbooted, hassigned]

/-- An entry is heard, its time noted and its cause ended, or stays. -/
theorem entryHears_cases (k : Nat) (s : State) (i : Nat) :
    (rdN s 0x1016 (i + 1) / 65536 % 256 = k ∧ rdN s 0x1016 (i + 1) % 65536 ≠ 0 ∧ entryHears k s i =
        condEnd (setNet s { s.net with heard := Tab.put s.net.heard (i + 1) s.now }) 48 (i + 1) 0) ∨
      (¬ (rdN s 0x1016 (i + 1) / 65536 % 256 = k ∧ rdN s 0x1016 (i + 1) % 65536 ≠ 0) ∧ entryHears k s i = s) := by
  by_cases h : rdN s 0x1016 (i + 1) / 65536 % 256 = k ∧ rdN s 0x1016 (i + 1) % 65536 ≠ 0
  · exact .inl ⟨h.left, h.right, if_pos (by simpa using h)⟩
  · exact .inr ⟨h, if_neg (by simpa using h)⟩

theorem entryHears_keeps (k : Nat) (s : State) (i : Nat) {j : Nat} (hj : j < 256) :
    (entryHears k s i).now = s.now ∧ rdN (entryHears k s i) 0x1016 j = rdN s 0x1016 j := by
  obtain ⟨-, -, hheard⟩ | ⟨-, hstays⟩ := entryHears_cases k s i
  · rw [hheard, (told_condEnd ..).now_eq, rdN_condEnd (by decide) hj _ (by decide)]
    exact ⟨rfl, rfl⟩
  · rw [hstays]
    exact ⟨rfl, rfl⟩

/-- R311: every entry of its producer notes the time, and its cause ends. -/
theorem heartbeatReceived_restarts {s : State} {e : Nat} (hbooted : booted s = true) (hactive : standby s = false) (hlo : 1 ≤ e)
    (hhi : e ≤ 8) (htime : rdN s 0x1016 e % 65536 ≠ 0) (st : Nat) :
    let t := heartbeatReceived s false (rdN s 0x1016 e / 65536 % 256) st
    Tab.find t.net.heard e = some s.now ∧ (48, e) ∉ t.conds := by
  obtain ⟨i, rfl⟩ : ∃ i, e = i + 1 := ⟨e - 1, by omega⟩
  simp only [heartbeatReceived_pair hbooted hactive]
  refine foldS_brings (I := fun t => t.now = s.now ∧ rdN t 0x1016 (i + 1) = rdN s 0x1016 (i + 1))
    (P := fun t => Tab.find t.net.heard (i + 1) = some s.now ∧ (48, i + 1) ∉ t.conds)
    (a := i) (List.mem_range.mpr (by omega)) ?keeps ?brings ?stands ⟨rfl, rfl⟩
  case keeps =>
    intro t b _ ⟨hnow, hentry⟩
    obtain ⟨hnow', hentry'⟩ := entryHears_keeps (rdN s 0x1016 (i + 1) / 65536 % 256) t b (j := i + 1) (by omega)
    exact ⟨hnow'.trans hnow, hentry'.trans hentry⟩
  case brings =>
    intro t ⟨hnow, hentry⟩
    rcases entryHears_cases (rdN s 0x1016 (i + 1) / 65536 % 256) t i with ⟨-, -, hheard⟩ | ⟨hother, -⟩
    · rw [hheard, (told_condEnd ..).net_eq, condEnd_conds, setNet_net, Tab.find_put_self, hnow]
      exact ⟨rfl, by simp⟩
    · exact absurd ⟨by rw [hentry], by rwa [hentry]⟩ hother
  case stands =>
    intro t b _ hb _ ⟨hfound, hended⟩
    rcases entryHears_cases (rdN s 0x1016 (i + 1) / 65536 % 256) t b with ⟨-, -, hheard⟩ | ⟨-, hstays⟩
    · rw [hheard, (told_condEnd ..).net_eq, condEnd_conds, setNet_net, Tab.find_put_ne _ _ (by omega)]
      exact ⟨hfound, fun hmem => hended ((List.mem_filter.mp hmem).left)⟩
    · rw [hstays]
      exact ⟨hfound, hended⟩

theorem heartbeatTimeout_silent {s : State} {e t₀ : Nat} (hactive : standby s = false) (htime : rdN s 0x1016 e % 65536 ≠ 0)
    (hheard : Tab.find s.net.heard e = some t₀) (hdue : t₀ + 10 * (rdN s 0x1016 e % 65536) ≤ s.now) :
    heartbeatTimeout s e = condStart s 48 e 0 0xFF := by
  rw [Nat.mul_comm] at hdue
  simp [heartbeatTimeout, hactive, htime, hheard, msT, hdue]

-- The start of a condition (R451, R453) -----------------------------------------------------------------------------

theorem logAdd_emcyQ (s : State) (code loc qual data : Nat) : (logAdd s code loc qual data).emcyQ = s.emcyQ := by
  unfold logAdd
  simp only
  split <;> simp [wrBit, inc]

theorem raiseBit_emcyQ (s : State) (p : Nat) : (raiseBit s p).emcyQ = s.emcyQ := by simp [raiseBit, irq, wrBit, inc]

/-- A pennant with a code queues one EMCY where there is room. -/
theorem announce_emcyQ {s : State} {p : Nat} (hcode : pennantCode p ≠ 0) (hroom : s.emcyQ.length < 32) (loc src : Nat) :
    (announce s p loc src).emcyQ =
      s.emcyQ ++ [{ code := pennantCode p, loc := loc, pennant := p, source := src, obj := 0 }] := by
  have hqueue (l : List Nat) : (errorRegister { s with announced := l }).emcyQ = s.emcyQ := wrN_emcyQ ..
  rw [announce, if_neg (by simpa using hcode)]
  simp only
  rw [emcy_of_room (by rwa [hqueue]), hqueue]

/-- The bits of the pennants stand in 32-bit words. -/
theorem rowOf_pennantWord : ∀ j ∈ [1, 2, 3, 4, 0x80, 0x81, 0x82, 0x83], (rowOf 0x2700 j).map (·.ty.width) = some 4 := by decide
theorem rdBit_pennantWord (s : State) {j n : Nat} (hj : j ∈ [1, 2, 3, 4, 0x80, 0x81, 0x82, 0x83]) (hn : n < 32) :
    rdBit (wrBit s 0x2700 j n true) 0x2700 j n = true := by
  obtain ⟨r, hrow, hwidth⟩ := Option.map_eq_some_iff.mp (rowOf_pennantWord j hj)
  exact rdBit_wrBit_self s hrow (by omega)

/-- Raising a pennant sets its bit and leaves the words of the conditions. -/
theorem raiseBit_pennants (s : State) {p : Nat} (hp : p < 128) :
    rdBit (raiseBit s p) 0x2700 (1 + p / 32) (p % 32) = true ∧
      ∀ j, 0x85 ≤ j ∨ 0x80 ≤ j ∧ j ≤ 0x83 → j < 256 → rdN (raiseBit s p) 0x2700 j = rdN s 0x2700 j := by
  have hset := rdBit_pennantWord s (j := 1 + p / 32) (n := p % 32) (by simp; omega) (by omega)
  have htimed (t : State) (m : Tab Nat) (j : Nat) : rdN { t with penTick := m } 0x2700 j = rdN t 0x2700 j := rfl
  refine ⟨?_, fun j hrange hj => ?_⟩
  · rw [rdBit, raiseBit, rdN_irq_object _ (by omega) (by decide), htimed, inc, rdN_wrN_sub _ _ _ (by omega)]
    exact hset
  · rw [raiseBit, rdN_irq_object _ hj (by decide), htimed, inc, rdN_wrN_sub _ _ _ (by omega), wrBit,
      rdN_wrN_sub _ _ _ (by omega)]

/-- The first cause of a condition with a code queues its EMCY and sets both its bits. -/
theorem condStart_first {s : State} {p : Nat} (hp : p < 128) (hpart : pennantAbsent s p = false)
    (hfirst : s.conds.any (·.1 == p) = false) (hcode : pennantCode p ≠ 0) (hroom : s.emcyQ.length < 32) (c loc src : Nat) :
    let t := condStart s p c loc src
    t.emcyQ = s.emcyQ ++ [{ code := pennantCode p, loc := loc, pennant := p, source := src, obj := 0 }] ∧
      condHolds t p = true ∧ pennantSet t p = true := by
  have hnew : (p, c) ∉ s.conds := fun hmem => by simpa using List.any_eq_false.mp hfirst _ hmem
  have hstart : condStart s p c loc src = announce (logAdd (raiseBit (wrBit { s with conds := (p, c) :: s.conds }
      0x2700 (0x80 + p / 32) (p % 32) true) p) 2 loc p 0) p loc src := by
    simp [condStart, hpart, hnew, hfirst]
  have htold {j : Nat} (hj : j < 256) (t : State) : rdN (announce (logAdd t 2 loc p 0) p loc src) 0x2700 j = rdN t 0x2700 j := by
    rw [rdN_announce_object _ hj (by decide) (by decide), rdN_logAdd_object _ hj (by decide) (by decide)]
  obtain ⟨hraised, hstands⟩ := raiseBit_pennants
    (wrBit { s with conds := (p, c) :: s.conds } 0x2700 (0x80 + p / 32) (p % 32) true) hp
  simp only [hstart]
  refine ⟨?queued, ?holds, ?set⟩
  case queued =>
    have hqueue : (logAdd (raiseBit (wrBit { s with conds := (p, c) :: s.conds } 0x2700 (0x80 + p / 32) (p % 32) true) p)
        2 loc p 0).emcyQ = s.emcyQ := by rw [logAdd_emcyQ, raiseBit_emcyQ, wrBit, wrN_emcyQ]
    rw [announce_emcyQ hcode (by rwa [hqueue]), hqueue]
  case holds =>
    rw [condHolds, rdBit, htold (by omega), hstands _ (by omega) (by omega)]
    exact rdBit_pennantWord _ (by simp; omega) (by omega)
  case set =>
    rw [pennantSet, rdBit, htold (by omega)]
    exact hraised

-- EMCYs (R309) ------------------------------------------------------------------------------------------------------

/-- `s` once the EMCY `e`, the first of its queue, is submitted on both buses, with IRQ source 6. -/
def emcySent (s : State) (e : Emcy) (rest : List Emcy) : State :=
  irq (sendPair { s with emcyQ := rest, emcyAt := some s.now } (0x80 + nodeId s) (emcyBytes s e)) 6

/-- The codes of 0x1003:02 to 10 take those `old`. -/
def codesMoved (s : State) (old : List Nat) : State := foldS s (List.range 15) fun s i => wrN s 0x1003 (i + 2) (old.getD i 0)

theorem emcySend_sends {s : State} {e : Emcy} {rest : List Emcy} (hbooted : booted s = true) (hspeaks : speaks s = true)
    (hnmt : nmt s = 5 ∨ nmt s = 0x7F) (hqueue : s.emcyQ = e :: rest)
    (hfree : s.emcyAt.all (fun t₀ => t₀ + rdN s 0x1015 0 ≤ s.now) = true) :
    emcySend s =
      let u := emcySent s e rest
      let v := codesMoved u ((List.range 15).map fun i => rdN u 0x1003 (i + 1))
      wrN (wrN v 0x1003 1 e.code) 0x1003 0 (Nat.min 16 (rdN v 0x1003 0 + 1)) := by
  have hstate : (nmt s == 5 || nmt s == 0x7F) = true := by simpa using hnmt
  unfold emcySend
  simp only [hqueue]
  split
  · next t hat =>
    have hdue : t + rdN s 0x1015 0 ≤ s.now := by simpa [hat] using hfree
    rw [if_neg (by simp [hbooted, hspeaks, hstate, Nat.not_lt.mpr hdue])]
    rfl
  · rw [if_neg (by simp [hbooted, hspeaks, hstate])]
    rfl

theorem codesMoved_keeps (s : State) (old : List Nat) : (codesMoved s old).emcyQ = s.emcyQ ∧ (codesMoved s old).emcyAt = s.emcyAt ∧
    ∀ i j, j < 256 → i ≠ 0x1003 ∨ j < 2 → rdN (codesMoved s old) i j = rdN s i j := by
  refine ⟨foldS_keeps State.emcyQ (fun _ _ => wrN_emcyQ ..) _ s, foldS_keeps State.emcyAt (fun _ _ => wrN_emcyAt ..) _ s,
    fun i j hj hother => ?_⟩
  refine foldS_keeps_mem (rdN · i j) (fun t a ha => rdN_wrN_ne t _ ?_) s
  have ha := List.mem_range.mp ha
  rw [Ne, key_inj (by omega) hj]
  omega

theorem rdN_codesMoved (s : State) {old : List Nat} {i : Nat} (hi : i < 15) :
    rdN (codesMoved s old) 0x1003 (i + 2) = old.getD i 0 % 2 ^ 32 := by
  have hrow : rowOf 0x1003 (i + 2) = some { lo := 1, hi := 16, ty := .u32, acc := .ro, per := .v, eff := .none, dfl := [0] } := by
    simp [rowOf, rowsFull, rowsComm, within]
    omega
  refine foldS_brings (I := fun _ => True) (P := fun t => rdN t 0x1003 (i + 2) = old.getD i 0 % 2 ^ 32) (a := i)
    (List.mem_range.mpr hi) (fun _ _ _ _ => trivial) (fun t _ => ?_) (fun t b _ hb _ hstands => ?_) trivial
  · rw [rdN_wrN_self t _ hrow]
    rfl
  · rw [rdN_wrN_sub _ _ _ (by omega), hstands]

theorem emcySent_keeps (s : State) (e : Emcy) (rest : List Emcy) : (emcySent s e rest).emcyQ = rest ∧
    (emcySent s e rest).emcyAt = some s.now ∧ rdBit (emcySent s e rest) 0x2810 0x80 6 = true ∧
    ∀ j, j < 256 → rdN (emcySent s e rest) 0x1003 j = rdN s 0x1003 j := by
  have hsent := submitted_submitPair { s with emcyQ := rest, emcyAt := some s.now }
    { id := 0x80 + nodeId s, data := emcyBytes s e } false
  obtain ⟨hqueue, hat⟩ := hsent.emcy_eq
  refine ⟨?_, ?_, rdBit_wrBit_self _ (r := rowOf 0x2810 0x80 |>.get rfl) rfl (by decide), fun j hj => ?_⟩
  · rw [emcySent, irq, wrBit, wrN_emcyQ]
    exact hqueue
  · rw [emcySent, irq, wrBit, wrN_emcyAt]
    exact hat
  · rw [emcySent, rdN_irq_object _ hj (by decide)]
    exact hsent.rdN_eq (by decide) hj

/-- R309: the oldest EMCY leaves the queue, and 0x1003 keeps its code before those it had. -/
theorem emcySend_leaves {s : State} {e : Emcy} {rest : List Emcy} (hbooted : booted s = true) (hspeaks : speaks s = true)
    (hnmt : nmt s = 5 ∨ nmt s = 0x7F) (hqueue : s.emcyQ = e :: rest)
    (hfree : s.emcyAt.all (fun t₀ => t₀ + rdN s 0x1015 0 ≤ s.now) = true) :
    let t := emcySend s
    t.emcyQ = rest ∧ t.emcyAt = some s.now ∧ rdN t 0x1003 1 = e.code % 2 ^ 32 ∧ rdN t 0x1003 0 = min 16 (rdN s 0x1003 0 + 1) ∧
      (∀ j, 1 ≤ j → j ≤ 15 → rdN t 0x1003 (j + 1) = rdN s 0x1003 j % 2 ^ 32) ∧ rdBit t 0x2810 0x80 6 = true := by
  obtain ⟨hrest, hat, hirq, hcodes⟩ := emcySent_keeps s e rest
  obtain ⟨hrest', hat', hother⟩ := codesMoved_keeps (emcySent s e rest)
    ((List.range 15).map fun i => rdN (emcySent s e rest) 0x1003 (i + 1))
  have hmoved {i : Nat} (hi : i < 15) := rdN_codesMoved (emcySent s e rest)
    (old := (List.range 15).map fun i => rdN (emcySent s e rest) 0x1003 (i + 1)) hi
  simp only [emcySend_sends hbooted hspeaks hnmt hqueue hfree]
  generalize hv : codesMoved (emcySent s e rest) ((List.range 15).map fun i => rdN (emcySent s e rest) 0x1003 (i + 1)) = v
    at hrest' hat' hother hmoved
  refine ⟨?_, ?_, ?first, ?count, fun j hlo hhi => ?moved, ?irq⟩
  · rw [wrN_emcyQ, wrN_emcyQ, hrest', hrest]
  · rw [wrN_emcyAt, wrN_emcyAt, hat', hat]
  case first =>
    rw [rdN_wrN_sub _ _ _ (by decide), rdN_wrN_self _ _ (r := rowOf 0x1003 1 |>.get rfl) rfl]
    rfl
  case count =>
    rw [rdN_wrN_self _ _ (r := rowOf 0x1003 0 |>.get rfl) rfl, hother _ _ (by decide) (by decide), hcodes _ (by decide)]
    exact Nat.mod_eq_of_lt (Nat.lt_of_le_of_lt (Nat.min_le_left ..) (by decide))
  case moved =>
    obtain ⟨i, rfl⟩ : ∃ i, j = i + 1 := ⟨j - 1, by omega⟩
    rw [rdN_wrN_sub _ _ _ (by omega), rdN_wrN_sub _ _ _ (by omega), hmoved (by omega), List.getD_eq_getElem?_getD,
      List.getElem?_map, List.getElem?_range (by omega), Option.map_some, Option.getD_some, hcodes _ (by omega)]
  case irq =>
    rw [rdBit, rdN_wrN_object _ (by decide) (by decide) (by decide), rdN_wrN_object _ (by decide) (by decide) (by decide),
      hother _ _ (by decide) (by decide)]
    exact hirq

-- The statement ---------------------------------------------------------------------------------------------------

/-- Settles O49: each command by its lemma above. -/
theorem heartbeatsAndEmcys : Obligations.HeartbeatsAndEmcys := by
  unfold Obligations.HeartbeatsAndEmcys
  refine ⟨?due, ?early, ?heard, ?field, ?silent, ?sent⟩
  case due =>
    intro s ⟨halive, hbooted⟩ hspeaks htime hdue
    rw [exec_heartbeatProduce halive, heartbeatProduce_due hbooted hspeaks htime hdue]
    rfl
  case early =>
    intro s h hearly
    rw [exec_heartbeatProduce h, heartbeatProduce_early hearly]
  case heard =>
    rintro s e k st ⟨halive, hbooted⟩ hactive hlo hhi rfl htime
    exact ⟨_, exec_heartbeatReceived halive .., heartbeatReceived_restarts hbooted hactive hlo hhi htime st⟩
  case field =>
    intro s k st ⟨halive, hbooted⟩ _ _ hassigned
    rw [exec_heartbeatReceived halive, heartbeatReceived_field hbooted hassigned]
  case silent =>
    intro s e t₀ h hactive htime hheard hdue
    refine ⟨_, exec_heartbeatConsumerTimeout h e, ?_⟩
    have hpart : pennantAbsent s 48 = false := Bool.and_false _
    rw [heartbeatTimeout_silent hactive htime hheard hdue]
    refine ⟨mem_conds_condStart hpart .., fun _ hfirst hroom => ?_⟩
    obtain ⟨hqueue, hholds, hset⟩ := condStart_first (by decide) hpart hfirst (by decide) hroom e 0 0xFF
    rw [condHolds, pennantSet, rdBit, rdBit, rdN_settled, rdN_settled, settled_emcyQ, hqueue, List.map_append]
    exact ⟨rfl, hholds, hset⟩
  case sent =>
    intro s e rest ⟨halive, hbooted⟩ hspeaks hnmt hqueue hfree
    refine ⟨_, exec_emcySend halive, ?_⟩
    simp only [rdBit, rdN_settled]
    exact emcySend_leaves hbooted hspeaks hnmt hqueue hfree

end Sys2Proof.Machine
end

section
/-! SUPPORT. Operations on field nodes (R314 to R316): the status and the record of a node after each, and its pennant. -/
namespace Sys2Proof.Machine
open Sys2Proof Sys2Proof.OD

section
variable {k : Nat} (hlo : 1 ≤ k) (hhi : k ≤ 127)
include hlo hhi

theorem rowOf_nodeStatus : rowOf 0x1F83 k =
    some { lo := 0x01, hi := 0x7F, ty := .u8, rng := [(0, 7)], acc := .ro, per := .v, eff := .none, dfl := [0] } := by
  have hfirst : k ≠ 0 := by omega
  simp [rowOf, rowsFull, rows1F83, within, hfirst]
  omega

theorem bootStatus_wrN_self {v : Nat} (hv : v < 256) (s : State) : bootStatus (wrN s 0x1F83 k v) k = v := by
  rw [bootStatus, rdN_wrN_self s v (rowOf_nodeStatus hlo hhi)]
  exact Nat.mod_eq_of_lt hv

-- A node that is missing, mismatched or lost (R314, R315) -----------------------------------------------------------

/-- The node's status is noted; all else that `nodeBad` does is a report. -/
theorem nodeBad_status {status : Nat} (hstatus : status < 256) (s : State) : bootStatus (nodeBad s k status) k = status := by
  have hnoted := bootStatus_wrN_self hlo hhi hstatus s
  have hemcy (t : State) (e : Emcy) : bootStatus (emcy t e) k = bootStatus t k := rdN_emcy (by decide) (by omega) t e
  have hstart (t : State) : bootStatus (condStart t 49 k 0 k) k = bootStatus t k :=
    rdN_condStart (by decide) (by omega) t (by decide) ..
  unfold nodeBad
  simp only
  split
  · rw [hstart, hnoted]
  · split
    · rw [hemcy, hstart, hnoted]
    · rw [hemcy, hnoted]

end

/-- A mandatory node starts FIELD_NODE_MISSING. -/
theorem nodeBad_conds {s : State} {k : Nat} (hhi : k ≤ 127) (hmandatory : mandatory s k = true) (status : Nat) :
    (49, k) ∈ (nodeBad s k status).conds := by
  have hstands : mandatory (wrN s 0x1F83 k status) k = true := by
    rw [mandatory, rdBit, rdN_wrN_object s (by decide) (by omega) (by omega)]
    exact hmandatory
  have hpart : pennantAbsent (wrN s 0x1F83 k status) 49 = false := Bool.and_false _
  unfold nodeBad
  simp only [hstands, if_true]
  split
  · exact mem_conds_condStart hpart ..
  · rw [emcy_conds]
    exact mem_conds_condStart hpart ..

theorem told_nodeBad (s : State) (k status : Nat) : Told s (nodeBad s k status) := by
  have hnoted := told_wrN s 0x1F83 k status
  unfold nodeBad
  simp only
  split
  · exact hnoted.trans (told_condStart ..)
  · refine hnoted.trans (Told.trans ?_ (told_emcy ..))
    split
    · exact told_condStart ..
    · exact Told.refl _

-- The end of a node's transfers (R316) ------------------------------------------------------------------------------

@[simp] theorem fieldNode_xferEnd (s : State) (k : Nat) (ok : Bool) (reason : Nat) :
    fieldNode (xferEnd s k ok reason) k = { fieldNode s k with item := none, xfer := 0, waiting := false } :=
  fieldNode_setNode_self ..

/-- The item of the transfers ends in the work table, with at most a log entry and an interrupt. -/
theorem xferEnd_eq (s : State) (k : Nat) (ok : Bool) (reason : Nat) :
    ∃ u, xferEnd s k ok reason = setNode u k { fieldNode s k with item := none, xfer := 0, waiting := false } ∧
      (u = s ∨ ∃ i, (fieldNode s k).item = some i ∧ u = if ok then itemDone s i else itemFail s i reason 0) := by
  refine ⟨_, rfl, ?_⟩
  cases hitem : (fieldNode s k).item with
  | none => exact .inl rfl
  | some i => exact .inr ⟨i, rfl, rfl⟩

theorem xferEnd_fails {s : State} {k i : Nat} (hitem : (fieldNode s k).item = some i) (reason : Nat) :
    xferEnd s k false reason =
      setNode (itemFail s i reason 0) k { fieldNode s k with item := none, xfer := 0, waiting := false } := by
  simp only [xferEnd, hitem, Bool.false_eq_true, if_false]

theorem xferEnd_now (s : State) (k : Nat) (ok : Bool) (reason : Nat) : (xferEnd s k ok reason).now = s.now := by
  obtain ⟨u, hend, rfl | ⟨i, -, rfl⟩⟩ := xferEnd_eq s k ok reason
  · rw [hend, setNode_now]
  · rw [hend, setNode_now]
    split
    · exact (keepsDue_itemDone s i).left
    · exact (keepsDue_itemFail s i reason 0).left

theorem rdN_xferEnd (s : State) {k i j : Nat} (hlog : i ≠ 0x2710) (hhost : i ≠ 0x2810) (hj : j < 256) (ok : Bool) (reason : Nat) :
    rdN (xferEnd s k ok reason) i j = rdN s i j := by
  obtain ⟨u, hend, rfl | ⟨n, -, rfl⟩⟩ := xferEnd_eq s k ok reason
  · rw [hend, rdN_setNode]
  · rw [hend, rdN_setNode]
    split
    · exact rdN_itemDone_object s hj hhost n
    · exact rdN_itemFail_object s hj hlog hhost n reason 0

theorem mandatory_xferEnd (s : State) {k : Nat} (hhi : k ≤ 127) (ok : Bool) (reason : Nat) :
    mandatory (xferEnd s k ok reason) k = mandatory s k := by
  rw [mandatory, rdBit, rdN_xferEnd s (by decide) (by decide) (by omega), mandatory, rdBit]

-- A node that is checked (R314) -------------------------------------------------------------------------------------

theorem bootStatus_countChecked (s : State) {k : Nat} (hhi : k ≤ 127) : bootStatus (countChecked s) k = bootStatus s k :=
  rdN_wrN_object s (by decide) (by decide) (by omega) _

theorem told_countChecked (s : State) : Told s (countChecked s) := told_wrN ..
/-- A start leaves a node's status and its transfers. -/
theorem startNodes_keeps (s : State) {k : Nat} (hhi : k ≤ 127) :
    bootStatus (startNodes s) k = bootStatus s k ∧ (fieldNode (startNodes s) k).item = (fieldNode s k).item := by
  have hsent (s : State) (j : Nat) : Submitted s (sendFieldNmt s 1 j) := submitted_submit ..
  unfold startNodes
  split
  · exact ⟨rfl, rfl⟩
  · refine ⟨foldS_keeps (bootStatus · k) (fun s j => ?_) _ s, foldS_keeps (fun s => (fieldNode s k).item) (fun s j => ?_) _ s⟩
    · split
      · exact (hsent s j).rdN_eq (by decide) (by omega)
      · rfl
    · split
      · by_cases hj : j = k
        · subst hj
          rw [fieldNode_setNode_self]
        · rw [fieldNode_setNode_ne _ _ _ hj, (hsent s j).fieldNode_eq]
      · rfl

theorem nodeChecked_stands {k : Nat} (hlo : 1 ≤ k) (hhi : k ≤ 127) (s : State) :
    bootStatus (nodeChecked s k) k = 4 ∧ (fieldNode (nodeChecked s k) k).item = none := by
  have hended : bootStatus (condEnd (wrN s 0x1F83 k 4) 49 k 0) k = 4 := by
    rw [bootStatus, rdN_condEnd (by decide) (by omega) _ (by decide)]
    exact bootStatus_wrN_self hlo hhi (by decide) s
  unfold nodeChecked
  simp only
  obtain ⟨hstatus, hitem⟩ := startNodes_keeps (countChecked (setNode (condEnd (wrN s 0x1F83 k 4) 49 k 0) k
    { fieldNode (condEnd (wrN s 0x1F83 k 4) 49 k 0) k with xfer := 0, item := none, started := false, retryAt := 0 })) hhi
  rw [hstatus, hitem, bootStatus_countChecked _ hhi, (told_countChecked _).fieldNode_eq, fieldNode_setNode_self]
  exact ⟨(rdN_setNode ..).trans hended, rfl⟩

end Sys2Proof.Machine
end

section
/-! SUPPORT. The USDO server (R287, R306 to R308): how a request takes its work item, what a read is answered, and what the end of a
silent transfer or of a cut-off item leaves. -/
namespace Sys2Proof.Machine
open Sys2Proof Sys2Proof.OD

-- The commands in a live device -----------------------------------------------------------------------------------

theorem exec_usdoRequest {s : State} (h : Alive s) (client : Nat) (op : UsdoOp) (off : Nat) :
    exec (.usdoRequest client op off) s = .next (settled s (storeHash s (usdoRequest s client op off))) := by
  change done s (act s fun s => storeHash s (usdoRequest s client op off)) = _
  rw [act_alive h, done]

theorem exec_usdoSegmentTimeout {s : State} (h : Alive s) (client : Nat) :
    exec (.usdoSegmentTimeout client) s = .next (settled s (usdoSegmentTimeout s client)) := by
  change done s (act s fun s => usdoSegmentTimeout s client) = _
  rw [act_alive h, done]

theorem exec_workItemDeadline {s : State} (h : Alive s) (i : Nat) :
    exec (.workItemDeadline i) s = .next (settled s (workItemDeadline s i)) := by
  change done s (act s fun s => workItemDeadline s i) = _
  rw [act_alive h, done]

theorem exec_usdoServiceStart {s : State} (h : Alive s) (off : Nat) :
    exec (.usdoServiceStart off) s = .next (settled s (storeHash s (usdoServiceStart s off))) := by
  change done s (act s fun s => storeHash s (usdoServiceStart s off)) = _
  rw [act_alive h, done]

-- Answers and the ends of items -------------------------------------------------------------------------------------

theorem answer_le {client : Nat} (h : client ≤ 0x80) (s : State) (code : Nat) (data : List Byte) :
    answer s client code data = { s with answers := Tab.put s.answers client { code := code, data := data } } :=
  if_neg (Nat.not_lt.mpr h)

theorem abort_work (s : State) (client code : Nat) : (abort s client code).work = s.work := by
  unfold abort answer
  split <;> rfl

theorem itemSet_found {s : State} {i : Nat} {w : WorkItem} (hw : Tab.find s.work i = some w) (f : WorkItem → WorkItem) :
    itemSet s i f = { s with work := Tab.put s.work i (f w) } := by rw [itemSet, hw]

/-- An item in flight that fails stands FAILED with its reason and code. -/
theorem itemFail_work {s : State} {i : Nat} {w : WorkItem} (hw : Tab.find s.work i = some w) (hflight : w.state < 2)
    (reason code : Nat) : Tab.find (itemFail s i reason code).work i =
      some { w with state := 3, reason := reason, ended := s.tick, abort := code } := by
  rw [itemFail, hw]
  simp only [hflight, if_true]
  rw [(told_irq ..).work_eq, (told_logAdd ..).work_eq, itemSet_found hw, Tab.find_put_self]

/-- The answers and the network services stand. -/
def KeepsServices (s t : State) : Prop := t.answers = s.answers ∧ t.net = s.net

theorem KeepsServices.refl (s : State) : KeepsServices s s := ⟨rfl, rfl⟩
theorem KeepsServices.trans {s t u : State} (h : KeepsServices s t) (k : KeepsServices t u) : KeepsServices s u := by
  obtain ⟨hanswers, hnet⟩ := h
  obtain ⟨kanswers, knet⟩ := k
  exact ⟨kanswers.trans hanswers, knet.trans hnet⟩

theorem Told.keepsServices {s t : State} (h : Told s t) : KeepsServices s t := ⟨h.answers_eq, h.net_eq⟩
theorem keepsServices_itemSet (s : State) (i : Nat) (f : WorkItem → WorkItem) : KeepsServices s (itemSet s i f) := by
  unfold itemSet
  split
  · exact ⟨rfl, rfl⟩
  · exact .refl s

theorem keepsServices_itemDone (s : State) (i : Nat) : KeepsServices s (itemDone s i) := by
  unfold itemDone
  split
  · split
    · simp only
      split
      · exact (keepsServices_itemSet ..).trans (told_irq ..).keepsServices
      · exact keepsServices_itemSet ..
    · exact .refl s
  · exact .refl s

theorem keepsServices_itemFail (s : State) (i reason code : Nat) : KeepsServices s (itemFail s i reason code) := by
  unfold itemFail
  split
  · split
    · exact (keepsServices_itemSet ..).trans ((told_logAdd ..).trans (told_irq ..)).keepsServices
    · exact .refl s
  · exact .refl s

theorem keepsServices_journalDrop (s : State) (i : Nat) : KeepsServices s (journalDrop s i) := by
  unfold journalDrop
  split
  · split
    · exact KeepsServices.trans (t := setStore s _) ⟨rfl, rfl⟩ (told_wrN ..).keepsServices
    · exact .refl s
  · exact .refl s

theorem keepsServices_finish (s : State) (i code : Nat) : KeepsServices s (finish s i code) := by
  unfold finish
  refine KeepsServices.trans ?_ (keepsServices_journalDrop ..)
  split
  · exact keepsServices_itemDone ..
  · exact keepsServices_itemFail ..

theorem journalDrop_work (s : State) (i : Nat) : (journalDrop s i).work = s.work := by
  unfold journalDrop
  split
  · split
    · exact wrN_work ..
    · rfl
  · rfl

theorem storeHash_answers (s t : State) : (storeHash s t).answers = t.answers := by
  obtain ⟨x, hx⟩ := storeHash_eq s t
  rw [hx]

-- Requests (R306, R307) ---------------------------------------------------------------------------------------------

section
variable {s : State} {client : Nat} (hbooted : booted s = true) (hspeaks : speaks s = true) (hnmt : nmt s = 5 ∨ nmt s = 0x7F)
include hbooted hspeaks hnmt

theorem usdo_serves : (!booted s || !speaks s || !(nmt s == 5 || nmt s == 0x7F)) = false := by
  rw [hbooted, hspeaks]
  rcases hnmt with hnmt | hnmt <;> simp [hnmt]

theorem usdoRequest_full (hfull : noCapacity s client = true) (i j off : Nat) :
    usdoRequest s client (.read i j) off = abort (inc s 0x1FF0 0x84) client 0x060A0023 := by
  simp only [usdoRequest, usdo_serves hbooted hspeaks hnmt, usdoObject, takeItem, hfull, Bool.false_eq_true, if_false, if_true]

/-- A read that takes its item is served, or put in the row of those that wait. -/
theorem usdoRequest_takes (hquiet : quiescing s = false) (hroom : noCapacity s client = false) {i j n : Nat} {u : State}
    (hitem : newItem s 1 client i j = (u, some n)) (off : Nat) : usdoRequest s client (.read i j) off =
      let q : UsdoReq := { client := client, item := n, op := .read i j }
      if u.net.serving then serveUsdo u q off else setNet u { u.net with reqs := u.net.reqs ++ [q] } := by
  simp only [usdoRequest, usdo_serves hbooted hspeaks hnmt, usdoObject, takeItem, hroom, hquiet, hitem, Bool.false_eq_true,
    if_false]

theorem usdoRequest_no_transfer (hnone : Tab.find s.net.xfers client = none) (d : List Byte) (last : Bool) (bus off : Nat) :
    usdoRequest s client (.segment d last bus) off = abort s client 0x05040001 := by
  simp only [usdoRequest, usdo_serves hbooted hspeaks hnmt, Bool.false_eq_true, if_false, usdoSegment, hnone]

end

theorem usdoRequest_ignored {s : State} (h : nmt s ≠ 5 ∧ nmt s ≠ 0x7F ∨ booted s = false ∨ speaks s = false) (client : Nat)
    (op : UsdoOp) (off : Nat) : usdoRequest s client op off = s := by
  refine if_pos ?_
  rcases h with ⟨hoperational, hpre⟩ | hunbooted | hsilent
  · simp [hoperational, hpre]
  · simp [hunbooted]
  · simp [hsilent]

theorem newItem_net {s u : State} {kind origin i j n : Nat} (h : newItem s kind origin i j = (u, some n)) : u.net = s.net := by
  unfold newItem at h
  split at h
  · cases h
  · cases h
    rfl

/-- A read served is answered with what it read, or its abort code. -/
theorem serveUsdo_read_answers {s : State} {client : Nat} (hclient : client ≤ 0x80) (n i j off : Nat) :
    Tab.find (serveUsdo s { client := client, item := n, op := .read i j } off).answers client =
      some { code := (readOne (itemActive s n) client i j).2.1, data := (readOne (itemActive s n) client i j).2.2 } := by
  obtain ⟨hanswers, -⟩ := keepsServices_finish
    (answer (readOne (itemActive s n) client i j).1 client (readOne (itemActive s n) client i j).2.1
      (readOne (itemActive s n) client i j).2.2) n (readOne (itemActive s n) client i j).2.1
  refine (congrArg (Tab.find · client) hanswers).trans ?_
  rw [answer_le hclient]
  exact Tab.find_put_self ..

-- Transfers and items that end (R287, R308) -------------------------------------------------------------------------

theorem usdoSegmentTimeout_silent {s : State} {client : Nat} {x : Transfer} (hx : Tab.find s.net.xfers client = some x)
    (hdue : x.at_ + 10 * rdN s 0x1FF0 4 ≤ s.now) (hon : cutOff s 0 = false) :
    usdoSegmentTimeout s client = xferAbort s client x 9 := by
  rw [Nat.mul_comm] at hdue
  simp only [usdoSegmentTimeout, hx, msT, hdue, hon, Bool.false_and, Bool.false_eq_true, if_false, if_true]

theorem xferAbort_ends {s : State} {client : Nat} {x : Transfer} {w : WorkItem} (hclient : client ≤ 0x80)
    (hw : Tab.find s.work x.item = some w) (hflight : w.state < 2) (reason : Nat) :
    let t := xferAbort s client x reason
    Tab.find t.net.xfers client = none ∧ Tab.find t.answers client = some { code := 0x05040000, data := [] } ∧
      Tab.find t.work x.item = some { w with state := 3, reason := reason, ended := s.tick, abort := 0x05040000 } ∧
      rdN t 0x1FF0 0x85 = (rdN s 0x1FF0 0x85 + 1) % 2 ^ 32 := by
  let u := setNet s { s.net with xfers := Tab.del s.net.xfers client }
  let v := abort (itemFail u x.item reason 0x05040000) client 0x05040000
  have habort : xferAbort s client x reason = inc (journalDrop v x.item) 0x1FF0 0x85 := rfl
  have hv : v = { itemFail u x.item reason 0x05040000 with
      answers := Tab.put (itemFail u x.item reason 0x05040000).answers client { code := 0x05040000, data := [] } } :=
    answer_le hclient ..
  obtain ⟨-, hnet⟩ := keepsServices_itemFail u x.item reason 0x05040000
  obtain ⟨hanswers', hnet'⟩ := (keepsServices_journalDrop v x.item).trans (told_inc _ 0x1FF0 0x85).keepsServices
  have hdropped : rdN (journalDrop v x.item) 0x1FF0 0x85 = rdN v 0x1FF0 0x85 := by
    unfold journalDrop
    split
    · split
      · exact rdN_wrN_object _ (by decide) (by decide) (by decide) _
      · rfl
    · rfl
  simp only [habort]
  refine ⟨?transfer, ?answer, ?item, ?count⟩
  case transfer =>
    rw [hnet', hv]
    exact (congrArg (Tab.find ·.xfers client) hnet).trans (Tab.find_del_self ..)
  case answer =>
    rw [hanswers', hv]
    exact Tab.find_put_self ..
  case item =>
    rw [(told_inc ..).work_eq, journalDrop_work, hv]
    exact itemFail_work (s := u) hw hflight reason _
  case count =>
    rw [inc, rdN_wrN_self _ _ (r := rowOf 0x1FF0 0x85 |>.get rfl) rfl, hdropped, hv]
    exact congrArg (fun n => (n + 1) % 2 ^ 32)
      (rdN_itemFail_object u (idx := 0x1FF0) (sub := 0x85) (by decide) (by decide) (by decide) ..)

/-- R287: at its deadline the item of a node whose controller is cut off ends its transfers. -/
theorem workItemDeadline_alone {s : State} {i k : Nat} {w : WorkItem} (hlo : 1 ≤ k) (hhi : k ≤ 127)
    (hw : Tab.find s.work i = some w) (hflight : w.state < 2) (horigin : w.origin = 0x200 + k) (hcut : cutOff s 2 = true)
    (hitem : (fieldNode s k).item = some i) (hxfer : (fieldNode s k).xfer ≠ 0)
    (hdue : (fieldNode s k).at_ + 10 * rdN s 0x1FF0 6 ≤ s.now) :
    workItemDeadline s i = nodeBad (setNode (itemFail s i 7 0) k
      { fieldNode s k with item := none, xfer := 0, waiting := false }) k 5 := by
  have hnode : within w.origin 0x201 0x27F = true := by
    simp [within, horigin]
    omega
  have hk : w.origin - 0x200 = k := by omega
  have hends : (cutOff s 2 && (fieldNode s k).item == some i && (fieldNode s k).xfer != 0 &&
      decide ((fieldNode s k).at_ + msT (rdN s 0x1FF0 6) ≤ s.now)) = true := by
    rw [Nat.mul_comm] at hdue
    simp [hcut, hitem, hxfer, msT, hdue]
  simp only [workItemDeadline, hw, Nat.not_le.mpr hflight, hnode, hk, hends, if_false, if_true, xferEnd_fails hitem]

-- The start of service (R307) -----------------------------------------------------------------------------------------

theorem usdoServiceStart_begins {s : State} {t₀ : Nat} (hboot : s.net.bootAt = some t₀) (hwaits : s.net.serving = false)
    (hdue : t₀ + 2000 ≤ s.now) (off : Nat) : usdoServiceStart s off =
      foldS { s with net := { s.net with serving := true } } (List.range 8) fun s _ => serveRound s off := by
  have hnow : ¬ s.now < t₀ + msT 200 := Nat.not_lt.mpr hdue
  simp only [usdoServiceStart, hboot, hwaits, hnow, decide_false, Bool.or_self, Bool.false_eq_true, if_false]
  rfl

theorem usdoServiceStart_early {s : State} {t₀ : Nat} (hboot : s.net.bootAt = some t₀) (hearly : s.now < t₀ + 2000) (off : Nat) :
    usdoServiceStart s off = s := by
  have hnow : s.now < t₀ + msT 200 := hearly
  simp only [usdoServiceStart, hboot, hnow, decide_true, Bool.or_true, if_true]

-- The statement ---------------------------------------------------------------------------------------------------

/-- Settles O50: each request and each end by its lemma above. -/
theorem usdoRequestsAndTheirEnds : Obligations.UsdoRequestsAndTheirEnds := by
  unfold Obligations.UsdoRequestsAndTheirEnds
  refine ⟨fun s client op off ⟨halive, hbooted⟩ _ hhi hspeaks hnmt => ⟨?full, ?waits, ?served, ?segment⟩, ?ignored, ?silent, ?alone,
    ?begins, ?early⟩
  case full =>
    rintro i j rfl _ hfull
    rw [exec_usdoRequest halive, usdoRequest_full hbooted hspeaks hnmt hfull, storeHash_same]
    rw [abort_work, inc, wrN_work]
  case waits =>
    rintro i j u n rfl hquiet hroom hitem hunserved
    rw [exec_usdoRequest halive, usdoRequest_takes hbooted hspeaks hnmt hquiet hroom hitem]
    simp only [newItem_net hitem, hunserved, Bool.false_eq_true, if_false]
    rfl
  case served =>
    rintro i j u n rfl hquiet hroom hitem hserving
    refine ⟨_, exec_usdoRequest halive .., ?_⟩
    rw [usdoRequest_takes hbooted hspeaks hnmt hquiet hroom hitem]
    simp only [newItem_net hitem, hserving, if_true, settled_answers, storeHash_answers]
    exact serveUsdo_read_answers (by omega) ..
  case segment =>
    rintro d last bus rfl hnone
    rw [exec_usdoRequest halive, usdoRequest_no_transfer hbooted hspeaks hnmt hnone, storeHash_same (abort_work ..)]
  case ignored =>
    intro s client op off h hstate
    rw [exec_usdoRequest h, usdoRequest_ignored hstate, storeHash_same rfl]
  case silent =>
    intro s client x w h hclient hx hdue hw hflight hon
    refine ⟨_, exec_usdoSegmentTimeout h client, ?_⟩
    rw [usdoSegmentTimeout_silent hx hdue hon]
    simp only [settled_net, settled_answers, settled_work, rdN_settled]
    exact xferAbort_ends hclient hw hflight 9
  case alone =>
    intro s i w k h hlo hhi hw hflight horigin hcut hitem hxfer hdue
    refine ⟨_, exec_workItemDeadline h i, ?_⟩
    rw [workItemDeadline_alone hlo hhi hw hflight horigin hcut hitem hxfer hdue]
    simp only [settled_work, rdN_settled, (told_nodeBad ..).work_eq]
    exact ⟨itemFail_work hw hflight 7 0, nodeBad_status hlo hhi (by decide) _⟩
  case begins =>
    intro s off t₀ h hboot hwaits hdue
    rw [exec_usdoServiceStart h, usdoServiceStart_begins hboot hwaits hdue]
  case early =>
    intro s off t₀ h hboot hearly
    rw [exec_usdoServiceStart h, usdoServiceStart_early hboot hearly, storeHash_same rfl]

end Sys2Proof.Machine
end

section
/-! SUPPORT. The field-node bus (R314 to R317): its boot, the check of a node that answers, its time-outs, its loss and its retries, and
the commands of 0x1F82. -/
namespace Sys2Proof.Machine
open Sys2Proof Sys2Proof.OD

-- The commands in a live device -----------------------------------------------------------------------------------

theorem exec_fieldNodeBoot {s : State} (h : Alive s) : exec .fieldNodeBoot s = .next (settled s (fieldNodeBoot s)) := by
  change done s (act s fieldNodeBoot) = _
  rw [act_alive h, done]

theorem exec_fieldNodeBootUp {s : State} (h : Alive s) (k : Nat) (r : NodeResp) :
    exec (.fieldNodeBootUp k r) s = .next (settled s (fieldNodeBootUp s k r)) := by
  change done s (act s fun s => fieldNodeBootUp s k r) = _
  rw [act_alive h, done]

theorem exec_fieldNodeBootTimeout {s : State} (h : Alive s) (k : Nat) :
    exec (.fieldNodeBootTimeout k) s = .next (settled s (fieldNodeBootTimeout s k)) := by
  change done s (act s fun s => fieldNodeBootTimeout s k) = _
  rw [act_alive h, done]

theorem exec_fieldNodeLost {s : State} (h : Alive s) (k : Nat) (bootUp : Bool) :
    exec (.fieldNodeLost k bootUp) s = .next (settled s (fieldNodeLost s k bootUp)) := by
  change done s (act s fun s => fieldNodeLost s k bootUp) = _
  rw [act_alive h, done]

theorem exec_fieldNodeRetry {s : State} (h : Alive s) (k : Nat) (r : NodeResp) :
    exec (.fieldNodeRetry k r) s = .next (settled s (fieldNodeRetry s k r)) := by
  change done s (act s fun s => fieldNodeRetry s k r) = _
  rw [act_alive h, done]

theorem exec_clientTransferTimeout {s : State} (h : Alive s) (k : Nat) (r : NodeResp) :
    exec (.clientTransferTimeout k r) s = .next (settled s (clientTransferTimeout s k r)) := by
  change done s (act s fun s => clientTransferTimeout s k r) = _
  rw [act_alive h, done]

@[simp] theorem fieldNode_settled (s t : State) (k : Nat) : fieldNode (settled s t) k = fieldNode t k := rfl

-- The boot of the bus (R314) ----------------------------------------------------------------------------------------

/-- What the boot does to node `k`: an assigned one is waited for. -/
def nodeAwaited (s : State) (k : Nat) : State :=
  if assigned s k then setNode (wrN s 0x1F83 k 1) k { deadline := s.now + msT (rdN s 0x1FF0 5) } else wrN s 0x1F83 k 0

/-- `s` once the boot-up message and the reset of all nodes are submitted on CAN2. -/
def bootAnnounced (s : State) : State :=
  sendFieldNmt (submit s 2 { id := 0x700 + rdN s 0x1FF0 2, data := [0#8] } false) 0x82 0

theorem fieldNodeBoot_begins {s : State} {t₀ : Nat} (hboot : s.net.bootAt = some t₀) (hwaits : s.net.fieldBoot = false)
    (hspeaks : speaks s = true) (hnmt : nmt s = 5 ∨ nmt s = 0x7F) (hdue : t₀ + 2000 ≤ s.now) :
    fieldNodeBoot s =
      let u := foldS (bootAnnounced s) nodeIds nodeAwaited
      countChecked (setNet u { u.net with fieldBoot := true }) := by
  have hstate : (nmt s != 0x7F && nmt s != 5) = false := by
    rcases hnmt with h | h
    · simp [h]
    · simp [h]
  have hnow : ¬ s.now < t₀ + msT 200 := Nat.not_lt.mpr hdue
  simp only [fieldNodeBoot, hboot, hwaits, hspeaks, hstate, hnow, decide_false, Bool.not_true, Bool.or_self, Bool.false_eq_true,
    if_false]
  rfl

/-- Own time, the boot time and the assignments stand in `t` as in `s`. -/
def KeepsBoot (s t : State) : Prop :=
  t.now = s.now ∧ rdN t 0x1FF0 5 = rdN s 0x1FF0 5 ∧ ∀ k ≤ 127, assigned t k = assigned s k

theorem mem_nodeIds {k : Nat} : k ∈ nodeIds ↔ 1 ≤ k ∧ k ≤ 127 := by
  simp only [nodeIds, List.mem_map, List.mem_range]
  exact ⟨by rintro ⟨i, hi, rfl⟩; omega, fun h => ⟨k - 1, by omega, by omega⟩⟩

theorem keepsBoot_bootAnnounced (s : State) : KeepsBoot s (bootAnnounced s) := by
  have hsent : Submitted s (bootAnnounced s) := (submitted_submit ..).trans (submitted_submit ..)
  refine ⟨hsent.now_eq, hsent.rdN_eq (by decide) (by decide), fun k hk => ?_⟩
  rw [assigned, rdBit, hsent.rdN_eq (by decide) (by omega), assigned, rdBit]

theorem keepsBoot_nodeAwaited (s : State) {b : Nat} (hb : b ≤ 127) : KeepsBoot s (nodeAwaited s b) := by
  have hnoted (v : Nat) : KeepsBoot s (wrN s 0x1F83 b v) := by
    refine ⟨wrN_now .., rdN_wrN_object s (by decide) (by omega) (by decide) v, fun k hk => ?_⟩
    rw [assigned, rdBit, rdN_wrN_object s (by decide) (by omega) (by omega), assigned, rdBit]
  unfold nodeAwaited
  split
  · exact hnoted 1
  · exact hnoted 0

theorem KeepsBoot.trans {s t u : State} (h : KeepsBoot s t) (g : KeepsBoot t u) : KeepsBoot s u := by
  obtain ⟨hnow, htime, hassigned⟩ := h
  obtain ⟨gnow, gtime, gassigned⟩ := g
  exact ⟨gnow.trans hnow, gtime.trans htime, fun k hk => (gassigned k hk).trans (hassigned k hk)⟩

/-- Every node's status shows whether it is waited for, until its deadline. -/
theorem nodesAwaited {s : State} {k : Nat} (hlo : 1 ≤ k) (hhi : k ≤ 127) :
    let t := foldS (bootAnnounced s) nodeIds nodeAwaited
    bootStatus t k = (if assigned s k then 1 else 0) ∧
      (assigned s k = true → (fieldNode t k).deadline = s.now + 10 * rdN s 0x1FF0 5) := by
  refine foldS_brings (I := KeepsBoot s)
    (P := fun t => bootStatus t k = (if assigned s k then 1 else 0) ∧
      (assigned s k = true → (fieldNode t k).deadline = s.now + 10 * rdN s 0x1FF0 5))
    (a := k) (mem_nodeIds.mpr ⟨hlo, hhi⟩) ?keeps ?brings ?stands (keepsBoot_bootAnnounced s)
  case keeps => exact fun t b hb h => h.trans (keepsBoot_nodeAwaited t (mem_nodeIds.mp hb).right)
  case brings =>
    intro t ⟨hnow, htime, hassigned⟩
    rw [nodeAwaited, hassigned k hhi, hnow, htime]
    split
    · exact ⟨(rdN_setNode ..).trans (bootStatus_wrN_self hlo hhi (by decide) t),
          fun _ => by rw [fieldNode_setNode_self, Nat.mul_comm]; rfl⟩
    · next hfree => exact ⟨bootStatus_wrN_self hlo hhi (by decide) t, fun h => absurd h hfree⟩
  case stands =>
    intro t b hb hne _ ⟨hstatus, hdeadline⟩
    have hb := (mem_nodeIds.mp hb).right
    have hother (v : Nat) : bootStatus (wrN t 0x1F83 b v) k = bootStatus t k := rdN_wrN_sub t _ v hne
    unfold nodeAwaited
    split
    · refine ⟨(rdN_setNode ..).trans ((hother 1).trans hstatus), fun h => ?_⟩
      rw [fieldNode_setNode_ne _ _ _ hne, (told_wrN ..).fieldNode_eq]
      exact hdeadline h
    · exact ⟨(hother 0).trans hstatus, fun h => by rw [(told_wrN ..).fieldNode_eq]; exact hdeadline h⟩

theorem fieldNodeBoot_awaits {s : State} {t₀ k : Nat} (hboot : s.net.bootAt = some t₀) (hwaits : s.net.fieldBoot = false)
    (hspeaks : speaks s = true) (hnmt : nmt s = 5 ∨ nmt s = 0x7F) (hdue : t₀ + 2000 ≤ s.now) (hlo : 1 ≤ k) (hhi : k ≤ 127) :
    let t := fieldNodeBoot s
    t.net.fieldBoot = true ∧ bootStatus t k = (if assigned s k then 1 else 0) ∧
      (assigned s k = true → (fieldNode t k).deadline = s.now + 10 * rdN s 0x1FF0 5) := by
  obtain ⟨hstatus, hdeadline⟩ := nodesAwaited (s := s) hlo hhi
  simp only [fieldNodeBoot_begins hboot hwaits hspeaks hnmt hdue]
  rw [(told_countChecked _).net_eq, bootStatus_countChecked _ hhi, (told_countChecked _).fieldNode_eq]
  exact ⟨rfl, hstatus, hdeadline⟩

-- The check of a node (R314, R316) ----------------------------------------------------------------------------------

/-- A record without an item adds no transfer in flight. -/
theorem xfersInFlight_setNode (s : State) (k : Nat) {x : FieldNode} (hx : x.item = none) :
    xfersInFlight (setNode s k x) ≤ xfersInFlight s := by
  have hput (t : Tab FieldNode) :
      ((Tab.put t k x).filter fun p => p.2.item.isSome).length ≤ (t.filter fun p => p.2.item.isSome).length := by
    induction t with
    | nil => simp [Tab.put, hx]
    | cons q t ih =>
      simp only [Tab.put]
      split
      · simp only [List.filter_cons, hx, Option.isSome_none, Bool.false_eq_true, if_false]
        split
        · exact Nat.le_succ _
        · exact Nat.le_refl _
      · split
        · simp [List.filter_cons, hx]
        · simp only [List.filter_cons]
          split
          · exact Nat.succ_le_succ ih
          · exact ih
  exact hput s.net.nodes

/-- A node without an item takes one where there is room; only records and the work table change. -/
theorem xferItem_takes {s : State} {k : Nat} (hnone : (fieldNode s k).item = none) (hroom : xfersInFlight s < 8)
    (hquiet : quiescing s = false) (hfree : freeItem s ≠ none) :
    (xferItem s k).dict = s.dict ∧ (fieldNode (xferItem s k) k).item.isSome = true := by
  obtain ⟨i, hi⟩ := Option.ne_none_iff_exists'.mp hfree
  obtain ⟨w, n, f, hnew, -⟩ := newItem_queued hquiet hi 1 (0x200 + k) 0x1F83 k
  unfold xferItem
  simp only [hnone, Option.isSome_none, Bool.false_eq_true, if_false, Nat.not_le.mpr hroom, hnew, fieldNode_setNode_self]
  exact ⟨by rw [setNode_dict, itemActive, itemSet_dict], rfl⟩

section
variable {s : State} {k : Nat} {r : NodeResp} {v1 v2 v3 : Nat} (htype : r.type = some v1)
include htype

theorem nodeSteps_matches (hvendor : r.vendor = some v2) (hproduct : r.product = some v3) (h1 : identityOk s 0x1F84 k v1 = true)
    (h2 : identityOk s 0x1F85 k v2 = true) (h3 : identityOk s 0x1F86 k v3 = true) (hconf : rdB s 0x1F22 k = []) :
    nodeSteps s k r 5 1 = nodeChecked (xferEnd s k true 0) k := by
  simp [nodeSteps, htype, hvendor, hproduct, h1, h2, h3, hconf]

theorem nodeSteps_mismatch (h1 : identityOk s 0x1F84 k v1 = false) :
    nodeSteps s k r 5 1 = nodeBad (xferEnd s k true 0) k 5 := by simp [nodeSteps, htype, h1]

end

/-- A node waited for that boots up begins its steps with an item, all its values as before but its status. -/
theorem fieldNodeBootUp_steps {s : State} {k : Nat} (r : NodeResp) (hhi : k ≤ 127) (hboot : s.net.fieldBoot = true)
    (hassigned : assigned s k = true) (hstatus : bootStatus s k = 1) (hnone : (fieldNode s k).item = none)
    (hroom : xfersInFlight s < 8) (hquiet : quiescing s = false) (hfree : freeItem s ≠ none) :
    ∃ t, fieldNodeBootUp s k r = nodeSteps t k r 5 1 ∧
      ∀ i j, i ≠ 0x1F83 → j < 256 → rdB t i j = rdB s i j := by
  let u := setNode s k { fieldNode s k with heardAt := some s.now }
  let v := wrN u 0x1F83 k 2
  have hkept {i j : Nat} (hi : i ≠ 0x1F83) (hj : j < 256) : rdB v i j = rdB s i j :=
    rdB_wrN_ne u 2 fun hkey => hi ((key_inj (by omega) hj).mp hkey).left.symm
  have hnone' : (fieldNode v k).item = none := by
    rw [(told_wrN ..).fieldNode_eq, fieldNode_setNode_self]
    exact hnone
  have hroom' : xfersInFlight v < 8 := by
    rw [xfersInFlight, (told_wrN ..).net_eq]
    exact Nat.lt_of_le_of_lt (xfersInFlight_setNode s k (x := { fieldNode s k with heardAt := some s.now }) hnone) hroom
  have hquiet' : quiescing v = false := by
    rw [quiescing, rdN, rdN, hkept (by decide) (by decide), hkept (by decide) (by decide)]
    exact hquiet
  have hfree' : freeItem v ≠ none := by
    have hwork : v.work = s.work := wrN_work u 0x1F83 k 2
    rwa [freeItem_congr hwork]
  obtain ⟨hdict, hitem⟩ := xferItem_takes hnone' hroom' hquiet' hfree'
  refine ⟨xferItem v k, ?_, fun i j hi hj => ?_⟩
  · simp only [fieldNodeBootUp, hboot, hassigned, hstatus, Bool.not_true, Bool.or_self, beq_self_eq_true, Bool.true_or,
      Bool.false_eq_true, if_false]
    exact if_pos hitem
  · rw [rdB, hdict]
    exact hkept hi hj

theorem identityOk_congr {s t : State} {idx k : Nat} (h : rdB t idx k = rdB s idx k) (v : Nat) :
    identityOk t idx k v = identityOk s idx k v := by rw [identityOk, rdN, h, identityOk, rdN]

-- Missing, lost and repeated (R314 to R316) ---------------------------------------------------------------------------

section
variable {s : State} {k : Nat}

theorem fieldNodeBootTimeout_misses (hboot : s.net.fieldBoot = true)
    (hstatus : bootStatus s k = 1 ∨ bootStatus s k = 2 ∨ bootStatus s k = 3) (hset : (fieldNode s k).deadline ≠ 0)
    (hpast : (fieldNode s k).deadline ≤ s.now) : fieldNodeBootTimeout s k = nodeBad (xferEnd s k false 9) k 6 := by
  have hchecking : within (bootStatus s k) 1 3 = true := by
    simp only [within, Bool.and_eq_true, decide_eq_true_eq]
    omega
  simp [fieldNodeBootTimeout, hboot, hchecking, hset, hpast]

/-- A checked node that is lost is to be retried at `at_`. -/
def nodeLost (s : State) (k at_ : Nat) : State :=
  let t := nodeBad (if (fieldNode s k).item.isSome then xferEnd s k false 9 else s) k 7
  countChecked (setNode t k { fieldNode t k with retryAt := at_, deadline := 0, heardAt := none, started := false, waiting := false })

theorem nodeLost_now :
    (nodeBad (if (fieldNode s k).item.isSome then xferEnd s k false 9 else s) k 7).now = s.now := by
  rw [(told_nodeBad ..).now_eq]
  split
  · exact xferEnd_now ..
  · rfl

theorem fieldNodeLost_bootUp (hboot : s.net.fieldBoot = true) (hstatus : bootStatus s k = 4) :
    fieldNodeLost s k true = nodeLost s k s.now := by
  unfold fieldNodeLost
  simp only [hboot, hstatus, show within 4 2 4 = true from rfl, Bool.true_and, Bool.true_or, if_true, nodeLost_now]
  rfl

theorem fieldNodeLost_silent {h : Nat} (hboot : s.net.fieldBoot = true) (hstatus : bootStatus s k = 4)
    (hheard : (fieldNode s k).heardAt = some h) (htime : rdN s 0x1F81 k / 65536 ≠ 0)
    (hdue : h + 10 * (rdN s 0x1F81 k / 65536) ≤ s.now) : fieldNodeLost s k false = nodeLost s k (s.now + 100000) := by
  have htime' : (rdN s 0x1F81 k / 65536 != 0) = true := bne_iff_ne.mpr htime
  rw [Nat.mul_comm] at hdue
  unfold fieldNodeLost
  simp only [hboot, hstatus, hheard, htime', msT, hdue, decide_true, beq_self_eq_true, Bool.false_and, Bool.false_or,
    Bool.true_and, if_true, Bool.false_eq_true, if_false, nodeLost_now]
  rfl

theorem nodeLost_stands (hlo : 1 ≤ k) (hhi : k ≤ 127) (at_ : Nat) :
    bootStatus (nodeLost s k at_) k = 7 ∧ (fieldNode (nodeLost s k at_) k).retryAt = at_ ∧
      (mandatory s k = true → (49, k) ∈ (nodeLost s k at_).conds) := by
  have hended : mandatory (if (fieldNode s k).item.isSome then xferEnd s k false 9 else s) k = mandatory s k := by
    split
    · exact mandatory_xferEnd s hhi ..
    · rfl
  refine ⟨?_, ?_, fun h => ?_⟩
  · rw [nodeLost, bootStatus_countChecked _ hhi]
    exact (rdN_setNode ..).trans (nodeBad_status hlo hhi (by decide) _)
  · rw [nodeLost, (told_countChecked _).fieldNode_eq, fieldNode_setNode_self]
  · rw [nodeLost, countChecked, wrN_conds]
    exact nodeBad_conds hhi (hended.trans h) 7

theorem fieldNodeRetry_repeats (hstatus : bootStatus s k = 7) (hdue : (fieldNode s k).retryAt ≤ s.now) (r : NodeResp) :
    fieldNodeRetry s k r =
      nodeCheck (setNode s k { fieldNode s k with retryAt := s.now + 100000, heardAt := some s.now }) k r := by
  simp only [fieldNodeRetry, hstatus, hdue, beq_self_eq_true, Bool.true_or, decide_true, Bool.and_self, if_true]
  rfl

section
variable {n : Nat} (hgoes : (fieldNode s k).waiting = false) (hitem : (fieldNode s k).item = some n) (hxfer : (fieldNode s k).xfer ≠ 0)
  (hdue : (fieldNode s k).at_ + 10 * rdN s 0x1FF0 6 ≤ s.now)
include hgoes hitem hxfer hdue

theorem clientTransferTimeout_due (r : NodeResp) : clientTransferTimeout s k r =
    if (fieldNode s k).tries < 2 then
      nodeSteps (setNode s k { fieldNode s k with tries := (fieldNode s k).tries + 1 }) k r 5 (fieldNode s k).xfer
    else nodeBad (xferEnd s k false (if solitary s 2 || within (canState s 2) 4 5 then 7 else 9)) k 5 := by
  have hsilent : ((fieldNode s k).item.isNone || (fieldNode s k).xfer == 0 ||
      decide (s.now < (fieldNode s k).at_ + msT (rdN s 0x1FF0 6))) = false := by
    rw [Nat.mul_comm] at hdue
    simp [hitem, hxfer, msT, Nat.not_lt.mpr hdue]
  simp only [clientTransferTimeout, hgoes, hsilent, Bool.false_eq_true, if_false]

end
end

-- Commands to a node (R317) -------------------------------------------------------------------------------------------

/-- A checked write of 0x1F82:k sends its command to an assigned node. -/
theorem performAny_nodeCommand {s : State} {k : Nat} (hspeaks : speaks s = true) (hassigned : assigned s k = true) (client : Nat)
    (data : List Byte) (off : Nat) (item : Option Nat) :
    performAny s client 0x1F82 k data off item = success (sendFieldNmt s (leNat data) k) client := by
  have hsends : fieldNmt s k (leNat data) = (sendFieldNmt s (leNat data) k, 0) := by
    rw [fieldNmt, hassigned, hspeaks]
    rfl
  simp [performAny, perform, hsends]

/-- The commands to a node are writes of their command bytes. -/
theorem exec_nodeCommand (s : State) {client k off : Nat} {p : Instr × Nat}
    (hp : p ∈ [(Instr.fieldNodeNmtStart client k off, 0x01), (.fieldNodeNmtStop client k off, 0x02),
      (.fieldNodeNmtPreOperational client k off, 0x80), (.fieldNodeNmtResetApplication client k off, 0x81),
      (.fieldNodeNmtResetCommunication client k off, 0x82)]) :
    exec p.1 s = done s (put s client 0x1F82 k (leBytes 1 p.2) off) ∧ p.2 < 256 := by
  simp only [List.mem_cons, List.not_mem_nil, or_false] at hp
  obtain rfl | rfl | rfl | rfl | rfl := hp
  all_goals exact ⟨rfl, by simp⟩

theorem put_nodeCommand {s : State} {client k cmd : Nat} (hspeaks : speaks s = true) (hassigned : assigned s k = true)
    (hcmd : cmd < 256) (h : Accepts s client 0x1F82 k (leBytes 1 cmd)) (off : Nat) :
    put s client 0x1F82 k (leBytes 1 cmd) off =
      paired (success (sendFieldNmt { s with answers := Tab.del s.answers client } cmd k) client) client 0x1F82 k (leBytes 1 cmd) := by
  have hbyte : leNat (leBytes 1 cmd) = cmd := by
    rw [leNat_leBytes]
    exact Nat.mod_eq_of_lt hcmd
  refine put_succeeds h (by simp [structural, within]) (by simp [ttStaged, within]) (by simp) (by simp) ?_
    (submitted_submit ..).work_eq
  rw [performAny_nodeCommand (s := { s with answers := Tab.del s.answers client }) hspeaks hassigned, hbyte]

-- The statement ---------------------------------------------------------------------------------------------------

/-- Settles O51: each command by its lemma above. -/
theorem fieldNodesAreChecked : Obligations.FieldNodesAreChecked := by
  unfold Obligations.FieldNodesAreChecked
  refine ⟨?boot, ?bootUp, ?missing, ?lost, ?silent, ?retry, ?repeated, ?mismatched, ?command⟩
  case boot =>
    intro s t₀ k h hboot hwaits hspeaks hnmt hdue hlo hhi
    refine ⟨_, exec_fieldNodeBoot h, ?_⟩
    simp only [settled_net, rdN_settled, fieldNode_settled]
    exact fieldNodeBoot_awaits hboot hwaits hspeaks hnmt hdue hlo hhi
  case bootUp =>
    intro s k r v1 v2 v3 h hlo hhi hboot hassigned hstatus hnone hroom hquiet hfree hr
    have htype : r.type = some v1 := by rw [hr]
    have hvendor : r.vendor = some v2 := by rw [hr]
    have hproduct : r.product = some v3 := by rw [hr]
    obtain ⟨t, hsteps, hkept⟩ := fieldNodeBootUp_steps r hhi hboot hassigned hstatus hnone hroom hquiet hfree
    have hidentity {i : Nat} (hi : i ≠ 0x1F83) (v : Nat) : identityOk t i k v = identityOk s i k v :=
      identityOk_congr (hkept i k hi (by omega)) v
    refine ⟨fun h1 h2 h3 hconf => ⟨_, exec_fieldNodeBootUp h k r, ?_⟩, fun h1 => ⟨_, exec_fieldNodeBootUp h k r, ?_⟩⟩
    · rw [hsteps, nodeSteps_matches htype hvendor hproduct (by rwa [hidentity (by decide)]) (by rwa [hidentity (by decide)])
        (by rwa [hidentity (by decide)]) (by rwa [hkept _ _ (by decide) (by omega)])]
      simp only [rdN_settled, fieldNode_settled]
      exact nodeChecked_stands hlo hhi _
    · rw [hsteps, nodeSteps_mismatch htype (by rwa [hidentity (by decide)])]
      simp only [rdN_settled]
      exact nodeBad_status hlo hhi (by decide) _
  case missing =>
    intro s k h hlo hhi hboot hstatus hset hpast
    refine ⟨_, exec_fieldNodeBootTimeout h k, ?_⟩
    rw [fieldNodeBootTimeout_misses hboot hstatus hset hpast]
    simp only [rdN_settled, settled_conds]
    exact ⟨nodeBad_status hlo hhi (by decide) _, fun hm => nodeBad_conds hhi ((mandatory_xferEnd s hhi ..).trans hm) 6⟩
  case lost =>
    intro s k h hlo hhi hboot hstatus
    refine ⟨_, exec_fieldNodeLost h k true, ?_⟩
    rw [fieldNodeLost_bootUp hboot hstatus]
    simp only [rdN_settled, fieldNode_settled, settled_conds]
    exact nodeLost_stands hlo hhi _
  case silent =>
    intro s k t h hlo hhi hboot hstatus hheard htime hdue
    refine ⟨_, exec_fieldNodeLost h k false, ?_⟩
    rw [fieldNodeLost_silent hboot hstatus hheard htime hdue]
    simp only [rdN_settled, fieldNode_settled]
    obtain ⟨hlost, hretry, -⟩ := nodeLost_stands (s := s) hlo hhi (s.now + 100000)
    exact ⟨hlost, hretry⟩
  case retry =>
    intro s k r h hstatus hdue
    rw [exec_fieldNodeRetry h, fieldNodeRetry_repeats hstatus hdue]
  case repeated =>
    intro s k r n h hgoes hitem hxfer hdue htries
    rw [exec_clientTransferTimeout h, clientTransferTimeout_due hgoes hitem hxfer hdue, if_pos htries]
  case mismatched =>
    intro s k r n h hlo hhi hgoes hitem hxfer hdue htries
    refine ⟨_, exec_clientTransferTimeout h k r, ?_⟩
    rw [clientTransferTimeout_due hgoes hitem hxfer hdue, if_neg (Nat.not_lt.mpr htries)]
    refine ⟨(rdN_settled ..).trans (nodeBad_status hlo hhi (by decide) _), ?_⟩
    rw [fieldNode_settled, (told_nodeBad ..).fieldNode_eq, fieldNode_xferEnd]
  case command =>
    intro s client k off hspeaks hassigned _ _ p hp haccepted
    obtain ⟨hwrite, hcmd⟩ := exec_nodeCommand s hp
    rw [hwrite, put_nodeCommand hspeaks hassigned hcmd haccepted]
    rfl

end Sys2Proof.Machine
end

section
/-! SUPPORT. One step of the block: what every command's outcome is made of, and the discharge that goes on in a dead device. -/
namespace Sys2Proof.Machine
open Sys2Proof Sys2Proof.OD

-- The shape of every outcome --------------------------------------------------------------------------------------

/-- The meanings end alike: but for BASE_TICK, what is settled is settled over the state that the command finds. -/
theorem exec_settles (c : Instr) (s : State) (h : ∀ inp, c ≠ .baseTick inp) : ∃ t, exec c s = .next (settled s t) := by
  cases c with
  | baseTick inp => exact absurd rfl (h inp)
  | _ => exact ⟨_, rfl⟩

theorem exec_baseTick (inp : TickIn) (s : State) :
    exec (.baseTick inp) s = .next (settled (ticked s) (act s fun s => baseTick s inp)) := rfl

/-- The own clock's tick changes nothing else. -/
theorem ticked_eq (s : State) : ∃ n, ticked s = { s with now := n } ∧ s.now ≤ n ∧ n ≤ s.now + 1 := by
  unfold ticked
  split
  · exact ⟨s.now + 1, rfl, Nat.le_succ _, Nat.le_refl _⟩
  · exact ⟨s.now, rfl, Nat.le_refl _, Nat.le_succ _⟩

/-- What a step leaves of the queue, the fuses, own time and the dictionary's form, whatever stands at the front. -/
structure StepFrame (s t : State) : Prop where
  queue : t.pending = s.pending.tail
  fuses : t.zh6432 = s.zh6432
  canonical : Inv s → Inv t
  clock : s.now ≤ t.now ∧ t.now ≤ s.now + 1
  ticks : t.now ≠ s.now → ∃ inp, s.pending.head? = some (.baseTick inp)

/-- The frame of a command at the front: it settles over `s` with the queue's rest and the clock at `n`. -/
theorem StepFrame.of_settled {s : State} {c : Instr} {rest : List Instr} (hqueue : s.pending = c :: rest) {n : Nat}
    (hclock : s.now ≤ n ∧ n ≤ s.now + 1) (htick : n ≠ s.now → ∃ inp, c = .baseTick inp) (t : State) :
    StepFrame s (settled { s with pending := rest, now := n } t) where
  queue := by rw [hqueue]; rfl
  fuses := rfl
  canonical := fun _ => settled_wf _ t
  clock := hclock
  ticks := fun h => by
    obtain ⟨inp, rfl⟩ := htick h
    exact ⟨inp, by rw [hqueue]; rfl⟩

theorem step_front {s : State} {c : Instr} {rest : List Instr} (h : s.pending = c :: rest) :
    step s = exec c { s with pending := rest } := by
  unfold step
  rw [h]

theorem step_idle {s : State} (h : s.pending = []) : step s = .next s := by
  unfold step
  rw [h]

/-- Every step answers a next state in its frame: the idle step the state itself, BASE_TICK with the clock's tick, every other command
with the clock as it was. -/
theorem step_frame (s : State) : ∃ t, step s = .next t ∧ StepFrame s t := by
  cases hqueue : s.pending with
  | nil => exact ⟨s, step_idle hqueue, by rw [hqueue]; rfl, rfl, id, ⟨Nat.le_refl _, Nat.le_succ _⟩, fun h => absurd rfl h⟩
  | cons c rest =>
    rw [step_front hqueue]
    by_cases htick : ∃ inp, c = .baseTick inp
    · obtain ⟨inp, rfl⟩ := htick
      obtain ⟨n, hticked, hclock⟩ := ticked_eq { s with pending := rest }
      rw [exec_baseTick, hticked]
      exact ⟨_, rfl, .of_settled hqueue hclock (fun _ => ⟨inp, rfl⟩) _⟩
    · obtain ⟨t, ht⟩ := exec_settles c { s with pending := rest } fun inp h => htick ⟨inp, h⟩
      exact ⟨_, ht, .of_settled (n := s.now) hqueue ⟨Nat.le_refl _, Nat.le_succ _⟩ (fun h => absurd rfl h) t⟩

/-- Settles O3, by the frame of a step. -/
theorem stepKeepsInvariant : Obligations.StepKeepsInvariant := by
  unfold Obligations.StepKeepsInvariant
  intro s
  obtain ⟨t, hstep, hframe⟩ := step_frame s
  exact ⟨t, hstep, hframe.queue, hframe.fuses, hframe.canonical, hframe.clock, hframe.ticks⟩

/-- Settles O1: the two cases of a step. -/
theorem stepTakesFrontCommand : Obligations.StepTakesFrontCommand := by
  unfold Obligations.StepTakesFrontCommand
  exact ⟨fun _ _ _ h => step_front h, fun _ h => step_idle h⟩

-- A discharge in a dead device (R244) -------------------------------------------------------------------------------

/-- A device in reset whose panel port 0 discharges, its ties closed. -/
def dischargingInReset : State := { State.reset with panels := [(0, { offKind := 2, offStep := 3, ties := true })] }

/-- Refutes O4: PANEL_POWER_OFF_STEP is not among the commands that live on, and the PANEL_HV timer takes the step of a discharge in a
dead device too (log entry 91): step 3 becomes step 5. -/
theorem not_deadDeviceIgnoresCommands : ¬ Obligations.DeadDeviceIgnoresCommands := by
  unfold Obligations.DeadDeviceIgnoresCommands
  intro h
  have hstands := Host.Outcome.next.inj (h (.panelPowerOffStep 0) dischargingInReset (by decide) rfl)
  have hstep : (panel (powerOffStep dischargingInReset 0) 0).offStep = (panel dischargingInReset 0).offStep :=
    congrArg (fun t => (panel t 0).offStep) hstands
  exact absurd hstep (by decide)

end Sys2Proof.Machine
end

section
/-! SUPPORT. Which sub-indices an operation may write: the frame of the dictionary, by key, for the shared operations. -/
namespace Sys2Proof.Machine
open Sys2Proof Sys2Proof.OD

/-- `t`'s dictionary reads as `s`'s but at the keys that `W` picks. -/
def Writes (W : Nat → Bool) (s t : State) : Prop := ∀ k, W k = false → dictGet t.dict k = dictGet s.dict k

/-- The keys that a log entry and an IRQ source write: the log's counters, the IRQ sources. -/
def logKey (k : Nat) : Bool := k == key 0x2710 0x80 || k == key 0x2710 0x82 || k == key 0x2810 0x80

/-- The keys that an EMCY writes: the error register and the counter of lost EMCYs. -/
def emcyKey (k : Nat) : Bool := k == key 0x1001 0 || k == key 0x1FF0 0x83

/-- The keys that reports write: the error register, the counter of lost EMCYs, pennants, and what a log entry writes. -/
def reportKey (k : Nat) : Bool :=
  logKey k || emcyKey k || within k (key 0x2700 1) (key 0x2700 4) ||
  within k (key 0x2700 0x80) (key 0x2700 0x84)

/-- `W` allows log entries and IRQ sources. -/
abbrev AllowsLog (W : Nat → Bool) : Prop := ∀ k, logKey k = true → W k = true
/-- `W` allows EMCYs. -/
abbrev AllowsEmcy (W : Nat → Bool) : Prop := ∀ k, emcyKey k = true → W k = true
/-- `W` allows every report. -/
abbrev AllowsReports (W : Nat → Bool) : Prop := ∀ k, reportKey k = true → W k = true

theorem AllowsReports.log {W : Nat → Bool} (h : AllowsReports W) : AllowsLog W := fun k hk => h k (by simp [reportKey, hk])

theorem AllowsReports.emcy {W : Nat → Bool} (h : AllowsReports W) : AllowsEmcy W := fun k hk => h k (by simp [reportKey, hk])

theorem within_iff {x lo hi : Nat} : within x lo hi = true ↔ lo ≤ x ∧ x ≤ hi := by simp [within]

theorem reportKey_pennant {p : Nat} (hp : p < 128) :
    reportKey (key 0x2700 (1 + p / 32)) = true ∧ reportKey (key 0x2700 (0x80 + p / 32)) = true := by
  have hset : within (key 0x2700 (1 + p / 32)) (key 0x2700 1) (key 0x2700 4) = true := by
    rw [within_iff]
    unfold key
    omega
  have hholds : within (key 0x2700 (0x80 + p / 32)) (key 0x2700 0x80) (key 0x2700 0x84) = true := by
    rw [within_iff]
    unfold key
    omega
  simp [reportKey, hset, hholds]

namespace Writes
variable {W : Nat → Bool} {s t u : State}

-- The relation ------------------------------------------------------------------------------------------------------

theorem refl (W : Nat → Bool) (s : State) : Writes W s s := fun _ _ => rfl
theorem trans (h : Writes W s t) (k : Writes W t u) : Writes W s u := fun x hx => (k x hx).trans (h x hx)
theorem of_dict (h : t.dict = s.dict) : Writes W s t := fun x _ => by rw [h]
/-- A change beside the dictionary. -/
theorem beside (h : Writes W s t) (hu : u.dict = t.dict) : Writes W s u := h.trans (of_dict hu)
theorem mono {V : Nat → Bool} (h : Writes V s t) (hV : ∀ k, V k = true → W k = true) : Writes W s t := fun x hx => h x <| by
  cases hv : V x
  · rfl
  · rw [hV x hv] at hx
    exact absurd hx (by decide)

theorem rdB_eq (h : Writes W s t) {i j : Nat} (hk : W (key i j) = false) : rdB t i j = rdB s i j := h _ hk
theorem rdN_eq (h : Writes W s t) {i j : Nat} (hk : W (key i j) = false) : rdN t i j = rdN s i j := congrArg leNat (h.rdB_eq hk)
theorem rdBit_eq (h : Writes W s t) {i j : Nat} (hk : W (key i j) = false) (n : Nat) : rdBit t i j n = rdBit s i j n := by
  rw [rdBit, rdBit, h.rdN_eq hk]

theorem settled (h : Writes W s t) (r : State) : Writes W s (settled r t) := fun x hx => (dictGet_dictCanon t.dict x).trans (h x hx)

theorem foldS {α : Type} {f : State → α → State} {l : List α} (hf : ∀ s a, Writes W s (f s a)) (h : Writes W s t) :
    Writes W s (foldS t l f) := by
  induction l generalizing t with
  | nil => exact h
  | cons a l ih => exact ih (h.trans (hf t a))

-- One write -----------------------------------------------------------------------------------------------------------

theorem wrB {i j : Nat} {v : List Byte} (hk : W (key i j) = true) (h : Writes W s t) : Writes W s (wrB t i j v) :=
  h.trans fun x hx => dictGet_dictPut_ne t.dict v fun e => by
    rw [e, hx] at hk
    exact absurd hk (by decide)
theorem wrN {i j v : Nat} (hk : W (key i j) = true) (h : Writes W s t) : Writes W s (wrN t i j v) := by
  unfold Machine.wrN
  split
  · exact wrB hk h
  · exact h
theorem wrBit {i j n : Nat} {b : Bool} (hk : W (key i j) = true) (h : Writes W s t) : Writes W s (wrBit t i j n b) := wrN hk h
theorem inc {i j : Nat} (hk : W (key i j) = true) (h : Writes W s t) : Writes W s (inc t i j) := wrN hk h

-- Reports -----------------------------------------------------------------------------------------------------------

theorem irq {n : Nat} (hW : AllowsLog W) (h : Writes W s t) : Writes W s (irq t n) := wrBit (hW _ rfl) h

theorem logAdd {code loc qual data : Nat} (hW : AllowsLog W) (h : Writes W s t) : Writes W s (logAdd t code loc qual data) := by
  have hentered {r : State} {l : List LogEntry} {n : Nat} (hr : Writes W s r) :
      Writes W s (Machine.wrBit (Machine.wrN { r with log := l } 0x2710 0x80 n) 0x2810 0x80 2 true) :=
    wrBit (hW _ rfl) (wrN (hW _ rfl) (hr.beside rfl))
  unfold Machine.logAdd
  simp only
  split
  · exact hentered (inc (hW (key 0x2710 0x82) rfl) h)
  · exact hentered h

theorem emcy {e : Emcy} (hW : AllowsEmcy W) (h : Writes W s t) : Writes W s (emcy t e) := by
  unfold Machine.emcy
  split
  · exact inc (hW _ rfl) h
  · exact h.beside rfl

theorem errorRegister (hW : AllowsEmcy W) (h : Writes W s t) : Writes W s (errorRegister t) := wrN (hW _ rfl) h

theorem announce {p loc src : Nat} (hW : AllowsEmcy W) (h : Writes W s t) : Writes W s (announce t p loc src) := by
  unfold Machine.announce
  split
  · exact h
  · exact emcy hW (errorRegister hW (h.beside rfl))

theorem unannounce {p : Nat} (hW : AllowsEmcy W) (h : Writes W s t) : Writes W s (unannounce t p) := by
  have hended : Writes W s (Machine.errorRegister { t with announced := t.announced.filter (· != p) }) :=
    errorRegister hW (h.beside rfl)
  unfold Machine.unannounce
  split
  · simp only
    split
    · exact emcy hW hended
    · exact hended
  · exact h

theorem raiseBit {p : Nat} (hW : AllowsReports W) (hp : p < 128) (h : Writes W s t) : Writes W s (raiseBit t p) :=
  irq hW.log (beside (inc (hW (key 0x2700 0x84) rfl) (wrBit (hW _ (reportKey_pennant hp).1) h)) rfl)

theorem eventWith {p loc code data src : Nat} (hW : AllowsReports W) (hp : p < 128) (h : Writes W s t) :
    Writes W s (eventWith t p loc code data src) := by
  have hentered : Writes W s (Machine.logAdd (Machine.raiseBit t p) code loc p data) := logAdd hW.log (raiseBit hW hp h)
  unfold Machine.eventWith
  split
  · exact h
  · simp only
    split
    · exact announce hW.emcy hentered
    · exact hentered

theorem event {p loc : Nat} (hW : AllowsReports W) (hp : p < 128) (h : Writes W s t) : Writes W s (event t p loc) := eventWith hW hp h

theorem condStart {p c loc src : Nat} (hW : AllowsReports W) (hp : p < 128) (h : Writes W s t) :
    Writes W s (condStart t p c loc src) := by
  have hheld : Writes W s { t with conds := (p, c) :: t.conds } := h.beside rfl
  unfold Machine.condStart
  split
  · exact h
  · split
    · exact h
    · simp only
      split
      · exact announce hW.emcy (logAdd hW.log (raiseBit hW hp (wrBit (hW _ (reportKey_pennant hp).2) hheld)))
      · exact hheld

theorem condEnd {p c loc : Nat} (hW : AllowsReports W) (hp : p < 128) (h : Writes W s t) : Writes W s (condEnd t p c loc) := by
  have hfreed : Writes W s { t with conds := t.conds.filter (· != (p, c)), penTick := Tab.put t.penTick p t.now } := h.beside rfl
  unfold Machine.condEnd
  split
  · simp only
    split
    · exact hfreed
    · exact unannounce hW.emcy (logAdd hW.log (wrBit (hW _ (reportKey_pennant hp).2) hfreed))
  · exact h

theorem cond {b : Bool} {p c loc src : Nat} (hW : AllowsReports W) (hp : p < 128) (h : Writes W s t) :
    Writes W s (cond t b p c loc src) := by
  unfold Machine.cond
  split
  · exact condStart hW hp h
  · exact condEnd hW hp h

-- Work items and answers ----------------------------------------------------------------------------------------------

theorem itemDone {i : Nat} (hW : AllowsLog W) (h : Writes W s t) : Writes W s (itemDone t i) := by
  unfold Machine.itemDone
  split
  · split
    · simp only
      split
      · exact irq hW (h.beside (itemSet_dict ..))
      · exact h.beside (itemSet_dict ..)
    · exact h
  · exact h

theorem itemFail {i reason code : Nat} (hW : AllowsLog W) (h : Writes W s t) : Writes W s (itemFail t i reason code) := by
  unfold Machine.itemFail
  split
  · split
    · exact irq hW (logAdd hW (h.beside (itemSet_dict ..)))
    · exact h
  · exact h

theorem itemAnswered {item : Option Nat} {code : Nat} (hW : AllowsLog W) (h : Writes W s t) :
    Writes W s (itemAnswered t item code) := by
  unfold Machine.itemAnswered
  split
  · split
    · exact itemDone hW h
    · exact itemFail hW h
  · exact h

theorem answer {client code : Nat} {data : List Byte} (h : Writes W s t) : Writes W s (answer t client code data) := by
  unfold Machine.answer
  split
  · exact h
  · exact h.beside rfl

/-- A response that is ready counts in 0x2810:87 beside its IRQ source. -/
theorem hostReady {tag : Nat} {ok : Bool} {data : List Byte} (hW : AllowsLog W) (hn : W (key 0x2810 0x87) = true)
    (h : Writes W s t) : Writes W s (hostReady t tag ok data) := by
  unfold Machine.hostReady
  exact wrBit (hW _ rfl) (wrN hn (h.beside rfl))

theorem later {client idx code : Nat} {data : List Byte} (hW : AllowsLog W) (hn : W (key 0x2810 0x87) = true)
    (h : Writes W s t) : Writes W s (later t client idx code data) := by
  have hanswer : Writes W s (Machine.answer t client code data) := h.answer
  unfold Machine.later
  simp only
  split
  · exact hanswer
  · rename_i w _
    have hitem : Writes W s (Machine.itemAnswered
        { Machine.answer t client code data with waiting := (Machine.answer t client code data).waiting.filter (· != w) } w.item code) :=
      itemAnswered hW (hanswer.beside rfl)
    split
    · exact hostReady hW hn hitem
    · exact hitem

theorem mirrorPut {m : MirrorItem} (hk : W (key 0x2500 0x8E) = true) (h : Writes W s t) : Writes W s (mirrorPut t m) := by
  have hcounted : Writes W s (Machine.inc t 0x2500 0x8E) := inc hk h
  unfold Machine.mirrorPut
  split
  · exact h
  · exact hcounted.beside rfl

end Writes

-- What ends of items and answers may change -----------------------------------------------------------------------------

/-- `t` is `s` but for dictionary values, the log, work items, answers and the host port's responses; no ended item left its state. -/
def Ends (s t : State) : Prop :=
  (∃ d lg wk an wt h, t = { s with dict := d, log := lg, work := wk, answers := an, waiting := wt, host := h }) ∧
  ∀ i w, Tab.find s.work i = some w → 2 ≤ w.state → Tab.find t.work i = some w

namespace Ends
variable {s t u : State}

theorem of_work (d : Tab (List Byte)) (lg : List LogEntry) (an : Tab Answer) (wt : List Waiting) (h : HostPort) (s : State) :
    Ends s { s with dict := d, log := lg, answers := an, waiting := wt, host := h } :=
  ⟨⟨d, lg, s.work, an, wt, h, rfl⟩, fun _ _ hw _ => hw⟩
theorem refl (s : State) : Ends s s := of_work s.dict s.log s.answers s.waiting s.host s
theorem trans (h : Ends s t) (k : Ends t u) : Ends s u := by
  obtain ⟨⟨d, lg, wk, an, wt, hp, rfl⟩, hends⟩ := h
  obtain ⟨⟨d', lg', wk', an', wt', hp', rfl⟩, kends⟩ := k
  exact ⟨⟨d', lg', wk', an', wt', hp', rfl⟩, fun i w hw hstate => kends i w (hends i w hw hstate) hstate⟩
theorem of_wrN (s : State) (i j v : Nat) : Ends s (wrN s i j v) := by
  obtain ⟨d, hd⟩ := wrN_eq s i j v
  rw [hd]
  exact of_work d s.log s.answers s.waiting s.host s
theorem of_irq (s : State) (n : Nat) : Ends s (irq s n) := of_wrN s 0x2810 0x80 _
theorem of_logAdd (s : State) (code loc qual data : Nat) : Ends s (logAdd s code loc qual data) := by
  have hentered {r : State} (hr : Ends s r) (l : List LogEntry) (n : Nat) :
      Ends s (wrBit (wrN { r with log := l } 0x2710 0x80 n) 0x2810 0x80 2 true) :=
    ((hr.trans (of_work r.dict l r.answers r.waiting r.host r)).trans (of_wrN ..)).trans (of_wrN ..)
  unfold logAdd
  simp only
  split
  · exact hentered (of_wrN ..) _ _
  · exact hentered (refl s) _ _

/-- A change of an item in flight. -/
theorem of_itemSet {i : Nat} {w : WorkItem} (hw : Tab.find s.work i = some w) (hflight : w.state < 2) (f : WorkItem → WorkItem) :
    Ends s (itemSet s i f) := by
  rw [itemSet_found hw]
  refine ⟨⟨s.dict, s.log, _, s.answers, s.waiting, s.host, rfl⟩, fun j x hx hstate => ?_⟩
  have hne : i ≠ j := by
    rintro rfl
    rw [hw] at hx
    obtain rfl := Option.some.inj hx
    omega
  exact (Tab.find_put_ne s.work _ hne).trans hx

theorem of_itemDone (s : State) (i : Nat) : Ends s (itemDone s i) := by
  unfold itemDone
  split
  · rename_i w hw
    split
    · rename_i hflight
      simp only
      split
      · exact (of_itemSet hw hflight _).trans (of_irq ..)
      · exact of_itemSet hw hflight _
    · exact refl s
  · exact refl s

theorem of_itemFail (s : State) (i reason code : Nat) : Ends s (itemFail s i reason code) := by
  unfold itemFail
  split
  · rename_i w hw
    split
    · rename_i hflight
      exact ((of_itemSet hw hflight _).trans (of_logAdd ..)).trans (of_irq ..)
    · exact refl s
  · exact refl s

theorem of_itemAnswered (s : State) (item : Option Nat) (code : Nat) : Ends s (itemAnswered s item code) := by
  unfold itemAnswered
  split
  · split
    · exact of_itemDone ..
    · exact of_itemFail ..
  · exact refl s

theorem of_answer (s : State) (client code : Nat) (data : List Byte) : Ends s (answer s client code data) := by
  unfold answer
  split
  · exact refl s
  · exact of_work s.dict s.log _ s.waiting s.host s

theorem of_hostReady (s : State) (tag : Nat) (ok : Bool) (data : List Byte) : Ends s (hostReady s tag ok data) := by
  unfold hostReady
  exact ((of_work s.dict s.log s.answers s.waiting _ s).trans (of_wrN ..)).trans (of_wrN ..)

theorem of_later (s : State) (client idx code : Nat) (data : List Byte) : Ends s (later s client idx code data) := by
  have hanswer := of_answer s client code data
  unfold later
  simp only
  split
  · exact hanswer
  · rename_i w _
    have hitem : Ends s (itemAnswered
        { answer s client code data with waiting := (answer s client code data).waiting.filter (· != w) } w.item code) :=
      (hanswer.trans (of_work _ _ _ _ _ _)).trans (of_itemAnswered ..)
    split
    · exact hitem.trans (of_hostReady ..)
    · exact hitem

end Ends

end Sys2Proof.Machine
end

section
/-! SUPPORT. The TAP (R447, R490, R491): what its instructions load, and the hold of EXTEST, CLAMP and HIGHZ. -/
namespace Sys2Proof.Machine
open Sys2Proof Sys2Proof.OD

theorem tapped_on {s : State} (h : s.pw.off = false) (f : State → State) : tapped s f = f s := by
  unfold tapped
  rw [h]
  rfl

/-- What a boundary-scan hold leaves: the TAP with its instruction, every unit in reset, and the level of ENSIGN_IN. -/
theorem tapHold_frame (s : State) (ir : Nat) :
    (tapHold s ir).tap = { s.tap with ir := ir, hold := true, access := false } ∧ (tapHold s ir).inReset = true ∧
    (tapHold s ir).ensignIn = s.ensignIn := by
  cases hreset : s.inReset with
  | true => simp [tapHold, hreset, setRst]
  | false => simp [tapHold, hreset, setRst, unitsReset]

/-- In a hold a pin follows the boundary cells where EXTEST or CLAMP drives it and ENSIGN_IN lets it, and nothing else. -/
theorem pinDrive_held {s : State} (hhold : s.tap.hold = true) (n x : Nat) :
    pinDrive s n x = if ensignGated s || !(s.tap.ir == 0 || s.tap.ir == 4) then none else cellDrive s n := by
  unfold pinDrive
  rw [if_pos hhold]

theorem exec_tapHold {s : State} (h : s.pw.off = false) {p : Instr × Nat} (hp : p ∈ [(Instr.tapExtest, 0), (.tapClamp, 4), (.tapHighz, 5)]) :
    exec p.1 s = .next (settled s (tapHold s p.2)) := by
  have hheld (ir : Nat) : done s (tapped s fun s => tapHold s ir) = .next (settled s (tapHold s ir)) := by rw [tapped_on h, done]
  simp only [List.mem_cons, List.not_mem_nil, or_false] at hp
  obtain rfl | rfl | rfl := hp
  · exact hheld 0
  · exact hheld 4
  · exact hheld 5

/-- EXTEST and CLAMP drive the pins from the boundary cells. -/
theorem tapHold_drives {s : State} {ir : Nat} (hir : ir = 0 ∨ ir = 4) (n x : Nat) :
    pinDrive (settled s (tapHold s ir)) n x =
      if ensignGated s || !bit s.tap.cells (3 * n) then none else some (bit s.tap.cells (3 * n + 1)) := by
  obtain ⟨htap, -, hpin⟩ := tapHold_frame s ir
  have hgated : ensignGated (settled s (tapHold s ir)) = ensignGated s := by
    rw [ensignGated, settled_ensignIn, settled_zh6432, hpin, ensignGated]
  have hcell : cellDrive (settled s (tapHold s ir)) n =
      if !bit s.tap.cells (3 * n) then none else some (bit s.tap.cells (3 * n + 1)) := by
    simp only [cellDrive, settled_tap, htap]
    rcases hir with rfl | rfl
    · rfl
    · rfl
  have hdriven : (!(ir == 0 || ir == 4)) = false := by
    rcases hir with rfl | rfl
    · rfl
    · rfl
  rw [pinDrive_held (by rw [settled_tap, htap]), hgated, hcell, settled_tap, htap, hdriven]
  cases ensignGated s
  · rfl
  · rfl

/-- Settles O25: the instructions that load the TAP's registers by `tapped`, those that hold the device by what the hold leaves. -/
theorem tapInstructions : Obligations.TapInstructions := by
  unfold Obligations.TapInstructions
  intro s hon
  have hloads (f : State → State) : done s (tapped s f) = .next (settled s (f s)) := by rw [tapped_on hon, done]
  refine ⟨hloads tapIdcode, fun capture preload => hloads fun s => tapSample s capture preload, hloads tapBypass, ?_, ?_, ?_, ?_, ?_⟩
  · intro code hcode
    have hmod : code % 8 = code := Nat.mod_eq_of_lt hcode
    refine (hloads fun s => tapPrivate s code).trans ?_
    simp only [tapPrivate, hmod]
    rfl
  · obtain ⟨htap, hreset, -⟩ := tapHold_frame s 5
    refine ⟨_, exec_tapHold (p := (.tapHighz, 5)) hon (by simp), ?_, ?_, hreset, fun n x => ?_⟩
    · rw [settled_tap, htap]
    · rw [settled_tap, htap]
    · rw [pinDrive_held (by rw [settled_tap, htap]), settled_tap, htap]
      exact if_pos (Bool.or_true _)
  · obtain ⟨htap, hreset, -⟩ := tapHold_frame s 0
    exact ⟨_, exec_tapHold (p := (.tapExtest, 0)) hon (by simp), htap, hreset, tapHold_drives (.inl rfl)⟩
  · obtain ⟨htap, hreset, -⟩ := tapHold_frame s 4
    exact ⟨_, exec_tapHold (p := (.tapClamp, 4)) hon (by simp), htap, hreset, tapHold_drives (.inr rfl)⟩
  · intro hfree
    have hrelease : exec .trstRelease s = done s (trstRelease s) := by
      change done s (if s.pw.off then s else trstRelease s) = _
      rw [hon]
      rfl
    rw [hrelease, trstRelease, hfree]
    rfl

end Sys2Proof.Machine
end

section
/-! SUPPORT. Resets (R470 to R472): what the assertion of a reset leaves, and each source of one with its cause. -/
namespace Sys2Proof.Tab

/-- A table filtered by its keys. -/
theorem find_filter_key {α : Type} (t : Tab α) (K : Nat → Bool) (x : Nat) :
    find (t.filter fun p => K p.1) x = if K x then find t x else none := by
  induction t with
  | nil => simp
  | cons p t ih =>
    obtain ⟨k, v⟩ := p
    by_cases hk : k = x
    · subst hk
      cases hkey : K k
      · simpa [List.filter_cons, hkey] using ih
      · simp [hkey, find]
    · cases hkey : K k
      · simpa [List.filter_cons, hkey, find, hk] using ih
      · simpa [List.filter_cons, hkey, find, hk] using ih

end Sys2Proof.Tab

namespace Sys2Proof.Machine
open Sys2Proof Sys2Proof.OD

theorem dictGet_filter (d : Tab (List Byte)) (K : Nat → Bool) (k : Nat) :
    dictGet (d.filter fun p => K p.1) k = if K k then dictGet d k else defaultAt k := by
  unfold dictGet Tab.get
  rw [Tab.find_filter_key]
  split
  · rfl
  · rfl

-- The assertion of a reset ------------------------------------------------------------------------------------------

/-- No pin is driven in a reset that is no boundary-scan hold. -/
theorem quiet_of_reset {s : State} (hhold : s.tap.hold = false) (hreset : s.inReset = true) : quiet s := fun n x => by
  have hwitness : witness s = false := by simp [witness, hreset]
  have hoff : outputsOff s = true := by simp [outputsOff, hreset]
  simp [pinDrive, hhold, hwitness, hoff]

theorem assertReset_hold (s : State) (c : Nat) : (assertReset s c).tap.hold = false := by
  cases hcold : coldCause c with
  | true => simp [assertReset, hcold, setRst]
  | false => simp [assertReset, hcold, setRst]

/-- What a reset leaves of the state `s` that it finds, seen from a state `r` before it whose kept memories are those of `s`. -/
theorem resetBy_of_kept {q r s : State} (c : Nat) (hbackup : ∀ k, backupKey k = true → dictGet s.dict k = dictGet r.dict k)
    (hstored : s.store.recs = r.store.recs ∧ s.logStore = r.logStore ∧ s.cal.secs = r.cal.secs) (hwork : s.work = r.work)
    {t : State} (ht : t = settled q { assertReset s c with tap := t.tap }) (hhold : t.tap.hold = false) : ResetBy c r t where
  asserted := by
    rw [ht]
    exact ⟨rfl, rfl, rfl⟩
  pins := quiet_of_reset hhold (by rw [ht]; rfl)
  defaults := fun k hk => by
    rw [ht]
    refine (dictGet_dictCanon _ k).trans ((dictGet_filter s.dict resetKeeps k).trans ?_)
    rw [hk]
    rfl
  backup := fun k hk hb => by
    rw [ht]
    refine (dictGet_dictCanon _ k).trans ((dictGet_filter s.dict resetKeeps k).trans ?_)
    rw [hk]
    exact hbackup k hb
  stored := by
    rw [ht]
    exact hstored
  work := by
    rw [ht, ← hwork]
    simp only [settled_work, assertReset, setRst, unitsReset, coldCause, decide_eq_true_eq]
  ensign := by rw [ht]; rfl

/-- A reset asserted on the state as it is, but for memories that no reset keeps. -/
theorem resetBy_assertReset {q r s : State} (c : Nat) (hbackup : ∀ k, backupKey k = true → dictGet s.dict k = dictGet r.dict k)
    (hstored : s.store.recs = r.store.recs ∧ s.logStore = r.logStore ∧ s.cal.secs = r.cal.secs) (hwork : s.work = r.work) :
    ResetBy c r (settled q (assertReset s c)) :=
  resetBy_of_kept c hbackup hstored hwork rfl (assertReset_hold s c)

theorem resetBy_self (s : State) (c : Nat) : ResetBy c s (settled s (assertReset s c)) :=
  resetBy_assertReset c (fun _ _ => rfl) ⟨rfl, rfl, rfl⟩ rfl

-- The sources ---------------------------------------------------------------------------------------------------------

theorem killAsserted_resets {s : State} (h : s.pw.off = false) : Reaches .killAsserted s (ResetBy 3 s) := by
  have hkill : killAsserted s = assertReset s 3 := by simp [killAsserted, h]
  exact ⟨_, by rw [← hkill]; rfl, resetBy_self s 3⟩

theorem powerOn_resets {s : State} (h : s.pw.off = false) : Reaches .powerOnReset s (ResetBy 0 s) := by
  have hfell : powerOn s = assertReset s 0 := by simp [powerOn, h]
  exact ⟨_, by rw [← hfell]; rfl, resetBy_self s 0⟩

/-- Power comes back: the cause is what asserted PWRON. -/
theorem powerOn_wakes {s : State} (hoff : s.pw.off = true) (hpwron : s.cal.pwron = true) (hcause : rdN s 0x2300 0x82 ≤ 2) :
    Reaches .powerOnReset s (ResetBy (rdN s 0x2300 0x82) s) := by
  have hcomes : powerOn s = assertReset { s with pw := {} } (rdN s 0x2300 0x82) := by
    simp only [powerOn, hoff, hpwron, if_true]
    rw [show Nat.min 2 (rdN s 0x2300 0x82) = rdN s 0x2300 0x82 from Nat.min_eq_right hcause]
  exact ⟨_, by rw [← hcomes]; rfl, resetBy_assertReset (r := s) (s := { s with pw := {} }) _ (fun _ _ => rfl) ⟨rfl, rfl, rfl⟩ rfl⟩

theorem watchdogExpired_resets {s : State} (h : Alive s) (hage : 1000 ≤ s.rst.wdAge) : Reaches .watchdogExpired s (ResetBy 5 s) := by
  have hexpired : watchdogExpired s = assertReset s 5 := by simp [watchdogExpired, (live_of_alive h).1, hage]
  refine ⟨_, ?_, resetBy_self s 5⟩
  change done s (act s watchdogExpired) = _
  rw [act_alive h, hexpired, done]

theorem trstRelease_resets {s : State} (hon : s.pw.off = false) (hhold : s.tap.hold = true) :
    Reaches .trstRelease s fun t => ResetBy 9 s t ∧ t.tap = { dr := idcode s } := by
  have hends : trstRelease s = { assertReset { s with tap := {} } 9 with tap := { dr := idcode s } } := by simp [trstRelease, hhold]
  refine ⟨settled s { assertReset { s with tap := {} } 9 with tap := { dr := idcode s } }, ?_,
    resetBy_of_kept (r := s) (s := { s with tap := {} }) 9 (fun _ _ => rfl) ⟨rfl, rfl, rfl⟩ rfl rfl rfl, rfl⟩
  change done s (if s.pw.off then s else trstRelease s) = _
  rw [hon, ← hends]
  rfl

theorem thermalRelease_resets {s : State} (hon : s.pw.off = false) (hhold : s.th.hold ≠ 0) (hcool : 1000 ≤ s.th.cool) :
    Reaches .thermalRelease s fun t => ResetBy (if s.th.hold = 2 then 8 else 7) s t ∧ t.th.hold = 0 := by
  have hcooled : thermalCooled s = true := by simp [thermalCooled, hhold, hcool]
  have hends : thermalRelease s =
      assertReset (setTh { s with cal := { s.cal with trip := false } } { s.th with hold := 0 }) (if s.th.hold = 2 then 8 else 7) := by
    simp only [thermalRelease, hcooled, if_true, beq_iff_eq]
  refine ⟨settled s (thermalRelease s), ?_, ?_, ?_⟩
  · change done s (if s.pw.off then s else thermalRelease s) = _
    rw [hon]
    rfl
  · rw [hends]
    exact resetBy_assertReset _ (fun _ _ => rfl) ⟨rfl, rfl, rfl⟩ rfl
  · rw [hends]
    rfl

/-- The objects that reports write. -/
theorem reportKey_object {k : Nat} (h : reportKey k = true) : k / 256 ∈ reportObjects := by
  simp only [reportKey, logKey, emcyKey, Bool.or_eq_true, beq_iff_eq, within_iff, key] at h
  simp only [reportObjects, List.mem_cons, List.not_mem_nil, or_false]
  omega

/-- Reports write no sub-index of the backup domain. -/
theorem backupKey_of_report {k : Nat} (h : reportKey k = true) : backupKey k = false := by
  have hobject := reportKey_object h
  simp only [reportObjects, List.mem_cons, List.not_mem_nil, or_false] at hobject
  rcases hobject with e | e | e | e | e | e <;> simp [backupKey, within, e]

/-- PFW_n rises again after step 1 of R387. -/
theorem pfwReleased_resets {s : State} (h : Alive s) (hstate : rdN s 0x2100 0x80 = 3) (hdone : s.pw.recordAt = none) :
    Reaches .pfwReleased s fun t => ResetBy 6 s t ∧ t.pfw = false := by
  let u := wrBit (condEnd { s with pfw := false } 58 0 0x0320C000) 0x2100 0x81 4 false
  have htold : Told { s with pfw := false } u := (told_condEnd ..).trans (told_wrBit ..)
  have hwrites : Writes (fun k => reportKey k || k == key 0x2100 0x81) s u :=
    .wrBit rfl (.condEnd (fun k hk => by simp [hk]) (by decide) (.of_dict rfl))
  have hends : pfwReleased s = assertReset u 6 := by simp [pfwReleased, hstate, hdone, u]
  have hbackup (k : Nat) (hk : backupKey k = true) : dictGet u.dict k = dictGet s.dict k := by
    refine hwrites k (Bool.or_eq_false_iff.mpr ⟨?_, ?_⟩)
    · exact Bool.eq_false_iff.mpr fun hr => by simp [backupKey_of_report hr] at hk
    · exact Bool.eq_false_iff.mpr fun he => by
        rw [beq_iff_eq.mp he] at hk
        exact absurd hk (by decide)
  obtain ⟨d, cs, pt, an, eq, lg, hu⟩ := htold
  refine ⟨settled s (assertReset u 6), ?_, resetBy_assertReset 6 hbackup (by rw [hu]; exact ⟨rfl, rfl, rfl⟩) (by rw [hu]), ?_⟩
  · change done s (if alive s && rdN s 0x2100 0x80 == 3 then pfwReleased s else { s with pfw := false }) = _
    rw [show alive s = true from h, hstate, hends]
    rfl
  · rw [hu]
    rfl

/-- Settles O20: each source by its lemma above. -/
theorem resetsLeaveTheResetState : Obligations.ResetsLeaveTheResetState := by
  unfold Obligations.ResetsLeaveTheResetState
  exact ⟨fun _ => killAsserted_resets, fun _ => powerOn_resets, fun _ => powerOn_wakes, fun _ => watchdogExpired_resets,
    fun _ => trstRelease_resets, fun _ => thermalRelease_resets, fun _ => pfwReleased_resets⟩

end Sys2Proof.Machine
end

section
/-! SUPPORT. The persistent store (R416 to R422): the record of a completed bank write, the end of an item, and the three outcomes of a
write; and the log's reads. -/
namespace Sys2Proof.Machine
open Sys2Proof Sys2Proof.OD

-- A bank that has been written ----------------------------------------------------------------------------------------

/-- The bank that a completed write fills. -/
def bankOf (s : State) (tag serial : Nat) (p : Payload) : Bank :=
  { seq := match newest (storeRecord s tag) with | some b => (b.seq + 1) % 2 ^ 32 | none => 1
    serial := serial, writeNo := rdN s 0x2400 0x94 + 1, payload := p }

/-- The record once `b` stands in its target bank. -/
def bankFilled (r : Record) (b : Bank) : Record :=
  if targetIs1 r then { r with b1 := some b, e1 := r.e1 + 1 } else { r with b0 := some b, e0 := r.e0 + 1 }

/-- The keys of the store's counters: writes, wear, spare sectors and journal. -/
def storeKey (k : Nat) : Bool := within k (key 0x2400 0x94) (key 0x2400 0x9A)

theorem undecayed_store (s : State) (tag : Nat) (one : Bool) : ∃ l, undecayed s tag one = { s with store := { s.store with decayed := l } } := by
  unfold undecayed
  split
  · exact ⟨s.store.decayed, rfl⟩
  · exact ⟨_, rfl⟩

/-- `s` with a bank of `tag` filled, before counters and wear follow. -/
def bankPut (s : State) (tag serial : Nat) (p : Payload) : State :=
  setRecord (undecayed s tag (targetIs1 (storeRecord s tag))) tag (bankFilled (storeRecord s tag) (bankOf s tag serial p))

theorem bankWritten_counts (s : State) (tag serial : Nat) (p : Payload) :
    let r := bankFilled (storeRecord s tag) (bankOf s tag serial p)
    let e := Nat.max r.e0 r.e1
    let t := inc (wrN (bankPut s tag serial p) 0x2400 0x94 (rdN s 0x2400 0x94 + 1)) 0x2400 0x95
    let u := if rdN t 0x2400 0x98 < e then wrN t 0x2400 0x98 e else t
    bankWritten s tag serial p =
      if e ≥ 90000 then condStart u 74 tag (bankLoc tag (targetIs1 (storeRecord s tag))) 0xFF else u := rfl

/-- A completed write fills its bank, and otherwise only counts and reports. -/
theorem told_bankWritten (s : State) (tag serial : Nat) (p : Payload) : Told (bankPut s tag serial p) (bankWritten s tag serial p) := by
  have hcounted : Told (bankPut s tag serial p) (inc (wrN (bankPut s tag serial p) 0x2400 0x94 (rdN s 0x2400 0x94 + 1)) 0x2400 0x95) :=
    (told_wrN ..).trans (told_inc ..)
  have hworn (u : State) (e : Nat) : Told u (if rdN u 0x2400 0x98 < e then wrN u 0x2400 0x98 e else u) := by
    split
    · exact told_wrN ..
    · exact .refl u
  rw [bankWritten_counts]
  split
  · exact (hcounted.trans (hworn _ _)).trans (told_condStart ..)
  · exact hcounted.trans (hworn _ _)

namespace Writes
variable {W : Nat → Bool} {s t : State}

theorem setRecord {tag : Nat} {r : Record} (h : Writes W s t) : Writes W s (setRecord t tag r) := h.beside rfl
theorem undecayed {tag : Nat} {one : Bool} (h : Writes W s t) : Writes W s (undecayed t tag one) := by
  obtain ⟨l, hl⟩ := undecayed_store t tag one
  rw [hl]
  exact h.beside rfl

theorem bankWritten {tag serial : Nat} {p : Payload} (hW : AllowsReports W) (hk : ∀ k, storeKey k = true → W k = true)
    (h : Writes W s t) : Writes W s (bankWritten t tag serial p) := by
  have hcounted : Writes W s (Machine.inc (Machine.wrN (bankPut t tag serial p) 0x2400 0x94 (rdN t 0x2400 0x94 + 1)) 0x2400 0x95) :=
    inc (hk _ rfl) (wrN (hk _ rfl) (setRecord (undecayed h)))
  have hworn {u : State} (hu : Writes W s u) (e : Nat) :
      Writes W s (if rdN u 0x2400 0x98 < e then Machine.wrN u 0x2400 0x98 e else u) := by
    split
    · exact wrN (hk _ rfl) hu
    · exact hu
  rw [bankWritten_counts]
  split
  · exact condStart hW (by decide) (hworn hcounted _)
  · exact hworn hcounted _

end Writes

@[simp] theorem storeRecord_setRecord_self (s : State) (tag : Nat) (r : Record) : storeRecord (setRecord s tag r) tag = r :=
  Tab.get_put_self s.store.recs tag r {}
theorem storeRecord_setRecord_ne (s : State) {tag tag' : Nat} (r : Record) (h : tag ≠ tag') :
    storeRecord (setRecord s tag r) tag' = storeRecord s tag' := Tab.get_put_ne s.store.recs r {} h
theorem storeRecord_undecayed (s : State) (tag : Nat) (one : Bool) (tag' : Nat) :
    storeRecord (undecayed s tag one) tag' = storeRecord s tag' := by
  obtain ⟨l, hl⟩ := undecayed_store s tag one
  rw [hl]
  rfl
theorem Told.storeRecord_eq {s t : State} (h : Told s t) (tag : Nat) : storeRecord t tag = storeRecord s tag := by
  obtain ⟨d, cs, pt, an, eq, lg, rfl⟩ := h
  rfl

theorem storeRecord_bankWritten (s : State) (tag serial : Nat) (p : Payload) :
    storeRecord (bankWritten s tag serial p) tag = bankFilled (storeRecord s tag) (bankOf s tag serial p) := by
  rw [(told_bankWritten s tag serial p).storeRecord_eq, bankPut, storeRecord_setRecord_self]

/-- The newest bank by what `newestIs1` says of the two. -/
theorem newest_of {r : Record} {one : Bool} (h : newestIs1 r = one) : newest r = if one then r.b1 else r.b0 := by rw [newest, h]

/-- A sequence number is followed by its successor, and not the other way round (R419). -/
theorem succ_newer {a b : Nat} (ha : a < 2 ^ 32) (hb : b = (a + 1) % 2 ^ 32) :
    within ((b + 2 ^ 32 - a) % 2 ^ 32) 1 (2 ^ 31 - 1) = true ∧ within ((a + 2 ^ 32 - b) % 2 ^ 32) 1 (2 ^ 31 - 1) = false := by
  rw [Bool.eq_false_iff, ne_eq, within_iff, within_iff]
  omega

theorem bankFilled_one {r : Record} {b : Bank} (h : targetIs1 r = true) : bankFilled r b = { r with b1 := some b, e1 := r.e1 + 1 } := by
  rw [bankFilled, if_pos h]
theorem bankFilled_zero {r : Record} {b : Bank} (h : targetIs1 r = false) : bankFilled r b = { r with b0 := some b, e0 := r.e0 + 1 } := by
  rw [bankFilled, h]
  rfl

/-- R419: the bank just filled is the newest one, its sequence number being the next. -/
theorem newest_bankFilled {r : Record} {b : Bank} (hseq : b.seq = match newest r with | some a => (a.seq + 1) % 2 ^ 32 | none => 1)
    (hbound : ∀ a, newest r = some a → a.seq < 2 ^ 32) : newest (bankFilled r b) = some b := by
  obtain ⟨b0, b1, e0, e1⟩ := r
  rcases b0 with _ | x <;> rcases b1 with _ | y
  case none.none => rfl
  case none.some =>
    have hbig := succ_newer (hbound y rfl) hseq
    rw [bankFilled_zero rfl]
    exact newest_of (one := false) hbig.2
  case some.none =>
    have hbig := succ_newer (hbound x rfl) hseq
    rw [bankFilled_one rfl]
    exact newest_of (one := true) hbig.1
  case some.some =>
    cases hone : newestIs1 { b0 := some x, b1 := some y, e0 := e0, e1 := e1 } with
    | true =>
      have hnew := newest_of hone
      rw [hnew] at hseq
      have hbig := succ_newer (hbound y hnew) hseq
      rw [bankFilled_zero (by rw [targetIs1, hnew, hone]; rfl)]
      exact newest_of (one := false) hbig.2
    | false =>
      have hnew := newest_of hone
      rw [hnew] at hseq
      have hbig := succ_newer (hbound x hnew) hseq
      rw [bankFilled_one (by rw [targetIs1, hnew, hone]; rfl)]
      exact newest_of (one := true) hbig.1

/-- The record once its target bank is erased. -/
def bankEmptied (r : Record) : Record := if targetIs1 r then { r with b1 := none } else { r with b0 := none }

/-- The erasure of the target bank leaves the newest copy (R419). -/
theorem newest_bankEmptied (r : Record) : newest (bankEmptied r) = newest r := by
  obtain ⟨b0, b1, e0, e1⟩ := r
  rcases b0 with _ | x <;> rcases b1 with _ | y
  case none.none => rfl
  case none.some => rfl
  case some.none => rfl
  case some.some =>
    cases hone : newestIs1 { b0 := some x, b1 := some y, e0 := e0, e1 := e1 } with
    | true =>
      have hnew := newest_of hone
      have htarget : targetIs1 { b0 := some x, b1 := some y, e0 := e0, e1 := e1 } = false := by
        rw [targetIs1, hnew, hone]
        rfl
      rw [bankEmptied, htarget, hnew]
      rfl
    | false =>
      have hnew := newest_of hone
      have htarget : targetIs1 { b0 := some x, b1 := some y, e0 := e0, e1 := e1 } = true := by
        rw [targetIs1, hnew, hone]
        rfl
      rw [bankEmptied, htarget, hnew]
      rfl

theorem storeRecord_bankErased (s : State) (tag : Nat) :
    storeRecord (bankErased s tag) tag = bankEmptied (storeRecord s tag) := by
  have hnone (r : Record) (h : r.b1 = none) : { r with b1 := none } = r := by rw [← h]
  have hnone' (r : Record) (h : r.b0 = none) : { r with b0 := none } = r := by rw [← h]
  unfold bankErased bankEmptied
  simp only
  split
  · split
    · rw [storeRecord_setRecord_self]
    · rename_i h
      rw [storeRecord_undecayed, hnone _ (by simpa using h)]
  · split
    · rw [storeRecord_setRecord_self]
    · rename_i h
      rw [storeRecord_undecayed, hnone' _ (by simpa using h)]

theorem bankErased_eq (s : State) (tag : Nat) :
    ∃ rs ds, bankErased s tag = { s with store := { s.store with recs := rs, decayed := ds } } := by
  obtain ⟨l, hl⟩ := undecayed_store s tag (targetIs1 (storeRecord s tag))
  unfold bankErased
  simp only [hl]
  split
  · split
    · exact ⟨_, _, rfl⟩
    · exact ⟨_, _, rfl⟩
  · split
    · exact ⟨_, _, rfl⟩
    · exact ⟨_, _, rfl⟩

theorem storeRecord_bankErased_ne (s : State) {tag tag' : Nat} (h : tag ≠ tag') :
    storeRecord (bankErased s tag) tag' = storeRecord s tag' := by
  unfold bankErased
  simp only
  split
  · split
    · rw [storeRecord_setRecord_ne _ _ h, storeRecord_undecayed]
    · rw [storeRecord_undecayed]
  · split
    · rw [storeRecord_setRecord_ne _ _ h, storeRecord_undecayed]
    · rw [storeRecord_undecayed]

theorem newest_bankErased (s : State) (tag tag' : Nat) :
    newest (storeRecord (bankErased s tag) tag') = newest (storeRecord s tag') := by
  by_cases h : tag = tag'
  · subst h
    rw [storeRecord_bankErased, newest_bankEmptied]
  · rw [storeRecord_bankErased_ne s h]

-- A pennant that an event raises --------------------------------------------------------------------------------------

/-- An event of a pennant of this part sets the pennant (R451). -/
theorem pennantSet_eventWith {s : State} {p : Nat} (loc code data src : Nat) (hp : p < 128) (hpart : pennantAbsent s p = false) :
    pennantSet (eventWith s p loc code data src) p = true := by
  have hset := (raiseBit_pennants s hp).1
  have hframe : Writes (fun k => logKey k || emcyKey k) (raiseBit s p) (eventWith s p loc code data src) := by
    have hentered : Writes (fun k => logKey k || emcyKey k) (raiseBit s p) (logAdd (raiseBit s p) code loc p data) :=
      .logAdd (fun k hk => by simp [hk]) (.refl _ _)
    rw [eventWith, if_neg (by simp [hpart])]
    simp only
    split
    · exact .announce (fun k hk => by simp [hk]) hentered
    · exact hentered
  have hkey : (logKey (key 0x2700 (1 + p / 32)) || emcyKey (key 0x2700 (1 + p / 32))) = false := by
    simp [logKey, emcyKey, key]
    omega
  rw [pennantSet, hframe.rdBit_eq hkey]
  exact hset

-- The end of a bank write ---------------------------------------------------------------------------------------------

/-- An item in flight that ends well stands DONE. -/
theorem itemDone_work {s : State} {i : Nat} {w : WorkItem} (hw : Tab.find s.work i = some w) (hflight : w.state < 2) :
    Tab.find (itemDone s i).work i = some { w with state := 2, ended := s.tick } := by
  have hset : Tab.find (itemSet s i fun w => { w with state := 2, ended := s.tick }).work i =
      some { w with state := 2, ended := s.tick } := by rw [itemSet_found hw, Tab.find_put_self]
  rw [itemDone, hw]
  simp only [hflight, if_true]
  split
  · rw [(told_irq ..).work_eq]
    exact hset
  · exact hset

theorem Told.store_eq {s t : State} (h : Told s t) : t.store = s.store := by
  obtain ⟨d, cs, pt, an, eq, lg, rfl⟩ := h
  rfl

theorem Ends.store_eq {s t : State} (h : Ends s t) : t.store = s.store := by
  obtain ⟨⟨d, lg, wk, an, wt, hp, rfl⟩, _⟩ := h
  rfl

theorem journalDrop_store (s : State) (i : Nat) :
    (journalDrop s i).store.active = s.store.active ∧ (journalDrop s i).store.writes = s.store.writes ∧
    (journalDrop s i).store.queue = s.store.queue := by
  unfold journalDrop
  split
  · split
    · obtain ⟨d, hd⟩ := wrN_eq (setStore s { s.store with journal := s.store.journal.filter fun x => x.id != (_ : WorkItem).id })
        0x2400 0x9A (s.store.journal.filter fun x => x.id != (_ : WorkItem).id).length
      rw [hd]
      exact ⟨rfl, rfl, rfl⟩
    · exact ⟨rfl, rfl, rfl⟩
  · exact ⟨rfl, rfl, rfl⟩

/-- The abort code that a failed store write leaves in its item. -/
def storeAbort (q : StoreReq) (reason : Nat) : Nat := if reason == 11 || q.client.isSome then 0x08000020 else 0x08000000

/-- The state in which a store write's item ends. -/
def storeLeft (s : State) (i : Nat) : State := journalDrop (setStore s { s.store with active := none, writes := [], attempt := 0 }) i

/-- The item of a store write that ended. -/
def storeItemEnded (s : State) (q : StoreReq) (i : Nat) (ok : Bool) (reason : Nat) : State :=
  if ok then itemDone (storeLeft s i) i else itemFail (storeLeft s i) i reason (storeAbort q reason)

/-- After the item, only the client's answer follows. -/
theorem storeEnd_ends {s : State} {q : StoreReq} {i : Nat} (ha : s.store.active = some q) (hi : q.item = some i) (ok : Bool)
    (reason : Nat) : Ends (storeItemEnded s q i ok reason) (storeEnd s ok reason) := by
  have hend : storeEnd s ok reason = match q.client with
      | some c => later (storeItemEnded s q i ok reason) c (workObject q.work).1 (if ok then 0 else 0x08000020) []
      | none => storeItemEnded s q i ok reason := by
    rw [storeEnd, ha]
    simp only [hi]
    rfl
  rw [hend]
  split
  · exact .of_later ..
  · exact .refl _

/-- A log entry may stand beside any sub-index that it does not write. -/
theorem allowsLog_but {k : Nat} (hk : logKey k = false) : AllowsLog (· != k) := fun x hx => bne_iff_ne.mpr fun e => by
  rw [e, hk] at hx
  exact absurd hx (by decide)

theorem Writes.journalDrop {W : Nat → Bool} {s t : State} {i : Nat} (hj : W (key 0x2400 0x9A) = true) (h : Writes W s t) :
    Writes W s (journalDrop t i) := by
  unfold Machine.journalDrop
  split
  · split
    · exact wrN hj (h.beside rfl)
    · exact h
  · exact h

theorem Writes.storeEnd {W : Nat → Bool} {s t : State} {ok : Bool} {reason : Nat} (hW : AllowsLog W)
    (hn : W (key 0x2810 0x87) = true) (hj : W (key 0x2400 0x9A) = true) (h : Writes W s t) : Writes W s (storeEnd t ok reason) := by
  unfold Machine.storeEnd
  split
  · exact h
  · rename_i q _
    have hidle : Writes W s (setStore t { t.store with active := none, writes := [], attempt := 0 }) := h.beside rfl
    have hitem (u : State) (hu : Writes W s u) : Writes W s (match q.client with
        | some c => Machine.later u c (workObject q.work).1 (if ok then 0 else 0x08000020) []
        | none => u) := by
      split
      · exact later hW hn hu
      · exact hu
    refine hitem _ ?_
    split
    · split
      · exact itemDone hW (journalDrop hj hidle)
      · exact itemFail hW (journalDrop hj hidle)
    · exact hidle

/-- The end of a store write leaves the store idle, with its queue. -/
theorem storeEnd_idle {s : State} {q : StoreReq} {i : Nat} (ha : s.store.active = some q) (hi : q.item = some i) (ok : Bool)
    (reason : Nat) : (storeEnd s ok reason).store.active = none ∧ (storeEnd s ok reason).store.writes = [] ∧
      (storeEnd s ok reason).store.queue = s.store.queue := by
  have hitem : (storeItemEnded s q i ok reason).store = (storeLeft s i).store := by
    unfold storeItemEnded
    split
    · exact (Ends.of_itemDone ..).store_eq
    · exact (Ends.of_itemFail ..).store_eq
  rw [(storeEnd_ends ha hi ok reason).store_eq, hitem]
  exact journalDrop_store ..

theorem storeEnd_done {s : State} {q : StoreReq} {i : Nat} {w : WorkItem} (ha : s.store.active = some q) (hi : q.item = some i)
    (hw : Tab.find s.work i = some w) (hflight : w.state < 2) (reason : Nat) :
    (Tab.find (storeEnd s true reason).work i).map (·.state) = some 2 := by
  have hleft : Tab.find (storeLeft s i).work i = some w := by rw [storeLeft, journalDrop_work]; exact hw
  have hdone : Tab.find (storeItemEnded s q i true reason).work i = some { w with state := 2, ended := (storeLeft s i).tick } :=
    itemDone_work hleft hflight
  rw [(storeEnd_ends ha hi true reason).2 i _ hdone (Nat.le_refl 2)]
  rfl

theorem storeEnd_failed {s : State} {q : StoreReq} {i : Nat} {w : WorkItem} (ha : s.store.active = some q) (hi : q.item = some i)
    (hw : Tab.find s.work i = some w) (hflight : w.state < 2) (reason : Nat) :
    (Tab.find (storeEnd s false reason).work i).map (fun w => (w.state, w.reason)) = some (3, reason) := by
  have hleft : Tab.find (storeLeft s i).work i = some w := by rw [storeLeft, journalDrop_work]; exact hw
  have hfailed : Tab.find (storeItemEnded s q i false reason).work i = _ := itemFail_work hleft hflight reason (storeAbort q reason)
  rw [(storeEnd_ends ha hi false reason).2 i _ hfailed (show 2 ≤ 3 by decide)]
  rfl

/-- What a completed write takes over leaves the store's work and the work items. -/
theorem storeTaken_keeps (s : State) (x : StoreWork) : (storeTaken s x).store.active = s.store.active ∧
    (storeTaken s x).store.queue = s.store.queue ∧ (storeTaken s x).work = s.work := by
  cases x with
  | save _ => exact ⟨rfl, rfl, rfl⟩
  | restore areas =>
    exact ⟨foldS_keeps (·.store.active) (by intros; rfl) _ s, foldS_keeps (·.store.queue) (by intros; rfl) _ s,
      foldS_keeps (·.work) (by intros; rfl) _ s⟩
  | coupling =>
    have hfold : Told s (storeTaken s .coupling) :=
      told_foldS (f := fun s (z : Nat × List Nat × List Real32) => wrN s (dcObj z.1) 0x8E 2) (fun _ _ => told_wrN ..) (couplingRecord s) s
    exact ⟨by rw [hfold.store_eq], by rw [hfold.store_eq], hfold.work_eq⟩
  | coefs => exact ⟨rfl, rfl, rfl⟩
  | panel _ _ => exact ⟨rfl, rfl, rfl⟩
  | hoist _ => exact ⟨rfl, rfl, rfl⟩

theorem storeKick_idle {s : State} (hq : s.store.queue = []) : storeKick s = s := by
  rw [storeKick, hq]
  cases s.store.active with
  | none => rfl
  | some _ => rfl

theorem exec_bankWriteComplete {s : State} (h : Alive s) (b : BankBytes) :
    exec (.bankWriteComplete b) s = .next (settled s (storeHash s (bankWriteComplete s (bankCrcsOk b.header b.payload)))) := by
  change done s (act s fun s => storeHash s (bankWriteComplete s (bankCrcsOk b.header b.payload))) = _
  rw [act_alive h]
  rfl

section
variable {s : State} {q : StoreReq} {tag serial : Nat} {p : Payload} {rest : List (Nat × Nat × Payload)}
  (ha : s.store.active = some q) (hw : s.store.writes = (tag, serial, p) :: rest)
include ha hw

/-- The state after a good bank, before the next one begins or the item ends. -/
theorem bankWriteComplete_good : bankWriteComplete s true =
    let t := setStore (bankWritten s tag serial p) { (bankWritten s tag serial p).store with writes := rest, attempt := 0 }
    if rest.isEmpty then storeKick (storeEnd (storeTaken t q.work) true 0) else bankBegin t rest := by
  rw [bankWriteComplete, ha, hw]
  rfl

theorem bankWriteComplete_spare (hfirst : s.store.attempt = 0) (hspare : bankKB tag ≤ rdN s 0x2400 0x99) :
    bankWriteComplete s false =
      wrN { s with store := { s.store with attempt := 1 } } 0x2400 0x99 (rdN s 0x2400 0x99 - bankKB tag) := by
  rw [bankWriteComplete, ha, hw]
  simp [hfirst, hspare, setStore, ha, hw]

theorem bankWriteComplete_failed (hagain : s.store.attempt ≠ 0) : bankWriteComplete s false =
    storeKick (storeEnd (inc (event s 73 (bankLoc tag (targetIs1 (storeRecord s tag)))) 0x2400 0x96) false 11) := by
  rw [bankWriteComplete, ha, hw]
  simp [hagain]

end

theorem bankWritten_store (s : State) (tag serial : Nat) (p : Payload) :
    (bankWritten s tag serial p).store.active = s.store.active ∧ (bankWritten s tag serial p).store.queue = s.store.queue ∧
    (bankWritten s tag serial p).work = s.work := by
  have htold := told_bankWritten s tag serial p
  obtain ⟨l, hl⟩ := undecayed_store s tag (targetIs1 (storeRecord s tag))
  rw [htold.store_eq, htold.work_eq, bankPut, hl]
  exact ⟨rfl, rfl, rfl⟩

/-- What stands once a bank is good and the next one begins. -/
theorem bankGood_reached {s : State} {q : StoreReq} {tag serial : Nat} {p : Payload} {rest : List (Nat × Nat × Payload)}
    (ha : s.store.active = some q) (hmore : rest ≠ [])
    (hbound : ∀ b, newest (storeRecord s tag) = some b → b.seq < 2 ^ 32) (r : State) :
    let t := setStore (bankWritten s tag serial p) { (bankWritten s tag serial p).store with writes := rest, attempt := 0 }
    let u := settled r (storeHash s (if rest.isEmpty then storeKick (storeEnd (storeTaken t q.work) true 0) else bankBegin t rest))
    u.store.writes = rest ∧ u.store.active = some q ∧ u.store.attempt = 0 ∧
      (newest (storeRecord u tag)).map (fun b => (b.serial, b.payload)) = some (serial, p) := by
  obtain ⟨⟨next, serial', p'⟩, more, rfl⟩ := List.exists_cons_of_ne_nil hmore
  intro t u
  have hnewest : newest (storeRecord t tag) = some (bankOf s tag serial p) :=
    (congrArg newest (storeRecord_bankWritten s tag serial p)).trans (newest_bankFilled rfl hbound)
  obtain ⟨x, hx⟩ := storeHash_eq s (bankErased t next)
  obtain ⟨rs, ds, herased⟩ := bankErased_eq t next
  have hu : u = settled r { bankErased t next with hashed := x } := congrArg (settled r) hx
  have hstore : u.store = { t.store with recs := rs, decayed := ds } :=
    (congrArg (·.store) hu).trans (congrArg (·.store) herased)
  refine ⟨congrArg (·.writes) hstore, ?_, congrArg (·.attempt) hstore, ?_⟩
  · exact (congrArg (·.active) hstore).trans ((bankWritten_store s tag serial p).1.trans ha)
  · have hrecord : storeRecord u tag = storeRecord (bankErased t next) tag := by
      rw [hu]
      rfl
    rw [hrecord, newest_bankErased, hnewest]
    rfl

section
variable {s : State} {q : StoreReq} {tag serial i : Nat} {p : Payload} {rest : List (Nat × Nat × Payload)} {w : WorkItem}
  (ha : s.store.active = some q) (hw : s.store.writes = (tag, serial, p) :: rest) (hqueue : s.store.queue = [])
  (hi : q.item = some i) (hfind : Tab.find s.work i = some w) (hflight : w.state < 2)
include ha hw hqueue hi hfind hflight

/-- What stands once the last bank is good. -/
theorem bankLast_reached (r : State) (hlast : rest = []) :
    let u := settled r (storeHash s (bankWriteComplete s true))
    u.store.active = none ∧ u.store.writes = [] ∧ (Tab.find u.work i).map (·.state) = some 2 := by
  subst hlast
  let t := setStore (bankWritten s tag serial p) { (bankWritten s tag serial p).store with writes := [], attempt := 0 }
  obtain ⟨hactive, hqueued, hworked⟩ := bankWritten_store s tag serial p
  obtain ⟨hactive', hqueued', hworked'⟩ := storeTaken_keeps t q.work
  have hat : (storeTaken t q.work).store.active = some q := hactive'.trans (hactive.trans ha)
  have hwt : Tab.find (storeTaken t q.work).work i = some w := by
    rw [hworked']
    exact (congrArg (Tab.find · i) hworked).trans hfind
  obtain ⟨hidle, hnone, hrest⟩ := storeEnd_idle hat hi true 0
  have hgood : bankWriteComplete s true = storeEnd (storeTaken t q.work) true 0 :=
    (bankWriteComplete_good ha hw).trans (storeKick_idle (hrest.trans (hqueued'.trans (hqueued.trans hqueue))))
  obtain ⟨x, hx⟩ := storeHash_eq s (storeEnd (storeTaken t q.work) true 0)
  rw [hgood, hx]
  exact ⟨hidle, hnone, storeEnd_done hat hi hwt hflight 0⟩

/-- What stands once a bank has failed again. -/
theorem bankFailed_reached (r : State) (hagain : s.store.attempt ≠ 0) :
    let u := settled r (storeHash s (bankWriteComplete s false))
    u.store.active = none ∧ (Tab.find u.work i).map (fun w => (w.state, w.reason)) = some (3, 11) ∧ pennantSet u 73 = true := by
  let t := inc (event s 73 (bankLoc tag (targetIs1 (storeRecord s tag)))) 0x2400 0x96
  have htold : Told s t := (told_event ..).trans (told_inc ..)
  have hat : t.store.active = some q := by rw [htold.store_eq, ha]
  have hwt : Tab.find t.work i = some w := by rw [htold.work_eq, hfind]
  obtain ⟨hidle, hnone, hrest⟩ := storeEnd_idle hat hi false 11
  have hkick : storeKick (storeEnd t false 11) = storeEnd t false 11 := storeKick_idle (by rw [hrest, htold.store_eq, hqueue])
  have hbad : bankWriteComplete s false = storeEnd t false 11 := (bankWriteComplete_failed ha hw hagain).trans hkick
  obtain ⟨x, hx⟩ := storeHash_eq s (storeEnd t false 11)
  rw [hbad, hx]
  refine ⟨hidle, storeEnd_failed hat hi hwt hflight 11, ?_⟩
  have hset : pennantSet (event s 73 (bankLoc tag (targetIs1 (storeRecord s tag)))) 73 = true :=
    pennantSet_eventWith _ _ _ _ (by decide) (by simp [pennantAbsent, within])
  have hframe : Writes (· != key 0x2700 3) (event s 73 (bankLoc tag (targetIs1 (storeRecord s tag)))) (storeEnd t false 11) :=
    .storeEnd (allowsLog_but rfl) rfl rfl (.inc rfl (.refl _ _))
  have hmarked := hframe.beside (u := { storeEnd t false 11 with hashed := x }) rfl
  exact ((hmarked.settled r).rdBit_eq (i := 0x2700) (j := 3) rfl 9).trans hset

end

/-- The check value of R417. -/
theorem crc32_check : crc32 [0x31#8, 0x32#8, 0x33#8, 0x34#8, 0x35#8, 0x36#8, 0x37#8, 0x38#8, 0x39#8] = 0xCBF43926 := by decide +kernel

/-- Settles O32: a good bank is the newest copy and the next one begins, or the item ends; a bad one goes to a spare sector, then fails. -/
theorem bankWriteCompletes : Obligations.BankWriteCompletes := by
  unfold Obligations.BankWriteCompletes
  refine ⟨crc32_check, fun s q tag serial p rest header payload hlive ha hw => ⟨?good, ?last, ?spare, ?failed⟩⟩
  case good =>
    intro hcrc hmore hbound
    refine ⟨_, exec_bankWriteComplete hlive _, ?_⟩
    rw [hcrc, bankWriteComplete_good ha hw]
    exact bankGood_reached ha hmore hbound s
  case last =>
    intro hcrc hlast hqueue i w hi hfind hflight
    refine ⟨_, exec_bankWriteComplete hlive _, ?_⟩
    rw [hcrc]
    exact bankLast_reached ha hw hqueue hi hfind hflight s hlast
  case spare =>
    intro hcrc hfirst hspare
    rw [exec_bankWriteComplete hlive, hcrc, bankWriteComplete_spare ha hw hfirst hspare]
    exact congrArg (fun t => Host.Outcome.next (settled s t)) (storeHash_same (wrN_work ..))
  case failed =>
    intro hcrc hagain hqueue i w hi hfind hflight
    refine ⟨_, exec_bankWriteComplete hlive _, ?_⟩
    rw [hcrc]
    exact bankFailed_reached ha hw hqueue hi hfind hflight s hagain

end Sys2Proof.Machine
end

section
/-! SUPPORT. The release of reset and the boot ROM (R438, R470, R474): the choice of the image, and what it leaves. -/
namespace Sys2Proof.Machine
open Sys2Proof Sys2Proof.OD

-- What the boot ROM leaves of the straps --------------------------------------------------------------------------------

theorem allowsReports_but {k : Nat} (hk : reportKey k = false) : AllowsReports (· != k) := fun x hx => bne_iff_ne.mpr fun e => by
  rw [e, hk] at hx
  exact absurd hx (by decide)

/-- The reset unit's record, the straps' pulls and DUPLEX_ID's level stand. -/
def KeepsStraps (s t : State) : Prop := t.rst = s.rst ∧ t.strapPulls = s.strapPulls ∧ Writes (· != key 0x2500 0x80) s t

theorem Told.rst_eq {s t : State} (h : Told s t) : t.rst = s.rst := by
  obtain ⟨d, cs, pt, an, eq, lg, rfl⟩ := h
  rfl
theorem Told.strapPulls_eq {s t : State} (h : Told s t) : t.strapPulls = s.strapPulls := by
  obtain ⟨d, cs, pt, an, eq, lg, rfl⟩ := h
  rfl

theorem told_wrR (s : State) (i j : Nat) (v : Real32) : Told s (wrR s i j v) := told_wrN ..

theorem Writes.wrR {W : Nat → Bool} {s t : State} {i j : Nat} {v : Real32} (hk : W (key i j) = true) (h : Writes W s t) :
    Writes W s (wrR t i j v) := wrN hk h

namespace KeepsStraps
variable {s t u : State}

theorem refl (s : State) : KeepsStraps s s := ⟨rfl, rfl, .refl _ s⟩
theorem trans (h : KeepsStraps s t) (k : KeepsStraps t u) : KeepsStraps s u := by
  obtain ⟨hrst, hpulls, hdict⟩ := h
  obtain ⟨krst, kpulls, kdict⟩ := k
  exact ⟨krst.trans hrst, kpulls.trans hpulls, hdict.trans kdict⟩
theorem of_told (h : Told s t) (hdict : Writes (· != key 0x2500 0x80) s t) : KeepsStraps s t := by
  obtain ⟨d, cs, pt, an, eq, lg, rfl⟩ := h
  exact ⟨rfl, rfl, hdict⟩
theorem of_wrN (s : State) {i j : Nat} (v : Nat) (hk : key i j ≠ key 0x2500 0x80) : KeepsStraps s (wrN s i j v) :=
  of_told (told_wrN ..) (.wrN (by simp [hk]) (.refl _ s))
theorem of_wrR (s : State) {i j : Nat} (v : Real32) (hk : key i j ≠ key 0x2500 0x80) : KeepsStraps s (wrR s i j v) := of_wrN s _ hk
theorem of_event (s : State) {p : Nat} (loc : Nat) (hp : p < 128) : KeepsStraps s (event s p loc) :=
  of_told (told_event ..) (.event (allowsReports_but rfl) hp (.refl _ s))
theorem of_condStart (s : State) {p : Nat} (c loc src : Nat) (hp : p < 128) : KeepsStraps s (condStart s p c loc src) :=
  of_told (told_condStart ..) (.condStart (allowsReports_but rfl) hp (.refl _ s))
theorem foldS {α : Type} {f : State → α → State} {l : List α} (hf : ∀ t, ∀ a ∈ l, KeepsStraps t (f t a)) (h : KeepsStraps s t) :
    KeepsStraps s (foldS t l f) := by
  induction l generalizing t with
  | nil => exact h
  | cons a l ih => exact ih (fun t b hb => hf t b (by simp [hb])) (h.trans (hf t a (by simp)))

theorem of_bankWritten (s : State) (tag serial : Nat) (p : Payload) : KeepsStraps s (bankWritten s tag serial p) := by
  obtain ⟨l, hl⟩ := undecayed_store s tag (targetIs1 (storeRecord s tag))
  have hput : (bankPut s tag serial p).rst = s.rst ∧ (bankPut s tag serial p).strapPulls = s.strapPulls := by
    rw [bankPut, hl]
    exact ⟨rfl, rfl⟩
  have htold := told_bankWritten s tag serial p
  exact ⟨htold.rst_eq.trans hput.1, htold.strapPulls_eq.trans hput.2, .bankWritten (allowsReports_but rfl) (fun k hk => by
    rw [storeKey, within_iff] at hk
    simp only [bne_iff_ne]
    unfold key at *
    omega) (.refl _ s)⟩

end KeepsStraps

-- The choice of the image ----------------------------------------------------------------------------------------------

theorem keepsStraps_bootRecord (s : State) (b : Boot) : KeepsStraps s (bootRecord s b) := by
  have hfw : KeepsStraps s (setFw s { s.fw with boot := some b }) := ⟨rfl, rfl, .refl _ _⟩
  exact ((hfw.trans (.of_bankWritten ..)).trans (.of_wrN _ _ (by decide))).trans ((KeepsStraps.of_wrN _ _ (by decide)).trans
    (.of_wrN _ _ (by decide)))

theorem keepsStraps_bootChoice (s : State) (okA okB : Bool) : KeepsStraps s (bootChoice s okA okB).1 := by
  unfold bootChoice
  simp only
  split
  · exact .refl s
  · rename_i b _
    by_cases htrial : b.trial = 0
    · simpa [htrial] using KeepsStraps.refl s
    · by_cases hstarts : b.starts < 3
      · simpa [htrial, hstarts] using keepsStraps_bootRecord s _
      · simpa [htrial, hstarts] using (keepsStraps_bootRecord s _).trans (.of_event _ 0 (by decide))

/-- The boot ROM chooses no image when none is good. -/
theorem bootChoice_none (s : State) : (bootChoice s false false).2 = none := by
  have hbad (s : State) (i : Nat) : passes s i false = false := by simp [passes]
  unfold bootChoice
  simp only
  split
  · simp [hbad]
  · split
    · simp [hbad]
    · split
      · simp [hbad]
      · simp [hbad]

/-- The image that the boot ROM starts: none with a fatal fuse cell. -/
def romChoice (s : State) (okA okB : Bool) (otp : Option (Nat × Bool)) : Option (Nat × Bool) :=
  match otp with
  | some (_, true) => none
  | _ => (bootChoice s okA okB).2

theorem romChoice_of_readable {s : State} {okA okB : Bool} {otp : Option (Nat × Bool)} (hotp : ∀ cell, otp ≠ some (cell, true)) :
    romChoice s okA okB otp = (bootChoice s okA okB).2 := by
  rcases otp with _ | ⟨cell, fatal⟩
  · rfl
  · cases fatal
    · rfl
    · exact absurd rfl (hotp cell)

/-- The reset unit's record when the boot ROM holds, or starts image `i`. -/
def romLeaves (x : Rst) (choice : Option (Nat × Bool)) : Rst :=
  match choice with
  | none => { x with romHold := true, bootResult := 3, imageBooted := 255 }
  | some (i, fallback) =>
    { x with romHold := false, bootResult := if fallback then 2 else 1, imageBooted := i, starts := x.starts + 1, retries := 0 }

theorem key_slice_ne_strap {sl j : Nat} (hsl : sl < 17) (hj : j < 256) : key (slObj sl) j ≠ key 0x2500 0x80 := by
  unfold key slObj
  omega

theorem keepsStraps_setCoefs (s : State) (sl : Nat) (c : List (Real32 × Real32)) : KeepsStraps s (setCoefs s sl c) :=
  ⟨rfl, rfl, .of_dict rfl⟩

theorem keepsStraps_slice {s t : State} {sl j v : Nat} (hsl : sl < 17) (hj : j < 256) (h : KeepsStraps s t) :
    KeepsStraps s (wrN t (slObj sl) j v) := h.trans (.of_wrN t v (key_slice_ne_strap hsl hj))

/-- Slice `sl` as the start-up calibration leaves it. -/
def calSliced (res : List (List (Real32 × Real32))) (s : State) (sl : Nat) : State :=
  let c := (res[sl]?).getD []
  let s := if coefOob c then s else setCoefs s sl c
  let s := wrN (wrR s (slObj sl) 0x90 (rdR s 0x3180 0x87)) (slObj sl) 0x91 0
  wrN s (slObj sl) 0x80 (if sl == 16 then (if coefOob c then 3 else 4) else 0)

/-- What follows for slice `sl` of the `failed` ones. -/
def calSliceFailed (failed : List Nat) (s : State) (sl : Nat) : State :=
  let s := condStart s 13 sl (0x06400000 + sl * 256) 0xFF
  if sl == 16 then s
  else if failed.head? == some sl && rdN s 0x3170 0x80 == 4 then
    wrN (wrN (wrN s (slObj sl) 0x80 2) 0x3170 0x80 5) 0x3170 0x81 sl
  else wrN s (slObj sl) 0x80 3

theorem startupCal_eq (s : State) (res : List (List (Real32 × Real32))) :
    startupCal s res =
      let s := { s with meas := { s.meas with coef := [], calPhase := 0, calStopped := false, calFails := 0, calRetry := none,
                                              spCal := none, calItem := none, cmpFail := false, calTemp := true } }
      let s := foldS s (List.range 17) (calSliced res)
      let failed := (List.range 17).filter fun sl => coefOob ((res[sl]?).getD [])
      foldS (if failed.isEmpty then s else calStop s) failed (calSliceFailed failed) := rfl

theorem keepsStraps_calSliced (res : List (List (Real32 × Real32))) (s : State) {sl : Nat} (hsl : sl < 17) :
    KeepsStraps s (calSliced res s sl) := by
  refine keepsStraps_slice hsl (by decide) (keepsStraps_slice hsl (by decide) (keepsStraps_slice hsl (by decide) ?_))
  split
  · exact .refl _
  · exact keepsStraps_setCoefs ..

theorem keepsStraps_calSliceFailed (failed : List Nat) (s : State) {sl : Nat} (hsl : sl < 17) :
    KeepsStraps s (calSliceFailed failed s sl) := by
  have hcond := KeepsStraps.of_condStart s (p := 13) sl (0x06400000 + sl * 256) 0xFF (by decide)
  unfold calSliceFailed
  simp only
  split
  · exact hcond
  · split
    · exact ((keepsStraps_slice hsl (by decide) hcond).trans (.of_wrN _ _ (by decide))).trans (.of_wrN _ _ (by decide))
    · exact keepsStraps_slice hsl (by decide) hcond

theorem keepsStraps_calStop (s : State) : KeepsStraps s (calStop s) :=
  have hstopped : KeepsStraps s { s with meas := { s.meas with calStopped := true } } := ⟨rfl, rfl, .of_dict rfl⟩
  hstopped.trans (.of_condStart _ 0 0x06400000 0xFF (by decide))

theorem keepsStraps_startupCal (s : State) (res : List (List (Real32 × Real32))) : KeepsStraps s (startupCal s res) := by
  have hmeas (m : Meas) : KeepsStraps s { s with meas := m } := ⟨rfl, rfl, .of_dict rfl⟩
  have hstop {t : State} (b : Bool) (h : KeepsStraps s t) : KeepsStraps s (if b then t else calStop t) := by
    split
    · exact h
    · exact h.trans (keepsStraps_calStop t)
  rw [startupCal_eq]
  exact .foldS (fun t sl hsl => keepsStraps_calSliceFailed _ t (List.mem_range.mp (List.mem_of_mem_filter hsl)))
    (hstop _ (.foldS (fun t sl hsl => keepsStraps_calSliced res t (List.mem_range.mp hsl)) (hmeas _)))

/-- The state in which the boot ROM stays without a good image. -/
def romHeld (s : State) : State :=
  let s := setRst s (romLeaves s.rst none)
  retainedWrite s 2 (resetRecord s)

/-- The state in which the boot ROM leaves image `i` started. -/
def romStarted (s : State) (i : Nat) (fallback : Bool) (us : Nat) (otp : Option (Nat × Bool)) (cals : List (List (Real32 × Real32))) :
    State :=
  let s := setRst s (romLeaves s.rst (some (i, fallback)))
  let s := wrN (wrN s 0x2000 6 i) 0x2000 5 (image s i).version
  let s := wrN (wrN s 0x2600 0x80 (if fallback then 2 else 1)) 0x2600 0x81 us
  let s := if fallback then event s 76 0 else s
  let s := match otp with | some (cell, _) => event s 78 (secLoc 1 cell) | none => s
  let s := if sessionState s == 4 then wrN s 0x2400 0x80 2 else s
  startupCal s cals

theorem bootStep_fatal (s : State) (okA okB : Bool) (us cell : Nat) (cals : List (List (Real32 × Real32))) :
    bootStep s okA okB us (some (cell, true)) cals = romHeld s := rfl
theorem bootStep_chosen (s : State) (okA okB : Bool) (us : Nat) {otp : Option (Nat × Bool)} (cals : List (List (Real32 × Real32)))
    (hotp : ∀ cell, otp ≠ some (cell, true)) : bootStep s okA okB us otp cals =
      match (bootChoice s okA okB).2 with
      | none => romHeld (bootChoice s okA okB).1
      | some (i, fallback) => romStarted (bootChoice s okA okB).1 i fallback us otp cals := by
  rcases otp with _ | ⟨cell, fatal⟩
  · rfl
  · cases fatal
    · rfl
    · exact absurd rfl (hotp cell)

theorem keepsStraps_romStarted (s : State) (i : Nat) (fallback : Bool) (us : Nat) (otp : Option (Nat × Bool))
    (cals : List (List (Real32 × Real32))) :
    KeepsStraps (setRst s (romLeaves s.rst (some (i, fallback)))) (romStarted s i fallback us otp cals) := by
  unfold romStarted
  simp only
  refine KeepsStraps.trans ?_ (keepsStraps_startupCal _ cals)
  have hnamed (t : State) (a b c d : Nat) : KeepsStraps t (wrN (wrN (wrN (wrN t 0x2000 6 a) 0x2000 5 b) 0x2600 0x80 c) 0x2600 0x81 d) :=
    (((KeepsStraps.of_wrN _ _ (by decide)).trans (.of_wrN _ _ (by decide))).trans (.of_wrN _ _ (by decide))).trans (.of_wrN _ _ (by decide))
  have hfellBack (t : State) : KeepsStraps t (if fallback then event t 76 0 else t) := by
    split
    · exact .of_event t 0 (by decide)
    · exact .refl t
  have hcell (t : State) : KeepsStraps t (match otp with | some (cell, _) => event t 78 (secLoc 1 cell) | none => t) := by
    split
    · exact .of_event t _ (by decide)
    · exact .refl t
  have hsession (t : State) : KeepsStraps t (if sessionState t == 4 then wrN t 0x2400 0x80 2 else t) := by
    split
    · exact .of_wrN t _ (by decide)
    · exact .refl t
  exact (((hnamed _ _ _ _ _).trans (hfellBack _)).trans (hcell _)).trans (hsession _)

/-- What the boot ROM leaves in the reset unit, and that it leaves the straps. -/
theorem bootStep_straps (s : State) (okA okB : Bool) (us : Nat) (otp : Option (Nat × Bool)) (cals : List (List (Real32 × Real32))) :
    KeepsStraps { s with rst := romLeaves s.rst (romChoice s okA okB otp) } (bootStep s okA okB us otp cals) := by
  have hset {t : State} (choice : Option (Nat × Bool)) (h : KeepsStraps s t) :
      KeepsStraps { s with rst := romLeaves s.rst choice } (setRst t (romLeaves t.rst choice)) := by
    obtain ⟨hrst, hpulls, hdict⟩ := h
    exact ⟨by rw [hrst]; rfl, hpulls, hdict⟩
  have hheld {t : State} (h : KeepsStraps s t) : KeepsStraps { s with rst := romLeaves s.rst none }
      (romHeld t) := by
    exact (hset none h).trans ⟨rfl, rfl, .wrB (by decide) (.of_dict rfl)⟩
  have hchosen := keepsStraps_bootChoice s okA okB
  by_cases hfatal : ∃ cell, otp = some (cell, true)
  · obtain ⟨cell, rfl⟩ := hfatal
    exact hheld (.refl s)
  · rw [bootStep_chosen s okA okB us cals fun cell h => hfatal ⟨cell, h⟩, romChoice_of_readable fun cell h => hfatal ⟨cell, h⟩]
    rcases hchoice : (bootChoice s okA okB).2 with _ | ⟨i, fallback⟩
    · exact hheld hchosen
    · exact (hset _ hchosen).trans (keepsStraps_romStarted ..)

-- The commands ----------------------------------------------------------------------------------------------------------

theorem exec_resetRelease (s : State) (straps : StartStraps) (duplexId okA okB : Bool) (us : Nat) (otp : Option (Nat × Bool))
    (cals : List (List (Real32 × Real32))) : exec (.resetRelease straps duplexId okA okB us otp cals) s =
      .next (settled s (resetRelease s straps duplexId okA okB us otp cals)) := rfl

/-- The boot ROM that holds verifies again (R438). -/
theorem exec_bootRomRetry {s : State} (hphase : s.rst.phase = 1) (hheld : s.rst.romHold = true) (hhold : s.th.hold = 0)
    (hon : s.pw.off = false) (okA okB : Bool) (us : Nat) (otp : Option (Nat × Bool)) (cals : List (List (Real32 × Real32))) :
    exec (.bootRomRetry okA okB us otp cals) s =
      .next (settled s (bootStep { s with rst := { s.rst with retries := s.rst.retries + 1 } } okA okB us otp cals)) := by
  change done s (starting s fun s => bootRomRetry s okA okB us otp cals) = _
  simp only [starting, bootRomRetry, hphase, hheld, hhold, hon]
  rfl

/-- The state at the release, when the boot ROM starts. -/
def released (s : State) (straps : StartStraps) (duplexId : Bool) : State :=
  wrN { s with rst := { s.rst with phase := 1, causes := [], prevCause := s.rst.cause, cause := s.rst.causes.foldl Nat.min 9,
                                   startMode := straps.startMode },
               strapPulls := false, store := { s.store with decayed := straps.decayed } } 0x2500 0x80 (if duplexId then 1 else 0)

section
variable {s : State} (hreset : s.inReset = true) (hphase : s.rst.phase = 0) (hcauses : s.rst.causes ≠ []) (hhold : s.th.hold = 0)
  (htap : s.tap.hold = false) (hon : s.pw.off = false) (straps : StartStraps) (duplexId okA okB : Bool) (us : Nat)
  (otp : Option (Nat × Bool)) (cals : List (List (Real32 × Real32)))
include hreset hphase hcauses hhold htap hon

theorem resetRelease_eq : resetRelease s straps duplexId okA okB us otp cals =
    if straps.testen then setRst s { s.rst with causes := [] } else bootStep (released s straps duplexId) okA okB us otp cals := by
  have hsome : s.rst.causes.isEmpty = false := by simpa using hcauses
  simp [resetRelease, hreset, hphase, hsome, hhold, htap, hon, released, setRst]

end

/-- The boot ROM leaves the phase, the straps' latches and the causes, whatever it chooses. -/
theorem romLeaves_keeps (x : Rst) (choice : Option (Nat × Bool)) : (romLeaves x choice).phase = x.phase ∧
    (romLeaves x choice).causes = x.causes ∧ (romLeaves x choice).cause = x.cause ∧ (romLeaves x choice).prevCause = x.prevCause ∧
    (romLeaves x choice).startMode = x.startMode := by
  rcases choice with _ | ⟨i, fallback⟩
  · exact ⟨rfl, rfl, rfl, rfl, rfl⟩
  · exact ⟨rfl, rfl, rfl, rfl, rfl⟩

/-- What stands after the release, when the boot ROM has chosen. -/
theorem release_reached (s : State) (straps : StartStraps) (duplexId okA okB : Bool) (us : Nat) (otp : Option (Nat × Bool))
    (cals : List (List (Real32 × Real32))) :
    let t := settled s (bootStep (released s straps duplexId) okA okB us otp cals)
    t.rst.phase = 1 ∧ t.rst.causes = [] ∧ t.rst.cause = s.rst.causes.foldl Nat.min 9 ∧ t.rst.prevCause = s.rst.cause ∧
      t.rst.startMode = straps.startMode ∧ rdN t 0x2500 0x80 = (if duplexId then 1 else 0) ∧
      pullOf t false .duplexId = .removed ∧ pullOf t false .startMode = .removed := by
  intro t
  obtain ⟨hrst, hpulls, hdict⟩ := bootStep_straps (released s straps duplexId) okA okB us otp cals
  obtain ⟨hphase, hcauses, hcause, hprev, hmode⟩ := romLeaves_keeps (released s straps duplexId).rst
    (romChoice (released s straps duplexId) okA okB otp)
  rw [released, wrN_rst] at hphase hcauses hcause hprev hmode
  have hlevel : rdN (released s straps duplexId) 0x2500 0x80 = if duplexId then 1 else 0 := by
    rw [released, rdN_wrN_self _ _ (r := rowOf 0x2500 0x80 |>.get rfl) rfl]
    cases duplexId <;> rfl
  have hlatched : t.strapPulls = false := hpulls.trans (wrN_strapPulls ..)
  have hleft (j : PulledBall) (hj : j = .duplexId ∨ j = .startMode) : pullOf t false j = .removed := by
    rcases hj with rfl | rfl
    · simp [pullOf, hlatched]
    · simp [pullOf, hlatched]
  refine ⟨?_, ?_, ?_, ?_, ?_, ((hdict.settled s).rdN_eq rfl).trans hlevel, hleft _ (.inl rfl), hleft _ (.inr rfl)⟩
  · exact (congrArg (·.phase) hrst).trans hphase
  · exact (congrArg (·.causes) hrst).trans hcauses
  · exact (congrArg (·.cause) hrst).trans hcause
  · exact (congrArg (·.prevCause) hrst).trans hprev
  · exact (congrArg (·.startMode) hrst).trans hmode

/-- Settles O21: the release latches the straps and records the cause; the boot ROM holds without a good image, or starts its choice. -/
theorem releaseRunsTheBootRom : Obligations.ReleaseRunsTheBootRom := by
  unfold Obligations.ReleaseRunsTheBootRom
  refine ⟨?release, ?test, ?held, ?started⟩
  case release =>
    intro s startMode decayed duplexId okA okB us otp cals hreset hphase hcauses hhold htap hon
    refine ⟨_, exec_resetRelease .., ?_⟩
    rw [resetRelease_eq hreset hphase hcauses hhold htap hon, if_neg Bool.false_ne_true]
    exact release_reached s ⟨startMode, false, decayed⟩ duplexId okA okB us otp cals
  case test =>
    intro s startMode decayed duplexId okA okB us otp cals hreset hphase hcauses hhold htap hon
    refine ⟨_, exec_resetRelease .., ?_⟩
    rw [resetRelease_eq hreset hphase hcauses hhold htap hon, if_pos rfl]
    exact ⟨hreset, hphase, rfl, rfl⟩
  case held =>
    intro s us otp cals hphase hheld hhold hon
    refine ⟨_, exec_bootRomRetry hphase hheld hhold hon .., ?_⟩
    have hnone (t : State) : romChoice t false false otp = none := by
      rcases otp with _ | ⟨cell, fatal⟩
      · exact bootChoice_none t
      · cases fatal
        · exact bootChoice_none t
        · rfl
    have hrst := (bootStep_straps { s with rst := { s.rst with retries := s.rst.retries + 1 } } false false us otp cals).1
    rw [hnone] at hrst
    exact ⟨congrArg (·.romHold) hrst, congrArg (·.bootResult) hrst, congrArg (·.retries) hrst⟩
  case started =>
    intro s okA okB us cals i fallback hphase hheld hhold hon hchoice
    refine ⟨_, exec_bootRomRetry hphase hheld hhold hon .., ?_⟩
    have hrst := (bootStep_straps { s with rst := { s.rst with retries := s.rst.retries + 1 } } okA okB us none cals).1
    rw [show romChoice _ okA okB none = some (i, fallback) from hchoice] at hrst
    exact ⟨congrArg (·.romHold) hrst, congrArg (·.imageBooted) hrst, congrArg (·.retries) hrst, congrArg (·.starts) hrst⟩

end Sys2Proof.Machine
end

section
/-! SUPPORT. The start of operation (R477, R478) and BASE_TICK's own time with the restart that a tick brings (R20, R430, R446). -/
namespace Sys2Proof.Machine
open Sys2Proof Sys2Proof.OD

-- The NMT state OPERATIONAL -----------------------------------------------------------------------------------------------

/-- The clock, the reset unit's record and the NMT state stand. -/
def KeepsNmt (s t : State) : Prop := t.counting = s.counting ∧ t.rst = s.rst ∧ t.now = s.now ∧ nmt t = nmt s

namespace KeepsNmt
variable {s t u : State}

theorem refl (s : State) : KeepsNmt s s := ⟨rfl, rfl, rfl, rfl⟩
theorem trans (h : KeepsNmt s t) (k : KeepsNmt t u) : KeepsNmt s u := by
  obtain ⟨hcount, hrst, hnow, hnmt⟩ := h
  obtain ⟨kcount, krst, know, knmt⟩ := k
  exact ⟨kcount.trans hcount, krst.trans hrst, know.trans hnow, knmt.trans hnmt⟩
theorem of_submitted (h : Submitted s t) : KeepsNmt s t := by
  have hnmt : nmt t = nmt s := h.rdN_eq (by decide) (by decide)
  obtain ⟨⟨d, cs, rfl⟩, _⟩ := h
  exact ⟨rfl, rfl, rfl, hnmt⟩
theorem foldS {α : Type} {f : State → α → State} (hf : ∀ t a, KeepsNmt t (f t a)) (l : List α) (s : State) : KeepsNmt s (foldS s l f) := by
  induction l generalizing s with
  | nil => exact refl s
  | cons a l ih => exact (hf s a).trans (ih _)

theorem setNode (s : State) (k : Nat) (x : FieldNode) : KeepsNmt s (setNode s k x) := ⟨rfl, rfl, rfl, rfl⟩
theorem setPanel (s : State) (p : Nat) (x : Panel) : KeepsNmt s (setPanel s p x) := ⟨rfl, rfl, rfl, rfl⟩
theorem setNet (s : State) (x : Net) : KeepsNmt s (setNet s x) := ⟨rfl, rfl, rfl, rfl⟩

theorem leaveLoopback (s : State) : KeepsNmt s (leaveLoopback s) := by
  refine foldS (fun t x => ?_) _ s
  split
  · exact of_submitted ((submitted_wrN t x (by decide) 0).trans (submitted_setCan ..))
  · exact refl t

theorem startNodes (s : State) : KeepsNmt s (startNodes s) := by
  unfold Machine.startNodes
  split
  · exact refl s
  · refine foldS (fun t k => ?_) _ s
    split
    · exact (of_submitted (submitted_submit t 2 _ false)).trans (setNode ..)
    · exact refl t

theorem panelsOn (s : State) (own : Nat) : KeepsNmt s (panelsOn s own) := by
  refine foldS (fun t p => ?_) _ s
  split
  · exact refl t
  · exact setPanel ..

end KeepsNmt

/-- The state in which OPERATIONAL is entered, loop-back modes left. -/
def operationalLeft (s : State) : State :=
  let t := irq (wrN s 0x1FF0 0x80 5) 4
  if nmt s == 0x7F || nmt s == 4 then leaveLoopback t else t

/-- The network's state with no PDO of the state before. -/
def pdosFresh (x : Net) : Net := { x with tpdo := [], rpdo := x.rpdo.map fun p => (p.1, { p.2 with rxAt := none, pend := none }) }

theorem nmtSet_five {s : State} (h : nmt s ≠ 5) : nmtSet s 5 =
    startNodes (panelsOn (setNet (operationalLeft s) (pdosFresh (operationalLeft s).net)) (operationalLeft s).now) := by
  have hnot : (nmt s == 5) = false := by simpa using h
  unfold nmtSet
  simp only [hnot]
  rfl

theorem keepsNmt_left (s : State) : KeepsNmt (irq (wrN s 0x1FF0 0x80 5) 4) (operationalLeft s) := by
  unfold operationalLeft
  simp only
  split
  · exact .leaveLoopback _
  · exact .refl _

/-- The entry into OPERATIONAL leaves clock and reset unit, and the NMT state is 5 (R477). -/
theorem nmtSet_operational (s : State) :
    (nmtSet s 5).counting = s.counting ∧ (nmtSet s 5).rst = s.rst ∧ (nmtSet s 5).now = s.now ∧ nmt (nmtSet s 5) = 5 := by
  by_cases hwas : nmt s = 5
  · have hsame : nmtSet s 5 = s := by simp [nmtSet, hwas]
    rw [hsame]
    exact ⟨rfl, rfl, rfl, hwas⟩
  · have hmarked : Told s (irq (wrN s 0x1FF0 0x80 5) 4) := (told_wrN ..).trans (told_irq ..)
    have hfive : nmt (irq (wrN s 0x1FF0 0x80 5) 4) = 5 := by
      rw [nmt, rdN_irq_object _ (by decide) (by decide), rdN_wrN_self _ _ (r := rowOf 0x1FF0 0x80 |>.get rfl) rfl]
      rfl
    have hentered : KeepsNmt (irq (wrN s 0x1FF0 0x80 5) 4) (nmtSet s 5) := by
      rw [nmtSet_five hwas]
      exact (((keepsNmt_left s).trans (.setNet ..)).trans (.panelsOn ..)).trans (.startNodes _)
    obtain ⟨hcount, hrst, hnow, hnmt⟩ := hentered
    refine ⟨?_, hrst.trans hmarked.rst_eq, hnow.trans hmarked.now_eq, hnmt.trans hfive⟩
    obtain ⟨d, cs, pt, an, eq, lg, htold⟩ := hmarked
    rw [hcount, htold]

/-- The operational tick: the device is operational and its base ticks count from it (R477). -/
theorem goOperational_starts {s : State} (hstopped : s.counting = false) :
    (goOperational s).counting = true ∧ nmt (goOperational s) = 5 ∧ (goOperational s).rst.opAt = some s.now := by
  obtain ⟨hcount, _, hnow, hnmt⟩ := nmtSet_operational s
  have hnot : (nmtSet s 5).counting = false := hcount.trans hstopped
  simp only [goOperational, hnot, Bool.false_eq_true, if_false]
  exact ⟨rfl, hnmt, congrArg some hnow⟩

/-- What stands at the operational tick to come. -/
theorem operational_reached {s : State} (hstopped : s.counting = false) (r : State) :
    let t := settled r (atTick s (s.now + 1) goOperational)
    t.counting = true ∧ nmt t = 5 ∧ t.rst.opAt = some (s.now + 1) := by
  obtain ⟨hcount, hnmt, hop⟩ := goOperational_starts (s := { s with now := s.now + 1, tick := tickAt s (s.now + 1) }) hstopped
  intro t
  exact ⟨hcount, ((Writes.refl (fun _ => false) _).settled r).rdN_eq rfl |>.trans hnmt, hop⟩

theorem autostartAt_stopped {s : State} {t₀ : Nat} (h : autostartAt s = some t₀) : s.counting = false := by
  unfold autostartAt at h
  split at h
  · split at h
    · rename_i hstart
      simp only [Bool.and_eq_true, Bool.not_eq_true'] at hstart
      exact hstart.1.1.2
    · exact absurd h (by simp)
  · exact absurd h (by simp)

-- BASE_TICK -------------------------------------------------------------------------------------------------------------

theorem ticked_runs {s : State} (hlive : Alive s) (hrun : s.tickRun = true) : ticked s = { s with now := s.now + 1 } := by
  have halive : alive s = true := hlive
  rw [ticked, halive, hrun]
  rfl

/-- The own clock of a state at which a reset or restart may come. -/
def baseClock (s : State) : State :=
  { s with now := s.now + 1, tick := if s.counting && s.rst.opAt != some (s.now + 1) then s.tick + 1 else s.tick, reserveUsed := 0 }

/-- A restart that is due resets the device, and the tick does nothing else (R430, R446). -/
theorem baseTick_restarts {s : State} {t₀ : Nat} (hrun : s.tickRun = true) (hdue : s.fw.restartAt = some t₀) (hat : t₀ ≤ s.now + 1)
    (inp : TickIn) : baseTick s inp = assertReset (baseClock s) 4 := by
  have hrestart : restartDue (baseClock s) = assertReset (baseClock s) 4 := by
    have hsame : (baseClock s).fw.restartAt = some t₀ := hdue
    rw [restartDue, hsame]
    exact if_pos hat
  have hreset : (restartDue (baseClock s)).inReset = true := by
    rw [hrestart]
    rfl
  unfold baseTick
  rw [if_neg (by simp [hrun])]
  exact (if_pos hreset).trans hrestart

/-- Settles O23: the operational tick starts the count, and BASE_TICK moves own time, or restarts the device. -/
theorem operationalTickStartsTheCount : Obligations.OperationalTickStartsTheCount := by
  unfold Obligations.OperationalTickStartsTheCount
  refine ⟨?tick, ?auto, ?clock, ?restart, ?stopped⟩
  case tick =>
    intro s hlive hstopped hdue
    refine ⟨settled s (atTick s (s.now + 1) goOperational), ?_, operational_reached hstopped s⟩
    change done s (act s operationalTick) = _
    rw [act_alive hlive, operationalTick, hstopped]
    simp only [hdue]
    rfl
  case auto =>
    intro s t₀ hlive hat hdue
    refine ⟨settled s (atTick s (s.now + 1) goOperational), ?_, operational_reached (autostartAt_stopped hat) s⟩
    change done s (act s autostart) = _
    rw [act_alive hlive, autostart, hat]
    simp only [hdue, if_true]
    rfl
  case clock =>
    intro s inp hlive hrun
    refine ⟨_, exec_baseTick inp s, ?_⟩
    rw [ticked_runs hlive hrun]
    rfl
  case restart =>
    intro s inp t₀ hlive hrun hdue hat
    refine ⟨_, exec_baseTick inp s, ?_, ?_⟩
    · rw [act_alive hlive, baseTick_restarts hrun hdue hat inp]
      exact resetBy_assertReset 4 (fun _ _ => rfl) ⟨rfl, rfl, rfl⟩ rfl
    · rw [ticked_runs hlive hrun]
      rfl
  case stopped =>
    intro s inp hrun
    have hticked : ticked s = s := by simp [ticked, hrun]
    have hidle : act s (fun s => baseTick s inp) = s := by
      unfold act
      split
      · simp [baseTick, hrun]
      · rfl
    rw [exec_baseTick, hticked, hidle]

end Sys2Proof.Machine
end

section
/-! SUPPORT. The pennants (R451, R452), the log (R453 to R456) and the ends of work items (R461, R38): their reports, bit by bit. -/

namespace Sys2Proof.Machine
open Sys2Proof Sys2Proof.OD

/-- One bit more leaves the others. -/
theorem bit_add_pow {n i j : Nat} (hclear : bit n i = false) (h : j ≠ i) : bit (n + 2 ^ i) j = bit n j := by
  rcases Nat.lt_or_gt_of_ne h with hlt | hgt
  · obtain ⟨k, rfl⟩ : ∃ k, i = j + 1 + k := ⟨i - (j + 1), by omega⟩
    have hpow : 2 ^ (j + 1 + k) = 2 ^ j * (2 * 2 ^ k) := by rw [pow_add, pow_succ, mul_assoc]
    rw [bit, bit, hpow, Nat.add_mul_div_left _ _ (Nat.two_pow_pos j)]
    congr 1
    omega
  · obtain ⟨k, rfl⟩ : ∃ k, j = i + 1 + k := ⟨j - (i + 1), by omega⟩
    have hsame : (n + 2 ^ i) / 2 ^ (i + 1) = n / 2 ^ (i + 1) := by
      have heven : n / 2 ^ i % 2 = 0 := by
        have : ¬ n / 2 ^ i % 2 = 1 := by simpa [bit] using hclear
        omega
      rw [pow_succ, ← Nat.div_div_eq_div_mul, ← Nat.div_div_eq_div_mul, Nat.add_div_right _ (Nat.two_pow_pos i)]
      omega
    rw [bit, bit, pow_add, ← Nat.div_div_eq_div_mul, ← Nat.div_div_eq_div_mul, hsame]

theorem le_of_bit {n i : Nat} (h : bit n i = true) : 2 ^ i ≤ n := by
  have hodd : n / 2 ^ i % 2 = 1 := by simpa [bit] using h
  by_contra hlt
  rw [Nat.div_eq_of_lt (by omega)] at hodd
  omega

theorem bit_sub_pow {n i : Nat} (h : bit n i = true) : bit (n - 2 ^ i) i = false := by
  have hodd : n / 2 ^ i % 2 = 1 := by simpa [bit] using h
  obtain ⟨m, rfl⟩ := Nat.exists_eq_add_of_le (le_of_bit h)
  rw [Nat.add_comm, Nat.add_div_right _ (Nat.two_pow_pos i)] at hodd
  rw [Nat.add_comm, Nat.add_sub_cancel, bit]
  simp
  omega

/-- A write of bit `i` writes no other. -/
theorem bit_setBit_ne (n : Nat) {i j : Nat} (b : Bool) (h : j ≠ i) : bit (setBit n i b) j = bit n j := by
  cases b <;> cases hbit : bit n i
  case false.false => simp [setBit, hbit]
  case false.true =>
    have hback : n - 2 ^ i + 2 ^ i = n := Nat.sub_add_cancel (le_of_bit hbit)
    simpa [setBit, hbit, hback] using (bit_add_pow (bit_sub_pow hbit) h).symm
  case true.false => simpa [setBit, hbit] using bit_add_pow hbit h
  case true.true => simp [setBit, hbit]

theorem bit_setBit_false (n i : Nat) : bit (setBit n i false) i = false := by
  cases hbit : bit n i
  · simp [setBit, hbit]
  · simpa [setBit, hbit] using bit_sub_pow hbit

theorem bit_mod {n j w : Nat} (hj : j < 8 * w) : bit (n % 256 ^ w) j = bit n j := by
  have hwidth : (256 : Nat) ^ w = 2 ^ (8 * w) := pow_mul 2 8 w ▸ rfl
  rw [bit_eq_testBit, bit_eq_testBit, hwidth, Nat.testBit_mod_two_pow]
  simp [hj]

/-- A sub-index after a write of one of its bits, bit by bit. -/
theorem rdBit_wrBit (s : State) {i j n m : Nat} {r : Row} (b : Bool) (hrow : rowOf i j = some r) (hm : m < 8 * r.ty.width) :
    rdBit (wrBit s i j n b) i j m = if m = n then b else rdBit s i j m := by
  rw [rdBit, wrBit, rdN_wrN_self s _ hrow, bit_mod hm]
  split
  · subst m
    cases b
    · exact bit_setBit_false ..
    · rw [← bit_mod (w := r.ty.width) hm]
      exact bit_setBit_self _ hm
  · rename_i hne
    exact bit_setBit_ne _ b hne

-- The pennants' words -----------------------------------------------------------------------------------------------------

theorem key_word_inj {b p q : Nat} (h : p / 32 ≠ q / 32) :
    key 0x2700 (b + p / 32) ≠ key 0x2700 (b + q / 32) := by
  unfold key
  omega

/-- A word of the pennants after a write of one pennant's bit: `b` is 1 for the pennants, 0x80 for the conditions. -/
theorem rdBit_pennantWrite (s : State) {b p q : Nat} (hb : b = 1 ∨ b = 0x80) (hq : q < 128) (v : Bool) :
    rdBit (wrBit s 0x2700 (b + p / 32) (p % 32) v) 0x2700 (b + q / 32) (q % 32) =
      if q = p then v else rdBit s 0x2700 (b + q / 32) (q % 32) := by
  by_cases hword : p / 32 = q / 32
  · obtain ⟨r, hrow, hwidth⟩ := Option.map_eq_some_iff.mp (rowOf_pennantWord (b + q / 32) (by simp; omega))
    rw [hword, rdBit_wrBit s v hrow (by omega)]
    have hsame : q % 32 = p % 32 ↔ q = p := by omega
    simp [hsame]
  · have hne : q ≠ p := fun h => hword (by rw [h])
    rw [if_neg hne, rdBit, rdBit, wrBit, rdN_wrN_ne _ _ (key_word_inj hword)]

/-- Log entries and EMCYs write no word of the pennants. -/
theorem word_quiet {b p : Nat} (hb : b = 1 ∨ b = 0x80) (hp : p < 128) :
    (logKey (key 0x2700 (b + p / 32)) || emcyKey (key 0x2700 (b + p / 32))) = false := by
  simp [logKey, emcyKey, key]
  omega

/-- The words of the pennants and conditions are none of the other sub-indices from 0x2700:84 on. -/
theorem word_ne {b p k : Nat} (hb : b = 1 ∨ b = 0x80) (hp : p < 128) (hk : key 0x2700 0x84 ≤ k) :
    (key 0x2700 (b + p / 32) != k) = true := by
  rw [bne_iff_ne]
  unfold key at *
  omega

/-- What raising a pennant writes: its word, the counter of events and the IRQ sources. -/
theorem raised {W : Nat → Bool} {s t : State} {p : Nat} (hword : W (key 0x2700 (1 + p / 32)) = true) (hcount : W (key 0x2700 0x84) = true)
    (hirq : W (key 0x2810 0x80) = true) (h : Writes W s t) : Writes W s (raiseBit t p) := by
  have hset : Writes W s (inc (wrBit t 0x2700 (1 + p / 32) (p % 32) true) 0x2700 0x84) := .inc hcount (.wrBit hword h)
  exact .wrBit (i := 0x2810) (j := 0x80) hirq (hset.beside rfl)

theorem allowsLog_quiet : AllowsLog fun k => logKey k || emcyKey k := fun k hk => by simp [hk]
theorem allowsEmcy_quiet : AllowsEmcy fun k => logKey k || emcyKey k := fun k hk => by simp [hk]

-- The log ---------------------------------------------------------------------------------------------------------------

/-- The entry that the log takes (R453, R454). -/
def logEntryOf (s : State) (code loc qual data : Nat) : LogEntry :=
  let valid := rdF s 0x2300 0x09
  { num := rdN s 0x2710 0x80, time := (if valid then s.cal.secs else s.tick) % 2 ^ 40, subSec := if valid then subSecond s else 0
    code := code, calInvalid := !valid, loc := loc, qual := qual, data := data % 65536 }

/-- The state in which the log takes an entry: an entry that is lost unread counts in 0x2710:82 (R455). -/
theorem logAdd_entered (s : State) (code loc qual data : Nat) : ∃ u, (u = s ∨ u = inc s 0x2710 0x82) ∧
    logAdd s code loc qual data = wrBit (wrN { u with log := (logEntryOf s code loc qual data :: u.log).take 4096 } 0x2710 0x80
      ((logEntryOf s code loc qual data).num + 1)) 0x2810 0x80 2 true := by
  unfold logAdd
  simp only
  split
  · exact ⟨_, .inr rfl, rfl⟩
  · exact ⟨_, .inl rfl, rfl⟩

theorem logAdd_log (s : State) (code loc qual data : Nat) :
    (logAdd s code loc qual data).log = (logEntryOf s code loc qual data :: s.log).take 4096 := by
  obtain ⟨u, hu, hadd⟩ := logAdd_entered s code loc qual data
  have hlog : u.log = s.log := by
    rcases hu with rfl | rfl
    · rfl
    · rw [inc, wrN_log]
  rw [hadd, wrBit, wrN_log, wrN_log, hlog]

/-- The log numbers on (R453). -/
theorem logAdd_numbers (s : State) (code loc qual data : Nat) :
    rdN (logAdd s code loc qual data) 0x2710 0x80 = (rdN s 0x2710 0x80 + 1) % 2 ^ 32 := by
  obtain ⟨u, -, hadd⟩ := logAdd_entered s code loc qual data
  rw [hadd, wrBit, rdN_wrN_ne _ _ (by decide), rdN_wrN_self _ _ (r := rowOf 0x2710 0x80 |>.get rfl) rfl]
  rfl

theorem rdBit_irqs (s : State) {n m : Nat} (hm : m < 16) : rdBit (irq s n) 0x2810 0x80 m = (m == n || rdBit s 0x2810 0x80 m) := by
  rw [irq, rdBit_wrBit s true (r := rowOf 0x2810 0x80 |>.get rfl) rfl hm]
  by_cases h : m = n <;> simp [h]

/-- An entry sets IRQ source 2 and leaves the others. -/
theorem logAdd_irqs (s : State) (code loc qual data : Nat) {m : Nat} (hm : m < 16) :
    rdBit (logAdd s code loc qual data) 0x2810 0x80 m = (m == 2 || rdBit s 0x2810 0x80 m) := by
  obtain ⟨u, hu, hadd⟩ := logAdd_entered s code loc qual data
  have hsources : rdN u 0x2810 0x80 = rdN s 0x2810 0x80 := by
    rcases hu with rfl | rfl
    · rfl
    · exact rdN_wrN_ne _ _ (by decide)
  rw [hadd]
  refine (rdBit_irqs (n := 2) _ hm).trans ?_
  rw [rdBit, rdN_wrN_ne _ _ (by decide)]
  exact congrArg (fun v => m == 2 || bit v m) hsources

-- Conditions (R451) -------------------------------------------------------------------------------------------------------

/-- The first cause of a condition: its bits, its log entry and its EMCY, over the state that holds it. -/
theorem condStart_new {s : State} {p : Nat} (hpart : pennantAbsent s p = false) (hfirst : s.conds.any (·.1 == p) = false) (c loc src : Nat) :
    condStart s p c loc src = announce (logAdd (raiseBit (wrBit { s with conds := (p, c) :: s.conds }
      0x2700 (0x80 + p / 32) (p % 32) true) p) 2 loc p 0) p loc src := by
  have hnew : (p, c) ∉ s.conds := fun hmem => by simpa using List.any_eq_false.mp hfirst _ hmem
  simp [condStart, hpart, hnew, hfirst]

/-- A further cause of a condition enters nothing. -/
theorem condStart_further {s : State} {p c d : Nat} (hpart : pennantAbsent s p = false) (hheld : (p, d) ∈ s.conds)
    (hnew : (p, c) ∉ s.conds) (loc src : Nat) : condStart s p c loc src = { s with conds := (p, c) :: s.conds } := by
  have hfirst : s.conds.any (·.1 == p) = true := List.any_eq_true.mpr ⟨_, hheld, by simp⟩
  simp [condStart, hpart, hnew, hfirst]

/-- The end of a condition's last cause. -/
theorem condEnd_last {s : State} {p c : Nat} (hheld : (p, c) ∈ s.conds)
    (hlast : (s.conds.filter (· != (p, c))).any (·.1 == p) = false) (loc : Nat) :
    condEnd s p c loc = unannounce (logAdd (wrBit { s with conds := s.conds.filter (· != (p, c)), penTick := Tab.put s.penTick p s.now }
      0x2700 (0x80 + p / 32) (p % 32) false) 3 loc p 0) p := by
  have hheld' : s.conds.contains (p, c) = true := by simpa using hheld
  unfold condEnd
  rw [if_pos hheld']
  exact if_neg (Bool.eq_false_iff.mp hlast)

theorem emcy_log (s : State) (e : Emcy) : (emcy s e).log = s.log := by
  unfold emcy
  split
  · exact wrN_log ..
  · rfl
theorem announce_log (s : State) (p loc src : Nat) : (announce s p loc src).log = s.log := by
  unfold announce
  split
  · rfl
  · exact (emcy_log ..).trans (wrN_log ..)
theorem unannounce_log (s : State) (p : Nat) : (unannounce s p).log = s.log := by
  unfold unannounce
  split
  · simp only
    split
    · exact (emcy_log ..).trans (wrN_log ..)
    · exact wrN_log ..
  · rfl

/-- What follows a condition's bits: the log's entry and an EMCY, of which the pennants' words know nothing. -/
theorem quiet_announce (s : State) (code loc qual data p src : Nat) :
    Writes (fun k => logKey k || emcyKey k) s (announce (logAdd s code loc qual data) p loc src) :=
  .announce allowsEmcy_quiet (.logAdd allowsLog_quiet (.refl _ s))
theorem quiet_unannounce (s : State) (code loc qual data p : Nat) :
    Writes (fun k => logKey k || emcyKey k) s (unannounce (logAdd s code loc qual data) p) :=
  .unannounce allowsEmcy_quiet (.logAdd allowsLog_quiet (.refl _ s))

/-- A condition that starts, as R451 and R453 put it. -/
theorem condStart_reports {s : State} {p : Nat} (hp : p < 128) (hpart : pennantAbsent s p = false)
    (hfirst : s.conds.any (·.1 == p) = false) (c loc src : Nat) :
    let t := condStart s p c loc src
    condHolds t p = true ∧ pennantSet t p = true ∧ rdBit t 0x2810 0x80 3 = true ∧
      rdN t 0x2700 0x84 = (rdN s 0x2700 0x84 + 1) % 2 ^ 32 ∧
      (t.log.head?.map fun e => (e.num, e.code, e.loc, e.qual)) = some (rdN s 0x2710 0x80, 2, loc, p) := by
  rw [condStart_new hpart hfirst]
  intro t
  let u := wrBit { s with conds := (p, c) :: s.conds } 0x2700 (0x80 + p / 32) (p % 32) true
  have hquiet : Writes (fun k => logKey k || emcyKey k) (raiseBit u p) t := quiet_announce (raiseBit u p) 2 loc p 0 p src
  obtain ⟨hset, hrest⟩ := raiseBit_pennants u hp
  refine ⟨?_, ?_, ?_, ?_, ?_⟩
  · rw [condHolds, hquiet.rdBit_eq (word_quiet (.inr rfl) hp), rdBit, hrest _ (by omega) (by omega)]
    exact (rdBit_pennantWrite _ (.inr rfl) hp true).trans (if_pos rfl)
  · rw [pennantSet, hquiet.rdBit_eq (word_quiet (.inl rfl) hp)]
    exact hset
  · have hemcy : rdN t 0x2810 0x80 = rdN (logAdd (raiseBit u p) 2 loc p 0) 0x2810 0x80 :=
      (Writes.announce (W := emcyKey) (fun _ h => h) (.refl _ _)).rdN_eq rfl
    rw [rdBit, hemcy]
    refine (logAdd_irqs _ _ _ _ _ (by decide)).trans ?_
    rw [raiseBit, rdBit_irqs _ (by decide)]
    rfl
  · have hraise : Writes (· != key 0x2700 0x84) s (wrBit u 0x2700 (1 + p / 32) (p % 32) true) :=
      .wrBit (word_ne (.inl rfl) hp (by decide)) (.wrBit (word_ne (.inr rfl) hp (by decide)) (.of_dict rfl))
    rw [hquiet.rdN_eq rfl, raiseBit, rdN_irq_object _ (by decide) (by decide)]
    refine (rdN_wrN_self _ _ (r := rowOf 0x2700 0x84 |>.get rfl) rfl).trans ?_
    rw [hraise.rdN_eq rfl]
    rfl
  · have hheld : Writes (· != key 0x2710 0x80) s u := .wrBit (word_ne (.inr rfl) hp (by decide)) (.of_dict rfl)
    have hraise : Writes (· != key 0x2710 0x80) s (raiseBit u p) :=
      raised (word_ne (.inl rfl) hp (by decide)) (by decide) (by decide) hheld
    rw [announce_log, logAdd_log]
    exact congrArg (fun n => some (n, 2, loc, p)) (hraise.rdN_eq rfl)

/-- A condition that ends, as R451 and R453 put it. -/
theorem condEnd_reports {s : State} {p c : Nat} (hp : p < 128) (hheld : (p, c) ∈ s.conds)
    (hlast : (s.conds.filter (· != (p, c))).any (·.1 == p) = false) (loc : Nat) :
    let t := condEnd s p c loc
    condHolds t p = false ∧ pennantSet t p = pennantSet s p ∧
      (t.log.head?.map fun e => (e.num, e.code, e.loc, e.qual)) = some (rdN s 0x2710 0x80, 3, loc, p) := by
  rw [condEnd_last hheld hlast]
  intro t
  let v : State := { s with conds := s.conds.filter (· != (p, c)), penTick := Tab.put s.penTick p s.now }
  let u := wrBit v 0x2700 (0x80 + p / 32) (p % 32) false
  have hquiet : Writes (fun k => logKey k || emcyKey k) u t := quiet_unannounce u 3 loc p 0 p
  refine ⟨?_, ?_, ?_⟩
  · rw [condHolds, hquiet.rdBit_eq (word_quiet (.inr rfl) hp)]
    exact (rdBit_pennantWrite v (.inr rfl) hp false).trans (if_pos rfl)
  · have hother : Writes (· != key 0x2700 (1 + p / 32)) s u := .wrBit (by
      rw [bne_iff_ne]
      unfold key
      omega) (.of_dict rfl)
    rw [pennantSet, pennantSet, hquiet.rdBit_eq (word_quiet (.inl rfl) hp), hother.rdBit_eq (by simp)]
  · have hother : Writes (· != key 0x2710 0x80) s u := .wrBit (word_ne (.inr rfl) hp (by decide)) (.of_dict rfl)
    rw [unannounce_log, logAdd_log]
    exact congrArg (fun n => some (n, 3, loc, p)) (hother.rdN_eq rfl)

-- Work items (R38) --------------------------------------------------------------------------------------------------------

/-- An item that has ended stays as it ended. -/
theorem item_ended {s : State} {i : Nat} {w : WorkItem} (hw : Tab.find s.work i = some w) (hended : 2 ≤ w.state) (reason code : Nat) :
    itemDone s i = s ∧ itemFail s i reason code = s := by
  have hnot : ¬ w.state < 2 := Nat.not_lt.mpr hended
  constructor
  · rw [itemDone, hw]
    exact if_neg hnot
  · rw [itemFail, hw]
    exact if_neg hnot

/-- An item that fails enters 0x0020 and sets IRQ source 7. -/
theorem itemFail_reports {s : State} {i : Nat} {w : WorkItem} (hw : Tab.find s.work i = some w) (hflight : w.state < 2)
    (reason code : Nat) : rdBit (itemFail s i reason code) 0x2810 0x80 7 = true ∧
      ((itemFail s i reason code).log.head?.map fun e => (e.code, e.loc, e.qual, e.data)) =
        some (0x0020, 0, reason, (0x2020 + i) % 65536) := by
  have hfail : itemFail s i reason code = irq (logAdd (itemSet s i fun w => { w with state := 3, reason := reason, ended := s.tick, abort := code })
      0x0020 0 reason (0x2020 + i)) 7 := by
    rw [itemFail, hw]
    exact if_pos hflight
  rw [hfail]
  constructor
  · rw [rdBit_irqs _ (by decide)]
    rfl
  · rw [irq, wrBit, wrN_log, logAdd_log]
    rfl

/-- Settles O6: conditions by their first and last cause, the log by its entries, work items by their state. -/
theorem conditionsLogAndWorkItems : Obligations.ConditionsLogAndWorkItems := by
  unfold Obligations.ConditionsLogAndWorkItems
  refine ⟨?starts, ?further, ?ends, ?log, ?items⟩
  case starts =>
    intro s p c loc src hp hpart hfirst
    exact ⟨mem_conds_condStart hpart c loc src, condStart_reports hp hpart hfirst c loc src⟩
  case further =>
    intro s p c d loc src hpart hheld hnew
    exact condStart_further hpart hheld hnew loc src
  case ends =>
    intro s p c loc hp hheld hlast
    exact ⟨condEnd_conds s p c loc, condEnd_reports hp hheld hlast loc⟩
  case log =>
    intro s code loc qual data
    refine ⟨?_, ?_, logAdd_numbers .., ?_⟩
    · rw [logAdd_log, List.length_take, List.length_cons]
    · rw [logAdd_log]
      rfl
    · rw [logAdd_irqs _ _ _ _ _ (by decide)]
      rfl
  case items =>
    intro s i w reason code hw
    refine ⟨fun hended => item_ended hw hended reason code, fun hflight => ⟨itemDone_work hw hflight, itemFail_work hw hflight reason code, ?_⟩⟩
    exact itemFail_reports hw hflight reason code

end Sys2Proof.Machine
end

section
/-! SUPPORT. The clear of pennants (R452), pennant by pennant. -/
namespace Sys2Proof.Machine
open Sys2Proof Sys2Proof.OD

theorem unannounce_keeps (s : State) (p : Nat) : (unannounce s p).conds = s.conds ∧ (unannounce s p).penTick = s.penTick := by
  have hemcy (t : State) (e : Emcy) : (emcy t e).conds = t.conds ∧ (emcy t e).penTick = t.penTick := by
    unfold emcy
    split
    · exact ⟨wrN_conds .., wrN_penTick ..⟩
    · exact ⟨rfl, rfl⟩
  have hregister (t : State) : (errorRegister t).conds = t.conds ∧ (errorRegister t).penTick = t.penTick :=
    ⟨wrN_conds .., wrN_penTick ..⟩
  unfold unannounce
  split
  · simp only
    split
    · exact ⟨(hemcy ..).1.trans (hregister _).1, (hemcy ..).2.trans (hregister _).2⟩
    · exact hregister _
  · exact ⟨rfl, rfl⟩

theorem logAdd_penTick (s : State) (code loc qual data : Nat) : (logAdd s code loc qual data).penTick = s.penTick := by
  obtain ⟨u, hu, hadd⟩ := logAdd_entered s code loc qual data
  have hsame : u.penTick = s.penTick := by
    rcases hu with rfl | rfl
    · rfl
    · exact wrN_penTick ..
  rw [hadd, wrBit, wrN_penTick, wrN_penTick, hsame]

theorem told_pennantClear (s : State) (p client st : Nat) : Told s (pennantClear s p client st) := by
  unfold pennantClear
  split
  · exact ((told_wrBit ..).trans (told_logAdd ..)).trans (told_unannounce ..)
  · exact .refl s

/-- A clear that takes a pennant: its bit, the log's entry, and what an EMCY needs. -/
theorem pennantClear_settled {s : State} {p st : Nat} (hset : pennantSet s p = true) (hpast : pennantCurrent s p st = false) (client : Nat) :
    pennantClear s p client st = unannounce (logAdd (wrBit s 0x2700 (1 + p / 32) (p % 32) false) 4 0 p client) p := by
  simp [pennantClear, hset, hpast]

theorem pennantClear_stays {s : State} {p st : Nat} (h : pennantSet s p = false ∨ pennantCurrent s p st = true) (client : Nat) :
    pennantClear s p client st = s := by
  rcases h with h | h
  · simp [pennantClear, h]
  · simp [pennantClear, h]

/-- The pennants' words are none of the conditions'. -/
theorem word_ne' {p q : Nat} (hp : p < 128) : (key 0x2700 (1 + p / 32) != key 0x2700 (0x80 + q / 32)) = true := by
  rw [bne_iff_ne]
  unfold key
  omega

/-- A clear changes no condition, nor the tick of an event. -/
theorem pennantClear_conditions {s : State} {p : Nat} (hp : p < 128) (client st : Nat) :
    (pennantClear s p client st).conds = s.conds ∧
      ∀ q, q < 128 → ∀ at_, pennantCurrent (pennantClear s p client st) q at_ = pennantCurrent s q at_ := by
  by_cases hclear : pennantSet s p = true ∧ pennantCurrent s p st = false
  · obtain ⟨hset, hpast⟩ := hclear
    rw [pennantClear_settled hset hpast]
    let u := wrBit s 0x2700 (1 + p / 32) (p % 32) false
    have hquiet : Writes (fun k => logKey k || emcyKey k) u (unannounce (logAdd u 4 0 p client) p) := quiet_unannounce u 4 0 p client p
    refine ⟨?_, fun q hq at_ => ?_⟩
    · exact (unannounce_keeps ..).1.trans ((logAdd_conds ..).trans (wrN_conds ..))
    · have hheld : condHolds (unannounce (logAdd u 4 0 p client) p) q = condHolds s q := by
        rw [condHolds, condHolds, hquiet.rdBit_eq (word_quiet (.inr rfl) hq)]
        exact (Writes.wrBit (W := (· != key 0x2700 (0x80 + q / 32))) (word_ne' hp) (.refl _ s)).rdBit_eq (by simp) _
      have htick : (unannounce (logAdd u 4 0 p client) p).penTick = s.penTick :=
        (unannounce_keeps ..).2.trans ((logAdd_penTick ..).trans (wrN_penTick ..))
      rw [pennantCurrent, pennantCurrent, hheld, htick]
  · have hstays : pennantClear s p client st = s := pennantClear_stays (by
      by_contra h
      simp at h
      exact hclear h) client
    rw [hstays]
    exact ⟨rfl, fun _ _ _ => rfl⟩

/-- A clear of one pennant takes it when it is settled, and takes no other. -/
theorem pennantSet_pennantClear {s : State} {p q : Nat} (hp : p < 128) (hq : q < 128) (client st : Nat) :
    pennantSet (pennantClear s p client st) q = if q = p ∧ pennantCurrent s p st = false then false else pennantSet s q := by
  by_cases hclear : pennantSet s p = true ∧ pennantCurrent s p st = false
  · obtain ⟨hset, hpast⟩ := hclear
    have hquiet := quiet_unannounce (wrBit s 0x2700 (1 + p / 32) (p % 32) false) 4 0 p client p
    rw [pennantClear_settled hset hpast, pennantSet, hquiet.rdBit_eq (word_quiet (.inl rfl) hq)]
    refine (rdBit_pennantWrite s (.inl rfl) hq false).trans ?_
    simp [hpast, pennantSet]
  · have hstays : pennantClear s p client st = s := pennantClear_stays (by
      by_contra h
      simp at h
      exact hclear h) client
    rw [hstays]
    split
    · rename_i h
      obtain ⟨rfl, hpast⟩ := h
      exact Bool.eq_false_iff.mpr fun hset => hclear ⟨hset, hpast⟩
    · rfl

/-- A clear of the pennants of the bits `l` of word `j`. -/
theorem pennantsCleared {j : Nat} (hj : j < 4) (client st : Nat) (l : List Nat) (hl : ∀ b ∈ l, b < 32) (s : State) :
    let t := foldS s l fun s b => pennantClear s (32 * j + b) client st
    t.conds = s.conds ∧ ∀ q, q < 128 →
      pennantSet t q = if (∃ b ∈ l, q = 32 * j + b) ∧ pennantCurrent s q st = false then false else pennantSet s q := by
  induction l generalizing s with
  | nil => exact ⟨rfl, fun q _ => by simp [foldS]⟩
  | cons b l ih =>
    have hb : 32 * j + b < 128 := by
      have := hl b (by simp)
      omega
    obtain ⟨hconds, hset⟩ := ih (fun c hc => hl c (by simp [hc])) (pennantClear s (32 * j + b) client st)
    obtain ⟨hconds', hcurrent⟩ := pennantClear_conditions (s := s) hb client st
    refine ⟨hconds.trans hconds', fun q hq => ?_⟩
    refine (hset q hq).trans ?_
    rw [hcurrent q hq, pennantSet_pennantClear hb hq]
    by_cases hhere : q = 32 * j + b
    · cases hpast : pennantCurrent s q st <;> simp [← hhere, hpast]
    · simp [hhere]

/-- The state in which the checked write of 0x2700:11 + j leaves the pennants. -/
theorem performAny_clear {j : Nat} (hj : j < 4) (s : State) (client : Nat) (data : List Byte) (off : Nat) (item : Option Nat) :
    performAny s client 0x2700 (0x11 + j) data off item = success (clearPennants s j (leNat data) client (stamp s off)) client := by
  have hword : 0x11 + j - 0x11 = j := by omega
  have hlast : ¬ 20 < 17 + j := by omega
  simp [performAny, perform, within, hword, hlast]

/-- Settles O30: the clear is a fold over the bits named, each taken when its pennant is settled. -/
theorem clearTakesSettledPennants : Obligations.ClearTakesSettledPennants := by
  unfold Obligations.ClearTakesSettledPennants
  intro s client j mask off hj hmask h
  have ⟨_, hclient, _⟩ := h
  let u : State := { s with answers := Tab.del s.answers client }
  let t := clearPennants u j mask client (stamp s off)
  have hbits : ∀ b ∈ (List.range 32).filter fun b => bit mask b, b < 32 := fun b hb =>
    List.mem_range.mp (List.mem_of_mem_filter hb)
  obtain ⟨hconds, hset⟩ := pennantsCleared hj client (stamp s off) _ hbits u
  have hperform : performAny u client 0x2700 (0x11 + j) (leBytes 4 mask) off none = success t client := by
    rw [performAny_clear hj, leNat_leBytes, Nat.mod_eq_of_lt (show mask < 256 ^ 4 from hmask)]
    rfl
  have hwork : t.work = s.work := (told_foldS (fun s b => told_pennantClear ..) _ u).work_eq
  have hput : put s client 0x2700 (0x11 + j) (leBytes 4 mask) off =
      paired (success t client) client 0x2700 (0x11 + j) (leBytes 4 mask) :=
    put_succeeds h (by simp [structural, within]) (by simp [ttStaged, within]) (by simp) (by simp) hperform hwork
  have hfinal (x : State) : paired (success t client) client 0x2700 (0x11 + j) (leBytes 4 mask) = x →
      x.conds = t.conds ∧ ∀ q, q < 128 → pennantSet x q = pennantSet t q := by
    rintro rfl
    obtain ⟨d, w, hpair⟩ := paired_eq (success t client) client 0x2700 (0x11 + j) (leBytes 4 mask)
    refine ⟨?_, fun q hq => ?_⟩
    · rw [hpair, success_le hclient]
    · rw [pennantSet, pennantSet, rdBit, rdBit, rdN_paired (hi := by decide) (hj := by omega), success_le hclient]
      rfl
  obtain ⟨hconds', hpennant⟩ := hfinal _ rfl
  have hpennant {q : Nat} (hq : q < 128) : pennantSet (settled s (put s client 0x2700 (0x11 + j) (leBytes 4 mask) off)) q = pennantSet t q := by
    rw [hput, pennantSet, rdBit, rdN_settled]
    exact hpennant q hq
  refine ⟨_, rfl, fun b hb hmasked hpast => ?_, fun p hp hkept => ?_, ?_⟩
  · rw [hpennant (by omega)]
    exact (hset _ (by omega)).trans (if_pos ⟨⟨b, by simp [hb, hmasked], rfl⟩, hpast⟩)
  · rw [hpennant hp]
    refine (hset p hp).trans (if_neg ?_)
    rintro ⟨⟨b, hb, rfl⟩, hpast⟩
    have hb' := hbits b hb
    have hmasked : bit mask b = true := (List.mem_filter.mp hb).2
    rcases hkept with hword | hclear | hcurrent
    · omega
    · rw [show (32 * j + b) % 32 = b by omega, hmasked] at hclear
      exact absurd hclear (by decide)
    · exact absurd (hcurrent.symm.trans hpast) (by decide)
  · rw [settled_conds, hput, hconds']
    exact hconds

end Sys2Proof.Machine
end

section
/-! SUPPORT. Reads of words whose ECC fails (R58): the log's entries, the calendar and the challenge. -/
namespace Sys2Proof.Machine
open Sys2Proof Sys2Proof.OD

/-- A device past its boot-up, in operation, with the Default everywhere. -/
def bootedDevice : State := { State.reset with
  inReset := false, counting := true, rst := { State.reset.rst with phase := 5, causes := [] }, net := { bootAt := some 0, serving := true } }

/-- The log of `bootedDevice` holds entry 0, whose words fail their ECC; client 5 is at it. -/
def spoiltEntry : State := { bootedDevice with
  log := [{ num := 0, time := 0, subSec := 0, code := 1, calInvalid := true, loc := 0, qual := 3, data := 0 }], eccLog := [0], logPos := [(5, 0)] }

/-- Refutes O33, by its second clause: a read of the entry at the client's position is refused with 0x06060000, and the position stays,
when the entry's words in the SRAM fail their ECC (R58); nothing in the clause leaves that out. -/
theorem not_logMirrorAndReads : ¬ Obligations.LogMirrorAndReads := by
  unfold Obligations.LogMirrorAndReads
  rintro ⟨-, hread, -⟩
  obtain ⟨t, hstep, -, hpos, -⟩ := hread spoiltEntry 5 _ (by decide) (by decide) rfl
  obtain rfl := Host.Outcome.next.inj hstep
  exact absurd hpos (by decide)

/-- The word 0x2300:0A of `bootedDevice`, the calendar in seconds, fails its ECC. -/
def spoiltCalendar : State := { bootedDevice with eccBad := [(key 0x2300 0x0A, rdB bootedDevice 0x2300 0x0A)] }

/-- Refutes O18, by its third clause: a read of 0x2300:0A is refused with 0x06060000 when its word fails its ECC (R58). -/
theorem not_calendarStagingAndCommit : ¬ Obligations.CalendarStagingAndCommit := by
  unfold Obligations.CalendarStagingAndCommit
  rintro ⟨⟨-, -, hread, -, -⟩, -⟩
  obtain ⟨t, hstep, hanswer, -⟩ := hread spoiltCalendar 5 (by decide) (by decide) (by decide)
  obtain rfl := Host.Outcome.next.inj hstep
  exact absurd hanswer (by decide)

/-- The word 0x260C:01 of `bootedDevice`, the challenge, fails its ECC. -/
def spoiltChallenge : State := { bootedDevice with eccBad := [(key 0x260C 1, rdB bootedDevice 0x260C 1)] }

/-- Refutes O60, by its clause of the challenge: a read of 0x260C:01 is refused with 0x06060000, and draws no bytes, when its word fails
its ECC (R58). -/
theorem not_keysReportsAndUnlock : ¬ Obligations.KeysReportsAndUnlock := by
  unfold Obligations.KeysReportsAndUnlock
  rintro ⟨-, -, -, -, -, -, -, -, -, hread, -, -⟩
  have hdrawn := Host.Outcome.next.inj (hread spoiltChallenge 5 (by decide) (by decide))
  have hcount : (up spoiltChallenge fun s => readAnswer s 5 0x260C 1).freeCount = 8 := congrArg (·.freeCount) hdrawn
  exact absurd hcount (by decide)

end Sys2Proof.Machine
end

section
/-! SUPPORT. The backup domain (R361 to R385): what of it runs in a dead device, the seconds pulse with its alarms, trim, wake and reset. -/
namespace Sys2Proof.Tab

theorem find_append {α : Type} (t u : Tab α) (x : Nat) : find (t ++ u) x = (find t x).or (find u x) := by
  induction t with
  | nil => simp [find]
  | cons p t ih =>
    obtain ⟨k, v⟩ := p
    by_cases hk : k = x
    · simp [find, hk]
    · simpa [find, hk] using ih

end Sys2Proof.Tab

namespace Sys2Proof.Machine
open Sys2Proof Sys2Proof.OD

theorem key_object {i j : Nat} (hj : j < 256) : key i j / 256 = i := by
  unfold key
  omega
theorem key_sub {i j : Nat} (hj : j < 256) : key i j % 256 = j := by
  unfold key
  omega

/-- An alarm's object is none that reports write. -/
theorem allowsReports_alarm {a : Nat} (ha : a < 8) : AllowsReports fun k => k / 256 != 0x2310 + a := fun k hk => by
  have hobject := reportKey_object hk
  simp only [reportObjects, List.mem_cons, List.not_mem_nil, or_false] at hobject
  rw [bne_iff_ne]
  omega

/-- The alarms belong to the backup domain. -/
theorem backupKey_alarm {a j : Nat} (ha : a < 8) (hj : j < 256) : backupKey (key (0x2310 + a) j) = true := by
  rw [backupKey, key_object hj]
  simp [within]
  omega

-- What runs without the rest of the device (R361) ------------------------------------------------------------------------

theorem dictGet_keeping (s t : State) (K : Nat → Bool) (k : Nat) :
    dictGet (keeping s t K).dict k = if K k then dictGet t.dict k else dictGet s.dict k := by
  have hfind : Tab.find (keeping s t K).dict k = if K k then Tab.find t.dict k else Tab.find s.dict k := by
    refine (Tab.find_append _ _ k).trans ?_
    rw [Tab.find_filter_key s.dict (fun k => !K k), Tab.find_filter_key]
    cases K k <;> simp
  unfold dictGet Tab.get
  rw [hfind]
  split <;> rfl

/-- What a command of the backup domain leaves in that domain, in a live device and in a dead one. -/
theorem backup_cal (s : State) (f : State → State) : (backup s f).cal = (f s).cal := by
  unfold backup
  split <;> rfl
theorem backup_rdN (s : State) (f : State → State) {i j : Nat} (hk : backupKey (key i j) = true) :
    rdN (backup s f) i j = rdN (f s) i j := by
  unfold backup
  split
  · rfl
  · exact congrArg leNat ((dictGet_keeping s (f s) backupKey _).trans (if_pos hk))
theorem backup_alive {s : State} (h : Alive s) (f : State → State) : backup s f = f s := if_pos h

namespace Writes
variable {W : Nat → Bool} {s t : State}

theorem wrF {i j : Nat} {b : Bool} (hk : W (key i j) = true) (h : Writes W s t) : Writes W s (wrF t i j b) := wrN hk h
theorem wrI {i j : Nat} {v : Int} (hk : W (key i j) = true) (h : Writes W s t) : Writes W s (wrI t i j v) := by
  unfold Machine.wrI
  split
  · exact wrB hk h
  · exact h
theorem setCal {c : Cal} (h : Writes W s t) : Writes W s (setCal t c) := h.beside rfl
theorem incBy {i j n : Nat} (hk : W (key i j) = true) (h : Writes W s t) : Writes W s (incBy t i j n) := wrN hk h

theorem pwronAssert {cause alarm : Nat} (hcause : W (key 0x2300 0x82) = true) (halarm : W (key 0x2300 0x84) = true)
    (h : Writes W s t) : Writes W s (pwronAssert t cause alarm) := by
  unfold Machine.pwronAssert
  simp only
  split
  · exact setCal (wrN halarm (wrN hcause h))
  · exact setCal (wrN hcause h)

theorem calSetValid {b : Bool} (hW : AllowsReports W) (hk : W (key 0x2300 0x09) = true) (h : Writes W s t) :
    Writes W s (calSetValid t b) := cond hW (by decide) (wrF hk h)

end Writes

/-- The calendar's validity as it is set. -/
theorem calValid_calSetValid (s : State) (b : Bool) : calValid (calSetValid s b) = b := by
  have hset : calValid (wrF s 0x2300 0x09 b) = b := by
    rw [calValid, rdF, wrF, rdN_wrN_self _ _ (r := rowOf 0x2300 0x09 |>.get rfl) rfl]
    cases b <;> rfl
  have hframe : Writes (· != key 0x2300 0x09) (wrF s 0x2300 0x09 b) (calSetValid s b) :=
    .cond (allowsReports_but rfl) (by decide) (.refl _ _)
  rw [calValid, rdF, hframe.rdN_eq (by decide)]
  exact hset
theorem calSetValid_cal (s : State) (b : Bool) : (calSetValid s b).cal = s.cal :=
  (told_cond ..).cal_eq.trans (told_wrN ..).cal_eq

theorem pwronAssert_cal (s : State) (cause alarm : Nat) :
    (pwronAssert s cause alarm).cal = { s.cal with pwron := true, offDue := none, stopped := false } := by
  unfold pwronAssert
  simp only
  split
  · simp [setCal]
  · simp [setCal]

-- Trim, wake, PWRON and reset (R378 to R381) --------------------------------------------------------------------------------

theorem exec_backup {s : State} (f : State → State) {t : State} (ht : settled s (backup s f) = t) :
    done s (backup s f) = .next t := congrArg Host.Outcome.next ht

/-- An INTEGER8 reads back as it was written. -/
theorem rdI_trim (s : State) {v : Int} (hlo : -127 ≤ v) (hhi : v ≤ 127) : rdI (wrI s 0x2300 0x33 v) 0x2300 0x33 = v := by
  have hread : rdI (wrI s 0x2300 0x33 v) 0x2300 0x33 = signed 1 (rdN (wrN s 0x2300 0x33 (unsignedOf 1 v)) 0x2300 0x33) := rfl
  rw [hread, rdN_wrN_self _ _ (r := rowOf 0x2300 0x33 |>.get rfl) rfl]
  change signed 1 (unsignedOf 1 v % 256) = v
  norm_num [signed, unsignedOf]
  split
  · omega
  · omega

theorem trimPeriod_reads (s : State) :
    let q (n : Nat) : Rat := F32.toRat (rdR s 0x2300 n)
    rdI (trimPeriod s) 0x2300 0x33 = max (-127) (min 127
      (roundRat ((q 0x30 - q 0x31 * (q 0x34 - q 0x32) * (q 0x34 - q 0x32)) * mkRat 1048576 1000000))) := by
  intro q
  have hclamp (n : Int) : (if n < -127 then -127 else if 127 < n then 127 else n) = max (-127) (min 127 n) := by
    split
    · omega
    · split <;> omega
  unfold trimPeriod
  simp only
  rw [hclamp, rdI_trim _ (by omega) (by omega)]

/-- The count of a wake event, and its flag (R379). -/
def wakeCounted (s : State) : State := wrF (inc s 0x2300 0x83) 0x2300 0x81 (rdN s 0x2300 0x20 == 1)

theorem wakeEvent_counts (s : State) : rdN (wakeEvent s) 0x2300 0x83 = (rdN s 0x2300 0x83 + 1) % 2 ^ 32 := by
  have hcounted : rdN (wakeCounted s) 0x2300 0x83 = (rdN s 0x2300 0x83 + 1) % 2 ^ 32 := by
    rw [wakeCounted, wrF, rdN_wrN_ne _ _ (by decide), inc, rdN_wrN_self _ _ (r := rowOf 0x2300 0x83 |>.get rfl) rfl]
    rfl
  have hframe : Writes (· != key 0x2300 0x83) (wakeCounted s) (wakeEvent s) := by
    unfold wakeEvent
    simp only
    split
    · exact .pwronAssert (by decide) (by decide) (.refl _ _)
    · exact .logAdd (allowsLog_but rfl) (.refl _ _)
  rw [hframe.rdN_eq (by decide), hcounted]

/-- R379: in SLEEP and SHIP a wake event asserts PWRON. -/
theorem wakeEvent_wakes {s : State} (h : rdN s 0x2100 0x80 = 4 ∨ rdN s 0x2100 0x80 = 5) :
    (wakeEvent s).cal.pwron = true ∧ rdN (wakeEvent s) 0x2300 0x82 = 1 := by
  have hstate : rdN (wakeCounted s) 0x2100 0x80 = rdN s 0x2100 0x80 := by
    rw [wakeCounted, wrF, rdN_wrN_ne _ _ (by decide), inc, rdN_wrN_ne _ _ (by decide)]
  have hwake : wakeEvent s = pwronAssert (wakeCounted s) 1 0 := by
    have hasleep : (rdN (wakeCounted s) 0x2100 0x80 == 4 || rdN (wakeCounted s) 0x2100 0x80 == 5) = true := by
      rw [hstate]
      simpa using h
    exact if_pos hasleep
  rw [hwake, pwronAssert_cal]
  refine ⟨rfl, ?_⟩
  exact rdN_wrN_self (wakeCounted s) (i := 0x2300) (j := 0x82) 1 (r := rowOf 0x2300 0x82 |>.get rfl) rfl

theorem pwronDeassert_off {s : State} {ship : Bool} (h : s.cal.offDue = some ship) :
    (pwronDeassert s).cal.pwron = false ∧ (pwronDeassert s).cal.offDue = none ∧
      (ship = true → (pwronDeassert s).cal.stopped = true ∧ calValid (pwronDeassert s) = false) := by
  cases ship with
  | false => simp [pwronDeassert, h, setCal]
  | true =>
    simp only [pwronDeassert, h, if_true]
    rw [calSetValid_cal, calValid_calSetValid]
    simp [setCal]

/-- The sub-indices that the reset of the backup domain clears (R381). -/
def resetInBackup (k : Nat) : Bool :=
  k / 256 == 0x2300 && (within (k % 256) 1 0x0F || within (k % 256) 0x20 0x21 || within (k % 256) 0x33 0x34 || within (k % 256) 0x81 0x84)
    || (within (k / 256) 0x2310 0x2317 && k % 256 ≥ 0x80) || (k / 256 == 0x2200 && within (k % 256) 0x9A 0x9C)

/-- The backup domain at its Defaults. -/
def backupCleared (s : State) : State :=
  setCal { s with dict := s.dict.filter fun p => !resetInBackup p.1 } { secs := 0, pulseAt := s.now, pwron := true, stage := s.cal.stage }

theorem backupReset_eq (s : State) : backupReset s = calSetValid (pwronAssert (backupCleared s) 0 0) false := rfl

theorem backupReset_cal (s : State) : (backupReset s).cal.secs = 0 ∧ (backupReset s).cal.pwron = true := by
  rw [backupReset_eq, calSetValid_cal, pwronAssert_cal]
  exact ⟨rfl, rfl⟩

theorem backupReset_reads (s : State) : calValid (backupReset s) = false ∧ rdN (backupReset s) 0x2300 0x82 = 0 ∧
    ∀ a, a < 8 → rdN (backupReset s) (0x2310 + a) 0x85 = 0 := by
  refine ⟨by rw [backupReset_eq, calValid_calSetValid], ?_, fun a ha => ?_⟩
  · have hframe : Writes (· != key 0x2300 0x82) (pwronAssert (backupCleared s) 0 0) (backupReset s) :=
      .calSetValid (allowsReports_but rfl) (by decide) (.refl _ _)
    rw [hframe.rdN_eq (by decide)]
    exact rdN_wrN_self (backupCleared s) (i := 0x2300) (j := 0x82) 0 (r := rowOf 0x2300 0x82 |>.get rfl) rfl
  · have hframe : Writes (fun k => k / 256 != 0x2310 + a) (backupCleared s) (backupReset s) :=
      .calSetValid (allowsReports_alarm ha) (by simp [key]; omega)
        (.pwronAssert (by simp [key]; omega) (by simp [key]; omega) (.refl _ _))
    have hclear : resetInBackup (key (0x2310 + a) 0x85) = true := by
      rw [resetInBackup, key_object (by decide), key_sub (by decide)]
      simp [within]
      omega
    rw [hframe.rdN_eq (by simp [key_object])]
    have hdefault := dictGet_filter s.dict (fun k => !resetInBackup k) (key (0x2310 + a) 0x85)
    rw [hclear] at hdefault
    refine (congrArg leNat hdefault).trans ?_
    interval_cases a <;> rfl

theorem trimTemperature_mean {s : State} (hfed : (rdBit s 0x2100 0x81 0 || rdBit s 0x2100 0x81 1) = true)
    (hsome : ((List.range 12).filter fun n => bit (rdN s 0x2200 0x92) n) ≠ []) :
    let v := (List.range 12).filter fun n => bit (rdN s 0x2200 0x92) n
    trimTemperature s = wrR s 0x2300 0x34
      (F32.ofRat ((v.foldl (fun a n => a + F32.toRat (rdR s 0x2200 (0x84 + n))) 0) / (v.length : Rat))) := by
  have hsome' : ((List.range 12).filter fun n => bit (rdN s 0x2200 0x92) n).isEmpty = false := by simpa using hsome
  simp only [trimTemperature, hsome', hfed]
  rfl

/-- Settles O17: each event of the backup domain, in a live device and in a dead one. -/
theorem backupDomainEvents : Obligations.BackupDomainEvents := by
  unfold Obligations.BackupDomainEvents
  refine ⟨?trim, ?wake, ?off, ?reset, ?sample⟩
  case trim =>
    intro s
    refine ⟨settled s (backup s trimPeriod), rfl, ?_⟩
    have hread : rdI (settled s (backup s trimPeriod)) 0x2300 0x33 = rdI (trimPeriod s) 0x2300 0x33 :=
      congrArg (signed 1) ((rdN_settled ..).trans (backup_rdN s trimPeriod rfl))
    exact hread.trans (trimPeriod_reads s)
  case wake =>
    intro s
    refine ⟨settled s (backup s wakeEvent), rfl, ?_, fun h => ?_⟩
    · rw [rdN_settled, backup_rdN s wakeEvent rfl, wakeEvent_counts]
    · rw [settled_cal, backup_cal, rdN_settled, backup_rdN s wakeEvent rfl]
      exact wakeEvent_wakes h
  case off =>
    intro s ship h
    refine ⟨settled s (backup s pwronDeassert), rfl, ?_⟩
    simp only [settled_cal, backup_cal, calValid, rdF, rdN_settled, backup_rdN s pwronDeassert (i := 0x2300) (j := 0x09) rfl]
    exact pwronDeassert_off h
  case reset =>
    intro s
    refine ⟨settled s (backup s backupReset), rfl, ?_⟩
    obtain ⟨hsecs, hpwron⟩ := backupReset_cal s
    obtain ⟨hvalid, hcause, hlatches⟩ := backupReset_reads s
    simp only [settled_cal, backup_cal, calValid, rdF, rdN_settled, backup_rdN s backupReset (i := 0x2300) (j := 0x09) rfl,
      backup_rdN s backupReset (i := 0x2300) (j := 0x82) rfl]
    refine ⟨hsecs, hpwron, hvalid, hcause, fun a ha => ?_⟩
    rw [backup_rdN s backupReset (backupKey_alarm ha (by decide)), hlatches a ha]
  case sample =>
    intro s hlive hfed v hsome
    change done s (act s trimTemperature) = _
    rw [act_alive hlive, trimTemperature_mean hfed hsome]
    rfl

end Sys2Proof.Machine
end

section
/-! SUPPORT. The seconds pulse and the alarms (R362 to R365, R374, R382), and the adjustment of the calendar (R370 to R375). -/
namespace Sys2Proof.Machine
open Sys2Proof Sys2Proof.OD

-- The second and its place ------------------------------------------------------------------------------------------------

/-- The second, its instant and the counts before it stand. -/
def KeepsInstant (s t : State) : Prop := t.cal.secs = s.cal.secs ∧ t.cal.pulseAt = s.cal.pulseAt ∧ t.cal.sub0 = s.cal.sub0 ∧ t.cal.slew = s.cal.slew

namespace KeepsInstant
variable {s t u : State}

theorem refl (s : State) : KeepsInstant s s := ⟨rfl, rfl, rfl, rfl⟩
theorem trans (h : KeepsInstant s t) (k : KeepsInstant t u) : KeepsInstant s u := by
  obtain ⟨hsecs, hpulse, hsub, hslew⟩ := h
  obtain ⟨ksecs, kpulse, ksub, kslew⟩ := k
  exact ⟨ksecs.trans hsecs, kpulse.trans hpulse, ksub.trans hsub, kslew.trans hslew⟩
theorem of_cal (h : t.cal = s.cal) : KeepsInstant s t := by
  rw [KeepsInstant, h]
  exact ⟨rfl, rfl, rfl, rfl⟩
theorem of_told (h : Told s t) : KeepsInstant s t := of_cal h.cal_eq
theorem foldS {α : Type} {f : State → α → State} (hf : ∀ t a, KeepsInstant t (f t a)) (l : List α) (s : State) :
    KeepsInstant s (foldS s l f) := by
  induction l generalizing s with
  | nil => exact refl s
  | cons a l ih => exact (hf s a).trans (ih _)
theorem pwronAssert (s : State) (cause alarm : Nat) : KeepsInstant s (pwronAssert s cause alarm) := by
  rw [KeepsInstant, pwronAssert_cal]
  exact ⟨rfl, rfl, rfl, rfl⟩

theorem alarmFire (s : State) (a instant : Nat) (skipped : Bool) : KeepsInstant s (alarmFire s a instant skipped) := by
  have hpwron {t : State} (b : Bool) (h : KeepsInstant s t) : KeepsInstant s (if b then Machine.pwronAssert t 2 a else t) := by
    split
    · exact h.trans (pwronAssert ..)
    · exact h
  have hlogged {t : State} (b : Bool) (h : KeepsInstant s t) :
      KeepsInstant s (if b then logAdd t 0x0050 (0x01304000 + a) 0xFF a else t) := by
    split
    · exact h.trans (of_told (told_logAdd ..))
    · exact h
  unfold Machine.alarmFire
  exact hlogged _ (hpwron _ (of_told ((((told_wrN ..).trans (told_wrN ..)).trans (told_wrN ..)).trans (told_inc ..))))

end KeepsInstant

-- Alarms ------------------------------------------------------------------------------------------------------------------

/-- What becomes of alarm `a` for the instants skipped up to second `n`. -/
def alarmSkips (past n : Nat) (s : State) (a : Nat) : State :=
  match alarmTimes s a with
  | none => s
  | some p =>
    let lo := Nat.max past (rdN s (alarmObj a) 0x85)
    let k := occUpTo p (n - 1) - occUpTo p lo
    if n ≤ lo + 1 || k == 0 then s
    else alarmFire (incBy s (alarmObj a) 0x82 k) a (occLast p (n - 1)) true

/-- What becomes of alarm `a` at second `n`. -/
def alarmRings (n : Nat) (s : State) (a : Nat) : State :=
  match alarmTimes s a with
  | none => s
  | some p => if 0 < occUpTo p n && occLast p n == n && rdN s (alarmObj a) 0x85 < n then alarmFire s a n false else s

theorem alarmsAt_eq (s : State) (past n : Nat) :
    alarmsAt s past n = foldS (foldS s (List.range 8) (alarmSkips past n)) (List.range 8) (alarmRings n) := rfl

theorem keepsInstant_alarmSkips (past n : Nat) (s : State) (a : Nat) : KeepsInstant s (alarmSkips past n s a) := by
  unfold alarmSkips
  split
  · exact .refl s
  · simp only
    split
    · exact .refl s
    · exact (KeepsInstant.of_told (told_wrN ..)).trans (.alarmFire ..)

theorem keepsInstant_alarmRings (n : Nat) (s : State) (a : Nat) : KeepsInstant s (alarmRings n s a) := by
  unfold alarmRings
  split
  · exact .refl s
  · split
    · exact .alarmFire ..
    · exact .refl s

theorem keepsInstant_pulse (s : State) (past n : Nat) : KeepsInstant s (pulse s past n) := by
  have halarms : KeepsInstant s (alarmsAt s past n) := by
    rw [alarmsAt_eq]
    exact (KeepsInstant.foldS (keepsInstant_alarmSkips past n) _ s).trans (.foldS (keepsInstant_alarmRings n) _ _)
  have hnoted (t : State) : KeepsInstant t { t with tt := { t.tt with pulse := true } } := ⟨rfl, rfl, rfl, rfl⟩
  exact halarms.trans (hnoted _)

/-- No instant lies between a second and the next one. -/
theorem alarmSkips_next (n : Nat) (s : State) (a : Nat) : alarmSkips n (n + 1) s a = s := by
  unfold alarmSkips
  split
  · rfl
  · simp only
    have hlo : n ≤ Nat.max n (rdN s (alarmObj a) 0x85) := Nat.le_max_left ..
    generalize Nat.max n (rdN s (alarmObj a) 0x85) = lo at hlo ⊢
    rw [if_pos]
    rw [Bool.or_eq_true, decide_eq_true_eq]
    exact .inl (Nat.succ_le_succ hlo)

theorem foldS_idle {α : Type} {f : State → α → State} (hf : ∀ s a, f s a = s) (l : List α) (s : State) : foldS s l f = s := by
  induction l generalizing s with
  | nil => rfl
  | cons a l ih => exact (congrArg (fun t => foldS t l f) (hf s a)).trans (ih s)

/-- The alarm's object, its own. -/
theorem alarmObj_ne {a b j : Nat} (h : b ≠ a) (hj : j < 256) : (key (alarmObj b) j / 256 != 0x2310 + a) = true := by
  rw [key_object hj, bne_iff_ne, alarmObj]
  omega

/-- The sub-indices of an alarm that fires (R374). -/
def alarmCounted (s : State) (a instant : Nat) (skipped : Bool) : State :=
  inc (wrN (wrN (wrN s (alarmObj a) 0x85 instant) (alarmObj a) 0x80 instant) (alarmObj a) 0x81 (if skipped then 1 else 0)) (alarmObj a) 0x83

/-- What an alarm that fires does beside its own object: no alarm's values change. -/
theorem alarmFire_acts {a : Nat} (ha : a < 8) (s : State) (b instant : Nat) (skipped : Bool) :
    Writes (fun k => k / 256 != 0x2310 + a) (alarmCounted s b instant skipped) (alarmFire s b instant skipped) := by
  let u := alarmCounted s b instant skipped
  have hpwron {t : State} (c : Bool) (h : Writes (fun k => k / 256 != 0x2310 + a) u t) :
      Writes (fun k => k / 256 != 0x2310 + a) u (if c then pwronAssert t 2 b else t) := by
    split
    · exact .pwronAssert (by simp [key]; omega) (by simp [key]; omega) h
    · exact h
  have hlogged {t : State} (c : Bool) (h : Writes (fun k => k / 256 != 0x2310 + a) u t) :
      Writes (fun k => k / 256 != 0x2310 + a) u (if c then logAdd t 0x0050 (0x01304000 + b) 0xFF b else t) := by
    split
    · exact .logAdd (allowsReports_alarm ha).log h
    · exact h
  exact hlogged _ (hpwron _ (.refl _ u))

/-- Another alarm that fires leaves alarm `a`. -/
theorem alarmFire_beside {a b : Nat} (ha : a < 8) (hne : b ≠ a) (s : State) (instant : Nat) (skipped : Bool) :
    Writes (fun k => k / 256 != 0x2310 + a) s (alarmFire s b instant skipped) := by
  have hcounted : Writes (fun k => k / 256 != 0x2310 + a) s (alarmCounted s b instant skipped) :=
    .inc (alarmObj_ne hne (by decide)) (.wrN (alarmObj_ne hne (by decide)) (.wrN (alarmObj_ne hne (by decide))
      (.wrN (alarmObj_ne hne (by decide)) (.refl _ s))))
  exact hcounted.trans (alarmFire_acts ha s b instant skipped)

theorem alarmRings_beside {a b : Nat} (ha : a < 8) (hne : b ≠ a) (n : Nat) (s : State) :
    Writes (fun k => k / 256 != 0x2310 + a) s (alarmRings n s b) := by
  unfold alarmRings
  split
  · exact .refl _ s
  · split
    · exact alarmFire_beside ha hne s n false
    · exact .refl _ s

/-- The instants of an alarm are UNSIGNED64, its counters UNSIGNED32 (R385). -/
theorem rowOf_alarm {a : Nat} (ha : a < 8) : (rowOf (0x2310 + a) 0x85).map (·.ty.width) = some 8 ∧
    (rowOf (0x2310 + a) 0x80).map (·.ty.width) = some 8 ∧ (rowOf (0x2310 + a) 0x83).map (·.ty.width) = some 4 := by
  interval_cases a <;> exact ⟨rfl, rfl, rfl⟩

/-- What an alarm that fires leaves in its own object. -/
theorem alarmFire_fires {a : Nat} (ha : a < 8) (s : State) {instant : Nat} (hinstant : instant < 2 ^ 64) (skipped : Bool) :
    let t := alarmFire s a instant skipped
    rdN t (0x2310 + a) 0x85 = instant ∧ rdN t (0x2310 + a) 0x80 = instant ∧
      rdN t (0x2310 + a) 0x83 = (rdN s (0x2310 + a) 0x83 + 1) % 2 ^ 32 := by
  obtain ⟨hlatch, hlast, hcount⟩ := rowOf_alarm ha
  obtain ⟨r85, hrow85, hwidth85⟩ := Option.map_eq_some_iff.mp hlatch
  obtain ⟨r80, hrow80, hwidth80⟩ := Option.map_eq_some_iff.mp hlast
  obtain ⟨r83, hrow83, hwidth83⟩ := Option.map_eq_some_iff.mp hcount
  have hkeep := alarmFire_acts ha s a instant skipped
  have hinstant' : instant % 256 ^ 8 = instant := Nat.mod_eq_of_lt hinstant
  refine ⟨?_, ?_, ?_⟩
  · rw [hkeep.rdN_eq (by simp [key_object]), alarmCounted, inc, alarmObj, rdN_wrN_sub _ _ _ (by omega), rdN_wrN_sub _ _ _ (by omega),
      rdN_wrN_sub _ _ _ (by omega), rdN_wrN_self _ _ hrow85, hwidth85, hinstant']
  · rw [hkeep.rdN_eq (by simp [key_object]), alarmCounted, inc, alarmObj, rdN_wrN_sub _ _ _ (by omega), rdN_wrN_sub _ _ _ (by omega),
      rdN_wrN_self _ _ hrow80, hwidth80, hinstant']
  · rw [hkeep.rdN_eq (by simp [key_object]), alarmCounted, inc, alarmObj, rdN_wrN_self _ _ hrow83, hwidth83,
      rdN_wrN_sub _ _ _ (by omega), rdN_wrN_sub _ _ _ (by omega), rdN_wrN_sub _ _ _ (by omega)]
    rfl

/-- Alarm `a` waits for second `n`: an absolute one, of that instant, with its latch before it. -/
def AlarmDue (s : State) (a n : Nat) : Prop :=
  rdN s (0x2310 + a) 1 = 1 ∧ rdN s (0x2310 + a) 2 = n ∧ rdN s (0x2310 + a) 0x85 < n

theorem alarmRings_due {s : State} {a n : Nat} (h : AlarmDue s a n) : alarmRings n s a = alarmFire s a n false := by
  obtain ⟨hmode, htime, hlatch⟩ := h
  have hmode' : rdN s (alarmObj a) 1 = 1 := hmode
  have htime' : rdN s (alarmObj a) 2 = n := htime
  have hlatch' : rdN s (alarmObj a) 0x85 < n := hlatch
  have htimes : alarmTimes s a = some (0, n) := by simp [alarmTimes, hmode', htime']
  simp [alarmRings, htimes, occUpTo, occLast, hlatch']

theorem AlarmDue.beside {s t : State} {a n : Nat} (h : AlarmDue s a n) (hframe : Writes (fun k => k / 256 != 0x2310 + a) s t) :
    AlarmDue t a n := by
  obtain ⟨hmode, htime, hlatch⟩ := h
  refine ⟨?_, ?_, ?_⟩
  · rw [hframe.rdN_eq (by simp [key_object]), hmode]
  · rw [hframe.rdN_eq (by simp [key_object]), htime]
  · rw [hframe.rdN_eq (by simp [key_object])]
    exact hlatch

/-- The alarms of a list without `a` leave it. -/
theorem alarmsRing_beside {a : Nat} (ha : a < 8) (l : List Nat) (hnot : a ∉ l) (n : Nat) (s : State) :
    Writes (fun k => k / 256 != 0x2310 + a) s (foldS s l (alarmRings n)) := by
  induction l generalizing s with
  | nil => exact .refl _ s
  | cons b l ih =>
    obtain ⟨hb, hl⟩ : a ≠ b ∧ a ∉ l := by simpa using hnot
    exact (alarmRings_beside ha hb.symm n s).trans (ih hl _)

/-- An alarm that waits for second `n` fires among the others. -/
theorem alarmsRing {a n : Nat} (ha : a < 8) (hn : n < 2 ^ 64) (l : List Nat) (hmem : a ∈ l) (hone : l.Nodup) {s : State} (h : AlarmDue s a n) :
    let t := foldS s l (alarmRings n)
    rdN t (0x2310 + a) 0x85 = n ∧ rdN t (0x2310 + a) 0x80 = n ∧
      rdN t (0x2310 + a) 0x83 = (rdN s (0x2310 + a) 0x83 + 1) % 2 ^ 32 := by
  induction l generalizing s with
  | nil => simp at hmem
  | cons b l ih =>
    obtain ⟨hb, hl⟩ := List.nodup_cons.mp hone
    by_cases hhere : b = a
    · subst hhere
      have hrest : Writes (fun k => k / 256 != 0x2310 + b) (alarmFire s b n false) (foldS s (b :: l) (alarmRings n)) := by
        rw [← alarmRings_due h]
        exact alarmsRing_beside ha l hb n _
      obtain ⟨hlatch, hlast, hcount⟩ := alarmFire_fires ha s hn false
      refine ⟨?_, ?_, ?_⟩
      · rw [hrest.rdN_eq (by simp [key_object]), hlatch]
      · rw [hrest.rdN_eq (by simp [key_object]), hlast]
      · rw [hrest.rdN_eq (by simp [key_object]), hcount]
    · have hframe := alarmRings_beside ha hhere n s
      obtain ⟨hlatch, hlast, hcount⟩ := ih (by simpa [Ne.symm hhere] using hmem) hl (h.beside hframe)
      refine ⟨hlatch, hlast, hcount.trans ?_⟩
      rw [hframe.rdN_eq (by simp [key_object])]

-- The seconds pulse --------------------------------------------------------------------------------------------------------

/-- The sub-indices that show a slew. -/
def slewKey (k : Nat) : Bool := k == key 0x2300 0x0C || k == key 0x2300 0x0D

theorem wrI_state (s : State) (i j : Nat) (v : Int) : ∃ d, wrI s i j v = { s with dict := d } := by
  obtain hstays | ⟨n, hwritten⟩ := wrI_eq s i j v
  · exact ⟨s.dict, hstays⟩
  · rw [hwritten]
    exact wrN_eq ..

theorem slewShow_eq (s : State) : (∃ d, slewShow s = { s with dict := d }) ∧ Writes slewKey s (slewShow s) := by
  obtain ⟨d, hflag⟩ := wrN_eq s 0x2300 0x0C (if s.cal.slew.isSome then 1 else 0)
  obtain ⟨d', hleft⟩ := wrI_state { s with dict := d } 0x2300 0x0D (if s.cal.slew.isSome then roundRat (slewLeft s) else 0)
  refine ⟨⟨d', ?_⟩, .wrI rfl (.wrF rfl (.refl _ s))⟩
  rw [slewShow, wrF, hflag, hleft]

theorem slewStep_eq (s : State) :
    (∃ d x, slewStep s = { s with dict := d, cal := { s.cal with slew := x } }) ∧ Writes slewKey s (slewStep s) := by
  unfold slewStep
  split
  · exact ⟨⟨s.dict, s.cal.slew, rfl⟩, .refl _ s⟩
  · split
    · exact ⟨⟨s.dict, _, rfl⟩, .of_dict rfl⟩
    · split
      · obtain ⟨d, hd⟩ := wrN_eq (setCal s { s.cal with slew := none }) 0x2300 0x0C 0
        exact ⟨⟨d, none, hd⟩, .wrN rfl (.of_dict rfl)⟩
      · exact ⟨⟨s.dict, _, rfl⟩, .of_dict rfl⟩

/-- The slew's step at a seconds pulse, shown (R370, R371). -/
theorem slewed_eq (s : State) : (∃ d x, slewShow (slewStep s) = { s with dict := d, cal := { s.cal with slew := x } }) ∧
    Writes slewKey s (slewShow (slewStep s)) := by
  obtain ⟨⟨d, x, hstep⟩, hframe⟩ := slewStep_eq s
  obtain ⟨⟨d', hshow⟩, hframe'⟩ := slewShow_eq (slewStep s)
  refine ⟨⟨d', x, ?_⟩, hframe.trans hframe'⟩
  rw [hshow, hstep]

/-- The second counted, its pulse at this instant. -/
def secondCounted (s : State) : State :=
  let u := slewShow (slewStep s)
  setCal u { u.cal with secs := s.cal.secs + 1, pulseAt := s.now, sub0 := 0 }

theorem secondCounted_frame (s : State) : Writes slewKey s (secondCounted s) := (slewed_eq s).2.beside rfl

/-- A seconds pulse counts the second, and in a valid calendar the walk and the alarms follow. -/
theorem secondsPulse_counts {s : State} (hruns : s.cal.stopped = false) (hroom : s.cal.secs < calMax) :
    secondsPulse s = if calValid s then pulse (secondCounted s) s.cal.secs (s.cal.secs + 1) else secondCounted s := by
  obtain ⟨⟨d, x, hslewed⟩, -⟩ := slewed_eq s
  have hsecs : (slewShow (slewStep s)).cal.secs = s.cal.secs := by rw [hslewed]
  have hnow : (slewShow (slewStep s)).now = s.now := by rw [hslewed]
  have hvalid : calValid (secondCounted s) = calValid s := by
    rw [calValid, calValid, rdF, rdF, (secondCounted_frame s).rdN_eq rfl]
  have hroom' : ¬ calMax ≤ s.cal.secs := Nat.not_le.mpr hroom
  rw [← hvalid]
  unfold secondsPulse
  simp only [hruns, Bool.false_eq_true, if_false, hsecs, hnow, ge_iff_le, hroom']
  rfl

/-- The calendar after a seconds pulse. -/
theorem secondsPulse_cal {s : State} (hruns : s.cal.stopped = false) (hroom : s.cal.secs < calMax) :
    (secondsPulse s).cal.secs = s.cal.secs + 1 ∧ (secondsPulse s).cal.pulseAt = s.now ∧ (secondsPulse s).cal.sub0 = 0 := by
  rw [secondsPulse_counts hruns hroom]
  split
  · obtain ⟨hsecs, hpulse, hsub, -⟩ := keepsInstant_pulse (secondCounted s) s.cal.secs (s.cal.secs + 1)
    exact ⟨hsecs, hpulse, hsub⟩
  · exact ⟨rfl, rfl, rfl⟩

theorem rdN_pulse (s : State) (past n i j : Nat) : rdN (pulse s past n) i j = rdN (alarmsAt s past n) i j := by
  unfold pulse
  simp only
  generalize alarmsAt s past n = t
  rfl

/-- An absolute alarm at its second. -/
theorem secondsPulse_alarm {s : State} {a : Nat} (ha : a < 8) (hruns : s.cal.stopped = false) (hroom : s.cal.secs < calMax)
    (hvalid : calValid s = true) (hdue : AlarmDue s a (s.cal.secs + 1)) :
    let t := secondsPulse s
    rdN t (0x2310 + a) 0x85 = s.cal.secs + 1 ∧ rdN t (0x2310 + a) 0x80 = s.cal.secs + 1 ∧
      rdN t (0x2310 + a) 0x83 = (rdN s (0x2310 + a) 0x83 + 1) % 2 ^ 32 := by
  have hbeside : Writes (fun k => k / 256 != 0x2310 + a) s (secondCounted s) := (secondCounted_frame s).mono fun k hk => by
    simp only [slewKey, key, Bool.or_eq_true, beq_iff_eq] at hk
    rw [bne_iff_ne]
    omega
  have hsecond : s.cal.secs + 1 < 2 ^ 64 := by
    unfold calMax at hroom
    omega
  have hring := alarmsRing ha hsecond (List.range 8) (List.mem_range.mpr ha) List.nodup_range (hdue.beside hbeside)
  rw [hbeside.rdN_eq (by simp [key_object])] at hring
  have hskipped : foldS (secondCounted s) (List.range 8) (alarmSkips s.cal.secs (s.cal.secs + 1)) = secondCounted s :=
    foldS_idle (alarmSkips_next s.cal.secs) _ _
  have halarms : alarmsAt (secondCounted s) s.cal.secs (s.cal.secs + 1) =
      foldS (secondCounted s) (List.range 8) (alarmRings (s.cal.secs + 1)) := by rw [alarmsAt_eq, hskipped]
  have hpulse : secondsPulse s = pulse (secondCounted s) s.cal.secs (s.cal.secs + 1) := by
    rw [secondsPulse_counts hruns hroom, hvalid]
    rfl
  simp only [hpulse, rdN_pulse, halarms]
  exact hring

-- The oscillator (R382) -------------------------------------------------------------------------------------------------------

/-- A pennant that is set stays set when a condition starts. -/
theorem pennantSet_condStart {s : State} {p q : Nat} (hp : p < 128) (hq : q < 128) (hset : pennantSet s q = true) (c loc src : Nat) :
    pennantSet (condStart s p c loc src) q = true := by
  have hheld : pennantSet { s with conds := (p, c) :: s.conds } q = true := hset
  unfold condStart
  split
  · exact hset
  · split
    · exact hset
    · simp only
      split
      · let u := wrBit { s with conds := (p, c) :: s.conds } 0x2700 (0x80 + p / 32) (p % 32) true
        have hother : pennantSet u q = true := by
          have hframe : Writes (· != key 0x2700 (1 + q / 32)) s u := .wrBit (bne_iff_ne.mpr (by unfold key; omega)) (.of_dict rfl)
          rw [pennantSet, hframe.rdBit_eq (by simp)]
          exact hset
        have hraised : pennantSet (raiseBit u p) q = true := by
          have hbit : pennantSet (wrBit u 0x2700 (1 + p / 32) (p % 32) true) q = true := by
            rw [pennantSet, rdBit_pennantWrite u (.inl rfl) hq true]
            split
            · rfl
            · exact hother
          have hframe : Writes (fun k => k == key 0x2700 0x84 || k == key 0x2810 0x80) (wrBit u 0x2700 (1 + p / 32) (p % 32) true)
              (raiseBit u p) := .wrBit (i := 0x2810) (j := 0x80) rfl (.beside (.inc (i := 0x2700) (j := 0x84) rfl (.refl _ _)) rfl)
          rw [pennantSet, hframe.rdBit_eq (by simp [key]; omega)]
          exact hbit
        rw [pennantSet, (quiet_announce (raiseBit u p) 2 loc p 0 p src).rdBit_eq (word_quiet (.inl rfl) hq)]
        exact hraised
      · exact hheld

theorem oscFail_reports (s : State) : (64, 0) ∈ (oscFail s).conds ∧ pennantSet (oscFail s) 65 = true := by
  let u := wrF (event s 65 0x0130C000) 0x2300 0x09 false
  have hfail : oscFail s = condStart u 64 0 0x01300000 0xFF := rfl
  have hset : pennantSet u 65 = true := by
    have hframe : Writes (· == key 0x2300 0x09) (event s 65 0x0130C000) u := .wrF rfl (.refl _ _)
    rw [pennantSet, hframe.rdBit_eq rfl]
    exact pennantSet_eventWith _ _ _ _ (by decide) (by simp [pennantAbsent, within])
  rw [hfail]
  exact ⟨mem_conds_condStart (by simp [pennantAbsent, within]) .., pennantSet_condStart (by decide) (by decide) hset ..⟩

/-- The calendar is invalid once the oscillator has failed, in a live device and in a dead one. -/
theorem oscFailed_invalid (s : State) : calValid ((if alive s then oscFail else oscStopped) s) = false := by
  split
  · exact calValid_calSetValid ..
  · exact calValid_calSetValid ..

/-- Settles O16: the second, what follows it, the failed oscillator, and an absolute alarm. -/
theorem secondsPulseAndAlarms : Obligations.SecondsPulseAndAlarms := by
  unfold Obligations.SecondsPulseAndAlarms
  refine ⟨⟨?second, ?walk, ?invalid, ?reports⟩, ?alarm⟩
  case second =>
    intro s hruns hroom
    refine ⟨settled s (backup s secondsPulse), rfl, ?_⟩
    simp only [settled_cal, backup_cal]
    exact secondsPulse_cal hruns hroom
  case walk =>
    intro s hlive hruns hroom hvalid
    refine ⟨settled s (backup s secondsPulse), rfl, ?_⟩
    rw [backup_alive hlive, secondsPulse_counts hruns hroom, hvalid]
    rfl
  case invalid =>
    intro s
    refine ⟨settled s (backup s (if alive s then oscFail else oscStopped)), rfl, ?_⟩
    simp only [calValid, rdF, rdN_settled, backup_rdN s _ (i := 0x2300) (j := 0x09) rfl]
    exact oscFailed_invalid s
  case reports =>
    intro s hlive
    refine ⟨settled s (backup s (if alive s then oscFail else oscStopped)), rfl, ?_⟩
    have hfail : (if alive s then oscFail else oscStopped) = oscFail := if_pos hlive
    rw [backup_alive hlive, hfail]
    simp only [settled_conds, pennantSet, rdBit, rdN_settled]
    exact oscFail_reports s
  case alarm =>
    intro s a ha hruns hroom hvalid hmode htime hlatch
    refine ⟨settled s (backup s secondsPulse), rfl, ?_⟩
    simp only [rdN_settled, backup_rdN s secondsPulse (backupKey_alarm ha (j := 0x85) (by decide)),
      backup_rdN s secondsPulse (backupKey_alarm ha (j := 0x80) (by decide)),
      backup_rdN s secondsPulse (backupKey_alarm ha (j := 0x83) (by decide))]
    exact secondsPulse_alarm ha hruns hroom hvalid ⟨hmode, htime, hlatch⟩

end Sys2Proof.Machine
end

section
/-! SUPPORT. The adjustment of the calendar (R370 to R372) and the writes of an alarm (R375). -/
namespace Sys2Proof.Machine
open Sys2Proof Sys2Proof.OD

-- A jump of the calendar ------------------------------------------------------------------------------------------------

theorem jumped_instant (s : State) (n sub : Nat) :
    (jumped s n sub).cal.secs = n ∧ (jumped s n sub).cal.sub0 = sub ∧ (jumped s n sub).cal.slew = none := by
  obtain ⟨⟨d, hshow⟩, -⟩ := slewShow_eq (setCal s { s.cal with secs := n, pulseAt := s.now, sub0 := sub, slew := none, shadows := [] })
  have hcal : (jumped s n sub).cal = { s.cal with secs := n, pulseAt := s.now, sub0 := sub, slew := none, shadows := [] } := by
    rw [jumped, wrN_cal, inc, wrN_cal, hshow]
    rfl
  rw [hcal]
  exact ⟨rfl, rfl, rfl⟩

/-- A jump ends condition 64, and in most cases the walk and the alarms follow it. -/
theorem calJump_cases (s : State) (n sub : Nat) (commit : Bool) : calJump s n sub commit = condEnd (jumped s n sub) 64 0 0x01300000 ∨
    ∃ past, calJump s n sub commit = pulse (condEnd (jumped s n sub) 64 0 0x01300000) past n := by
  unfold calJump
  simp only
  split
  · exact .inr ⟨_, rfl⟩
  · exact .inl rfl

theorem calJump_instant (s : State) (n sub : Nat) (commit : Bool) :
    (calJump s n sub commit).cal.secs = n ∧ (calJump s n sub commit).cal.sub0 = sub ∧ (calJump s n sub commit).cal.slew = none := by
  obtain ⟨hsecs, hsub, hslew⟩ := jumped_instant s n sub
  have hended : KeepsInstant (jumped s n sub) (condEnd (jumped s n sub) 64 0 0x01300000) := .of_told (told_condEnd ..)
  have hkeeps : KeepsInstant (jumped s n sub) (calJump s n sub commit) := by
    obtain hplain | ⟨past, hpulse⟩ := calJump_cases s n sub commit
    · rwa [hplain]
    · rw [hpulse]
      exact hended.trans (keepsInstant_pulse ..)
  obtain ⟨ksecs, -, ksub, kslew⟩ := hkeeps
  exact ⟨ksecs.trans hsecs, ksub.trans hsub, kslew.trans hslew⟩

-- Work items and alarms ---------------------------------------------------------------------------------------------------

theorem pwronAssert_work (s : State) (cause alarm : Nat) : (pwronAssert s cause alarm).work = s.work := by
  unfold pwronAssert
  simp only
  split
  · simp [setCal]
  · simp [setCal]

theorem alarmFire_work (s : State) (a instant : Nat) (skipped : Bool) : (alarmFire s a instant skipped).work = s.work := by
  have hpwron {t : State} (b : Bool) (h : t.work = s.work) : (if b then pwronAssert t 2 a else t).work = s.work := by
    split
    · rw [pwronAssert_work, h]
    · exact h
  have hlogged {t : State} (b : Bool) (h : t.work = s.work) : (if b then logAdd t 0x0050 (0x01304000 + a) 0xFF a else t).work = s.work := by
    split
    · rw [(told_logAdd ..).work_eq, h]
    · exact h
  unfold alarmFire
  exact hlogged _ (hpwron _ ((((told_wrN ..).trans (told_wrN ..)).trans (told_wrN ..)).trans (told_inc ..)).work_eq)

theorem pulse_work (s : State) (past n : Nat) : (pulse s past n).work = s.work := by
  have hskips (t : State) (a : Nat) : (alarmSkips past n t a).work = t.work := by
    unfold alarmSkips
    split
    · rfl
    · simp only
      split
      · rfl
      · exact (alarmFire_work ..).trans (wrN_work ..)
  have hrings (t : State) (a : Nat) : (alarmRings n t a).work = t.work := by
    unfold alarmRings
    split
    · rfl
    · split
      · exact alarmFire_work ..
      · rfl
  have halarms : (alarmsAt s past n).work = s.work := by
    rw [alarmsAt_eq]
    exact (foldS_keeps (·.work) hrings _ _).trans (foldS_keeps (·.work) hskips _ s)
  unfold pulse
  simp only
  exact halarms

theorem calJump_work (s : State) (n sub : Nat) (commit : Bool) : (calJump s n sub commit).work = s.work := by
  have hjumped : (jumped s n sub).work = s.work := by
    obtain ⟨⟨d, hshow⟩, -⟩ := slewShow_eq (setCal s { s.cal with secs := n, pulseAt := s.now, sub0 := sub, slew := none, shadows := [] })
    rw [jumped, wrN_work, inc, wrN_work, hshow]
    rfl
  have hended : (condEnd (jumped s n sub) 64 0 0x01300000).work = s.work := (told_condEnd ..).work_eq.trans hjumped
  obtain hplain | ⟨past, hpulse⟩ := calJump_cases s n sub commit
  · rwa [hplain]
  · rw [hpulse, pulse_work, hended]

-- The adjustment ------------------------------------------------------------------------------------------------------------

theorem signed_unsignedOf {ms : Int} (hlo : -2 ^ 31 ≤ ms) (hhi : ms < 2 ^ 31) : signed 4 (leNat (leBytes 4 (unsignedOf 4 ms))) = ms := by
  rw [leNat_unsignedOf]
  norm_num [signed, unsignedOf] at *
  split
  · omega
  · omega

theorem performAny_adjustment (s : State) (client : Nat) (data : List Byte) (off : Nat) (item : Option Nat) :
    performAny s client 0x2300 0x0B data off item =
      if (calAdjust s (signed 4 (leNat data))).2 == 0 then success (calAdjust s (signed 4 (leNat data))).1 client
      else abort (calAdjust s (signed 4 (leNat data))).1 client (calAdjust s (signed 4 (leNat data))).2 := rfl

/-- An adjustment needs a valid calendar (R370). -/
theorem calValid_of_accepted {s : State} {client : Nat} {data : List Byte} (h : Accepts s client 0x2300 0x0B data) : calValid s = true := by
  have hpresent := presentState_of_accepted h
  cases hvalid : calValid s with
  | true => rfl
  | false => simp [presentState, ownerState, hvalid] at hpresent

/-- The calendar with the new slew, from its next pulse on. -/
def slewBegun (s : State) (d : Rat) : State :=
  inc (slewShow (setCal s { s.cal with slew := some { c := roundRat (d * 32768 / 1000), d := d, i := 0, begun := false } })) 0x2300 0x0E

theorem calAdjust_slews {s : State} {ms : Rat} (hvalid : calValid s = true) (hlo : -2000 ≤ ms + slewLeft s) (hhi : ms + slewLeft s ≤ 2000) :
    calAdjust s ms = (slewBegun s (ms + slewLeft s), 0) := by
  have hinvalid : (!calValid s) = false := by rw [hvalid]; rfl
  simp only [calAdjust, hinvalid, hlo, hhi, decide_true]
  rfl

theorem calAdjust_steps {s : State} {ms : Rat} (hvalid : calValid s = true) (hfar : ms + slewLeft s < -2000 ∨ 2000 < ms + slewLeft s)
    (hlo : 0 ≤ calCounts s + roundRat ((ms + slewLeft s) * 32768 / 1000))
    (hhi : calCounts s + roundRat ((ms + slewLeft s) * 32768 / 1000) < ((calMax : Int) + 1) * 32768) :
    calAdjust s ms = (calJump s ((calCounts s + roundRat ((ms + slewLeft s) * 32768 / 1000)) / 32768).toNat
      ((calCounts s + roundRat ((ms + slewLeft s) * 32768 / 1000)) % 32768).toNat false, 0) := by
  have hinvalid : (!calValid s) = false := by rw [hvalid]; rfl
  have hnear : (decide (-2000 ≤ ms + slewLeft s) && decide (ms + slewLeft s ≤ 2000)) = false := by
    rw [Bool.and_eq_false_iff, decide_eq_false_iff_not, decide_eq_false_iff_not, not_le, not_le]
    exact hfar
  have hin : (decide (calCounts s + roundRat ((ms + slewLeft s) * 32768 / 1000) < 0) ||
      decide (((calMax : Int) + 1) * 32768 ≤ calCounts s + roundRat ((ms + slewLeft s) * 32768 / 1000))) = false := by
    rw [Bool.or_eq_false_iff, decide_eq_false_iff_not, decide_eq_false_iff_not, not_lt, not_le]
    exact ⟨hlo, hhi⟩
  unfold calAdjust
  simp only [hinvalid, hnear, hin, Bool.false_eq_true, if_false]

theorem slewBegun_keeps (s : State) (d : Rat) : (slewBegun s d).cal = { s.cal with
    slew := some { c := roundRat (d * 32768 / 1000), d := d, i := 0, begun := false } } ∧ (slewBegun s d).work = s.work := by
  obtain ⟨⟨x, hshow⟩, -⟩ := slewShow_eq (setCal s { s.cal with slew := some { c := roundRat (d * 32768 / 1000), d := d, i := 0, begun := false } })
  rw [slewBegun, inc, wrN_cal, wrN_work, hshow]
  exact ⟨rfl, rfl⟩

/-- An accepted adjustment that its rule carries out leaves that rule's calendar, and is answered. -/
theorem adjusted {s u : State} {client off : Nat} {data : List Byte} (h : Accepts s client 0x2300 0x0B data)
    (hadjust : calAdjust { s with answers := Tab.del s.answers client } (signed 4 (leNat data)) = (u, 0)) (hwork : u.work = s.work) (r : State) :
    let t := settled r (put s client 0x2300 0x0B data off)
    t.cal = u.cal ∧ Tab.find t.answers client = some { code := 0, data := [] } := by
  have ⟨_, hclient, _⟩ := h
  have hperform : performAny { s with answers := Tab.del s.answers client } client 0x2300 0x0B data off none = success u client := by
    rw [performAny_adjustment, hadjust]
    rfl
  have hput := put_succeeds h rfl rfl (by decide) (by decide) hperform hwork
  intro t
  have ht : t = settled r (paired (success u client) client 0x2300 0x0B data) := congrArg (settled r) hput
  obtain ⟨d, w, hpair⟩ := paired_eq (success u client) client 0x2300 0x0B data
  rw [ht, hpair, success_le hclient]
  exact ⟨rfl, Tab.find_put_self ..⟩

-- The alarms' writes ----------------------------------------------------------------------------------------------------------

theorem performAny_alarm {a sub : Nat} (ha : a < 8) (hsub : sub = 1 ∨ sub = 2) (s : State) (client : Nat) (data : List Byte) (off : Nat)
    (item : Option Nat) : performAny s client (0x2310 + a) sub data off item =
      success (wrN (wrB (eccMended s [key (0x2310 + a) sub]) (0x2310 + a) sub data) (0x2310 + a) 0x85 s.cal.secs) client := by
  interval_cases a <;> rcases hsub with rfl | rfl <;> rfl

/-- Settles O19: an adjustment by its size, and an alarm's write with its latch. -/
theorem adjustmentsAndAlarmWrites : Obligations.AdjustmentsAndAlarmWrites := by
  unfold Obligations.AdjustmentsAndAlarmWrites
  refine ⟨fun s client ms off hlo hhi h => ⟨?slews, ?steps⟩, ?alarm⟩
  case slews =>
    intro hnear hnear'
    have hadjust : calAdjust { s with answers := Tab.del s.answers client } (signed 4 (leNat (leBytes 4 (unsignedOf 4 ms)))) =
        (slewBegun { s with answers := Tab.del s.answers client } ((ms : Rat) + slewLeft s), 0) := by
      rw [signed_unsignedOf hlo hhi]
      exact calAdjust_slews (calValid_of_accepted h) hnear hnear'
    obtain ⟨hcal, hwork⟩ := slewBegun_keeps { s with answers := Tab.del s.answers client } ((ms : Rat) + slewLeft s)
    obtain ⟨hcal', hanswer⟩ := adjusted (off := off) h hadjust hwork s
    refine ⟨settled s (put s client 0x2300 0x0B (leBytes 4 (unsignedOf 4 ms)) off), rfl, ?_, ?_, hanswer⟩
    · exact congrArg (·.secs) (hcal'.trans hcal)
    · exact congrArg (·.slew) (hcal'.trans hcal)
  case steps =>
    intro n hfar hn hn'
    have hadjust : calAdjust { s with answers := Tab.del s.answers client } (signed 4 (leNat (leBytes 4 (unsignedOf 4 ms)))) =
        (calJump { s with answers := Tab.del s.answers client } (n / 32768).toNat (n % 32768).toNat false, 0) := by
      rw [signed_unsignedOf hlo hhi]
      exact calAdjust_steps (calValid_of_accepted h) hfar hn hn'
    obtain ⟨hcal', hanswer⟩ := adjusted (off := off) h hadjust (calJump_work ..) s
    obtain ⟨hsecs, hsub, hslew⟩ := calJump_instant { s with answers := Tab.del s.answers client } (n / 32768).toNat (n % 32768).toNat false
    refine ⟨settled s (put s client 0x2300 0x0B (leBytes 4 (unsignedOf 4 ms)) off), rfl, ?_, ?_, ?_, hanswer⟩
    · exact (congrArg (·.secs) hcal').trans hsecs
    · exact (congrArg (·.sub0) hcal').trans hsub
    · exact (congrArg (·.slew) hcal').trans hslew
  case alarm =>
    intro s client a sub data off ha hsub h
    have ⟨_, hclient, _⟩ := h
    have hput := put_succeeds h (by simp [structural, within]; omega) (by simp [ttStaged, within]; omega) (by omega) (by omega)
      (performAny_alarm ha hsub _ client data off none) (wrN_work ..)
    change done s (put s client (0x2310 + a) sub data off) = _
    rw [hput, success_le hclient]
    interval_cases a <;> rfl

end Sys2Proof.Machine
end

section
/-! SUPPORT. What the store's work leaves beside the store (R416 to R422): the clock, PFW_n's level, the conditions that hold, and every
sub-index that it has no reason to write. -/
namespace Sys2Proof.Machine
open Sys2Proof Sys2Proof.OD

/-- The conditions that hold go on holding when another one starts. -/
theorem mem_condStart {s : State} {x : Nat × Nat} (hx : x ∈ s.conds) (p c loc src : Nat) : x ∈ (condStart s p c loc src).conds := by
  unfold condStart
  split
  · exact hx
  · split
    · exact hx
    · simp only
      split
      · rw [announce_conds, logAdd_conds, raiseBit_conds, wrBit, wrN_conds]
        exact List.mem_cons_of_mem _ hx
      · exact List.mem_cons_of_mem _ hx

/-- `W` allows what the store's work writes: reports, its counters, the responses that are ready, the mirror's and the
couplings' marks, the items that wait and the log's mirror. -/
structure AllowsStore (W : Nat → Bool) : Prop where
  reports : AllowsReports W
  counters : ∀ k, storeKey k = true → W k = true
  ready : W (key 0x2810 0x87) = true
  mirror : W (key 0x2500 0x8E) = true
  waits : W (key 0x2700 0x85) = true
  logged : W (key 0x2710 0x81) = true ∧ W (key 0x2710 0x84) = true
  coupling : ∀ z, z < 64 → W (key (dcObj z) 0x8E) = true

/-- The clock, PFW_n's level and the conditions that hold stand, and the dictionary at the keys outside `W`. -/
structure Kept (W : Nat → Bool) (s t : State) : Prop where
  dict : Writes W s t
  now : t.now = s.now
  pfw : t.pfw = s.pfw
  conds : ∀ c ∈ s.conds, c ∈ t.conds

namespace Kept
variable {W : Nat → Bool} {s t u : State}

-- The relation ------------------------------------------------------------------------------------------------------------

theorem refl (W : Nat → Bool) (s : State) : Kept W s s := ⟨.refl W s, rfl, rfl, fun _ h => h⟩
theorem trans (h : Kept W s t) (k : Kept W t u) : Kept W s u :=
  ⟨h.dict.trans k.dict, k.now.trans h.now, k.pfw.trans h.pfw, fun c hc => k.conds c (h.conds c hc)⟩
/-- A change that leaves clock, level and conditions, and writes what `W` allows. -/
theorem same (h : Kept W s t) (hdict : Writes W t u) (hnow : u.now = t.now) (hpfw : u.pfw = t.pfw) (hconds : u.conds = t.conds) :
    Kept W s u := h.trans ⟨hdict, hnow, hpfw, fun _ hc => hconds ▸ hc⟩
theorem beside (h : Kept W s t) (hdict : u.dict = t.dict) (hnow : u.now = t.now) (hpfw : u.pfw = t.pfw) (hconds : u.conds = t.conds) :
    Kept W s u := h.same (.of_dict hdict) hnow hpfw hconds
theorem ends (h : Kept W s t) (hends : Ends t u) (hdict : Writes W t u) : Kept W s u := by
  obtain ⟨⟨d, lg, wk, an, wt, hp, rfl⟩, -⟩ := hends
  exact h.same hdict rfl rfl rfl
theorem told (h : Kept W s t) (htold : Told t u) (hconds : ∀ c ∈ t.conds, c ∈ u.conds) (hdict : Writes W t u) : Kept W s u := by
  refine h.trans ⟨hdict, htold.now_eq, ?_, hconds⟩
  obtain ⟨d, cs, pt, an, eq, lg, rfl⟩ := htold
  rfl
theorem foldS {α : Type} {f : State → α → State} {l : List α} (hf : ∀ t, ∀ a ∈ l, Kept W t (f t a)) (h : Kept W s t) :
    Kept W s (foldS t l f) := by
  induction l generalizing t with
  | nil => exact h
  | cons a l ih => exact ih (fun t b hb => hf t b (by simp [hb])) (h.trans (hf t a (by simp)))

-- Values, reports, items ----------------------------------------------------------------------------------------------------

theorem wrN {i j v : Nat} (hk : W (key i j) = true) (h : Kept W s t) : Kept W s (wrN t i j v) := by
  obtain ⟨d, hd⟩ := wrN_eq t i j v
  exact h.same (.wrN hk (.refl W t)) (by rw [hd]) (by rw [hd]) (by rw [hd])
theorem inc {i j : Nat} (hk : W (key i j) = true) (h : Kept W s t) : Kept W s (inc t i j) := wrN hk h
theorem itemDone {i : Nat} (hW : AllowsLog W) (h : Kept W s t) : Kept W s (itemDone t i) :=
  h.ends (.of_itemDone ..) (.itemDone hW (.refl W t))
theorem itemFail {i reason code : Nat} (hW : AllowsLog W) (h : Kept W s t) : Kept W s (itemFail t i reason code) :=
  h.ends (.of_itemFail ..) (.itemFail hW (.refl W t))
theorem abort {client code : Nat} (h : Kept W s t) : Kept W s (abort t client code) :=
  h.ends (.of_answer ..) (.answer (.refl W t))
theorem later {client idx code : Nat} {data : List Byte} (hW : AllowsLog W) (hn : W (key 0x2810 0x87) = true) (h : Kept W s t) :
    Kept W s (later t client idx code data) := h.ends (.of_later ..) (.later hW hn (.refl W t))
theorem itemSet {i : Nat} {f : WorkItem → WorkItem} (h : Kept W s t) : Kept W s (itemSet t i f) := by
  unfold Machine.itemSet
  split
  · exact h.beside rfl rfl rfl rfl
  · exact h
theorem condStart {p c loc src : Nat} (hW : AllowsReports W) (hp : p < 128) (h : Kept W s t) : Kept W s (condStart t p c loc src) :=
  h.told (told_condStart ..) (fun _ hx => mem_condStart hx ..) (.condStart hW hp (.refl W t))
theorem setStore {x : Store} (h : Kept W s t) : Kept W s (setStore t x) := h.beside rfl rfl rfl rfl
theorem setRecord {tag : Nat} {r : Record} (h : Kept W s t) : Kept W s (setRecord t tag r) := h.beside rfl rfl rfl rfl

-- The store's work ----------------------------------------------------------------------------------------------------------

theorem undecayed {tag : Nat} {one : Bool} (h : Kept W s t) : Kept W s (undecayed t tag one) := by
  obtain ⟨l, hl⟩ := undecayed_store t tag one
  rw [hl]
  exact h.beside rfl rfl rfl rfl
theorem bankWritten {tag serial : Nat} {p : Payload} (hW : AllowsStore W) (h : Kept W s t) : Kept W s (bankWritten t tag serial p) := by
  have hcounted : Kept W s (Machine.inc (Machine.wrN (bankPut t tag serial p) 0x2400 0x94 (rdN t 0x2400 0x94 + 1)) 0x2400 0x95) :=
    inc (hW.counters _ rfl) (wrN (hW.counters _ rfl) (setRecord (undecayed h)))
  have hworn {u : State} (hu : Kept W s u) (e : Nat) : Kept W s (if rdN u 0x2400 0x98 < e then Machine.wrN u 0x2400 0x98 e else u) := by
    split
    · exact wrN (hW.counters _ rfl) hu
    · exact hu
  rw [bankWritten_counts]
  split
  · exact condStart hW.reports (by decide) (hworn hcounted _)
  · exact hworn hcounted _
theorem bankErased {tag : Nat} (h : Kept W s t) : Kept W s (bankErased t tag) := by
  obtain ⟨rs, ds, herased⟩ := bankErased_eq t tag
  rw [herased]
  exact h.beside rfl rfl rfl rfl
theorem bankBegin {l : List (Nat × Nat × Payload)} (h : Kept W s t) : Kept W s (bankBegin t l) := by
  unfold Machine.bankBegin
  split
  · exact bankErased h
  · exact h
theorem journalDrop {i : Nat} (hW : AllowsStore W) (h : Kept W s t) : Kept W s (journalDrop t i) := by
  unfold Machine.journalDrop
  split
  · split
    · exact wrN (hW.counters _ rfl) (setStore h)
    · exact h
  · exact h
theorem journalAdd {i : Nat} {l : List (Nat × Nat)} (hW : AllowsStore W) (h : Kept W s t) : Kept W s (journalAdd t i l) := by
  unfold Machine.journalAdd
  split
  · exact inc (hW.counters _ rfl) (setStore (itemSet h))
  · exact h
theorem storeEnd {ok : Bool} {reason : Nat} (hW : AllowsStore W) (h : Kept W s t) : Kept W s (storeEnd t ok reason) := by
  unfold Machine.storeEnd
  split
  · exact h
  · rename_i q _
    have hanswered {u : State} (hu : Kept W s u) : Kept W s (match q.client with
        | some c => Machine.later u c (workObject q.work).1 (if ok then 0 else 0x08000020) []
        | none => u) := by
      split
      · exact later hW.reports.log hW.ready hu
      · exact hu
    refine hanswered ?_
    split
    · split
      · exact itemDone hW.reports.log (journalDrop hW (setStore h))
      · exact itemFail hW.reports.log (journalDrop hW (setStore h))
    · exact setStore h
theorem storeTaken {x : StoreWork} (hW : AllowsStore W) (h : Kept W s t) : Kept W s (storeTaken t x) := by
  cases x with
  | save _ => exact h
  | restore areas => exact .foldS (fun _ _ _ => setRecord (.refl W _)) h
  | coupling =>
    refine .foldS (fun u z hz => wrN (hW.coupling z.1 ?_) (.refl W u)) h
    obtain ⟨n, hn, rfl⟩ := List.mem_map.mp hz
    have hpart : n < if t.zh6432 then 32 else 64 := List.mem_range.mp hn
    split at hpart
    · exact Nat.lt_trans hpart (by decide)
    · exact hpart
  | coefs => exact setStore h
  | panel _ _ => exact h.beside rfl rfl rfl rfl
  | hoist _ => exact setStore h
theorem newItem {kind origin idx sub : Nat} (h : Kept W s t) : Kept W s (newItem t kind origin idx sub).1 := by
  unfold Machine.newItem
  split
  · exact h
  · exact h.beside rfl rfl rfl rfl
theorem serialsRaised {x : StoreWork} (h : Kept W s t) : Kept W s (serialsRaised t x) := by
  unfold Machine.serialsRaised
  split
  · exact setStore h
  · exact h

/-- The begin of a store work with its item `i`. -/
theorem storeTakes {q : StoreReq} {rest : List StoreReq} {i : Nat} (hW : AllowsStore W) (h : Kept W s t) :
    Kept W s (storeTakes t q rest i) := by
  have hbegun : Kept W s (Machine.setStore (Machine.serialsRaised (itemActive (Machine.journalAdd t i (journalTargets t q.work)) i) q.work)
      { (Machine.serialsRaised (itemActive (Machine.journalAdd t i (journalTargets t q.work)) i) q.work).store with
        active := some { q with item := some i }, queue := rest,
        writes := storeWrites (itemActive (Machine.journalAdd t i (journalTargets t q.work)) i) q.work, attempt := 0 }) :=
    setStore (serialsRaised (itemSet (journalAdd hW h)))
  unfold Machine.storeTakes
  simp only
  split
  · exact storeEnd hW (storeTaken hW hbegun)
  · exact bankBegin hbegun

theorem storeKick (hW : AllowsStore W) (h : Kept W s t) : Kept W s (storeKick t) := by
  cases hactive : t.store.active with
  | some q => simpa [Machine.storeKick, hactive] using h
  | none =>
    cases hqueue : t.store.queue with
    | nil => simpa [Machine.storeKick, hactive, hqueue] using h
    | cons q rest =>
      cases hitem : q.item with
      | some i =>
        rw [storeKick_of_item hactive hqueue hitem]
        exact storeTakes hW h
      | none =>
        obtain hwaits | ⟨i, htakes⟩ := storeKick_of_no_item hactive hqueue hitem
        · rw [hwaits]
          exact newItem h
        · rw [htakes]
          exact storeTakes hW (newItem h)
theorem storeAsk {q : StoreReq} (hW : AllowsStore W) (h : Kept W s t) : Kept W s (storeAsk t q) := storeKick hW (setStore h)

theorem mirrorPut {m : MirrorItem} (hW : AllowsStore W) (h : Kept W s t) : Kept W s (mirrorPut t m) := by
  have hcounted : Kept W s (Machine.inc t 0x2500 0x8E) := inc hW.mirror h
  unfold Machine.mirrorPut
  split
  · exact h
  · exact hcounted.beside rfl rfl rfl rfl

/-- A unit's own save asks the store, once the other member of the pair is told. -/
theorem unitSave {x : StoreWork} (hW : AllowsStore W) (h : Kept W s t) : Kept W s (unitSave t x) := by
  have hasked {u : State} (hu : Kept W s u) (kind origin idx sub : Nat) : Kept W s (Machine.storeAsk
      (if (Machine.newItem u kind origin idx sub).2.isNone then waited (Machine.newItem u kind origin idx sub).1
        else (Machine.newItem u kind origin idx sub).1)
      { item := (Machine.newItem u kind origin idx sub).2, client := none, work := x }) := by
    refine storeAsk hW ?_
    split
    · exact inc hW.waits (newItem hu)
    · exact newItem hu
  unfold Machine.unitSave
  split
  · exact h
  · refine hasked ?_ 2 0x100 (workObject x).1 (workObject x).2
    split
    · exact mirrorPut hW h
    · exact mirrorPut hW h
    · exact h

/-- The store's work ends at once, what waits in it fails (R387, R411). -/
theorem storeAbandon {reason : Nat} {finishes : Bool} (hW : AllowsStore W) (h : Kept W s t) : Kept W s (storeAbandon t reason finishes) := by
  have hqueued {u : State} (hu : Kept W s u) (l : List StoreReq) (code : Nat) : Kept W s (Machine.foldS u l fun s q =>
      let s := match q.item with | some i => Machine.itemFail (Machine.journalDrop s i) i reason code | none => s
      match q.client with | some c => Machine.later s c (workObject q.work).1 code [] | none => s) := by
    refine foldS (fun v q _ => ?_) hu
    have hfailed : Kept W v (match q.item with | some i => Machine.itemFail (Machine.journalDrop v i) i reason code | none => v) := by
      split
      · exact itemFail hW.reports.log (journalDrop hW (.refl W v))
      · exact .refl W v
    simp only
    split
    · exact later hW.reports.log hW.ready hfailed
    · exact hfailed
  unfold Machine.storeAbandon
  simp only
  refine hqueued (setStore ?_) _ _
  split
  · split
    · split
      · exact storeEnd hW (storeTaken hW (bankWritten hW h))
      · exact h
    · exact storeEnd hW (bankWritten hW h)
    · exact storeEnd hW h
  · exact storeEnd hW h

/-- The log's mirror moves what is new into the store ring (R457). -/
theorem logMirror (hW : AllowsStore W) (h : Kept W s t) : Kept W s (logMirror t) := by
  unfold Machine.logMirror
  simp only
  split
  · exact h
  · exact wrN hW.logged.1 (wrN hW.logged.2 (h.beside rfl rfl rfl rfl))

end Kept

end Sys2Proof.Machine
end

section
/-! SUPPORT. Power (R386 to R400): the power-state commands and what they come to at their tick, PFW_n and the feeds. -/
namespace Sys2Proof.Machine
open Sys2Proof Sys2Proof.OD

-- The power state among other values ----------------------------------------------------------------------------------------

/-- The store's work leaves a sub-index below 0x2300 but the two counters of 0x1001 and 0x1FF0. -/
theorem allowsStore_power {j : Nat} (hj : j < 256) : AllowsStore (· != key 0x2100 j) where
  reports := fun k hk => by
    have hobject := reportKey_object hk
    simp only [reportObjects, List.mem_cons, List.not_mem_nil, or_false] at hobject
    rw [bne_iff_ne]
    unfold key
    omega
  counters := fun k hk => by
    rw [storeKey, within_iff] at hk
    rw [bne_iff_ne]
    unfold key at *
    omega
  ready := by rw [bne_iff_ne]; unfold key; omega
  mirror := by rw [bne_iff_ne]; unfold key; omega
  waits := by rw [bne_iff_ne]; unfold key; omega
  logged := by simp only [bne_iff_ne]; unfold key; omega
  coupling := fun z hz => by rw [bne_iff_ne]; unfold key dcObj; omega

namespace Kept
variable {W : Nat → Bool} {s t : State}

theorem setPanel {p : Nat} {x : Panel} (h : Kept W s t) : Kept W s (setPanel t p x) := h.beside rfl rfl rfl rfl
theorem panelsOff {own : Nat} (h : Kept W s t) : Kept W s (panelsOff t own) := by
  refine .foldS (fun u p _ => ?_) h
  split
  · exact .refl W u
  · exact .setPanel (.refl W u)
theorem panelsCut {reason : Nat} (h : Kept W s t) : Kept W s (panelsCut t reason) := by
  refine .foldS (fun u p _ => ?_) h
  simp only
  split
  · exact .refl W u
  · exact .setPanel (.refl W u)
theorem traceClear (hk : ∀ j, j < 256 → W (key 0x3E00 j) = true) (h : Kept W s t) : Kept W s (traceClear t) := by
  have hcleared : Kept W s { t with trace := { cmds := t.trace.cmds } } := h.beside rfl rfl rfl rfl
  refine .foldS (fun u j hj => .wrN (hk j ?_) (.refl W u)) hcleared
  simp only [List.mem_cons, List.not_mem_nil, or_false] at hj
  omega
theorem measStop {why : Nat} (hW : AllowsLog W) (hk : ∀ i j, 0x3160 ≤ i → j < 256 → W (key i j) = true) (h : Kept W s t) :
    Kept W s (measStop t why) := by
  have hslice {u : State} {sl j v : Nat} (hj : j < 256) (hu : Kept W s u) : Kept W s (Machine.wrN u (slObj sl) j v) :=
    wrN (hk _ _ (by unfold slObj; omega) hj) hu
  have hlast {u : State} (hu : Kept W s u) (m : Meas) : Kept W s { u with meas := m } := hu.beside rfl rfl rfl rfl
  have hspare {u : State} (b : Bool) (hu : Kept W s u) : Kept W s (if b then Machine.wrN u 0x3170 0x80 4 else u) := by
    split
    · exact wrN (hk _ _ (by omega) (by omega)) hu
    · exact hu
  have hphase {u : State} {sl : Nat} (b : Bool) (hu : Kept W s u) : Kept W s (if b then u else
      Machine.wrN (Machine.wrN (Machine.wrN (Machine.wrN u (slObj sl) 0x80 0) (slObj sl) 0x81 16) 0x3170 0x80 4) 0x3170 0x81 0) := by
    split
    · exact hu
    · exact wrN (hk _ _ (by omega) (by omega)) (wrN (hk _ _ (by omega) (by omega)) (hslice (by omega) (hslice (by omega) hu)))
  have hcoefs {u : State} {sl : Nat} {c : List (Real32 × Real32)} (b : Bool) (hu : Kept W s u) :
      Kept W s (if b then setCoefs u sl c else u) := by
    split
    · exact hu.beside rfl rfl rfl rfl
    · exact hu
  have hitem : Kept W s (match t.meas.calItem with | some i => Machine.itemFail t i why 0 | none => t) := by
    split
    · exact itemFail hW h
    · exact h
  unfold Machine.measStop
  exact hlast (hspare _ (hphase _ (hcoefs _ hitem))) _

end Kept

-- The power-state commands (R399, R400) --------------------------------------------------------------------------------------

theorem loopsSuspend_frame (s : State) (doze : Bool) : Writes (· != key 0x2100 0x80) s (loopsSuspend s doze) := by
  have hloop {t : State} {n v : Nat} : Writes (· != key 0x2100 0x80) t (wrN t (lpObj n) 0x87 v) :=
    .wrN (bne_iff_ne.mpr (by unfold key lpObj; omega)) (.refl _ t)
  refine .foldS (fun t n => ?_) (.refl _ s)
  simp only
  split
  · exact hloop.beside rfl
  · split
    · exact hloop
    · exact .refl _ t

/-- RUN and DOZE are entered from each other at once. -/
theorem powerTake_runs {s : State} {v : Nat} (hawake : rdN s 0x2100 0x80 ≤ 1) (hv : v ≤ 1) : rdN (powerTake s v) 0x2100 0x80 = v := by
  have hstate : ¬ 2 ≤ rdN s 0x2100 0x80 := by omega
  by_cases hsame : rdN s 0x2100 0x80 = v
  · simp [powerTake, hv, hsame]
  · have htake : powerTake s v = loopsSuspend (wrN s 0x2100 0x80 v) (v == 1) := by simp [powerTake, hv, hstate, hsame]
    rw [htake, (loopsSuspend_frame _ _).rdN_eq (by simp), rdN_wrN_self _ _ (r := rowOf 0x2100 0x80 |>.get rfl) rfl]
    exact Nat.mod_eq_of_lt (Nat.lt_of_le_of_lt hv (by decide))

/-- What SLEEP and SHIP do first: safe states, the panels, the learned coupling and the log (R400). -/
def sleepBegun (s : State) (v : Nat) : State := logMirror (unitSave (panelsOff (traceClear (measStop (wrN s 0x2100 0x80 v) 2)) s.now) .coupling)

theorem kept_sleepBegun (s : State) (v : Nat) : Kept (· != key 0x2100 0x80) (wrN s 0x2100 0x80 v) (sleepBegun s v) := by
  have hW := allowsStore_power (j := 0x80) (by decide)
  have hstopped : Kept (· != key 0x2100 0x80) (wrN s 0x2100 0x80 v) (measStop (wrN s 0x2100 0x80 v) 2) :=
    .measStop hW.reports.log (fun i j hi hj => bne_iff_ne.mpr (by unfold key; omega)) (.refl _ _)
  exact .logMirror hW (.unitSave hW (.panelsOff (.traceClear (fun j hj => bne_iff_ne.mpr (by unfold key; omega)) hstopped)))

theorem powerTake_asleep {s : State} {v : Nat} (hawake : rdN s 0x2100 0x80 ≤ 1) (hv : v = 4 ∨ v = 5) :
    powerTake s v = setPw (sleepBegun s v) { (sleepBegun s v).pw with entry := some ((sleepBegun s v).now, v == 5) } := by
  have hrun : ¬ v ≤ 1 := by omega
  have hfail : (rdN s 0x2100 0x80 == 3) = false := by simp; omega
  have hasleep : ¬ 4 ≤ rdN s 0x2100 0x80 := by omega
  unfold powerTake sleepBegun
  simp only [hrun, hfail, ge_iff_le, hasleep, decide_false, Bool.and_false, Bool.or_false, Bool.false_eq_true, if_false]

/-- SLEEP and SHIP are entered in steps: the state at once, the last step 310 ms after this instant. -/
theorem powerTake_sleeps {s : State} {v : Nat} (hawake : rdN s 0x2100 0x80 ≤ 1) (hv : v = 4 ∨ v = 5) :
    rdN (powerTake s v) 0x2100 0x80 = v ∧ (powerTake s v).pw.entry = some (s.now, v == 5) := by
  have hkept := kept_sleepBegun s v
  have hnow : (sleepBegun s v).now = s.now := hkept.now.trans (wrN_now ..)
  have hread : rdN (sleepBegun s v) 0x2100 0x80 = v := by
    rw [hkept.dict.rdN_eq (by simp), rdN_wrN_self _ _ (r := rowOf 0x2100 0x80 |>.get rfl) rfl]
    exact Nat.mod_eq_of_lt (by rcases hv with rfl | rfl <;> decide)
  rw [powerTake_asleep hawake hv, hnow]
  generalize sleepBegun s v = t at hread
  exact ⟨hread, rfl⟩

theorem powerEntryStep_off {s : State} {a : Nat} {ship : Bool} (h : s.pw.entry = some (a, ship)) (hdue : a + 3100 ≤ s.now) :
    (powerEntryStep s).pw.entry = none ∧ (powerEntryStep s).pw.off = true ∧ (powerEntryStep s).cal.offDue = some ship := by
  have hdue' : a + msT 310 ≤ s.now := hdue
  simp only [powerEntryStep, h, hdue', if_true]
  exact ⟨rfl, rfl, rfl⟩

/-- Settles O41: the commands wait for tick s + 1; there they change the state, and SLEEP and SHIP end 310 ms later. -/
theorem powerCommandsWaitThenAct : Obligations.PowerCommandsWaitThenAct := by
  unfold Obligations.PowerCommandsWaitThenAct
  refine ⟨?waits, ?takes, ?last⟩
  case waits =>
    intro s client off c hc h
    have hplain : Plain 0x2100 0x10 (rowOf 0x2100 0x10 |>.get rfl) := ⟨rfl, rfl, rfl, rfl⟩
    have hput := put_waits hplain h (.inl rfl) (by decide) off
    have hexec : exec c.1 s = done s (put s client 0x2100 0x10 (leBytes 1 c.2) off) := by
      simp only [List.mem_cons, List.not_mem_nil, or_false] at hc
      rcases hc with rfl | rfl | rfl | rfl <;> rfl
    rw [hexec, hput]
    rfl
  case takes =>
    intro s w v hidx hsub hdata hawake
    have happly (hv : v < 256) : applyDue s w = powerTake s v := by
      rw [applyDue, hidx, hsub, hdata, leNat_leBytes, Nat.mod_eq_of_lt (by omega)]
      rfl
    refine ⟨fun hv => ?_, fun hv => ?_⟩
    · rw [happly (by omega)]
      exact powerTake_runs hawake hv
    · rw [happly (by omega)]
      exact powerTake_sleeps hawake hv
  case last =>
    intro s a ship h hdue
    exact powerEntryStep_off h hdue

end Sys2Proof.Machine
end

section
/-! SUPPORT. The supplies (R386 to R392): PFW_n's fall with all that it ends, its release, and the feeds. -/
namespace Sys2Proof.Machine
open Sys2Proof Sys2Proof.OD

-- PFW_n ---------------------------------------------------------------------------------------------------------------------

theorem Kept.powerFailItems {W : Nat → Bool} {s t : State} (hW : AllowsLog W) (h : Kept W s t) : Kept W s (powerFailItems t) := by
  refine .foldS (fun u i _ => ?_) h
  split
  · simp only
    split
    · exact .abort (.itemFail hW (.refl W u))
    · exact .itemFail hW (.refl W u)
  · exact .itemFail hW (.refl W u)

/-- The condition of POWER_FAIL starts, over the state and its counter. -/
def powerFailing (s : State) : State :=
  condStart (inc (wrBit (wrN { powerFailItems s with pfw := true } 0x2100 0x80 3) 0x2100 0x81 4 true) 0x2100 0x8A) 58 0 0x0320C000 0xFF

/-- The panels cut, unless an orderly stop has begun. -/
def powerFailCut (s : State) (finishes : Bool) : State :=
  let t := storeAbandon (powerFailing s) 2 finishes
  if t.th.stopAt.isSome then t else panelsCut t 2

theorem powerFailing_stands (s : State) : (powerFailing s).pfw = true ∧ (powerFailing s).now = s.now ∧
    rdN (powerFailing s) 0x2100 0x80 = 3 ∧ (58, 0) ∈ (powerFailing s).conds := by
  have hitems : Kept (fun _ => true) s (powerFailItems s) := .powerFailItems (fun _ _ => rfl) (.refl _ s)
  let u := wrN { powerFailItems s with pfw := true } 0x2100 0x80 3
  have htold : Told u (powerFailing s) := ((told_wrBit ..).trans (told_inc ..)).trans (told_condStart ..)
  have hframe : Writes (· != key 0x2100 0x80) u (powerFailing s) :=
    .condStart (allowsStore_power (by decide)).reports (by decide) (.inc (by decide) (.wrBit (by decide) (.refl _ u)))
  have hset : rdN u 0x2100 0x80 = 3 := rdN_wrN_self _ _ (r := rowOf 0x2100 0x80 |>.get rfl) rfl
  obtain ⟨d, hd⟩ := wrN_eq { powerFailItems s with pfw := true } 0x2100 0x80 3
  refine ⟨?_, ?_, ?_, mem_conds_condStart (by simp [pennantAbsent, within]) ..⟩
  · obtain ⟨_, _, _, _, _, _, htold⟩ := htold
    rw [htold]
    exact congrArg (·.pfw) hd
  · rw [htold.now_eq]
    exact (congrArg (·.now) hd).trans hitems.now
  · rw [hframe.rdN_eq (by decide), hset]

theorem kept_powerFailCut (s : State) (finishes : Bool) : Kept (· != key 0x2100 0x80) (powerFailing s) (powerFailCut s finishes) := by
  have habandoned : Kept (· != key 0x2100 0x80) (powerFailing s) (storeAbandon (powerFailing s) 2 finishes) :=
    .storeAbandon (allowsStore_power (by decide)) (.refl _ _)
  unfold powerFailCut
  simp only
  split
  · exact habandoned
  · exact .panelsCut habandoned

/-- What fails in the store's queue leaves the queue as it finds it. -/
theorem queueFailed_queue (s : State) (q : StoreReq) (reason code : Nat) :
    (let t := match q.item with | some i => itemFail (journalDrop s i) i reason code | none => s
     match q.client with | some c => later t c (workObject q.work).1 code [] | none => t).store.queue = s.store.queue := by
  have hitem : (match q.item with | some i => itemFail (journalDrop s i) i reason code | none => s).store.queue = s.store.queue := by
    split
    · rw [(Ends.of_itemFail ..).store_eq]
      exact (journalDrop_store ..).2.2
    · rfl
  simp only
  split
  · rw [(Ends.of_later ..).store_eq, hitem]
  · exact hitem

theorem storeAbandon_queue (s : State) (reason : Nat) (finishes : Bool) : (storeAbandon s reason finishes).store.queue = [] := by
  unfold storeAbandon
  exact foldS_keeps (·.store.queue) (fun t q => queueFailed_queue t q reason _) _ _

theorem powerFailCut_queue (s : State) (finishes : Bool) : (powerFailCut s finishes).store.queue = [] := by
  have hqueue := storeAbandon_queue (powerFailing s) 2 finishes
  unfold powerFailCut
  simp only
  split
  · exact hqueue
  · refine (foldS_keeps (·.store.queue) (fun t p => ?_) _ _).trans hqueue
    simp only
    split
    · rfl
    · rfl

/-- PFW_n's fall in a running device (R386, R387). -/
theorem pfwAsserted_eq {s : State} (hstate : rdN s 0x2100 0x80 ≠ 3) (hidle : s.pw.recordAt = none) (finishes : Bool) :
    ∃ x, pfwAsserted s finishes = setPw (powerFailCut s finishes) x ∧ x.recordAt = some ((powerFailCut s finishes).now + 80) := by
  have hgo : ¬ (s.pw.recordAt.isSome || rdN s 0x2100 0x80 == 3) = true := by simp [hidle, hstate]
  unfold pfwAsserted
  rw [if_neg hgo]
  exact ⟨_, rfl, rfl⟩

-- The host port's requests fail with the items (R387) -------------------------------------------------------------------------

/-- The sub-indices of the host port's responses. -/
def readyKey (k : Nat) : Bool := k == key 0x2810 0x87 || k == key 0x2810 0x80

/-- `t` is `s` but for the responses of the host port and what counts them. -/
def Responded (s t : State) : Prop := (∃ d tags, t = { s with dict := d, host := { s.host with tags := tags } }) ∧ Writes readyKey s t

theorem Responded.refl (s : State) : Responded s s := ⟨⟨s.dict, s.host.tags, rfl⟩, .refl _ s⟩
theorem Responded.trans {s t u : State} (h : Responded s t) (k : Responded t u) : Responded s u := by
  obtain ⟨⟨d, tags, rfl⟩, hdict⟩ := h
  obtain ⟨⟨d', tags', rfl⟩, kdict⟩ := k
  exact ⟨⟨d', tags', rfl⟩, hdict.trans kdict⟩
/-- The tags of the host port once `tag` has its response. -/
def tagsReady (s : State) (tag : Nat) (ok : Bool) (data : List Byte) : Tab HostTag :=
  match Tab.find s.host.tags tag with
  | some t => Tab.put s.host.tags tag { t with resp := some (ok, data) }
  | none => s.host.tags

theorem hostReady_eq (s : State) (tag : Nat) (ok : Bool) (data : List Byte) :
    let n := ((tagsReady s tag ok data).filter fun p => p.2.resp.isSome).length
    hostReady s tag ok data =
      wrBit (wrN { s with host := { s.host with tags := tagsReady s tag ok data } } 0x2810 0x87 n) 0x2810 0x80 0 (n != 0) := rfl

theorem responded_hostReady (s : State) (tag : Nat) (ok : Bool) (data : List Byte) : Responded s (hostReady s tag ok data) := by
  refine ⟨?_, .wrBit (i := 0x2810) (j := 0x80) rfl (.wrN (i := 0x2810) (j := 0x87) rfl (.of_dict rfl))⟩
  rw [hostReady_eq]
  generalize tagsReady s tag ok data = tags
  generalize (tags.filter fun p => p.2.resp.isSome).length = n
  obtain ⟨d, hready⟩ := wrN_eq { s with host := { s.host with tags := tags } } 0x2810 0x87 n
  obtain ⟨d', hirq⟩ := wrN_eq { s with dict := d, host := { s.host with tags := tags } } 0x2810 0x80
    (setBit (rdN { s with dict := d, host := { s.host with tags := tags } } 0x2810 0x80) 0 (n != 0))
  refine ⟨d', tags, ?_⟩
  rw [wrBit, hready, hirq]
theorem responded_foldS {α : Type} {f : State → α → State} (hf : ∀ t a, Responded t (f t a)) (l : List α) (s : State) :
    Responded s (foldS s l f) := by
  induction l generalizing s with
  | nil => exact .refl s
  | cons a l ih => exact (hf s a).trans (ih _)

/-- The requests of the clients and of the host port dropped. -/
def requestsDropped (s : State) (keep : List Waiting) : State :=
  let t := setNet { s with waiting := keep } { s.net with reqs := [], xfers := [] }
  setHost t { t.host with queue := [], seg := none }

theorem requestsFailed_responds (s : State) : ∃ keep, Responded (requestsDropped s keep) (requestsFailed s) :=
  ⟨_, responded_foldS (fun t tag => responded_hostReady t tag ..) _ _⟩

theorem requestsFailed_keeps (s : State) : (requestsFailed s).pfw = s.pfw ∧ (requestsFailed s).pw = s.pw ∧
    (requestsFailed s).conds = s.conds ∧ (requestsFailed s).store = s.store ∧ (requestsFailed s).net.reqs = [] ∧
    (requestsFailed s).host.queue = [] ∧ rdN (requestsFailed s) 0x2100 0x80 = rdN s 0x2100 0x80 := by
  obtain ⟨keep, ⟨d, tags, hresponded⟩, hframe⟩ := requestsFailed_responds s
  have hread : rdN (requestsFailed s) 0x2100 0x80 = rdN s 0x2100 0x80 := hframe.rdN_eq rfl
  rw [hresponded] at hread ⊢
  exact ⟨rfl, rfl, rfl, rfl, rfl, rfl, hread⟩

-- The commands of the supplies --------------------------------------------------------------------------------------------------

theorem powerFail_eq {s t : State} {finishes : Bool} (hstate : rdN s 0x2100 0x80 ≠ 3) (hfallen : pfwAsserted s finishes = t)
    (hthree : rdN t 0x2100 0x80 = 3) : powerFail s finishes = requestsFailed t := by
  simp [powerFail, hfallen, hstate, hthree]

/-- What stands once PFW_n has fallen. -/
def PowerFailed (s t : State) : Prop :=
  rdN t 0x2100 0x80 = 3 ∧ t.pfw = true ∧ t.pw.recordAt = some (s.now + 80) ∧ (58, 0) ∈ t.conds ∧ t.store.queue = [] ∧
    t.net.reqs = [] ∧ t.host.queue = []

theorem powerFail_fails {s : State} (hstate : rdN s 0x2100 0x80 ≠ 3) (hidle : s.pw.recordAt = none) (finishes : Bool) :
    PowerFailed s (powerFail s finishes) := by
  obtain ⟨hpfw, hnow, hthree, hcond⟩ := powerFailing_stands s
  obtain ⟨hdict, hnow', hpfw', hconds⟩ := kept_powerFailCut s finishes
  obtain ⟨x, hfallen, hrecord⟩ := pfwAsserted_eq hstate hidle finishes
  have hqueue := powerFailCut_queue s finishes
  have hread : rdN (powerFailCut s finishes) 0x2100 0x80 = 3 := (hdict.rdN_eq (by decide)).trans hthree
  rw [hnow', hnow] at hrecord
  have hpfw'' := hpfw'.trans hpfw
  have hcond'' := hconds _ hcond
  generalize powerFailCut s finishes = c at hfallen hqueue hread hpfw'' hcond''
  obtain ⟨kpfw, kpw, kconds, kstore, kreqs, khost, kread⟩ := requestsFailed_keeps (setPw c x)
  rw [powerFail_eq hstate hfallen hread, PowerFailed, kpfw, kpw, kconds, kstore, kreqs, khost, kread]
  exact ⟨hread, hpfw'', hrecord, hcond'', hqueue, rfl, rfl⟩

-- The feeds (R388, R389) -------------------------------------------------------------------------------------------------------

/-- The feeds' status, bit by bit, beside the bits 2 and 3 that say which feed carries the load. -/
theorem feedCarry_bits (s : State) (prefer : Nat) {f : Nat} (hf : f < 2) : rdBit (feedCarry s prefer) 0x2100 0x81 f = rdBit s 0x2100 0x81 f := by
  have hwidth : f < 8 * ((rowOf 0x2100 0x81).get rfl).ty.width := Nat.lt_of_lt_of_le hf (by decide)
  unfold feedCarry
  simp only
  rw [rdBit_wrBit _ _ (r := rowOf 0x2100 0x81 |>.get rfl) rfl hwidth, rdBit_wrBit _ _ (r := rowOf 0x2100 0x81 |>.get rfl) rfl hwidth,
    if_neg (by omega), if_neg (by omega)]

theorem told_feedCarry (s : State) (prefer : Nat) : Told s (feedCarry s prefer) := (told_wrBit ..).trans (told_wrBit ..)
theorem feedCarry_frame (s : State) (prefer : Nat) : Writes (· == key 0x2100 0x81) s (feedCarry s prefer) :=
  .wrBit rfl (.wrBit rfl (.refl _ s))

/-- Both feeds' bits after feed `f` has been marked. -/
theorem feedMarked (s : State) {f : Nat} (hf : f < 2) (b : Bool) (prefer : Nat) :
    let t := feedCarry (wrBit s 0x2100 0x81 f b) prefer
    rdBit t 0x2100 0x81 f = b ∧ rdBit t 0x2100 0x81 (1 - f) = rdBit s 0x2100 0x81 (1 - f) := by
  have hwidth : ∀ g, g < 2 → g < 8 * ((rowOf 0x2100 0x81).get rfl).ty.width := fun g hg => Nat.lt_of_lt_of_le hg (by decide)
  intro t
  rw [feedCarry_bits _ _ hf, feedCarry_bits _ _ (by omega), rdBit_wrBit s b (r := rowOf 0x2100 0x81 |>.get rfl) rfl (hwidth _ hf),
    rdBit_wrBit s b (r := rowOf 0x2100 0x81 |>.get rfl) rfl (hwidth _ (by omega)), if_pos rfl, if_neg (by omega)]
  exact ⟨rfl, rfl⟩

/-- The supplies' unit runs in a dead device too: the feeds' status follows (R386). -/
theorem supply_rdBit (s : State) (f : State → State) (n : Nat) : rdBit (supply s f) 0x2100 0x81 n = rdBit (f s) 0x2100 0x81 n := by
  unfold supply
  split
  · rfl
  · exact congrArg (fun v => bit (leNat v) n) ((dictGet_keeping s (f s) _ _).trans (if_pos rfl))
theorem supply_alive {s : State} (h : Alive s) (f : State → State) : supply s f = f s := if_pos h

/-- The state in which a feed that fails starts its condition. -/
def feedFallen (s : State) (f : Nat) : State := inc (feedCarry (wrBit s 0x2100 0x81 f false) (1 - f)) 0x2100 (0x88 + f)

theorem feedBrownOut_eq {s : State} {f : Nat} (hfed : rdBit s 0x2100 0x81 f = true) :
    feedBrownOut s f = condStart (feedFallen s f) (56 + f) 0 (0x03200000 + f) 0xFF := by
  simp [feedBrownOut, hfed, feedFallen]

theorem feedBrownOut_bits {s : State} {f : Nat} (hf : f < 2) (hfed : rdBit s 0x2100 0x81 f = true) :
    rdBit (feedBrownOut s f) 0x2100 0x81 f = false ∧
      rdBit (feedBrownOut s f) 0x2100 0x81 (1 - f) = rdBit s 0x2100 0x81 (1 - f) := by
  have hframe : Writes (· != key 0x2100 0x81) (feedCarry (wrBit s 0x2100 0x81 f false) (1 - f)) (feedBrownOut s f) := by
    rw [feedBrownOut_eq hfed]
    exact .condStart (allowsStore_power (by decide)).reports (by omega) (.inc (bne_iff_ne.mpr (by unfold key; omega)) (.refl _ _))
  rw [hframe.rdBit_eq (by decide), hframe.rdBit_eq (by decide)]
  exact feedMarked s hf false (1 - f)

theorem feedBrownOut_counts {s : State} {f : Nat} (hf : f < 2) (hfed : rdBit s 0x2100 0x81 f = true) :
    (56 + f, 0) ∈ (feedBrownOut s f).conds ∧ rdN (feedBrownOut s f) 0x2100 (0x88 + f) = (rdN s 0x2100 (0x88 + f) + 1) % 2 ^ 32 := by
  obtain ⟨r, hrow, hwidth⟩ : ∃ r, rowOf 0x2100 (0x88 + f) = some r ∧ r.ty.width = 4 := by
    interval_cases f <;> exact ⟨_, rfl, rfl⟩
  rw [feedBrownOut_eq hfed]
  refine ⟨mem_conds_condStart (by simp [pennantAbsent, within]; omega) .., ?_⟩
  have hframe : Writes (· != key 0x2100 (0x88 + f)) (feedFallen s f) (condStart (feedFallen s f) (56 + f) 0 (0x03200000 + f) 0xFF) :=
    .condStart (allowsStore_power (by omega)).reports (by omega) (.refl _ _)
  have hbits : Writes (· == key 0x2100 0x81) s (feedCarry (wrBit s 0x2100 0x81 f false) (1 - f)) :=
    (Writes.wrBit (i := 0x2100) (j := 0x81) rfl (.refl _ s)).trans (feedCarry_frame (wrBit s 0x2100 0x81 f false) (1 - f))
  rw [hframe.rdN_eq (by simp), feedFallen, inc, rdN_wrN_self _ _ hrow, hwidth, hbits.rdN_eq (by simp [key]; omega)]
  rfl

theorem feedRestored_bits (s : State) {f : Nat} (hf : f < 2) (prefer : Nat) :
    rdBit (feedRestored s f prefer) 0x2100 0x81 f = true ∧
      rdBit (feedRestored s f prefer) 0x2100 0x81 (1 - f) = rdBit s 0x2100 0x81 (1 - f) := by
  have hframe : Writes (· != key 0x2100 0x81) (feedCarry (wrBit s 0x2100 0x81 f true) prefer) (feedRestored s f prefer) :=
    .condEnd (allowsStore_power (by decide)).reports (by omega) (.refl _ _)
  rw [hframe.rdBit_eq (by decide), hframe.rdBit_eq (by decide)]
  exact feedMarked s hf true prefer

theorem feedRestored_conds (s : State) (f prefer : Nat) : (feedRestored s f prefer).conds = s.conds.filter (· != (56 + f, 0)) := by
  unfold feedRestored
  rw [condEnd_conds, feedCarry, wrBit, wrBit, wrBit, wrN_conds, wrN_conds, wrN_conds]

/-- Settles O42: PFW_n in a live and in a dead device, and the feeds by their bits and conditions. -/
theorem supplyEvents : Obligations.SupplyEvents := by
  unfold Obligations.SupplyEvents
  refine ⟨?falls, ?fallsDead, ?releases, ?brownOut, ?brownOutLive, ?restored, ?restoredLive⟩
  case falls =>
    intro s finishes hlive hstate hidle
    have hfailed := powerFail_fails hstate hidle finishes
    have halive : alive s = true := hlive
    refine ⟨settled s (powerFail s finishes), ?_, ?_⟩
    · change done s (if alive s then powerFail s finishes else { s with pfw := true }) = _
      rw [halive]
      rfl
    · have hsame : rdN (settled s (powerFail s finishes)) 0x2100 0x80 = rdN (powerFail s finishes) 0x2100 0x80 := rdN_settled ..
      rw [PowerFailed, ← hsame] at hfailed
      exact hfailed
  case fallsDead =>
    intro s finishes hdead
    change done s (if alive s then powerFail s finishes else { s with pfw := true }) = _
    rw [hdead]
    rfl
  case releases =>
    intro s hother
    change done s (if alive s && rdN s 0x2100 0x80 == 3 then pfwReleased s else { s with pfw := false }) = _
    rw [hother]
    rfl
  case brownOut =>
    intro s f hf hfed
    refine ⟨settled s (supply s fun s => feedBrownOut s f), rfl, ?_⟩
    simp only [rdBit, rdN_settled]
    have hbits := feedBrownOut_bits hf hfed
    rw [← supply_rdBit s (fun s => feedBrownOut s f), ← supply_rdBit s (fun s => feedBrownOut s f)] at hbits
    exact hbits
  case brownOutLive =>
    intro s f hf hlive hfed
    refine ⟨settled s (supply s fun s => feedBrownOut s f), rfl, ?_⟩
    simp only [supply_alive hlive, rdN_settled]
    exact feedBrownOut_counts hf hfed
  case restored =>
    intro s f prefer hf
    refine ⟨settled s (supply s fun s => feedRestored s f prefer), rfl, ?_⟩
    simp only [rdBit, rdN_settled]
    have hbits := feedRestored_bits s hf prefer
    rw [← supply_rdBit s (fun s => feedRestored s f prefer), ← supply_rdBit s (fun s => feedRestored s f prefer)] at hbits
    exact hbits
  case restoredLive =>
    intro s f prefer hf hlive
    refine ⟨settled s (supply s fun s => feedRestored s f prefer), rfl, ?_⟩
    rw [supply_alive hlive]
    exact feedRestored_conds s f prefer

end Sys2Proof.Machine
end

section
/-! SUPPORT. The thermal monitor (R405 to R412): the twelve readings of a measurement, the throttle's stages, the orderly stop and the trip. -/
namespace Sys2Proof.Machine
open Sys2Proof Sys2Proof.OD

-- The readings stand ----------------------------------------------------------------------------------------------------------

/-- Every sub-index but the twelve readings 0x2200:84 to 8F. -/
def noReading (k : Nat) : Bool := !within k (key 0x2200 0x84) (key 0x2200 0x8F)

theorem noReading_of {i j : Nat} (hj : j < 256) (h : i ≠ 0x2200 ∨ j < 0x84 ∨ 0x8F < j) : noReading (key i j) = true := by
  rw [noReading, Bool.not_eq_true', Bool.eq_false_iff, ne_eq, within_iff]
  unfold key
  omega

theorem allowsStore_noReading : AllowsStore noReading where
  reports := fun k hk => by
    have hobject := reportKey_object hk
    simp only [reportObjects, List.mem_cons, List.not_mem_nil, or_false] at hobject
    rw [noReading, Bool.not_eq_true', Bool.eq_false_iff, ne_eq, within_iff]
    unfold key
    omega
  counters := fun k hk => by
    rw [storeKey, within_iff] at hk
    rw [noReading, Bool.not_eq_true', Bool.eq_false_iff, ne_eq, within_iff]
    unfold key at *
    omega
  ready := rfl
  mirror := rfl
  waits := rfl
  logged := ⟨rfl, rfl⟩
  coupling := fun z hz => noReading_of (by decide) (.inl (by unfold dcObj; omega))

namespace Writes
variable {s t : State}

theorem stageSet {n : Nat} (h : Writes noReading s t) : Writes noReading s (stageSet t n) := by
  have hstage : Writes noReading s (Machine.wrN (Machine.wrN t 0x2200 0x94 n) 0x3180 0x89 (if n ≥ 4 then 2 else 1)) := wrN rfl (wrN rfl h)
  unfold Machine.stageSet
  simp only
  split
  · exact condStart allowsStore_noReading.reports (by decide) hstage
  · split
    · exact condEnd allowsStore_noReading.reports (by decide) (hstage.beside rfl)
    · exact hstage
theorem thState (h : Writes noReading s t) : Writes noReading s (thState t) := wrN rfl h
/-- A sensor is marked invalid or valid again, with its condition (R406). -/
theorem sensorMarked {mask n : Nat} {bad good : Prop} [Decidable bad] [Decidable good] (h : Writes noReading s t) :
    Writes noReading s (if bit mask n then
        if bad then Machine.condStart (Machine.wrN t 0x2200 0x92 (setBit mask n false)) 71 n (thLoc 0 n) 0xFF else t
      else if good then Machine.condEnd (Machine.wrN t 0x2200 0x92 (setBit mask n true)) 71 n (thLoc 0 n)
      else t) := by
  split
  · split
    · exact condStart allowsStore_noReading.reports (by decide) (wrN rfl h)
    · exact h
  · split
    · exact condEnd allowsStore_noReading.reports (by decide) (wrN rfl h)
    · exact h
theorem sensorStep {med2 v : Int} {n : Nat} (h : Writes noReading s t) : Writes noReading s (sensorStep t med2 v n) := by
  have hnoted (x : Thermal) : Writes noReading s (setTh t x) := h.beside rfl
  exact sensorMarked (hnoted _)
theorem refTemperature {r : Real32} (h : Writes noReading s t) : Writes noReading s (refTemperature t r) := by
  have hshown : Writes noReading s (Machine.wrR t 0x3180 0x87 r) := wrR rfl h
  unfold Machine.refTemperature
  simp only
  split
  · exact foldS (fun u sl => wrR (noReading_of (by decide) (.inl (by unfold slObj; omega))) (.refl _ u)) (hshown.beside rfl)
  · exact hshown
/-- The orderly stop, from its budget `b` on (R411). -/
theorem stopped {b : Nat} {x : Option Nat} {finishes off : Bool} (h : Writes noReading s t) :
    Writes noReading s (
      let u := Machine.wrN (Machine.inc t 0x2200 0x9A) 0x2200 0x9C b
      let u := Machine.event (setTh u { u.th with stopAt := x }) 70 (thLoc 2 6)
      let u := Machine.storeAbandon (Machine.thState u) 3 finishes
      if off then u else Machine.panelsCut u 3) := by
  have hevent (y : Thermal) : Writes noReading s (Machine.event (setTh (Machine.wrN (Machine.inc t 0x2200 0x9A) 0x2200 0x9C b) y) 70 (thLoc 2 6)) :=
    event allowsStore_noReading.reports (by decide) ((wrN rfl (inc rfl h)).beside rfl)
  have habandoned {u : State} (hu : Writes noReading s u) : Writes noReading s (Machine.storeAbandon (Machine.thState u) 3 finishes) :=
    (thState hu).trans (Kept.storeAbandon allowsStore_noReading (.refl _ _)).dict
  have hcut {u : State} (hu : Writes noReading s u) : Writes noReading s (if off then u else Machine.panelsCut u 3) := by
    split
    · exact hu
    · exact hu.trans (Kept.panelsCut (.refl _ u)).dict
  exact hcut (habandoned (hevent _))

theorem orderlyStop {v : Int} {finishes : Bool} (h : Writes noReading s t) : Writes noReading s (orderlyStop t v finishes) := by
  unfold Machine.orderlyStop
  exact stopped h

/-- The warning (R408). -/
theorem warned {loc : Nat} {c d : Bool} (h : Writes noReading s t) :
    Writes noReading s (if c then Machine.inc (Machine.condStart t 68 0 loc 0xFF) 0x2200 0x97
      else if d then Machine.condEnd t 68 0 loc else t) := by
  split
  · exact inc rfl (condStart allowsStore_noReading.reports (by decide) h)
  · split
    · exact condEnd allowsStore_noReading.reports (by decide) h
    · exact h
/-- The first stage (R409). -/
theorem throttled {x : Thermal} {c : Bool} (h : Writes noReading s t) :
    Writes noReading s (if c then Machine.inc (Machine.stageSet (setTh t x) 1) 0x2200 0x98 else t) := by
  split
  · exact inc rfl (stageSet (h.beside rfl))
  · exact h
/-- The last stage without four valid sensors (R406). -/
theorem stageLast {c : Prop} [Decidable c] (h : Writes noReading s t) : Writes noReading s (if c then Machine.stageSet t 5 else t) := by
  split
  · exact stageSet h
  · exact h
/-- The hottest sensor at T_stop (R411). -/
theorem hotStop {v : Int} {c : Prop} [Decidable c] {finishes : Bool} (h : Writes noReading s t) :
    Writes noReading s (if c then Machine.orderlyStop t v finishes else t) := by
  split
  · exact orderlyStop h
  · exact h

end Writes

/-- The twelve readings as a measurement writes them. -/
def readingsTaken (s : State) (temps : List Int) : State :=
  foldS s (List.range 12) fun s n => wrR s 0x2200 (0x84 + n) (F32.ofRat (mkRat (temps.getD n 0) 4))

theorem readingsTaken_rows : ∀ n < 12, (rowOf 0x2200 (0x84 + n)).map (·.ty.width) = some 4 := by decide

theorem rdR_wrR_self (s : State) {i j : Nat} (v : Real32) (hrow : (rowOf i j).map (·.ty.width) = some 4) : rdR (wrR s i j v) i j = v := by
  obtain ⟨r, hr, hwidth⟩ := Option.map_eq_some_iff.mp hrow
  rw [rdR, wrR, rdN_wrN_self _ _ hr, hwidth, Nat.mod_eq_of_lt (by omega), BitVec.ofNat_toNat, BitVec.setWidth_eq]

theorem readingsTaken_read (s : State) (temps : List Int) {n : Nat} (hn : n < 12) :
    rdR (readingsTaken s temps) 0x2200 (0x84 + n) = F32.ofRat (mkRat (temps.getD n 0) 4) := by
  suffices hfirst : ∀ m ≤ 12, ∀ n < m,
      rdR ((List.range m).foldl (fun s n => wrR s 0x2200 (0x84 + n) (F32.ofRat (mkRat (temps.getD n 0) 4))) s) 0x2200 (0x84 + n) =
        F32.ofRat (mkRat (temps.getD n 0) 4) from hfirst 12 le_rfl n hn
  intro m hm
  induction m with
  | zero => exact fun n hn => absurd hn (Nat.not_lt_zero n)
  | succ m ih =>
    intro n hn
    rw [List.range_succ, List.foldl_append, List.foldl_cons, List.foldl_nil]
    by_cases hlast : n = m
    · rw [hlast, rdR_wrR_self _ _ (readingsTaken_rows m (by omega))]
    · rw [rdR, wrR, rdN_wrN_sub _ _ _ (by omega)]
      exact ih (by omega) n (by omega)

/-- Nothing that a measurement does writes a reading again. -/
theorem thermalMeasure_frame (s : State) (temps : List Int) (finishes : Bool) :
    Writes noReading (readingsTaken s temps) (thermalMeasure s temps finishes) := by
  unfold thermalMeasure
  extract_lets rd taken valid med stepped judged v
  have hjudged : Writes noReading taken judged := .refTemperature (.foldS (fun _ _ => .sensorStep (.refl _ _)) (.refl _ _))
  have hheld {c : Prop} [Decidable c] {u w : State} (hu : Writes noReading taken u) (hw : Writes noReading taken w) :
      Writes noReading taken (if c then u else w) := by
    split
    · exact hu
    · exact hw
  change Writes noReading taken _
  clear_value v
  split
  · exact hheld hjudged (.thState (.wrBit rfl (.stageSet hjudged)))
  · extract_lets hot h hottest src noted risen exact' warned shown src throttled last src removal stopped
    have hnoted : Writes noReading taken noted := .beside (.wrN (i := 0x2200) (j := 0x91) rfl (.wrR (i := 0x2200) (j := 0x90) rfl hjudged)) rfl
    have hexact : Writes noReading taken exact' := .wrN (i := 0x2200) (j := 0x93) rfl (.wrR (i := 0x2200) (j := 0x96) rfl hnoted)
    have hthrottled : Writes noReading taken throttled := .throttled (.wrBit (i := 0x2500) (j := 0x8C) rfl (.warned hexact))
    have hremoval : Writes noReading taken removal := .beside (.stageLast hthrottled) rfl
    exact hheld hexact (.thState (.hotStop hremoval))

theorem alive_parts {s : State} (h : Alive s) : s.inReset = false ∧ s.th.hold = 0 ∧ s.pw.off = false := by
  simpa [Alive, alive, and_assoc] using h

theorem thermal_reads (s : State) (temps : List Int) (finishes : Bool) {n : Nat} (hn : n < 12) :
    rdR (thermal s temps finishes) 0x2200 (0x84 + n) = F32.ofRat (mkRat (temps.getD n 0) 4) := by
  have hwritten : noReading (key 0x2200 (0x84 + n)) = false := by
    rw [noReading, Bool.not_eq_false', within_iff]
    unfold key
    omega
  have hmeasured : rdN (thermalMeasure s temps finishes) 0x2200 (0x84 + n) = rdN (readingsTaken s temps) 0x2200 (0x84 + n) :=
    (thermalMeasure_frame s temps finishes).rdN_eq hwritten
  rw [← readingsTaken_read s temps hn, rdR, rdR, ← hmeasured, thermal]
  split
  · obtain ⟨keep, -, hresponded⟩ := requestsFailed_responds (thermalMeasure s temps finishes)
    have hframe : rdN (requestsFailed (thermalMeasure s temps finishes)) 0x2200 (0x84 + n) =
        rdN (requestsDropped (thermalMeasure s temps finishes) keep) 0x2200 (0x84 + n) := hresponded.rdN_eq (by simp [readyKey, key]; omega)
    rw [hframe]
    rfl
  · rfl

/-- Settles O14: what follows the measurement writes none of the twelve readings. -/
theorem thermalReadingsStand : Obligations.ThermalReadingsStand := by
  unfold Obligations.ThermalReadingsStand
  intro s temps finishes halive
  have hmeasures : exec (.thermalMeasurement temps finishes) s = done s (thermal s temps finishes) := by
    obtain ⟨hreset, -, hoff⟩ := alive_parts halive
    change done s (if s.pw.off || (s.inReset && s.th.hold == 0) then s else thermal s temps finishes) = _
    rw [hoff, hreset]
    rfl
  refine ⟨_, hmeasures, fun n hn => ?_⟩
  rw [rdR_settled]
  exact thermal_reads s temps finishes hn

-- The stages, the orderly stop and the trip -----------------------------------------------------------------------------------

theorem stageAdd_due {s : State} (hstage : rdN s 0x2200 0x94 ≠ 0) (hdue : s.th.addAt + msT (rdN s 0x2200 0x20) ≤ s.now) :
    stageAdd s =
      let s' := { s with th := { s.th with addAt := s.now, addH := lastH s } }
      thState (if thAt s 115 ≤ lastH s ∧ s.th.addH - lastH s < 2 ∧ rdN s 0x2200 0x94 < 5
        then stageSet s' (rdN s 0x2200 0x94 + 1) else s') := by
  have hwaits : (rdN s 0x2200 0x94 == 0 || decide (s.now < s.th.addAt + msT (rdN s 0x2200 0x20))) = false := by simp [hstage, hdue]
  have hmore : (decide (thAt s 115 ≤ lastH s) && decide (s.th.addH - lastH s < 2) && decide (rdN s 0x2200 0x94 < 5)) = true ↔
      thAt s 115 ≤ lastH s ∧ s.th.addH - lastH s < 2 ∧ rdN s 0x2200 0x94 < 5 := by simp [and_assoc]
  simp only [stageAdd, hwaits, Bool.false_eq_true, if_false, hmore, setTh]

theorem stageRemove_due {s : State} {r : Nat} (hsince : s.th.removeAt = some r) (hstage : rdN s 0x2200 0x94 ≠ 0)
    (hvalid : 4 ≤ ((List.range 12).filter fun n => bit (rdN s 0x2200 0x92) n).length) (hdue : r + msT (rdN s 0x2200 0x21) ≤ s.now)
    (hcool : lastH s < thAt s 110) :
    stageRemove s = thState (stageSet { s with th := { s.th with removeAt := some s.now } } (rdN s 0x2200 0x94 - 1)) := by
  have hstays : (rdN s 0x2200 0x94 == 0 || decide (((List.range 12).filter fun n => bit (rdN s 0x2200 0x92) n).length < 4) ||
      decide (s.now < r + msT (rdN s 0x2200 0x21)) || decide (thAt s 110 ≤ lastH s)) = false := by simp [hstage, hvalid, hdue, hcool]
  simp only [stageRemove, hsince, hstays, Bool.false_eq_true, if_false, setTh]

theorem bankWritten_th (s : State) (tag serial : Nat) (p : Payload) : (bankWritten s tag serial p).th = s.th :=
  have ⟨_, _, _, _, _, _, htold⟩ := told_bankWritten s tag serial p
  have ⟨_, hput⟩ := undecayed_store s tag (targetIs1 (storeRecord s tag))
  by rw [htold]; simp only [bankPut, hput, setRecord]

theorem thermalShutdown_due {s : State} {a : Nat} (hhold : s.th.hold = 0) (hstop : s.th.stopAt = some a)
    (hover : rdN s 0x2200 0x9C ≤ (s.now - a) * 100) : (thermalShutdown s).th = { s.th with hold := 1, cool := 0 } := by
  have hends : (s.th.hold != 0 || decide ((s.now - a) * 100 < rdN s 0x2200 0x9C)) = false := by simp [hhold, hover]
  unfold thermalShutdown
  split
  · rename_i c hc
    obtain rfl : c = a := Option.some.inj (hc.symm.trans hstop)
    simp only [hends, Bool.false_eq_true, if_false, setTh]
    split
    · rw [bankWritten_th]
    · rfl
  · rename_i hnone
    exact absurd (hnone.symm.trans hstop) (Option.some_ne_none _).symm

theorem thermalTrip_hot {s : State} (hhold : s.th.hold = 0)
    (hhot : 2 ≤ ((List.range 12).filter fun n => decide (mkRat (thAt s 135) 4 ≤ F32.toRat (rdR s 0x2200 (0x84 + n)))).length) :
    thermalTrip s =
      let s' := inc s 0x2200 0x9B
      { s' with th := { s'.th with hold := 2, cool := 0 }, cal := { s'.cal with trip := true }, inReset := true } := by
  have htrips : (decide (((List.range 12).filter fun n => decide (mkRat (thAt s 135) 4 ≤ F32.toRat (rdR s 0x2200 (0x84 + n)))).length < 2) ||
      s.th.hold == 2) = false := by simp [hhold, Nat.not_lt.mpr hhot]
  simp only [thermalTrip, htrips, Bool.false_eq_true, if_false, setTh]

/-- Settles O15. -/
theorem thermalStages : Obligations.ThermalStages := by
  unfold Obligations.ThermalStages
  refine ⟨fun s halive hstage hdue => ?_, fun s r halive hsince hstage hvalid hdue hcool => ?_, fun s a halive hstop hover => ?_,
    fun s halive hhot => ?_, fun s hon hhold hcool => ?_⟩
  · change done s (act s fun s => stageAdd s) = _
    rw [act_alive halive, stageAdd_due hstage hdue]
    rfl
  · change done s (act s fun s => stageRemove s) = _
    rw [act_alive halive, stageRemove_due hsince hstage hvalid hdue hcool]
    rfl
  · obtain ⟨-, hhold, -⟩ := alive_parts halive
    have hth := thermalShutdown_due hhold hstop hover
    refine ⟨settled s (thermalShutdown s), ?_, hth, ?_⟩
    · change done s (act s fun s => thermalShutdown s) = _
      rw [act_alive halive]
      rfl
    · have hheld : (settled s (thermalShutdown s)).th.hold = 1 := congrArg Thermal.hold hth
      rw [alive, hheld]
      simp
  · obtain ⟨-, hhold, hoff⟩ := alive_parts halive
    change done s (if s.pw.off then s else thermalTrip s) = _
    rw [hoff, if_neg Bool.false_ne_true, thermalTrip_hot hhold hhot]
    rfl
  · obtain ⟨t, hexec, -, ht⟩ := thermalRelease_resets hon hhold hcool
    exact ⟨t, hexec, ht⟩

end Sys2Proof.Machine
end

section
/-! SUPPORT. Firmware images (R425 to R431): what the items, the store and the log leave of the update's own words. -/
namespace Sys2Proof.Machine
open Sys2Proof Sys2Proof.OD

-- What an accepted write leaves ---------------------------------------------------------------------------------------------------

/-- Beside what its rule makes of it, an accepted write shows in the pair and the hash alone, whether the rule aborts it or not. -/
theorem put_outcome {s t : State} {client idx sub : Nat} {data : List Byte} {off : Nat} (h : Accepts s client idx sub data)
    (hstruct : structural idx sub = false) (htt : ttStaged idx sub = false) (hcal : ¬ (idx = 0x2300 ∧ sub = 6))
    (hgroup : ¬ (idx = 0x2000 ∧ sub = 0x17))
    (hperform : performAny { s with answers := Tab.del s.answers client } client idx sub data off none = t) :
    (∃ d u x, put s client idx sub data off = { t with dict := d, dup := u, hashed := x }) ∧
      ∀ i j, i ≠ 0x2500 → j < 256 → rdN (put s client idx sub data off) i j = rdN t i j := by
  cases hanswer : aborted t client with
  | false =>
    obtain ⟨d, u, hpaired⟩ := paired_eq t client idx sub data
    obtain ⟨x, hhash⟩ := storeHash_eq s (paired t client idx sub data)
    have hput := put_performed h hstruct htt hcal hgroup hperform hanswer
    refine ⟨⟨d, u, x, by rw [hput, hhash, hpaired]⟩, fun i j hi hj => ?_⟩
    rw [hput, hhash]
    exact rdN_paired t client idx sub data hi hj
  | true =>
    obtain ⟨hserved, _, hopen, hpass⟩ := h
    have hgroup' : (idx == 0x2000 && sub == 0x17) = false := by simpa using hgroup
    have hopen' : groupOf { s with answers := Tab.del s.answers client } client = none := hopen
    have hwrite : writeOne s client idx sub data off none = t := by
      simp [writeOne, accepted, hpass, hgroup', hopen', hstruct, htt, hperform, hanswer]
    obtain ⟨x, hhash⟩ := storeHash_eq s t
    have hput : put s client idx sub data off = { t with hashed := x } := by rw [put, up_served hserved, hwrite, hhash]
    refine ⟨⟨t.dict, t.dup, x, hput⟩, fun i j _ _ => ?_⟩
    rw [hput]
    rfl

theorem itemAnswered_answers (s : State) (item : Option Nat) (code : Nat) : (itemAnswered s item code).answers = s.answers := by
  unfold itemAnswered
  split
  · split
    · exact (keepsServices_itemDone ..).left
    · exact (keepsServices_itemFail ..).left
  · rfl

theorem answers_later (s : State) (client idx code : Nat) (data : List Byte) :
    (later s client idx code data).answers = (answer s client code data).answers := by
  have hready (u : State) (tag : Nat) (ok : Bool) (bytes : List Byte) : (hostReady u tag ok bytes).answers = u.answers := by
    obtain ⟨⟨d, tags, h⟩, -⟩ := responded_hostReady u tag ok bytes
    rw [h]
  unfold later
  simp only
  split
  · rfl
  · rename_i w _
    have hitem : (itemAnswered { answer s client code data with waiting := (answer s client code data).waiting.filter (· != w) }
        w.item code).answers = (answer s client code data).answers := itemAnswered_answers ..
    split
    · exact (hready ..).trans hitem
    · exact hitem

/-- A client that waited for its answer has it. -/
theorem later_answers (s : State) {client : Nat} (h : client ≤ 0x80) (idx code : Nat) (data : List Byte) :
    Tab.find (later s client idx code data).answers client = some { code := code, data := data } := by
  rw [answers_later, answer, if_neg (by omega), Tab.find_put_self]

-- The frame of the update ---------------------------------------------------------------------------------------------------------

/-- Every sub-index but the update's words 0x2400:80 to 93 and the running image 0x2000:06. -/
def outsideFw (k : Nat) : Bool := !within k (key 0x2400 0x80) (key 0x2400 0x93) && k != key 0x2000 6

theorem outsideFw_iff {k : Nat} : outsideFw k = true ↔ (k < key 0x2400 0x80 ∨ key 0x2400 0x93 < k) ∧ k ≠ key 0x2000 6 := by
  rw [outsideFw, Bool.and_eq_true, Bool.not_eq_true', Bool.eq_false_iff, ne_eq, within_iff, bne_iff_ne]
  omega

theorem allowsStore_outsideFw : AllowsStore outsideFw where
  reports := fun k hk => by
    simp only [reportKey, logKey, emcyKey, Bool.or_eq_true, beq_iff_eq, within_iff, key] at hk
    rw [outsideFw_iff]
    unfold key
    omega
  counters := fun k hk => by
    rw [storeKey, within_iff] at hk
    rw [outsideFw_iff]
    unfold key at *
    omega
  ready := rfl
  mirror := rfl
  waits := rfl
  logged := ⟨rfl, rfl⟩
  coupling := fun z hz => by
    rw [outsideFw_iff]
    unfold dcObj key
    omega

/-- The update's own state and its words stand. -/
structure FwKept (s t : State) : Prop where
  dict : Writes outsideFw s t
  fw : t.fw = s.fw
  part : t.zh6432 = s.zh6432

theorem bankWritten_fw (s : State) (tag serial : Nat) (p : Payload) :
    (bankWritten s tag serial p).fw = s.fw ∧ (bankWritten s tag serial p).zh6432 = s.zh6432 := by
  obtain ⟨_, _, _, _, _, _, htold⟩ := told_bankWritten s tag serial p
  obtain ⟨_, hput⟩ := undecayed_store s tag (targetIs1 (storeRecord s tag))
  rw [htold]
  simp only [bankPut, hput, setRecord, and_self]

namespace FwKept
variable {s t : State}

theorem refl (s : State) : FwKept s s := ⟨.refl _ s, rfl, rfl⟩
theorem trans {u : State} (h : FwKept s t) (k : FwKept t u) : FwKept s u := ⟨h.dict.trans k.dict, k.fw.trans h.fw, k.part.trans h.part⟩
theorem beside {u : State} (h : FwKept s t) (hdict : u.dict = t.dict) (hfw : u.fw = t.fw) (hpart : u.zh6432 = t.zh6432) : FwKept s u :=
  ⟨h.dict.beside hdict, hfw.trans h.fw, hpart.trans h.part⟩
theorem foldS {α : Type} {f : State → α → State} {l : List α} (hf : ∀ t a, FwKept t (f t a)) (h : FwKept s t) : FwKept s (foldS t l f) := by
  induction l generalizing t with
  | nil => exact h
  | cons a l ih => exact ih (h.trans (hf t a))
theorem wrN {i j v : Nat} (hk : outsideFw (key i j) = true) (h : FwKept s t) : FwKept s (wrN t i j v) := by
  obtain ⟨d, hd⟩ := wrN_eq t i j v
  exact h.trans ⟨.wrN hk (.refl _ t), by rw [hd], by rw [hd]⟩
theorem ends {u : State} (h : FwKept s t) (hends : Ends t u) (hdict : Writes outsideFw t u) : FwKept s u := by
  obtain ⟨⟨_, _, _, _, _, _, rfl⟩, -⟩ := hends
  exact ⟨h.dict.trans hdict, h.fw, h.part⟩
theorem itemDone {i : Nat} (h : FwKept s t) : FwKept s (itemDone t i) :=
  h.ends (.of_itemDone ..) (.itemDone allowsStore_outsideFw.reports.log (.refl _ t))
theorem itemFail {i reason code : Nat} (h : FwKept s t) : FwKept s (itemFail t i reason code) :=
  h.ends (.of_itemFail ..) (.itemFail allowsStore_outsideFw.reports.log (.refl _ t))
theorem answer {client code : Nat} {data : List Byte} (h : FwKept s t) : FwKept s (answer t client code data) :=
  h.ends (.of_answer ..) (.answer (.refl _ t))
theorem later {client idx code : Nat} {data : List Byte} (h : FwKept s t) : FwKept s (later t client idx code data) :=
  h.ends (.of_later ..) (.later allowsStore_outsideFw.reports.log rfl (.refl _ t))
theorem itemSet {i : Nat} {f : WorkItem → WorkItem} (h : FwKept s t) : FwKept s (itemSet t i f) := by
  unfold Machine.itemSet
  split
  · exact h.beside rfl rfl rfl
  · exact h
theorem setStore {x : Store} (h : FwKept s t) : FwKept s (setStore t x) := h.beside rfl rfl rfl
theorem journalAdd {i : Nat} {l : List (Nat × Nat)} (h : FwKept s t) : FwKept s (journalAdd t i l) := by
  unfold Machine.journalAdd
  split
  · exact wrN rfl (setStore (itemSet h))
  · exact h
theorem journalDrop {i : Nat} (h : FwKept s t) : FwKept s (journalDrop t i) := by
  unfold Machine.journalDrop
  split
  · split
    · exact wrN rfl (setStore h)
    · exact h
  · exact h
theorem bankWritten {tag serial : Nat} {p : Payload} (h : FwKept s t) : FwKept s (bankWritten t tag serial p) :=
  have ⟨hfw, hpart⟩ := bankWritten_fw t tag serial p
  h.trans ⟨(Kept.bankWritten allowsStore_outsideFw (.refl _ t)).dict, hfw, hpart⟩
theorem sessionRecord (h : FwKept s t) : FwKept s (sessionRecord t) := bankWritten h
theorem logAdd {code loc qual data : Nat} (h : FwKept s t) : FwKept s (logAdd t code loc qual data) :=
  h.ends (.of_logAdd ..) (.logAdd allowsStore_outsideFw.reports.log (.refl _ t))
theorem newItem {kind origin idx sub : Nat} (h : FwKept s t) : FwKept s (newItem t kind origin idx sub).1 := by
  unfold Machine.newItem
  split
  · exact h
  · exact h.beside rfl rfl rfl
theorem fwEnd {client reason : Nat} {item : Option Nat} {ok : Bool} (h : FwKept s t) : FwKept s (fwEnd t client item ok reason) := by
  unfold Machine.fwEnd
  refine later ?_
  split
  · simp only
    split
    · exact itemDone (journalDrop h)
    · exact itemFail (journalDrop h)
  · exact h
theorem fwKick (h : FwKept s t) : FwKept s (fwKick t) := by
  unfold Machine.fwKick
  split
  · split
    · exact itemSet h
    · exact h
  · exact h

theorem rdN_eq {i j : Nat} (h : FwKept s t) (hk : outsideFw (key i j) = false) : rdN t i j = rdN s i j := h.dict.rdN_eq hk
theorem image_eq (h : FwKept s t) (i : Nat) : image t i = image s i := by rw [image, image, h.fw]

theorem headerRefusal_eq (h : FwKept s t) (header : List Byte) : headerRefusal t header = headerRefusal s header := by
  rw [headerRefusal, headerRefusal, applies, applies, h.part, rollbackC, rollbackC, h.rdN_eq rfl]

end FwKept

-- Headers and blocks (R425 to R427) -----------------------------------------------------------------------------------------------

theorem rdN_wrN_width (s : State) {i j n : Nat} (v : Nat) (hrow : (rowOf i j).map (·.ty.width) = some n) :
    rdN (wrN s i j v) i j = v % 256 ^ n := by
  obtain ⟨r, hr, hwidth⟩ := Option.map_eq_some_iff.mp hrow
  rw [rdN_wrN_self _ _ hr, hwidth]

section
variable (s : State) {i : Nat} (x : Image)

/-- What an image slot's write leaves of the update's state. -/
theorem setImage_fw : (setImage s i x).fw = if i = 0 then { s.fw with imgA := x } else { s.fw with imgB := x } := by
  simp only [setImage, wrN_fw, setFw, beq_iff_eq]
theorem setImage_jobs : (setImage s i x).fw.jobs = s.fw.jobs := by
  rw [setImage_fw]
  split <;> rfl
theorem setImage_boot : (setImage s i x).fw.boot = s.fw.boot := by
  rw [setImage_fw]
  split <;> rfl
theorem image_setImage : image (setImage s i x) i = x := by
  rw [image, setImage_fw]
  by_cases hi : i = 0
  · simp [hi]
  · simp [hi]
/-- The words of an image slot are 0x2400:89 to 8E. -/
theorem rdN_setImage (hi : i ≤ 1) {j : Nat} (hj : j < 0x89 ∨ 0x8E < j) : rdN (setImage s i x) 0x2400 j = rdN s 0x2400 j := by
  rw [setImage, rdN_wrN_sub _ _ _ (by omega), rdN_wrN_sub _ _ _ (by omega), rdN_wrN_sub _ _ _ (by omega)]
  rfl

end

/-- An image session as an accepted header opens it (R426). -/
def sessionOpened (u : State) (h : List Byte) : State :=
  let x := headerImage h
  let u := wrN (wrN (wrN (wrN u 0x2400 0x80 1) 0x2400 0x81 (1 - running u)) 0x2400 0x82 x.n) 0x2400 0x83 0
  let u := wrN (wrN (wrN (wrN u 0x2400 0x84 0) 0x2400 0x85 x.version) 0x2400 0x86 x.level) 0x2400 0x87 x.hoistFmt
  sessionRecord (setFw u { u.fw with session := x.hash })

theorem sessionOpened_reads (u : State) (h : List Byte) : sessionState (sessionOpened u h) = 1 ∧
    rdN (sessionOpened u h) 0x2400 0x81 = 1 - running u ∧ rdN (sessionOpened u h) 0x2400 0x84 = 0 ∧
    rdN (sessionOpened u h) 0x2400 0x82 = (headerImage h).n % 256 := by
  have hrecorded (v : State) {j : Nat} (hj : outsideFw (key 0x2400 j) = false) :
      rdN (sessionRecord (setFw v { v.fw with session := (headerImage h).hash })) 0x2400 j = rdN v 0x2400 j :=
    (FwKept.sessionRecord (.refl _)).rdN_eq hj
  simp only [sessionOpened, sessionState]
  refine ⟨?_, ?_, ?_, ?_⟩
  · rw [hrecorded _ rfl]
    simp only [rdN_wrN_sub, ne_eq, Nat.reduceEqDiff, not_false_eq_true, rdN_wrN_width (i := 0x2400) (j := 0x80) (n := 1) _ _ rfl]
    rfl
  · rw [hrecorded _ rfl]
    simp only [rdN_wrN_sub, ne_eq, Nat.reduceEqDiff, not_false_eq_true, rdN_wrN_width (i := 0x2400) (j := 0x81) (n := 1) _ _ rfl]
    omega
  · rw [hrecorded _ rfl]
    simp only [rdN_wrN_sub, ne_eq, Nat.reduceEqDiff, not_false_eq_true, rdN_wrN_width (i := 0x2400) (j := 0x84) (n := 8) _ _ rfl]
    rfl
  · rw [hrecorded _ rfl]
    simp only [rdN_wrN_sub, ne_eq, Nat.reduceEqDiff, not_false_eq_true, rdN_wrN_width (i := 0x2400) (j := 0x82) (n := 1) _ _ rfl]
    omega

theorem sessionOpened_fw (u : State) (h : List Byte) : (sessionOpened u h).fw = { u.fw with session := (headerImage h).hash } := by
  simp only [sessionOpened, sessionRecord, (bankWritten_fw ..).1, setFw, wrN_fw]

section
variable {s : State} {i : Nat} (hquiet : quiescing s = false) (hfree : freeItem s = some i)
include hquiet hfree

/-- A work item taken is queued. -/
theorem newItem_free (kind origin idx sub : Nat) : ∃ u w, newItem s kind origin idx sub = (u, some i) ∧ FwKept s u ∧
    Tab.find u.work i = some w ∧ w.kind = kind ∧ w.state = 0 ∧ u.answers = s.answers := by
  have hkept : FwKept s (newItem s kind origin idx sub).1 := .newItem (.refl s)
  unfold newItem at hkept ⊢
  rw [hquiet, hfree] at hkept ⊢
  exact ⟨_, _, rfl, hkept, Tab.find_put_self .., rfl, rfl, rfl⟩

theorem imageHeader_ends {client : Nat} (htrial : rdN s 0x2400 0x90 = 0) (hnone : sessionState s = 0) (h : List Byte) :
    ∃ u, FwKept s u ∧ imageHeader s client h none =
      if headerRefusal s h ≠ 0 then fwEnd (wrN u 0x2400 0x93 (headerRefusal s h)) client (some i) false 14
      else fwEnd (setImage (sessionOpened u h) (1 - running s) (headerImage h)) client (some i) true 0 := by
  obtain ⟨v, w, hitem, hkept, -⟩ := newItem_free hquiet hfree 3 client 0x2400 0x20
  have hactive : FwKept s (itemActive (journalAdd v i [(0x900, 0)]) i) := .itemSet (.journalAdd hkept)
  refine ⟨itemActive (journalAdd v i [(0x900, 0)]) i, hactive, ?_⟩
  have hsession : sessionState (itemActive (journalAdd v i [(0x900, 0)]) i) = 0 := (hactive.rdN_eq rfl).trans hnone
  have hrunning : running (itemActive (journalAdd v i [(0x900, 0)]) i) = running s := hactive.rdN_eq rfl
  simp only [imageHeader, htrial, hnone, ownItem, hitem, hsession, hactive.headerRefusal_eq, bne_self_eq_false, Bool.false_or,
    Bool.false_and, Bool.false_eq_true, if_false, ge_iff_le, Nat.reduceLeDiff, decide_false, bne_iff_ne, sessionOpened, hrunning]

end

theorem fwEnd_answers (s : State) {client : Nat} (h : client ≤ 0x80) (item : Option Nat) (ok : Bool) (reason : Nat) :
    Tab.find (fwEnd s client item ok reason).answers client = some { code := if ok then 0 else 0x08000020, data := [] } := later_answers _ h ..

theorem headerRefusal_byte (s : State) (h : List Byte) : headerRefusal s h < 256 := by
  unfold headerRefusal
  split_ifs <;> decide

theorem headerImage_blocks (h : List Byte) : (headerImage h).n < 256 := by
  change leNat ((h.drop 10).take 1) < 256
  cases h.drop 10 with
  | nil => decide
  | cons b _ => exact b.isLt

theorem performAny_header (s : State) (client : Nat) (data : List Byte) (off : Nat) (item : Option Nat) :
    performAny s client 0x2400 0x20 data off item = imageHeader s client data item := by simp [performAny, perform, within]
theorem performAny_block (s : State) (client : Nat) (data : List Byte) (off : Nat) (item : Option Nat) :
    performAny s client 0x2400 0x21 data off item = imageBlock s client (leNat (data.take 4)) (data.drop 4) item := by
  simp [performAny, perform, within]

/-- An accepted header that its rule refuses, or that opens a session (R425, R426). -/
theorem headerWritten {s : State} {client : Nat} {data : List Byte} (off : Nat) {i : Nat} (h : Accepts s client 0x2400 0x20 data)
    (htrial : rdN s 0x2400 0x90 = 0) (hnone : sessionState s = 0) (hquiet : quiescing s = false) (hfree : freeItem s = some i) :
    Reaches (.imageHeader client data off) s fun t =>
      Tab.find t.answers client = some { code := if headerRefusal s data = 0 then 0 else 0x08000020, data := [] } ∧
      (headerRefusal s data ≠ 0 → rdN t 0x2400 0x93 = headerRefusal s data ∧ t.fw = s.fw) ∧
      (headerRefusal s data = 0 →
        sessionState t = 1 ∧ rdN t 0x2400 0x81 = 1 - running s ∧ rdN t 0x2400 0x84 = 0 ∧
        rdN t 0x2400 0x82 = (headerImage data).n ∧ image t (1 - running s) = headerImage data ∧ t.fw.jobs = s.fw.jobs) := by
  have ⟨_, hclient, _⟩ := h
  obtain ⟨u, hkept, hends⟩ := imageHeader_ends (s := { s with answers := Tab.del s.answers client }) hquiet hfree (client := client) htrial hnone data
  obtain ⟨⟨d, p, x, hput⟩, hread⟩ := put_outcome (off := off) h rfl rfl (by decide) (by decide) (performAny_header ..)
  rw [hends] at hput hread
  have hrefusal : headerRefusal { s with answers := Tab.del s.answers client } data = headerRefusal s data := rfl
  have hrunning : running { s with answers := Tab.del s.answers client } = running s := rfl
  have hrunning' : running u = running s := hkept.rdN_eq rfl
  rw [hrefusal, hrunning] at hput hread
  refine ⟨settled s (put s client 0x2400 0x20 data off), rfl, ?_⟩
  simp only [settled_answers, sessionState, rdN_settled]
  by_cases hgood : headerRefusal s data = 0
  · rw [if_neg (by simpa using hgood)] at hput hread
    have hended {v : State} : FwKept v (fwEnd v client (some i) true 0) := .fwEnd (.refl v)
    obtain ⟨hstate, htarget, hmask, hblocks⟩ := sessionOpened_reads u data
    have hfw : (settled s (put s client 0x2400 0x20 data off)).fw =
        (setImage (sessionOpened u data) (1 - running s) (headerImage data)).fw := by
      rw [settled_fw, hput]
      exact hended.fw
    have hword {j : Nat} (hj : j < 0x89) (hin : outsideFw (key 0x2400 j) = false) :
        rdN (put s client 0x2400 0x20 data off) 0x2400 j = rdN (sessionOpened u data) 0x2400 j := by
      rw [hread 0x2400 j (by decide) (by omega), hended.rdN_eq hin, rdN_setImage _ _ (by omega) (.inl hj)]
    refine ⟨?_, fun hbad => absurd hgood hbad, fun _ => ⟨?_, ?_, ?_, ?_, ?_, ?_⟩⟩
    · rw [hput, if_pos hgood]
      exact fwEnd_answers _ hclient ..
    · exact (hword (by decide) rfl).trans hstate
    · rw [hword (by decide) rfl, htarget, hrunning']
    · rw [hword (by decide) rfl, hmask]
    · rw [hword (by decide) rfl, hblocks, Nat.mod_eq_of_lt (headerImage_blocks data)]
    · rw [image, hfw]
      exact image_setImage ..
    · rw [hfw, setImage_jobs, sessionOpened_fw]
      exact (congrArg Fw.jobs hkept.fw : u.fw.jobs = s.fw.jobs)
  · rw [if_pos hgood] at hput hread
    have hended : FwKept (wrN u 0x2400 0x93 (headerRefusal s data)) (fwEnd (wrN u 0x2400 0x93 (headerRefusal s data)) client (some i) false 14) :=
      .fwEnd (.refl _)
    refine ⟨?_, fun _ => ⟨?_, ?_⟩, fun hgood' => absurd hgood' hgood⟩
    · rw [hput, if_neg hgood]
      exact fwEnd_answers _ hclient ..
    · rw [hread _ _ (by decide) (by decide), hended.rdN_eq rfl, rdN_wrN_width (n := 1) _ _ rfl,
        Nat.mod_eq_of_lt (by simpa using headerRefusal_byte s data)]
    · rw [settled_fw, hput]
      exact hended.fw.trans ((wrN_fw ..).trans hkept.fw)

/-- A work item of the update that has not ended. -/
def FwInFlight (s : State) (i : Nat) : Prop := ∃ w, Tab.find s.work i = some w ∧ w.kind = 3 ∧ w.state ≤ 1

theorem FwInFlight.itemSet {s : State} {i : Nat} (h : FwInFlight s i) (k : Nat) {f : WorkItem → WorkItem}
    (hf : ∀ w, w.kind = 3 → w.state ≤ 1 → (f w).kind = 3 ∧ (f w).state ≤ 1) : FwInFlight (itemSet s k f) i := by
  obtain ⟨w, hw, hkind, hstate⟩ := h
  unfold Machine.itemSet
  split
  · rename_i v hv
    by_cases hsame : k = i
    · subst hsame
      obtain rfl : v = w := Option.some.inj (hv.symm.trans hw)
      exact ⟨f v, Tab.find_put_self .., hf v hkind hstate⟩
    · exact ⟨w, (Tab.find_put_ne _ _ hsame).trans hw, hkind, hstate⟩
  · exact ⟨w, hw, hkind, hstate⟩

theorem FwInFlight.itemActive {s : State} {i : Nat} (h : FwInFlight s i) (k : Nat) : FwInFlight (itemActive s k) i :=
  h.itemSet k fun w hkind hstate => by
    split
    · exact ⟨hkind, le_rfl⟩
    · exact ⟨hkind, hstate⟩

theorem FwInFlight.fwKick {s : State} {i : Nat} (h : FwInFlight s i) : FwInFlight (fwKick s) i := by
  unfold Machine.fwKick
  split
  · split
    · exact h.itemActive _
    · exact h
  · exact h

theorem FwInFlight.journalAdd {s : State} {i : Nat} (h : FwInFlight s i) (l : List (Nat × Nat)) : FwInFlight (journalAdd s i l) i := by
  unfold Machine.journalAdd
  split
  · obtain ⟨w, hw, hitem⟩ := h.itemSet i (f := fun w => { w with journalled := true }) fun _ hkind hstate => ⟨hkind, hstate⟩
    exact ⟨w, by simpa [inc, setStore] using hw, hitem⟩
  · exact h

/-- A block that has not been received waits as a job (R427). -/
theorem imageBlock_waits {s : State} {client n i : Nat} {data : List Byte} (hquiet : quiescing s = false) (hfree : freeItem s = some i)
    (hopen : sessionState s = 1 ∨ sessionState s = 2) (hblocks : n < rdN s 0x2400 0x82) (hnew : rdBit s 0x2400 0x84 n = false) :
    (imageBlock s client n data none).fw =
        { s.fw with jobs := s.fw.jobs ++ [{ client := client, item := some i, num := n, hash := Sha.digest data }] } ∧
      FwInFlight (imageBlock s client n data none) i := by
  obtain ⟨u, w, hitem, hkept, hw, hkind, hstate, -⟩ := newItem_free hquiet hfree 3 client 0x2400 0x21
  have hsession : within (sessionState s) 1 2 = true := by
    rw [within_iff]
    omega
  have hnew' : rdBit u 0x2400 0x84 n = false := by rwa [rdBit, hkept.rdN_eq rfl]
  simp only [imageBlock, hsession, ownItem, hitem, hnew', Bool.not_true, Bool.false_eq_true, if_false, ge_iff_le,
    if_neg (Nat.not_le.mpr hblocks)]
  have hjournal : FwKept s (journalAdd u i [(0, n)]) := .journalAdd hkept
  constructor
  · rw [(FwKept.fwKick (.refl _)).fw, setFw, hjournal.fw]
  · obtain ⟨v, hv, hflight⟩ := FwInFlight.journalAdd ⟨w, hw, hkind, hstate.le.trans (by decide)⟩ [(0, n)]
    exact FwInFlight.fwKick ⟨v, hv, hflight⟩

theorem leBytes_length (w n : Nat) : (leBytes w n).length = w := by
  induction w generalizing n with
  | zero => rfl
  | succ w ih => exact congrArg (· + 1) (ih _)

theorem blockWritten {s : State} {client n i : Nat} {data : List Byte} (off : Nat) (hn : n < 64)
    (h : Accepts s client 0x2400 0x21 (leBytes 4 n ++ data)) (hopen : sessionState s = 1 ∨ sessionState s = 2)
    (hblocks : n < rdN s 0x2400 0x82) (hnew : rdBit s 0x2400 0x84 n = false) (hquiet : quiescing s = false)
    (hfree : freeItem s = some i) :
    Reaches (.imageBlock client (leBytes 4 n ++ data) off) s fun t =>
      t.fw = { s.fw with jobs := s.fw.jobs ++ [{ client := client, item := some i, num := n, hash := Sha.digest data }] } ∧
      ∃ w, Tab.find t.work i = some w ∧ w.kind = 3 ∧ w.state ≤ 1 := by
  obtain ⟨hfw, hflight⟩ := imageBlock_waits (s := { s with answers := Tab.del s.answers client }) (client := client) (data := data)
    hquiet hfree hopen hblocks hnew
  have hnumber : leNat ((leBytes 4 n ++ data).take 4) = n := by
    rw [List.take_left' (leBytes_length ..), leNat_leBytes, Nat.mod_eq_of_lt (by omega)]
  have hdata : (leBytes 4 n ++ data).drop 4 = data := List.drop_left' (leBytes_length ..)
  have hperform := performAny_block { s with answers := Tab.del s.answers client } client (leBytes 4 n ++ data) off none
  rw [hnumber, hdata] at hperform
  obtain ⟨⟨d, p, x, hput⟩, -⟩ := put_outcome (off := off) h rfl rfl (by decide) (by decide) hperform
  refine ⟨settled s (put s client 0x2400 0x21 (leBytes 4 n ++ data) off), rfl, ?_⟩
  obtain ⟨w, hw, hitem⟩ := hflight
  exact ⟨(congrArg State.fw hput).trans hfw, w, (congrArg (fun t : State => Tab.find t.work i) hput).trans hw, hitem⟩

-- The verification of a block (R427) ------------------------------------------------------------------------------------------------

theorem reaches_blockVerified {s : State} (h : Alive s) {fault : Bool} {P : State → Prop} (hP : P (settled s (blockVerified s fault))) :
    Reaches (.firmwareBlockVerified fault) s P := by
  refine ⟨_, ?_, hP⟩
  change done s (act s fun s => blockVerified s fault) = _
  rw [act_alive h]
  rfl

/-- The end of a block's job, from a state with the job taken out. -/
theorem blockEnded {s t u : State} {j : FwJob} {ok : Bool} {reason : Nat} (hclient : j.client ≤ 0x80)
    (h : t = fwKick (fwEnd u j.client j.item ok reason)) :
    (settled s t).fw = u.fw ∧ (∀ k, outsideFw (key 0x2400 k) = false → rdN (settled s t) 0x2400 k = rdN u 0x2400 k) ∧
      Tab.find (settled s t).answers j.client = some { code := if ok then 0 else 0x08000020, data := [] } := by
  have hkept : FwKept u t := h ▸ .fwKick (.fwEnd (.refl u))
  have hanswers : t.answers = (fwEnd u j.client j.item ok reason).answers := by
    rw [h, fwKick]
    split
    · split
      · exact (keepsServices_itemSet ..).left
      · rfl
    · rfl
  refine ⟨hkept.fw, fun k hk => ?_, ?_⟩
  · rw [rdN_settled, hkept.rdN_eq hk]
  · rw [settled_answers, hanswers]
    exact fwEnd_answers _ hclient ..

section
variable {s : State} {j : FwJob} {rest : List FwJob} (halive : Alive s) (hjobs : s.fw.jobs = j :: rest) (hnum : j.num < 64)
  (hclient : j.client ≤ 0x80)
include halive hjobs hnum hclient

theorem blockVerified_fault : Reaches (.firmwareBlockVerified true) s fun t =>
    rdN t 0x2400 0x93 = 6 ∧ t.fw = { s.fw with jobs := rest } ∧ Tab.find t.answers j.client = some { code := 0x08000020, data := [] } := by
  refine reaches_blockVerified halive ?_
  have hverified : blockVerified s true = fwKick (fwEnd (logAdd (wrN (setFw s { s.fw with jobs := rest }) 0x2400 0x93 6) 0x00F0
      (0x04D0C000 + rdN s 0x2400 0x81 * 0x100 + j.num) 0xFF 0) j.client j.item false 11) := by
    rw [blockVerified, hjobs]
    simp only [ge_iff_le, if_neg (Nat.not_le.mpr hnum), if_true]
  have ⟨hfw, hword, hanswer⟩ := blockEnded (s := s) hclient hverified
  have hlogged := FwKept.logAdd (.refl (wrN (setFw s { s.fw with jobs := rest }) 0x2400 0x93 6)) (code := 0x00F0)
    (loc := 0x04D0C000 + rdN s 0x2400 0x81 * 0x100 + j.num) (qual := 0xFF) (data := 0)
  refine ⟨?_, ?_, hanswer⟩
  · rw [hword _ rfl, hlogged.rdN_eq rfl, rdN_wrN_width (n := 1) _ _ rfl]
    rfl
  · rw [hfw, hlogged.fw, wrN_fw]
    rfl

theorem blockVerified_wrong (hwrong : j.hash ≠ (image s (rdN s 0x2400 0x81)).wanted.getD j.num []) :
    Reaches (.firmwareBlockVerified false) s fun t =>
      rdN t 0x2400 0x93 = 5 ∧ t.fw = { s.fw with jobs := rest } ∧ Tab.find t.answers j.client = some { code := 0x08000020, data := [] } := by
  refine reaches_blockVerified halive ?_
  have hverified : blockVerified s false =
      fwKick (fwEnd (wrN (setFw s { s.fw with jobs := rest }) 0x2400 0x93 5) j.client j.item false 12) := by
    rw [blockVerified, hjobs]
    simp only [ge_iff_le, if_neg (Nat.not_le.mpr hnum), Bool.false_eq_true, if_false, beq_eq_false_iff_ne.mpr hwrong]
  have ⟨hfw, hword, hanswer⟩ := blockEnded (s := s) hclient hverified
  refine ⟨?_, ?_, hanswer⟩
  · rw [hword _ rfl, rdN_wrN_width (n := 1) _ _ rfl]
    rfl
  · rw [hfw, wrN_fw]
    rfl

/-- A block as a good verification leaves it: in its image, in the mask and in the count. -/
def blockKept (s : State) (t : Nat) (j : FwJob) : State :=
  let x := image s t
  let s := wrN (setImage s t { x with have_ := Tab.put x.have_ j.num j.hash }) 0x2400 0x84 (setBit (rdN s 0x2400 0x84) j.num true)
  let n := ((List.range 63).filter fun i => rdBit s 0x2400 0x84 i).length
  let s := wrN s 0x2400 0x83 n
  if n == rdN s 0x2400 0x82 then wrN s 0x2400 0x80 2 else s

omit halive hjobs hclient in
theorem blockKept_keeps (s : State) (t : Nat) : (blockKept s t j).fw =
      (setImage s t { image s t with have_ := Tab.put (image s t).have_ j.num j.hash }).fw ∧
    rdBit (blockKept s t j) 0x2400 0x84 j.num = true := by
  unfold blockKept
  simp only
  have hset : bit (setBit (rdN s 0x2400 0x84) j.num true % 256 ^ 8) j.num = true := bit_setBit_self _ (by omega)
  split
  · refine ⟨by simp only [wrN_fw], ?_⟩
    rw [rdBit, rdN_wrN_sub _ _ _ (by decide), rdN_wrN_sub _ _ _ (by decide), rdN_wrN_width (n := 8) _ _ rfl, hset]
  · refine ⟨by simp only [wrN_fw], ?_⟩
    rw [rdBit, rdN_wrN_sub _ _ _ (by decide), rdN_wrN_width (n := 8) _ _ rfl, hset]

theorem blockVerified_good (hgood : j.hash = (image s (rdN s 0x2400 0x81)).wanted.getD j.num []) :
    Reaches (.firmwareBlockVerified false) s fun t =>
      rdBit t 0x2400 0x84 j.num = true ∧ t.fw.jobs = rest ∧
      image t (rdN s 0x2400 0x81) = { image s (rdN s 0x2400 0x81) with have_ := Tab.put (image s (rdN s 0x2400 0x81)).have_ j.num j.hash } ∧
      Tab.find t.answers j.client = some { code := 0, data := [] } := by
  refine reaches_blockVerified halive ?_
  have hverified : blockVerified s false =
      fwKick (fwEnd (sessionRecord (blockKept (setFw s { s.fw with jobs := rest }) (rdN s 0x2400 0x81) j)) j.client j.item true 0) := by
    rw [blockVerified, hjobs]
    simp only [ge_iff_le, if_neg (Nat.not_le.mpr hnum), Bool.false_eq_true, if_false, beq_iff_eq.mpr hgood, if_true]
    rfl
  have ⟨hfw, hword, hanswer⟩ := blockEnded (s := s) hclient hverified
  obtain ⟨hkept, hbit⟩ := blockKept_keeps hnum (setFw s { s.fw with jobs := rest }) (rdN s 0x2400 0x81)
  have hrecorded : FwKept _ (sessionRecord (blockKept (setFw s { s.fw with jobs := rest }) (rdN s 0x2400 0x81) j)) := .sessionRecord (.refl _)
  have hslot := (hfw.trans hrecorded.fw).trans hkept
  refine ⟨?_, ?_, ?_, hanswer⟩
  · rw [rdBit, hword _ rfl, hrecorded.rdN_eq rfl]
    exact hbit
  · rw [hslot, setImage_jobs]
    rfl
  · rw [image, hslot]
    exact image_setImage ..

end

/-- Settles O58. -/
theorem imagesArriveByBlocks : Obligations.ImagesArriveByBlocks := by
  unfold Obligations.ImagesArriveByBlocks
  refine ⟨fun s client data off i h htrial hnone hquiet hfree => headerWritten off h htrial hnone hquiet hfree,
    fun s client n data off i hn h hopen hblocks hnew hquiet hfree => blockWritten off hn h hopen hblocks hnew hquiet hfree,
    fun s j rest halive hjobs hnum hclient _ => ⟨?_, fun hwrong => ?_, fun hgood => ?_⟩⟩
  · exact blockVerified_fault halive hjobs hnum hclient
  · exact blockVerified_wrong halive hjobs hnum hclient hwrong
  · exact blockVerified_good halive hjobs hnum hclient hgood

end Sys2Proof.Machine
end

section
/-! SUPPORT. Commit, close, confirmation, selection and restart of images (R429 to R431). -/
namespace Sys2Proof.Machine
open Sys2Proof Sys2Proof.OD

-- The boot record -------------------------------------------------------------------------------------------------------------------

theorem bootRecord_fw (s : State) (b : Boot) : (bootRecord s b).fw = { s.fw with boot := some b } := by
  simp only [bootRecord, wrN_fw, (bankWritten_fw ..).1, setFw]

/-- The boot record's words are 0x2400:8F to 91. -/
theorem rdN_bootRecord (s : State) (b : Boot) {i j : Nat} (hj : j < 256) (hin : outsideFw (key i j) = false)
    (hout : i ≠ 0x2400 ∨ j < 0x8F ∨ 0x91 < j) : rdN (bootRecord s b) i j = rdN s i j := by
  have hword (k : Nat) (hk : 0x8F ≤ k ∧ k ≤ 0x91) : key 0x2400 k ≠ key i j := by
    rw [ne_eq, key_inj (by omega) hj]
    omega
  have hwritten : FwKept (setFw s { s.fw with boot := some b }) (bankWritten (setFw s { s.fw with boot := some b }) 0x901 0 (.boot b)) :=
    .bankWritten (.refl _)
  simp only [bootRecord, rdN_wrN_ne _ _ (hword 0x91 (by decide)), rdN_wrN_ne _ _ (hword 0x90 (by decide)),
    rdN_wrN_ne _ _ (hword 0x8F (by decide)), hwritten.rdN_eq hin]
  rfl

theorem rdN_bootRecord_trial (s : State) (b : Boot) : rdN (bootRecord s b) 0x2400 0x90 = b.trial % 256 := by
  rw [bootRecord, rdN_wrN_sub _ _ _ (by decide), rdN_wrN_width (n := 1) _ _ rfl, Nat.pow_one]

-- The commit's verification (R429) --------------------------------------------------------------------------------------------------

/-- A commit's end from the state `u`: the session's record and the client's answer. -/
theorem commitEnded {s t u : State} {client code : Nat} (hclient : client ≤ 0x80)
    (h : t = later (sessionRecord u) client 0x2400 code []) :
    (settled s t).fw = u.fw ∧ (∀ k, outsideFw (key 0x2400 k) = false → rdN (settled s t) 0x2400 k = rdN u 0x2400 k) ∧
      Tab.find (settled s t).answers client = some { code := code, data := [] } := by
  have hkept : FwKept u t := h ▸ .later (.sessionRecord (.refl u))
  refine ⟨hkept.fw, fun k hk => ?_, ?_⟩
  · rw [rdN_settled, hkept.rdN_eq hk]
  · rw [settled_answers, h]
    exact later_answers _ hclient ..

/-- The mask without the blocks named. -/
def maskWithout (m : Nat) (wrong : List Nat) : Nat := wrong.foldl (fun m n => setBit m n false) m

theorem bit_maskWithout_stays (wrong : List Nat) {m n : Nat} (h : bit m n = false) : bit (maskWithout m wrong) n = false := by
  induction wrong generalizing m with
  | nil => exact h
  | cons a rest ih =>
    refine ih ?_
    by_cases hsame : n = a
    · rw [hsame]
      exact bit_setBit_false ..
    · rw [bit_setBit_ne _ _ hsame, h]

theorem bit_maskWithout (wrong : List Nat) (m : Nat) {n : Nat} (h : n ∈ wrong) : bit (maskWithout m wrong) n = false := by
  induction wrong generalizing m with
  | nil => exact absurd h List.not_mem_nil
  | cons a rest ih =>
    obtain rfl | hrest := List.mem_cons.mp h
    · exact bit_maskWithout_stays rest (bit_setBit_false ..)
    · exact ih _ hrest

section
variable {s : State} {j : FwJob} {rest : List FwJob} {bad : List Nat} {sigOk : Bool} (halive : Alive s) (hjobs : s.fw.jobs = j :: rest)
  (hnum : 64 ≤ j.num) (hclient : j.client ≤ 0x80)
include halive hjobs hnum hclient

omit hjobs hnum hclient in
theorem reaches_commitVerified {P : State → Prop} (hP : P (settled s (commitVerified s bad sigOk))) :
    Reaches (.commitVerificationDone bad sigOk) s P := by
  refine ⟨_, ?_, hP⟩
  change done s (act s fun s => commitVerified s bad sigOk) = _
  rw [act_alive halive]
  rfl

theorem commitVerified_good (hwrong : bad.filter (· < (image s (rdN s 0x2400 0x81)).n) = []) (hsig : sigOk = true)
    (hlevel : rollbackC s ≤ (image s (rdN s 0x2400 0x81)).level) :
    Reaches (.commitVerificationDone bad sigOk) s fun t =>
      sessionState t = 3 ∧ (image t (rdN s 0x2400 0x81)).state = 1 ∧
      t.fw.boot = some { selected := rdN s 0x2400 0x81, previous := running s, trial := 1, starts := 0 } ∧
      Tab.find t.answers j.client = some { code := 0, data := [] } := by
  refine reaches_commitVerified halive ?_
  have hverified : commitVerified s bad sigOk =
      let u := setImage (setFw s { s.fw with jobs := rest }) (rdN s 0x2400 0x81) { image s (rdN s 0x2400 0x81) with state := 1 }
      later (sessionRecord (wrN (bootRecord u { selected := rdN s 0x2400 0x81, previous := running s, trial := 1, starts := 0 })
        0x2400 0x80 3)) j.client 0x2400 0 [] := by
    have hgood : (decide (rollbackC (setFw s { s.fw with jobs := rest }) ≤ (image s (rdN s 0x2400 0x81)).level)) = true := decide_eq_true hlevel
    rw [commitVerified, hjobs]
    simp only [if_neg (Nat.not_lt.mpr hnum), hwrong, hsig, hgood, List.isEmpty_nil, Bool.and_self, if_true]
    rfl
  have ⟨hfw, hword, hanswer⟩ := commitEnded (s := s) hclient hverified
  rw [wrN_fw, bootRecord_fw] at hfw
  refine ⟨?_, ?_, ?_, hanswer⟩
  · rw [sessionState, hword _ rfl, rdN_wrN_width (n := 1) _ _ rfl]
    rfl
  · rw [image, hfw]
    change (image (setImage _ _ _) _).state = 1
    rw [image_setImage]
  · rw [hfw]

theorem commitVerified_bad (hbad : bad.filter (· < (image s (rdN s 0x2400 0x81)).n) ≠ [] ∨ sigOk = false ∨
      (image s (rdN s 0x2400 0x81)).level < rollbackC s) (hblocks : bad.all (· < 63) = true) :
    Reaches (.commitVerificationDone bad sigOk) s fun t =>
      sessionState t = 1 ∧
      rdN t 0x2400 0x93 = (if bad.filter (· < (image s (rdN s 0x2400 0x81)).n) ≠ [] then 5 else if sigOk = false then 3 else 4) ∧
      (∀ n ∈ bad.filter (· < (image s (rdN s 0x2400 0x81)).n), rdBit t 0x2400 0x84 n = false) ∧ t.fw.boot = s.fw.boot ∧
      Tab.find t.answers j.client = some { code := 0x08000020, data := [] } := by
  refine reaches_commitVerified halive ?_
  generalize hw : bad.filter (· < (image s (rdN s 0x2400 0x81)).n) = wrong at hbad
  have hverified : commitVerified s bad sigOk =
      let m := maskWithout (rdN s 0x2400 0x84) wrong
      let x := image s (rdN s 0x2400 0x81)
      let u := setImage (setFw s { s.fw with jobs := rest }) (rdN s 0x2400 0x81) { x with have_ := x.have_.filter fun p => !wrong.contains p.1 }
      let u := wrN (wrN (wrN u 0x2400 0x84 m) 0x2400 0x83 ((List.range 63).filter fun i => bit m i).length) 0x2400 0x80 1
      later (sessionRecord (wrN u 0x2400 0x93 (if !wrong.isEmpty then 5 else if !sigOk then 3 else 4))) j.client 0x2400 0x08000020 [] := by
    have hfails : (wrong.isEmpty && sigOk && decide (rollbackC (setFw s { s.fw with jobs := rest }) ≤ (image s (rdN s 0x2400 0x81)).level)) =
        false := by
      have hlevel : rollbackC (setFw s { s.fw with jobs := rest }) = rollbackC s := rfl
      rw [hlevel]
      obtain hwrong | hsig | hlow := hbad
      · simp [hwrong]
      · simp [hsig]
      · simp [hlow]
    rw [commitVerified, hjobs]
    simp only [if_neg (Nat.not_lt.mpr hnum), hw, hfails, Bool.false_eq_true, if_false]
    rfl
  have ⟨hfw, hword, hanswer⟩ := commitEnded (s := s) hclient hverified
  have hreason : (if !wrong.isEmpty then 5 else if !sigOk then 3 else 4) = (if wrong ≠ [] then 5 else if sigOk = false then 3 else 4) := by
    cases wrong <;> cases sigOk <;> rfl
  refine ⟨?_, ?_, fun n hn => ?_, ?_, hanswer⟩
  · rw [sessionState, hword _ rfl, rdN_wrN_sub _ _ _ (by decide), rdN_wrN_width (n := 1) _ _ rfl]
    rfl
  · rw [hword _ rfl, rdN_wrN_width (n := 1) _ _ rfl, hreason]
    split_ifs <;> rfl
  · have hsmall : n < 64 := by
      have hin : n ∈ bad := List.mem_of_mem_filter (hw ▸ hn)
      have := List.all_eq_true.mp hblocks n hin
      simp at this
      omega
    rw [rdBit, hword _ rfl, rdN_wrN_sub _ _ _ (by decide), rdN_wrN_sub _ _ _ (by decide), rdN_wrN_sub _ _ _ (by decide),
      rdN_wrN_width (n := 8) _ _ rfl, bit_mod (by omega), bit_maskWithout _ _ hn]
  · rw [hfw]
    simp only [wrN_fw, setImage_boot]
    rfl

end

-- The commands of 0x2400:10 and the restart (R429 to R431) -----------------------------------------------------------------------------

theorem performAny_firmware {v : Nat} (hv : v < 256) (s : State) (client off : Nat) (item : Option Nat) :
    performAny s client 0x2400 0x10 (leBytes 1 v) off item = fwCommand s client v := by
  have hvalue : leNat (leBytes 1 v) = v := by rw [leNat_leBytes, Nat.mod_eq_of_lt (by simpa using hv)]
  simp [performAny, perform, within, hvalue]

/-- A firmware command that leaves `t` is seen in `t`'s own state, its words and its answers. -/
theorem firmwareWritten {s t : State} {client v : Nat} (off : Nat) (hv : v < 256) (h : Accepts s client 0x2400 0x10 (leBytes 1 v))
    (hcommand : fwCommand { s with answers := Tab.del s.answers client } client v = t) :
    let u := settled s (put s client 0x2400 0x10 (leBytes 1 v) off)
    u.fw = t.fw ∧ u.answers = t.answers ∧ ∀ j < 256, rdN u 0x2400 j = rdN t 0x2400 j := by
  obtain ⟨⟨d, p, x, hput⟩, hread⟩ :=
    put_outcome (off := off) h rfl rfl (by decide) (by decide) ((performAny_firmware hv ..).trans hcommand)
  refine ⟨(congrArg State.fw hput :), (congrArg State.answers hput :), fun j hj => ?_⟩
  rw [rdN_settled, hread _ _ (by decide) hj]

theorem success_answers (s : State) {client : Nat} (h : client ≤ 0x80) :
    Tab.find (success s client).answers client = some { code := 0, data := [] } := by rw [success_le h, Tab.find_put_self]

theorem fwCommit_full {s : State} {client : Nat} (off : Nat) (h : Accepts s client 0x2400 0x10 (leBytes 1 1)) (hfull : sessionState s = 2) :
    Reaches (.firmwareCommit client off) s fun t => sessionState t = 4 ∧
      t.fw = { s.fw with jobs := s.fw.jobs ++ [{ client := client, item := none, num := 64, hash := [] }] } := by
  let r := { s with answers := Tab.del s.answers client }
  have hcommit : fwCommand r client 1 = setFw (wrN r 0x2400 0x80 4)
      { r.fw with jobs := r.fw.jobs ++ [{ client := client, item := none, num := 64, hash := [] }] } := by
    change fwCommit r client = _
    have hopen : (sessionState r != 2) = false := bne_eq_false_iff_eq.mpr hfull
    simp only [fwCommit, hopen, Bool.false_eq_true, if_false]
  obtain ⟨hfw, -, hread⟩ := firmwareWritten off (by decide) h hcommit
  refine ⟨_, rfl, ?_, ?_⟩
  · refine (hread 0x80 (by decide)).trans ?_
    change rdN (wrN r 0x2400 0x80 4) 0x2400 0x80 = 4
    rw [rdN_wrN_width (n := 1) _ _ rfl]
    rfl
  · rw [hfw]
    rfl

/-- The jobs of a session dropped, their items cancelled (R429). -/
def jobsDropped (s : State) : State := foldS (setFw s { s.fw with jobs := [] }) s.fw.jobs fun s j => fwEnd s j.client j.item false 6

/-- The image of the session made partial. -/
def slotClosed (s : State) : State := setImage s (rdN s 0x2400 0x81) { image s (rdN s 0x2400 0x81) with state := 2 }

/-- A session closed, but for the answer. -/
def sessionClosed (s : State) : State :=
  sessionRecord (setFw (wrN (slotClosed (jobsDropped s)) 0x2400 0x80 0) { (slotClosed (jobsDropped s)).fw with session := [] })

theorem jobsDropped_kept (s : State) : FwKept (setFw s { s.fw with jobs := [] }) (jobsDropped s) := .foldS (fun _ _ => .fwEnd (.refl _)) (.refl _)

theorem sessionClosed_kept (s : State) :
    FwKept (setFw (wrN (slotClosed (jobsDropped s)) 0x2400 0x80 0) { (slotClosed (jobsDropped s)).fw with session := [] }) (sessionClosed s) :=
  .sessionRecord (.refl _)

theorem fwClose_eq {s : State} (client : Nat) (hopen : sessionState s = 1 ∨ sessionState s = 2) :
    fwClose s client = success (sessionClosed s) client := by
  have hwithin : within (sessionState s) 1 3 = true := by
    rw [within_iff]
    omega
  have htrial : (sessionState s == 3) = false := by
    rw [beq_eq_false_iff_ne]
    omega
  unfold fwClose
  extract_lets st src dropped kept slot x closed src ended
  have hkept : kept = dropped := by
    simp only [kept]
    exact if_neg (by simp only [st, htrial, Bool.false_eq_true, not_false_eq_true])
  rw [if_neg (by simp only [st, hwithin, Bool.not_true, Bool.false_eq_true, not_false_eq_true])]
  clear_value kept
  subst hkept
  rfl

theorem sessionClosed_ends (s : State) : sessionState (sessionClosed s) = 0 ∧ (sessionClosed s).fw.jobs = [] ∧
    (image (sessionClosed s) (rdN s 0x2400 0x81)).state = 2 ∧ (sessionClosed s).fw.boot = s.fw.boot := by
  have hslot : rdN (jobsDropped s) 0x2400 0x81 = rdN s 0x2400 0x81 := (jobsDropped_kept s).rdN_eq rfl
  have hdropped := (jobsDropped_kept s).fw
  have hfw : (sessionClosed s).fw = { (slotClosed (jobsDropped s)).fw with session := [] } := (sessionClosed_kept s).fw
  refine ⟨?_, ?_, ?_, ?_⟩
  · rw [sessionState, (sessionClosed_kept s).rdN_eq rfl, rdN_setFw, rdN_wrN_width (n := 1) _ _ rfl]
    rfl
  · rw [hfw]
    exact (setImage_jobs ..).trans (congrArg Fw.jobs hdropped :)
  · rw [image, hfw, ← hslot]
    exact congrArg Image.state (image_setImage ..)
  · rw [hfw]
    exact (setImage_boot ..).trans (congrArg Fw.boot hdropped :)

theorem fwClose_open {s : State} {client : Nat} (off : Nat) (h : Accepts s client 0x2400 0x10 (leBytes 1 2))
    (hopen : sessionState s = 1 ∨ sessionState s = 2) :
    Reaches (.firmwareClose client off) s fun t =>
      sessionState t = 0 ∧ t.fw.jobs = [] ∧ (image t (rdN s 0x2400 0x81)).state = 2 ∧ t.fw.boot = s.fw.boot ∧
      Tab.find t.answers client = some { code := 0, data := [] } := by
  have ⟨_, hclient, _⟩ := h
  let r := { s with answers := Tab.del s.answers client }
  have hclose : fwCommand r client 2 = success (sessionClosed r) client := fwClose_eq client hopen
  obtain ⟨hfw, hanswers, hread⟩ := firmwareWritten off (by decide) h hclose
  have hkept : FwKept (sessionClosed r) (success (sessionClosed r) client) := .answer (.refl _)
  obtain ⟨hstate, hjobs, himage, hboot⟩ := sessionClosed_ends r
  rw [hkept.fw] at hfw
  refine ⟨_, rfl, ?_, ?_, ?_, ?_, ?_⟩
  · exact ((hread 0x80 (by decide)).trans (hkept.rdN_eq rfl)).trans hstate
  · rw [hfw, hjobs]
  · rw [image, hfw]
    exact himage
  · rw [hfw, hboot]
  · rw [hanswers]
    exact success_answers _ hclient

theorem fwConfirmNow_ends (s : State) : (fwConfirmNow s).fw.boot = some { bootOf s with trial := 0, starts := 0 } ∧
    rdN (fwConfirmNow s) 0x2400 0x90 = 0 := by
  unfold fwConfirmNow
  extract_lets r l u b v o
  have hfw : u.fw = s.fw := by
    simp only [u]
    split
    · exact wrN_fw ..
    · rfl
  have hrunning : running u = running s := by
    simp only [u]
    split
    · exact rdN_wrN_ne _ _ (by decide)
    · rfl
  have hv : v.fw.boot = some { bootOf s with trial := 0, starts := 0 } ∧ rdN v 0x2400 0x90 = 0 := by
    have hboot : bootOf u = bootOf s := by rw [bootOf, bootOf, hfw, hrunning]
    refine ⟨?_, rdN_bootRecord_trial ..⟩
    rw [show v.fw = _ from bootRecord_fw .., ← hboot]
  split
  · rw [setImage_boot]
    exact ⟨hv.1, (rdN_setImage _ _ (Nat.sub_le ..) (.inr (by decide))).trans hv.2⟩
  · exact hv

theorem fwConfirm_trial {s : State} {client : Nat} (off : Nat) (h : Accepts s client 0x2400 0x10 (leBytes 1 3))
    (htrial : rdN s 0x2400 0x90 = 2) :
    Reaches (.firmwareConfirm client off) s fun t =>
      rdN t 0x2400 0x90 = 0 ∧ t.fw.boot = some { bootOf s with trial := 0, starts := 0 } ∧
      Tab.find t.answers client = some { code := 0, data := [] } := by
  have ⟨_, hclient, _⟩ := h
  let r := { s with answers := Tab.del s.answers client }
  have hconfirm : fwCommand r client 3 = success (fwConfirmNow r) client := by
    change fwConfirm r client = _
    have hruns : (rdN r 0x2400 0x90 != 2) = false := bne_eq_false_iff_eq.mpr htrial
    simp only [fwConfirm, hruns, Bool.false_eq_true, if_false]
  obtain ⟨hfw, hanswers, hread⟩ := firmwareWritten off (by decide) h hconfirm
  obtain ⟨hboot, hword⟩ := fwConfirmNow_ends r
  have hanswered : FwKept (fwConfirmNow r) (success (fwConfirmNow r) client) := .answer (.refl _)
  refine ⟨_, rfl, ?_, ?_, ?_⟩
  · exact ((hread 0x90 (by decide)).trans (hanswered.rdN_eq rfl)).trans hword
  · rw [hfw, hanswered.fw]
    exact hboot
  · rw [hanswers]
    exact success_answers _ hclient

theorem fwSelectOther_ends {s : State} {client : Nat} (off : Nat) (h : Accepts s client 0x2400 0x10 (leBytes 1 4)) :
    Reaches (.selectOtherImage client off) s fun t =>
      let o := 1 - (bootOf s).selected
      if (image s o).state = 1 ∧ rollbackC s ≤ (image s o).level then
        t.fw.boot = some { selected := o, previous := (bootOf s).selected, trial := 0, starts := 0 } ∧
        Tab.find t.answers client = some { code := 0, data := [] }
      else t.fw = s.fw ∧ Tab.find t.answers client = some { code := 0x08000022, data := [] } := by
  have ⟨_, hclient, _⟩ := h
  let r := { s with answers := Tab.del s.answers client }
  obtain ⟨hfw, hanswers, -⟩ := firmwareWritten (t := fwSelectOther r client) off (by decide) h rfl
  refine ⟨_, rfl, ?_⟩
  let o := 1 - (bootOf s).selected
  have hvalid : ((image s o).state == 1 && decide (rollbackC s ≤ (image s o).level)) = true ↔
      (image s o).state = 1 ∧ rollbackC s ≤ (image s o).level := by simp
  have hselect : fwSelectOther r client = if (image s o).state == 1 && decide (rollbackC s ≤ (image s o).level) then
      success (bootRecord r { selected := o, previous := (bootOf s).selected, trial := 0, starts := 0 }) client
    else abort r client 0x08000022 := rfl
  by_cases hother : (image s o).state = 1 ∧ rollbackC s ≤ (image s o).level
  · rw [hselect, if_pos (hvalid.mpr hother)] at hfw hanswers
    have hanswered : FwKept (bootRecord r { selected := o, previous := (bootOf s).selected, trial := 0, starts := 0 }) (success _ client) :=
      .answer (.refl _)
    simp only
    rw [if_pos hother]
    rw [hfw, hanswered.fw, bootRecord_fw, hanswers]
    exact ⟨rfl, success_answers _ hclient⟩
  · rw [hselect, if_neg (fun hb => hother (hvalid.mp hb))] at hfw hanswers
    have hanswered : FwKept r (abort r client 0x08000022) := .answer (.refl _)
    simp only
    rw [if_neg hother]
    rw [hfw, hanswered.fw, hanswers]
    refine ⟨rfl, ?_⟩
    rw [abort, answer, if_neg (by omega), Tab.find_put_self]

theorem restart_waits {s : State} {client unit : Nat} (off : Nat) (h : Accepts s client 0x2400 0x11 (leBytes 1 unit)) (hunit : unit < 256) :
    exec (.restartCommand client unit off) s = .next (settled s (paired
      (if inPair s && unit != unitNo s + 1 then answered s client
       else { answered s client with fw := { s.fw with restartAt := some (stamp s off + 1) } }) client 0x2400 0x11 (leBytes 1 unit))) := by
  have ⟨_, hclient, _⟩ := h
  let r := { s with answers := Tab.del s.answers client }
  let u := if inPair s && unit != unitNo s + 1 then r else setFw r { r.fw with restartAt := some (stamp s off + 1) }
  have hvalue : leNat (leBytes 1 unit) = unit := by rw [leNat_leBytes, Nat.mod_eq_of_lt (by simpa using hunit)]
  have hperform : performAny r client 0x2400 0x11 (leBytes 1 unit) off none = success u client := by
    have hrestart : performAny r client 0x2400 0x11 (leBytes 1 unit) off none = restartCommand r client unit off := by
      simp [performAny, perform, within, hvalue]
    rw [hrestart]
    change (if inPair s && unit != unitNo s + 1 then success r client else _) = success (if _ then _ else _) client
    split <;> rfl
  have hwork : u.work = s.work := by
    simp only [u]
    split <;> rfl
  change done s (put s client 0x2400 0x11 (leBytes 1 unit) off) = _
  rw [put_succeeds h (by decide) (by decide) (by decide) (by decide) hperform hwork, success_le hclient]
  simp only [u]
  split <;> rfl

/-- Settles O59. -/
theorem imagesAreCommittedAndConfirmed : Obligations.ImagesAreCommittedAndConfirmed := by
  unfold Obligations.ImagesAreCommittedAndConfirmed
  exact ⟨fun s client off h hfull => fwCommit_full off h hfull,
    fun s j rest bad sigOk halive hjobs hnum hclient _ hblocks =>
      ⟨fun hwrong hsig hlevel => commitVerified_good halive hjobs hnum hclient hwrong hsig hlevel,
        fun hbad => commitVerified_bad halive hjobs hnum hclient hbad hblocks⟩,
    fun s client off h hopen _ => fwClose_open off h hopen,
    fun s client off h htrial => fwConfirm_trial off h htrial,
    fun s client off h => fwSelectOther_ends off h,
    fun s client unit off hunit h => restart_waits off h hunit⟩

end Sys2Proof.Machine
end

section
/-! SUPPORT. The host port (R323 to R332): its transactions, the requests under tags and the pages of the process image. -/
namespace Sys2Proof.Machine
open Sys2Proof Sys2Proof.OD

-- Transactions (R323, R332) -----------------------------------------------------------------------------------------------------------

theorem booted_transacted (s : State) (m : Bool) : booted (transacted s m) = booted s := by
  rw [booted, booted, transacted, wrN_net]
theorem transacted_host (s : State) (m : Bool) : (transacted s m).host = s.host := wrN_host ..

theorem transacted_work (s : State) (m : Bool) : (transacted s m).work = s.work := wrN_work ..
theorem lastResult_transacted (s : State) (m : Bool) (v : Nat) :
    lastResult (transacted s m) v = setHost (transacted s m) { s.host with last := v } := by
  rw [lastResult, transacted_host]

theorem transaction_done {s : State} (halive : Alive s) (hphase : 3 ≤ s.rst.phase) (m : Bool) (f : State → State) :
    done s (act s fun s => transaction s m f) = .next (settled s (f (transacted s m))) := by
  have hsends : transaction s m f = f (transacted s m) := if_neg (Nat.not_lt.mpr hphase)
  rw [act_alive halive, hsends]
  rfl

theorem transaction_ready {s : State} (h : PortReady s) (m : Bool) (f : State → State) :
    done s (act s fun s => transaction s m f) = .next (settled s (f (transacted s m))) := transaction_done h.1.1 h.2 m f

theorem transaction_leaves {s t : State} (h : PortReady s) (m : Bool) {f : State → State} (hf : f (transacted s m) = t) :
    done s (act s fun s => transaction s m f) = .next (settled s t) := hf ▸ transaction_ready h m f

section
variable {s : State} (h : PortReady s) (m : Bool)
include h

/-- A good frame without a response under a tag does its operation alone (R323). -/
theorem hostInline_ready (f : State → State) : hostInline (transacted s m) f = f (frameTaken s m) := by
  have hbooted : booted (transacted s m) = true := (booted_transacted s m).trans h.1.2
  rw [hostInline, hbooted]
  rfl

section
variable {tag : Nat} (idx sub : Nat)

theorem hostFrame_free (hfree : Tab.find s.host.tags tag = none) (f : State → State) :
    hostFrame (transacted s m) tag idx sub f = f (tagTaken s m tag idx sub) := by
  have hbooted : booted (transacted s m) = true := (booted_transacted s m).trans h.1.2
  rw [hostFrame, hbooted, transacted_host, hfree]
  rfl
theorem hostFrame_used (hused : (Tab.find s.host.tags tag).isSome = true) (f : State → State) :
    hostFrame (transacted s m) tag idx sub f = inc (setHost (transacted s m) { s.host with last := 5 }) 0x2810 0x84 := by
  have hbooted : booted (transacted s m) = true := (booted_transacted s m).trans h.1.2
  rw [hostFrame, hbooted, transacted_host, hused]
  exact congrArg (inc · 0x2810 0x84) (lastResult_transacted ..)

theorem hostAsk_refused (hfree : Tab.find s.host.tags tag = none) (op : HostOp) (off : Nat) :
    hostAsk (transacted s m) tag idx sub false op off = respond (tagTaken s m tag idx sub) tag 0x05040001 [] := by
  rw [hostAsk, hostFrame_free h m idx sub hfree]
  rfl

omit h in
theorem takeItem_quiet {u : State} {client n quiet : Nat} (v : State) (htaken : takeItem v client idx sub quiet = (u, some n, 0)) (quiet' : Nat) :
    takeItem v client idx sub quiet' = (u, some n, 0) := by
  unfold takeItem at htaken ⊢
  split_ifs at htaken ⊢ with hcapacity hquiet
  · cases htaken
  · cases htaken
  · exact htaken

theorem hostAsk_taken (hfree : Tab.find s.host.tags tag = none) {u : State} {n : Nat}
    (htaken : takeItem (tagTaken s m tag idx sub) 0x80 idx sub 0 = (u, some n, 0)) (op : HostOp) (off : Nat) :
    hostAsk (transacted s m) tag idx sub true op off = hostQueue u tag n op off := by
  rw [hostAsk, hostFrame_free h m idx sub hfree]
  simp only [Bool.not_true, Bool.false_eq_true, if_false, takeItem_quiet idx sub _ htaken]

end
end

-- What reads and ends of items leave of the port ------------------------------------------------------------------------------------------

theorem tagTaken_work (s : State) (m : Bool) (tag idx sub : Nat) : (tagTaken s m tag idx sub).work = s.work :=
  (wrN_work ..).trans (transacted_work s m)
theorem tagTaken_net (s : State) (m : Bool) (tag idx sub : Nat) : (tagTaken s m tag idx sub).net = s.net := (wrN_net ..).trans (wrN_net ..)
theorem tagTaken_host (s : State) (m : Bool) (tag idx sub : Nat) : (tagTaken s m tag idx sub).host =
    { s.host with last := 1, tags := Tab.put s.host.tags tag { idx := idx, sub := sub } } := by
  have hframe : (frameTaken s m).host = { s.host with last := 1 } := by
    rw [frameTaken, inc, wrN_host, transacted_host]
  simp only [tagTaken, hframe]

theorem respond_work (s : State) (tag code : Nat) (data : List Byte) : (respond s tag code data).work = s.work := by
  obtain ⟨⟨d, tags, h⟩, -⟩ := responded_hostReady s tag (code == 0) (if code == 0 then data else leBytes 4 code)
  rw [respond, h]

/-- What a read changes: its client's position in the log, the calendar's shadows or the challenge, or it reports the record lost. -/
def ReadLeaves (s : State) (client sub : Nat) (r : State × Nat × List Byte) : Prop :=
  r.1 = s ∨ r.1 = (calRead s client sub).1 ∨ r.1 = (retainedRead s (sub - 0x40)).1 ∨ r.1 = (debugChallenge s).1 ∨ ∃ n, r.1 = setLogPos s client n

theorem ReadLeaves.ite {s : State} {client sub : Nat} {c : Prop} [Decidable c] {a b : State × Nat × List Byte}
    (ha : ReadLeaves s client sub a) (hb : ReadLeaves s client sub b) : ReadLeaves s client sub (if c then a else b) := by
  split
  · exact ha
  · exact hb

theorem readLeaves_logEntry (s : State) (client sub : Nat) : ReadLeaves s client sub (logReadEntry s client) := by
  unfold logReadEntry
  refine .ite (.inl rfl) ?_
  split
  · exact .inr (.inr (.inr (.inr ⟨_, rfl⟩)))
  · exact .inl rfl
theorem readLeaves_logEntries (s : State) (client sub : Nat) : ReadLeaves s client sub (logReadEntries s client) := by
  unfold logReadEntries
  simp only
  split
  · exact .inl rfl
  · exact .ite (.inl rfl) (.inr (.inr (.inr (.inr ⟨_, rfl⟩))))

theorem readOne_leaves (s : State) (client idx sub : Nat) : ReadLeaves s client sub (readOne s client idx sub) := by
  unfold readOne
  refine .ite (.inl rfl) ?_
  split
  · exact .inl rfl
  refine .ite (.inl rfl) (.ite (.inl rfl) (.ite ?item (.ite (.inr (.inl rfl)) (.ite ?retained (.ite (.inr (.inr (.inr (.inl rfl))))
    (.ite ?report (.ite (.ite (.inl rfl) (.inl rfl)) (.ite (.inl rfl) (.ite (readLeaves_logEntry ..) (.ite (readLeaves_logEntries ..)
      (.ite ?trace ?value)))))))))))
  case item =>
    split
    · exact .inl rfl
    · exact .inl rfl
  case retained =>
    refine .inr (.inr (.inl ?_))
    split <;> simp_all
  case report =>
    split
    · exact .inl rfl
    · exact .inl rfl
  case trace => exact .ite (.inl rfl) (.ite (.inl rfl) (.inl rfl))
  case value =>
    split
    · exact .inl rfl
    · exact .inl rfl

theorem told_host {s t : State} (h : Told s t) : t.host = s.host := by
  obtain ⟨_, _, _, _, _, _, h⟩ := h
  rw [h]

theorem readOne_host (s : State) (client idx sub : Nat) : (readOne s client idx sub).1.host = s.host := by
  obtain h | h | h | h | ⟨n, h⟩ := readOne_leaves s client idx sub
  · rw [h]
  · rw [h]
    rfl
  · rw [h, retainedRead]
    split
    · exact told_host (told_event ..)
    · rfl
  · rw [h]
    rfl
  · rw [h]
    rfl

theorem itemSet_host (s : State) (i : Nat) (f : WorkItem → WorkItem) : (itemSet s i f).host = s.host := by
  unfold itemSet
  split <;> rfl
/-- The end of an item leaves the port's state and the IRQ source of its responses. -/
def KeepsPort (s t : State) : Prop := t.host = s.host ∧ rdBit t 0x2810 0x80 0 = rdBit s 0x2810 0x80 0

theorem KeepsPort.refl (s : State) : KeepsPort s s := ⟨rfl, rfl⟩
theorem KeepsPort.trans {s t u : State} (h : KeepsPort s t) (k : KeepsPort t u) : KeepsPort s u := by
  obtain ⟨hhost, hbit⟩ := h
  obtain ⟨khost, kbit⟩ := k
  exact ⟨khost.trans hhost, kbit.trans hbit⟩
theorem keepsPort_itemSet (s : State) (i : Nat) (f : WorkItem → WorkItem) : KeepsPort s (itemSet s i f) :=
  ⟨itemSet_host s i f, by rw [rdBit, rdBit, rdN, rdN, rdB, rdB, itemSet_dict]⟩
theorem keepsPort_irq (s : State) {n : Nat} (hn : n ≠ 0) : KeepsPort s (irq s n) :=
  ⟨told_host (told_irq ..), by rw [rdBit_irqs s (by decide), beq_eq_false_iff_ne.mpr (Ne.symm hn), Bool.false_or]⟩
theorem keepsPort_logAdd (s : State) (code loc qual data : Nat) : KeepsPort s (logAdd s code loc qual data) :=
  ⟨told_host (told_logAdd ..), logAdd_irqs s code loc qual data (by decide)⟩
theorem keepsPort_itemDone (s : State) (i : Nat) : KeepsPort s (itemDone s i) := by
  unfold itemDone
  split
  · split
    · simp only
      split
      · exact (keepsPort_itemSet ..).trans (keepsPort_irq _ (by decide))
      · exact keepsPort_itemSet ..
    · exact .refl s
  · exact .refl s
theorem keepsPort_itemFail (s : State) (i reason code : Nat) : KeepsPort s (itemFail s i reason code) := by
  unfold itemFail
  split
  · split
    · exact ((keepsPort_itemSet ..).trans (keepsPort_logAdd ..)).trans (keepsPort_irq _ (by decide))
    · exact .refl s
  · exact .refl s
theorem keepsPort_journalDrop (s : State) (i : Nat) : KeepsPort s (journalDrop s i) := by
  unfold journalDrop
  split
  · split
    · exact ⟨wrN_host .., by rw [rdBit, rdN_wrN_object _ (by decide) (by decide) (by decide)]; rfl⟩
    · exact .refl s
  · exact .refl s
theorem keepsPort_finish (s : State) (i code : Nat) : KeepsPort s (finish s i code) := by
  unfold finish
  split
  · exact (keepsPort_itemDone s i).trans (keepsPort_journalDrop ..)
  · exact (keepsPort_itemFail s i 14 code).trans (keepsPort_journalDrop ..)

/-- A response stands under its tag, and raises IRQ source 0 (R326, R331). -/
theorem respond_ready {s : State} {tag : Nat} {x : HostTag} (hx : Tab.find s.host.tags tag = some x) (code : Nat) (data : List Byte) :
    Tab.find (respond s tag code data).host.tags tag = some { x with resp := some (code == 0, if code == 0 then data else leBytes 4 code) } ∧
      rdBit (respond s tag code data) 0x2810 0x80 0 = true := by
  have htags : tagsReady s tag (code == 0) (if code == 0 then data else leBytes 4 code) =
      Tab.put s.host.tags tag { x with resp := some (code == 0, if code == 0 then data else leBytes 4 code) } := by
    rw [tagsReady, hx]
  have hcounted : ((Tab.put s.host.tags tag { x with resp := some (code == 0, if code == 0 then data else leBytes 4 code) }).filter
      fun p => p.2.resp.isSome).length ≠ 0 := by
    rw [List.length_eq_zero_iff.ne]
    exact List.ne_nil_of_mem (List.mem_filter.mpr ⟨mem_put_self .., rfl⟩)
  rw [respond, hostReady_eq, htags]
  constructor
  · rw [wrBit, wrN_host, wrN_host, Tab.find_put_self]
  · rw [rdBit_wrBit _ _ (r := rowOf 0x2810 0x80 |>.get rfl) rfl (by decide), if_pos rfl]
    exact bne_iff_ne.mpr hcounted

-- The requests under tags (R325 to R328) --------------------------------------------------------------------------------------------------

section
variable {s u : State} {m : Bool} {tag idx sub n : Nat} (h : PortReady s) (hfree : Tab.find s.host.tags tag = none)
  (htaken : takeItem (tagTaken s m tag idx sub) 0x80 idx sub 0 = (u, some n, 0))
include htaken

theorem takeItem_new : newItem (tagTaken s m tag idx sub) 1 0x80 idx sub = (u, some n) := by
  unfold takeItem at htaken
  split_ifs at htaken
  · cases htaken
  · cases htaken
  · split at htaken
    · rename_i hnew
      cases htaken
      exact hnew
    · cases htaken

theorem taken_eq : ∃ wk a b, u = { tagTaken s m tag idx sub with work := wk, nextId := a, idFloor := b } := by
  have hnew := takeItem_new htaken
  unfold newItem at hnew
  split at hnew
  · cases hnew
  · cases hnew
    exact ⟨_, _, _, rfl⟩
theorem taken_net : u.net = s.net := by
  obtain ⟨_, _, _, hu⟩ := taken_eq htaken
  exact (congrArg State.net hu).trans (tagTaken_net s m tag idx sub)
theorem taken_host : u.host = (tagTaken s m tag idx sub).host := by
  obtain ⟨_, _, _, hu⟩ := taken_eq htaken
  exact (congrArg State.host hu :)
theorem taken_now : u.now = s.now := by
  obtain ⟨_, _, _, hu⟩ := taken_eq htaken
  have hnow : (tagTaken s m tag idx sub).now = s.now := (wrN_now ..).trans (wrN_now ..)
  exact (congrArg State.now hu).trans hnow
theorem taken_tag : Tab.find u.host.tags tag = some { idx := idx, sub := sub } := by
  rw [taken_host htaken, tagTaken_host, Tab.find_put_self]

theorem hostQueue_taken (op : HostOp) (off : Nat) : hostQueue u tag n op off = if s.net.serving then serveHost u tag n op off
    else { u with host := { u.host with queue := u.host.queue ++ [(tag, n, op)] } } := by
  have hserving : u.net.serving = s.net.serving := congrArg Net.serving (taken_net htaken)
  rw [hostQueue, hserving]
  rfl

/-- A read that is served is answered with its value, or its abort code. -/
theorem serveHost_read (off : Nat) (hshort : (readOne (itemActive u n) 0x80 idx sub).2.2.length ≤ 4096) :
    let r := readOne (itemActive u n) 0x80 idx sub
    Tab.find (serveHost u tag n (.read idx sub) off).host.tags tag =
        some (HostTag.mk idx sub (some (r.2.1 == 0, if r.2.1 = 0 then r.2.2 else leBytes 4 r.2.1))) ∧
      rdBit (serveHost u tag n (.read idx sub) off) 0x2810 0x80 0 = true := by
  intro r
  have htag : Tab.find r.1.host.tags tag = some { idx := idx, sub := sub } := by
    rw [readOne_host, itemActive, itemSet_host]
    exact taken_tag htaken
  obtain ⟨hresponse, hsource⟩ := respond_ready htag r.2.1 r.2.2
  obtain ⟨khost, kbit⟩ := keepsPort_finish (respond r.1 tag r.2.1 r.2.2) n r.2.1
  have hserved : serveHost u tag n (.read idx sub) off = finish (respond r.1 tag r.2.1 r.2.2) n r.2.1 := by
    simp only [serveHost]
    rw [if_neg (Nat.not_lt.mpr hshort)]
  rw [hserved, khost, kbit]
  refine ⟨hresponse.trans ?_, hsource⟩
  simp only [beq_iff_eq]

end

theorem itemSet_eq (s : State) (i : Nat) (f : WorkItem → WorkItem) : ∃ wk, itemSet s i f = { s with work := wk } := by
  unfold itemSet
  split
  · exact ⟨_, rfl⟩
  · exact ⟨s.work, rfl⟩
theorem journalAdd_eq (s : State) (i : Nat) (l : List (Nat × Nat)) :
    ∃ d wk st, journalAdd s i l = { s with dict := d, work := wk, store := st } := by
  unfold journalAdd
  split
  · obtain ⟨wk, hwork⟩ := itemSet_eq s i fun w => { w with journalled := true }
    obtain ⟨d, hcount⟩ := wrN_eq _ _ _ _
    exact ⟨d, wk, _, hcount.trans (by rw [hwork]; rfl)⟩
  · exact ⟨s.dict, s.work, s.store, rfl⟩

/-- The beginning of a write's item leaves the port, the services and the clock. -/
theorem writeBegins_keeps (s : State) (i idx sub : Nat) : (writeBegins s i idx sub).host = s.host ∧ (writeBegins s i idx sub).net = s.net ∧
    (writeBegins s i idx sub).now = s.now := by
  unfold writeBegins activate itemActive
  split_ifs
  · exact ⟨rfl, rfl, rfl⟩
  · obtain ⟨d, wk, st, hjournal⟩ := journalAdd_eq s i []
    obtain ⟨wk', hactive⟩ := itemSet_eq (journalAdd s i []) i fun w => if w.state == 0 then { w with state := 1 } else w
    rw [hactive, hjournal]
    exact ⟨rfl, rfl, rfl⟩
  · obtain ⟨wk, hactive⟩ := itemSet_eq s i fun w => if w.state == 0 then { w with state := 1 } else w
    rw [hactive]
    exact ⟨rfl, rfl, rfl⟩

/-- A segment that does not fill its transfer is kept and answered. -/
theorem segMore_kept {s : State} {g : SegWrite} {tag : Nat} {data : List Byte} (off : Nat) (hlate : g.late = false)
    (hmore : (g.data ++ data).length < g.total) (hserving : s.net.serving = true) :
    segMore s g tag g.total g.data.length g.idx g.sub data off =
      respond (setHost s { s.host with seg := some { g with data := g.data ++ data, at_ := s.now } }) tag 0 [] := by
  have hkeeps : (!(g.idx == g.idx && g.sub == g.sub && g.total == g.total && g.data.length == g.data.length) ||
      decide ((g.data ++ data).length > g.total)) = false := by
    simpa using hmore.le
  have hopen : ((g.data ++ data).length == g.total) = false := beq_eq_false_iff_ne.mpr hmore.ne
  simp only [segMore, hlate, hkeeps, hopen, Bool.false_eq_true, if_false]
  exact if_pos hserving

/-- A first segment opens its transfer and is answered (R328). -/
theorem segWrite_opens {s u : State} {m : Bool} {tag idx sub n total : Nat} {data : List Byte} (h : PortReady s)
    (hfree : Tab.find s.host.tags tag = none) (hclosed : s.host.seg = none) (hserving : s.net.serving = true) (htotal : total < 2 ^ 32)
    (hmore : data.length < total) (htaken : takeItem (tagTaken s m tag idx sub) 0x80 idx sub 0 = (u, some n, 0)) (off : Nat) :
    let v := segWrite (transacted s m) tag idx sub (leBytes 4 total ++ leBytes 4 0 ++ data) off
    v.host.seg = some { idx := idx, sub := sub, total := total, data := data, at_ := s.now, item := some n, late := false } ∧
      Tab.find v.host.tags tag = some { idx := idx, sub := sub, resp := some (true, []) } := by
  have hlength : ¬ (leBytes 4 total ++ leBytes 4 0 ++ data).length < 8 := by
    simp only [List.length_append, leBytes_length]
    omega
  have hsize : leNat ((leBytes 4 total ++ leBytes 4 0 ++ data).take 4) = total := by
    rw [List.append_assoc, List.take_left' (leBytes_length ..), leNat_leBytes, Nat.mod_eq_of_lt (by simpa using htotal)]
  have hoffset : leNat (((leBytes 4 total ++ leBytes 4 0 ++ data).drop 4).take 4) = 0 := by
    rw [List.append_assoc, List.drop_left' (leBytes_length ..), List.take_left' (leBytes_length ..)]
    rfl
  have hdata : (leBytes 4 total ++ leBytes 4 0 ++ data).drop 8 = data := List.drop_left' (by simp only [List.length_append, leBytes_length])
  have hnone : (tagTaken s m tag idx sub).host.seg = none := by rw [tagTaken_host, hclosed]
  obtain ⟨hhost, hnet, hnow⟩ := writeBegins_keeps u n idx sub
  have hserving' : u.net.serving = true := (congrArg Net.serving (taken_net htaken)).trans hserving
  intro v
  have hv : v = respond (setHost (writeBegins u n idx sub) { (writeBegins u n idx sub).host with
      seg := some { idx := idx, sub := sub, total := total, data := data, at_ := s.now, item := some n, late := false } }) tag 0 [] := by
    have hsegment := segMore_kept (s := writeBegins u n idx sub) (tag := tag) (data := data) off
      (g := { idx := idx, sub := sub, total := total, data := [], at_ := u.now, item := some n, late := false }) rfl hmore
      ((congrArg Net.serving hnet).trans hserving')
    rw [hnow, taken_now htaken] at hsegment
    simp only [v, segWrite]
    rw [hostFrame_free h m idx sub hfree]
    simp only [hlength, if_false, hsize, hoffset, hdata, hnone, takeItem_quiet idx sub _ htaken, hserving', if_true, bne_self_eq_false,
      Bool.false_eq_true]
    exact hsegment
  have htag : Tab.find (writeBegins u n idx sub).host.tags tag = some { idx := idx, sub := sub } := by
    rw [hhost]
    exact taken_tag htaken
  rw [hv]
  refine ⟨?_, (respond_ready (s := setHost _ _) htag 0 []).left⟩
  obtain ⟨⟨d, tags, hready⟩, -⟩ := responded_hostReady (setHost (writeBegins u n idx sub) { (writeBegins u n idx sub).host with
    seg := some { idx := idx, sub := sub, total := total, data := data, at_ := s.now, item := some n, late := false } }) tag true []
  exact (congrArg (fun t : State => t.host.seg) hready :)

/-- A gap that is too long ends the transfer's item (R328). -/
theorem segGapTimeout_ends {s : State} {g : SegWrite} {n : Nat} {w : WorkItem} (hopen : s.host.seg = some g) (hlate : g.late = false)
    (hitem : g.item = some n) (hgap : g.at_ + 10 * rdN s 0x1FF0 4 < s.now) (hw : Tab.find s.work n = some w) (hflight : w.state < 2) :
    (segGapTimeout s).host.seg = some { g with item := none, late := true } ∧
      Tab.find (segGapTimeout s).work n = some { w with state := 3, reason := 9, ended := s.tick, abort := 0x05040000 } := by
  have hover : (!g.late && decide (g.at_ + msT (rdN s 0x1FF0 4) < s.now)) = true := by
    rw [hlate, msT, Nat.mul_comm]
    simpa using hgap
  rw [segGapTimeout, hopen]
  simp only [hover, hitem, if_true]
  exact ⟨rfl, itemFail_work hw hflight 9 0x05040000⟩

/-- Settles O52. -/
theorem hostRequestsTakeTags : Obligations.HostRequestsTakeTags := by
  unfold Obligations.HostRequestsTakeTags
  refine ⟨fun s m tag idx sub payload off h hfree => ?malformed, fun s m tag idx sub off u n h hfree htaken => ?reads,
    fun s m tag idx sub payload off u n h hfree hsome hfits htaken => ?writes,
    fun s m tag idx sub off u n h hfree hserving htaken hshort => ?served, fun s m tag idx sub total data off u n h hfree hclosed hserving htotal hmore htaken => ?opened,
    fun s g n w halive hopen hlate hitem hgap hw hflight => ?gap, fun s i j d t₀ halive hcopy hdue => ?dropped,
    fun s m tag idx sub payload off h hused => ?used⟩
  case malformed =>
    intro v
    have hkept : storeHash (transacted s m) (respond v tag 0x05040001 []) = respond v tag 0x05040001 [] :=
      storeHash_same ((respond_work ..).trans ((tagTaken_work ..).trans (transacted_work ..).symm))
    have hbad (op : HostOp) : hostAsk (transacted s m) tag idx sub false op off = respond v tag 0x05040001 [] :=
      hostAsk_refused h m idx sub hfree op off
    refine ⟨fun hfields => ?_, fun hfields => ?_, fun hfields => ?_, fun hfields => ?_, fun hfields => ?_, fun hfields => ?_⟩
    · refine (transaction_ready h m fun s => hostAsk s tag idx sub payload.isEmpty (.read idx sub) off).trans ?_
      rw [List.isEmpty_eq_false_iff.mpr hfields, hbad]
    · refine (transaction_ready h m fun s => storeHash s (hostAsk s tag idx sub (within payload.length 1 4096) (.write idx sub payload) off)).trans ?_
      have hout : within payload.length 1 4096 = false := by
        rw [Bool.eq_false_iff, ne_eq, within_iff]
        obtain rfl | hlong := hfields
        · simp
        · omega
      rw [hout, hbad, hkept]
    · refine (transaction_ready h m fun s => hostAsk s tag idx sub (sub == 0 && payload.isEmpty) (.readRecord idx) off).trans ?_
      have hout : (sub == 0 && payload.isEmpty) = false := by
        obtain hpayload | hsub := hfields
        · simp [hpayload]
        · simp [hsub]
      rw [hout, hbad]
    · refine (transaction_ready h m fun s => storeHash s (hostAsk s tag idx sub (sub == 0) (.writeRecord idx payload) off)).trans ?_
      rw [beq_eq_false_iff_ne.mpr hfields, hbad, hkept]
    · refine (transaction_ready h m fun s => hostAsk s tag idx sub (payload.length == 6 && within (leNat (payload.drop 4)) 1 4096)
        (.bulk idx sub (leNat (payload.take 4)) (leNat (payload.drop 4))) off).trans ?_
      rw [beq_eq_false_iff_ne.mpr hfields, Bool.false_and, hbad]
    · refine (transaction_ready h m fun s => storeHash s (segWrite s tag idx sub payload off)).trans ?_
      have hshort : segWrite (transacted s m) tag idx sub payload off = respond v tag 0x05040001 [] := by
        rw [segWrite, hostFrame_free h m idx sub hfree]
        exact if_pos hfields
      rw [hshort, hkept]
  case reads =>
    intro p hp
    have hasked (op : HostOp) : hostAsk (transacted s m) tag idx sub true op off =
        if s.net.serving then serveHost u tag n op off else { u with host := { u.host with queue := u.host.queue ++ [(tag, n, op)] } } := by
      rw [hostAsk_taken h m idx sub hfree htaken, hostQueue_taken htaken]
    simp only [List.mem_append, List.mem_singleton, List.mem_ite_nil_right] at hp
    obtain (rfl | ⟨rfl, rfl⟩) | rfl := hp
    · exact transaction_leaves h m (hasked _)
    · exact transaction_leaves h m (hasked _)
    · exact transaction_leaves h m (hasked _)
  case writes =>
    intro p hp
    have hasked (op : HostOp) : hostAsk (transacted s m) tag idx sub true op off =
        if s.net.serving then serveHost u tag n op off else { u with host := { u.host with queue := u.host.queue ++ [(tag, n, op)] } } := by
      rw [hostAsk_taken h m idx sub hfree htaken, hostQueue_taken htaken]
    have hin : within payload.length 1 4096 = true := within_iff.mpr ⟨List.length_pos_iff.mpr hsome, hfits⟩
    simp only [List.mem_append, List.mem_singleton, List.mem_ite_nil_right] at hp
    obtain rfl | ⟨rfl, rfl⟩ := hp
    · refine (transaction_ready h m fun s => storeHash s (hostAsk s tag idx sub (within payload.length 1 4096) (.write idx sub payload) off)).trans ?_
      rw [hin, hasked]
    · refine (transaction_ready h m fun s => storeHash s (hostAsk s tag idx 0 (0 == 0) (.writeRecord idx payload) off)).trans ?_
      rw [beq_self_eq_true, hasked]
  case served =>
    have hasked : hostAsk (transacted s m) tag idx sub true (.read idx sub) off = serveHost u tag n (.read idx sub) off := by
      rw [hostAsk_taken h m idx sub hfree htaken, hostQueue_taken htaken, if_pos hserving]
    obtain ⟨hresponse, hsource⟩ := serveHost_read htaken off hshort
    refine ⟨settled s (serveHost u tag n (.read idx sub) off), ?_, hresponse, ?_⟩
    · exact transaction_leaves h m hasked
    · rw [rdBit, rdN_settled]
      exact hsource
  case opened =>
    obtain ⟨x, hhash⟩ := storeHash_eq (transacted s m) (segWrite (transacted s m) tag idx sub (leBytes 4 total ++ leBytes 4 0 ++ data) off)
    obtain ⟨hseg, htag⟩ := segWrite_opens h hfree hclosed hserving htotal hmore htaken off
    refine ⟨_, (transaction_ready h m fun s => storeHash s (segWrite s tag idx sub (leBytes 4 total ++ leBytes 4 0 ++ data) off)), ?_⟩
    rw [hhash]
    exact ⟨hseg, htag⟩
  case gap =>
    refine ⟨settled s (segGapTimeout s), ?_, segGapTimeout_ends hopen hlate hitem hgap hw hflight⟩
    change done s (act s fun s => segGapTimeout s) = _
    rw [act_alive halive]
    rfl
  case dropped =>
    have htimeout : bulkTimeout s = { s with host := { s.host with bulk := none } } := by
      rw [bulkTimeout, hcopy]
      exact if_pos hdue
    change done s (act s fun s => bulkTimeout s) = _
    rw [act_alive halive, htimeout]
    rfl
  case used =>
    intro c hc
    have hkept (t : State) (ht : t = inc (setHost (transacted s m) { s.host with last := 5 }) 0x2810 0x84) : storeHash (transacted s m) t = t :=
      storeHash_same (ht ▸ wrN_work ..)
    have hframe (f : State → State) := hostFrame_used h m idx sub hused f
    have hbad : hostBad (transacted s m) 5 tag = inc (setHost (transacted s m) { s.host with last := 5 }) 0x2810 0x84 := by
      have hbooted : booted (transacted s m) = true := (booted_transacted s m).trans h.1.2
      rw [hostBad, hbooted, transacted_host]
      simp only [hused, Bool.not_true, Bool.false_eq_true, if_false, if_true]
      exact congrArg (inc · 0x2810 0x84) (lastResult_transacted ..)
    simp only [List.mem_cons, List.not_mem_nil, or_false] at hc
    obtain rfl | rfl | rfl | rfl | rfl | rfl | rfl := hc
    · exact transaction_leaves h m (hframe _)
    · exact transaction_leaves h m (hframe _)
    · exact transaction_leaves h m (hframe _)
    · exact transaction_leaves h m ((hkept _ (hframe _)).trans (hframe _))
    · exact transaction_leaves h m ((hkept _ (hframe _)).trans (hframe _))
    · exact transaction_leaves h m ((hkept _ (hframe _)).trans (hframe _))
    · exact transaction_leaves h m hbad

end Sys2Proof.Machine
end

section
/-! SUPPORT. The host port's frames without a tagged response, and the pages of the process image (R323, R325, R326, R329 to R332). -/
namespace Sys2Proof.Machine
open Sys2Proof Sys2Proof.OD

theorem frameTaken_host (s : State) (m : Bool) : (frameTaken s m).host = { s.host with last := 1 } := by
  rw [frameTaken, inc, wrN_host, transacted_host]

theorem rdBit_frameTaken (s : State) (m : Bool) (i : Nat) : rdBit (frameTaken s m) 0x2810 0x80 i = rdBit s 0x2810 0x80 i := by
  have hcounted : rdN (frameTaken s m) 0x2810 0x80 = rdN (transacted s m) 0x2810 0x80 := rdN_wrN_sub _ _ _ (by decide)
  have hmode : rdN (transacted s m) 0x2810 0x80 = rdN s 0x2810 0x80 := rdN_wrN_sub _ _ _ (by decide)
  rw [rdBit, hcounted, hmode]
  rfl

theorem Tab.get_of_find {α : Type} {t : Tab α} {x : Nat} {v d : α} (h : Tab.find t x = some v) : Tab.get t x d = v := by rw [Tab.get, h]; rfl

-- FETCH, RELEASE and ACK_IRQ (R325, R326, R331) ----------------------------------------------------------------------------------------------

theorem fetch_ready {s : State} {tag : Nat} {x : HostTag} {ok : Bool} {d : List Byte} (hx : Tab.find s.host.tags tag = some x)
    (hresp : x.resp = some (ok, d)) :
    let f := leBytes 1 (32 * tag + (if ok then 0x10 else 0x11)) ++ leBytes 2 x.idx ++ leBytes 1 x.sub ++ leBytes 2 d.length ++ d
    fetch s tag = { s with answers := Tab.put s.answers inlineKey { code := 0, data := f ++ leBytes 2 (crc16 f) } } := by
  simp only [fetch, Tab.get_of_find hx, hresp, withCrc, Nat.mul_comm tag 32]

theorem releaseTag_ready {s : State} {tag : Nat} {x : HostTag} (hx : Tab.find s.host.tags tag = some x) (hresp : x.resp.isSome = true) :
    releaseTag s tag = countReady (setHost s { s.host with tags := Tab.del s.host.tags tag }) := by
  simp only [releaseTag, Tab.get_of_find hx, hresp, if_true]
theorem releaseTag_waits {s : State} {tag : Nat} {x : HostTag} (hx : Tab.find s.host.tags tag = some x) (hresp : x.resp = none) :
    releaseTag s tag = s := by
  simp only [releaseTag, Tab.get_of_find hx, hresp, Option.isSome_none, Bool.false_eq_true, if_false]

theorem countReady_source (s : State) : (countReady s).host = s.host ∧
    rdBit (countReady s) 0x2810 0x80 0 = s.host.tags.any fun p => p.2.resp.isSome := by
  unfold countReady
  constructor
  · rw [wrBit, wrN_host, wrN_host]
  · rw [rdBit_wrBit _ _ (r := rowOf 0x2810 0x80 |>.get rfl) rfl (by decide), if_pos rfl, Bool.eq_iff_iff, bne_iff_ne,
      List.length_eq_zero_iff.ne, ne_eq, List.filter_eq_nil_iff, List.any_eq_true]
    push Not
    rfl

/-- ACK_IRQ clears the sources 1 to 10 that its mask names. -/
theorem ackIrq_source (s : State) (mask : Nat) {i : Nat} (hi : i < 16) :
    rdBit (ackIrq s mask) 0x2810 0x80 i = (rdBit s 0x2810 0x80 i && !((decide (1 ≤ i ∧ i ≤ 10)) && bit mask i)) := by
  have hcleared (l : List Nat) (s : State) : rdBit (foldS s l fun s i => if bit mask i then wrBit s 0x2810 0x80 i false else s) 0x2810 0x80 i =
      (rdBit s 0x2810 0x80 i && !(l.contains i && bit mask i)) := by
    induction l generalizing s with
    | nil => simp [foldS]
    | cons a l ih =>
      have hone : rdBit (if bit mask a then wrBit s 0x2810 0x80 a false else s) 0x2810 0x80 i =
          (rdBit s 0x2810 0x80 i && !(i == a && bit mask i)) := by
        split
        · rename_i hnamed
          rw [rdBit_wrBit _ _ (r := rowOf 0x2810 0x80 |>.get rfl) rfl hi]
          by_cases hsame : i = a
          · simp [hsame, hnamed]
          · simp [hsame]
        · rename_i hnamed
          by_cases hsame : i = a
          · simp [hsame, hnamed]
          · simp [hsame]
      refine (ih _).trans ?_
      rw [hone, List.contains_cons]
      cases rdBit s 0x2810 0x80 i <;> cases (i == a) <;> cases l.contains i <;> simp
  have hsources : ((List.range 10).map (· + 1)).contains i = decide (1 ≤ i ∧ i ≤ 10) := by
    interval_cases i <;> rfl
  rw [ackIrq, hcleared, hsources]

-- The process image (R329, R330) ----------------------------------------------------------------------------------------------------------------

section
variable (s : State) (p : Nat) (x : Page)

theorem pageOf_setPage_self : pageOf (setPage s p x) p = x := by
  rw [pageOf, setPage, setHost_host, Tab.get, Tab.find_put_self]
  rfl
theorem pageOf_setPage_ne {q : Nat} (h : p ≠ q) : pageOf (setPage s p x) q = pageOf s q := by
  rw [pageOf, setPage, setHost_host, Tab.get, Tab.find_put_ne _ _ h]
  rfl

end

theorem pageOf_of_host {s t : State} (h : t.host.pages = s.host.pages) (p : Nat) : pageOf t p = pageOf s p := by rw [pageOf, pageOf, h]

theorem irq_host (s : State) (n : Nat) : (irq s n).host = s.host := told_host (told_irq s n)

theorem pageCounted_closed {s : State} {p : Nat} (hp : 1 ≤ p) (hdirectory : (pageOf s 0).isOpen = false) :
    pageCounted s p = setPage s p { pageOf s p with count := ((pageOf s p).count + 1) % 256 } := by
  unfold pageCounted
  exact if_neg (by rw [pageOf_setPage_ne _ _ _ (by omega), hdirectory]; decide)

/-- The oldest page data goes to its page while that is closed. -/
theorem pageUpdate_closed {s : State} {p : Nat} {d : List Byte} (hp : 1 ≤ p) (hclosed : (pageOf s p).isOpen = false)
    (hdirectory : (pageOf s 0).isOpen = false) :
    pageOf (pageUpdate s p d) p = { pageOf s p with data := d, count := ((pageOf s p).count + 1) % 256 } ∧
      (pageUpdate s p d).host.pageDue = s.host.pageDue ∧ rdBit (pageUpdate s p d) 0x2810 0x80 1 = true := by
  let x := pageOf s p
  have hwritten : pageUpdate s p d = irq (setPage (setPage s p { x with data := d }) p
      { x with data := d, count := (x.count + 1) % 256 }) 1 := by
    have hdirectory' : (pageOf (setPage s p { x with data := d }) 0).isOpen = false := by rwa [pageOf_setPage_ne _ _ _ (by omega)]
    have hcounted := pageCounted_closed hp hdirectory'
    rw [pageOf_setPage_self] at hcounted
    unfold pageUpdate
    exact congrArg (irq · 1) ((if_neg (by rw [hclosed]; decide)).trans hcounted)
  rw [hwritten]
  refine ⟨?_, ?_, ?_⟩
  · rw [pageOf_of_host (congrArg HostPort.pages (irq_host ..)), pageOf_setPage_self]
  · rw [irq_host]
    rfl
  · rw [rdBit_irqs _ (by decide)]
    rfl

/-- That of an open one goes to its shadow, in place of what stood there. -/
theorem pageUpdate_open {s : State} {p : Nat} {d : List Byte} (hopen : (pageOf s p).isOpen = true)
    (hfull : (pageOf s p).shadow.isSome = true) :
    pageOf (pageUpdate s p d) p = { pageOf s p with shadow := some d } ∧ (pageUpdate s p d).host.lost = true ∧
      rdN (pageUpdate s p d) 0x2810 0x85 = (rdN s 0x2810 0x85 + 1) % 2 ^ 32 ∧ rdBit (pageUpdate s p d) 0x2810 0x80 8 = true := by
  have hlost : (shadowLost s).host = { s.host with lost := true } := by
    rw [shadowLost, irq_host, inc, wrN_host]
    rfl
  have hpage : pageOf (shadowLost s) p = pageOf s p := pageOf_of_host (congrArg HostPort.pages hlost :) p
  have hwritten : pageUpdate s p d = irq (setPage (shadowLost s) p { pageOf s p with shadow := some d }) 1 := by
    simp only [pageUpdate, hopen, hfull, if_true, hpage]
  have hcount : rdN (setPage (shadowLost s) p { pageOf s p with shadow := some d }) 0x2810 0x85 = (rdN s 0x2810 0x85 + 1) % 2 ^ 32 := by
    have hsource : rdN (shadowLost s) 0x2810 0x85 = rdN (inc (setHost s { s.host with lost := true }) 0x2810 0x85) 0x2810 0x85 :=
      rdN_wrN_sub _ _ _ (by decide)
    refine hsource.trans ?_
    rw [inc, rdN_wrN_width (n := 4) _ _ rfl]
    rfl
  rw [hwritten]
  refine ⟨?_, ?_, ?_, ?_⟩
  · rw [pageOf_of_host (congrArg HostPort.pages (irq_host ..)), pageOf_setPage_self]
  · rw [irq_host]
    exact (congrArg HostPort.lost hlost :)
  · rw [irq, wrBit, rdN_wrN_sub _ _ _ (by decide), hcount]
  · rw [rdBit_irqs _ (by decide)]
    have hirq : rdBit (shadowLost s) 0x2810 0x80 8 = true := by
      rw [shadowLost, rdBit_irqs _ (by decide)]
      rfl
    exact hirq

-- A page read alone (R330) --------------------------------------------------------------------------------------------------------------------------

/-- Page `p` and the answers stand. -/
def KeepsPage (p : Nat) (s t : State) : Prop := pageOf t p = pageOf s p ∧ t.answers = s.answers

theorem KeepsPage.refl (p : Nat) (s : State) : KeepsPage p s s := ⟨rfl, rfl⟩
theorem KeepsPage.trans {p : Nat} {s t u : State} (h : KeepsPage p s t) (k : KeepsPage p t u) : KeepsPage p s u := by
  obtain ⟨hpage, hanswers⟩ := h
  obtain ⟨kpage, kanswers⟩ := k
  exact ⟨kpage.trans hpage, kanswers.trans hanswers⟩
theorem keepsPage_setPage {p q : Nat} (h : q ≠ p) (s : State) (x : Page) : KeepsPage p s (setPage s q x) := ⟨pageOf_setPage_ne s q x h, rfl⟩
theorem keepsPage_shadowLost (p : Nat) (s : State) : KeepsPage p s (shadowLost s) := by
  refine ⟨pageOf_of_host ?_ p, ?_⟩
  · rw [shadowLost, irq_host, inc, wrN_host]
    rfl
  · rw [shadowLost, irq, wrBit, wrN_answers, inc, wrN_answers]
    rfl
theorem keepsPage_pageCounted {p q : Nat} (hp : 1 ≤ p) (h : q ≠ p) (s : State) : KeepsPage p s (pageCounted s q) := by
  have hcounted := keepsPage_setPage h s { pageOf s q with count := ((pageOf s q).count + 1) % 256 }
  have hzero : (0 : Nat) ≠ p := by omega
  unfold pageCounted
  simp only
  split
  · split
    · exact (hcounted.trans (keepsPage_shadowLost p _)).trans (keepsPage_setPage hzero ..)
    · exact hcounted.trans (keepsPage_setPage hzero ..)
  · exact hcounted

/-- The pages named are closed. -/
theorem pagesClosed_page (l : List (Nat × Page)) (s : State) (p : Nat) :
    pageOf (foldS s l fun s q => setPage s q.1 { pageOf s q.1 with isOpen := false }) p =
        (if p ∈ l.map Prod.fst then { pageOf s p with isOpen := false } else pageOf s p) ∧
      (foldS s l fun s q => setPage s q.1 { pageOf s q.1 with isOpen := false }).answers = s.answers := by
  induction l generalizing s with
  | nil => exact ⟨rfl, rfl⟩
  | cons q l ih =>
    obtain ⟨hpage, hanswers⟩ := ih (setPage s q.1 { pageOf s q.1 with isOpen := false })
    refine ⟨hpage.trans ?_, hanswers⟩
    by_cases hsame : q.1 = p
    · rw [← hsame, pageOf_setPage_self, if_pos (show q.1 ∈ (q :: l).map Prod.fst from List.mem_cons_self)]
      split <;> rfl
    · rw [pageOf_setPage_ne _ _ _ hsame]
      simp only [List.map_cons, List.mem_cons, Ne.symm hsame, false_or]

/-- The shadow of a page that was open becomes its data. -/
def shadowPromoted (s : State) (q : Nat × Page) : State :=
  match (pageOf s q.1).shadow with
  | some d =>
    let s := setPage s q.1 { pageOf s q.1 with data := d, shadow := none }
    if q.1 == 0 then s else pageCounted s q.1
  | none => s

theorem keepsPage_shadowPromoted {p : Nat} (hp : 1 ≤ p) {s : State} (hshadow : (pageOf s p).shadow = none) (q : Nat × Page) :
    KeepsPage p s (shadowPromoted s q) := by
  unfold shadowPromoted
  split
  · rename_i d hd
    have hother : q.1 ≠ p := fun hsame => by simp [hsame, hshadow] at hd
    simp only
    split
    · exact keepsPage_setPage hother ..
    · exact (keepsPage_setPage hother ..).trans (keepsPage_pageCounted hp hother _)
  · exact .refl p s

theorem keepsPage_shadowsPromoted {p : Nat} (hp : 1 ≤ p) (l : List (Nat × Page)) {s : State} (hshadow : (pageOf s p).shadow = none) :
    KeepsPage p s (foldS s l shadowPromoted) := by
  induction l generalizing s with
  | nil => exact .refl p s
  | cons q l ih =>
    have hone := keepsPage_shadowPromoted hp hshadow q
    exact hone.trans (ih (by rw [hone.left, hshadow]))

theorem Tab.mem_of_find {α : Type} {t : Tab α} {x : Nat} {v : α} (h : Tab.find t x = some v) : (x, v) ∈ t := by
  induction t with
  | nil => cases h
  | cons q t ih =>
    obtain ⟨k, w⟩ := q
    rw [Tab.find] at h
    split at h
    · rename_i hkey
      obtain rfl := beq_iff_eq.mp hkey
      cases h
      exact List.mem_cons_self
    · exact List.mem_cons_of_mem _ (ih h)

/-- A page's close, with the promotion of other pages' shadows. -/
theorem pagesClose_page {s : State} {p : Nat} (hp : 1 ≤ p) (hshadow : (pageOf s p).shadow = none) (hopen : (pageOf s p).isOpen = true) :
    pageOf (pagesClose s) p = { pageOf s p with isOpen := false } ∧ (pagesClose s).answers = s.answers := by
  have hlisted : p ∈ (s.host.pages.filter fun p => p.2.isOpen).map Prod.fst := by
    cases hfind : Tab.find s.host.pages p with
    | none =>
      rw [pageOf, Tab.get, hfind] at hopen
      exact absurd hopen (by decide)
    | some x =>
      have hx : pageOf s p = x := Tab.get_of_find hfind
      exact List.mem_map.mpr ⟨(p, x), List.mem_filter.mpr ⟨Tab.mem_of_find hfind, hx ▸ hopen⟩, rfl⟩
  obtain ⟨hpage, hanswers⟩ := pagesClosed_page (s.host.pages.filter fun p => p.2.isOpen) s p
  rw [if_pos hlisted] at hpage
  obtain ⟨kpage, kanswers⟩ := keepsPage_shadowsPromoted hp (s.host.pages.filter fun p => p.2.isOpen)
    (s := foldS s (s.host.pages.filter fun p => p.2.isOpen) fun s q => setPage s q.1 { pageOf s q.1 with isOpen := false })
    (by rw [hpage]; exact hshadow)
  exact ⟨kpage.trans hpage, kanswers.trans hanswers⟩

/-- An inline frame goes out with its CRC. -/
def framePut (s : State) (d : List Byte) : State :=
  { s with answers := Tab.put s.answers inlineKey { code := 0, data := d ++ leBytes 2 (crc16 d) } }

/-- A page read alone goes out with its CRC. -/
theorem piRead_alone {s : State} {p : Nat} (hbooted : booted s = true) (hp : 1 ≤ p) (hlast : p ≤ 63) (hlength : (pageOf s p).data.length = 64)
    (hshadow : (pageOf s p).shadow = none) :
    Tab.find (piRead s p 1 [] []).answers inlineKey = some { code := 0, data := (pageOf s p).data ++ leBytes 2 (crc16 (pageOf s p).data) } ∧
      pageOf (piRead s p 1 [] []) p = { pageOf s p with isOpen := false } := by
  let v := inc (lastResult s 1) 0x2810 0x81
  let data := (pageOf s p).data
  have hv : pageOf v p = pageOf s p := by
    refine pageOf_of_host ?_ p
    rw [show v.host = _ from wrN_host ..]
    rfl
  let w := setPage v p { pageOf v p with isOpen := true }
  have hopened : pageOpen v p = w := if_neg (by simp; omega)
  have hsent : ((pageOf w p).data ++ List.replicate 64 0#8).take 64 = data := by
    rw [pageOf_setPage_self, List.take_left' (by rw [hv, hlength])]
    exact (congrArg Page.data hv :)
  have hw : pageOf w p = { pageOf s p with isOpen := true } := by rw [pageOf_setPage_self, hv]
  have hread : piRead s p 1 [] [] = pagesClose (framePut w data) := by
    have hrange : (1 == 0 || decide (p + 1 > 64)) = false := by simp; omega
    simp only [piRead, hbooted, hrange, Bool.not_true, Bool.false_eq_true, if_false]
    change pagesClose (framePut (pageOpen v p) ([] ++ ((pageOf (pageOpen v p) p).data ++ List.replicate 64 0#8).take 64)) = _
    rw [hopened, hsent, List.nil_append]
  obtain ⟨hpage, hanswers⟩ := pagesClose_page (s := framePut w data) hp ((congrArg Page.shadow hw).trans hshadow) (congrArg Page.isOpen hw)
  rw [hread, hanswers, hpage]
  exact ⟨Tab.find_put_self .., (congrArg (fun x : Page => { x with isOpen := false }) hw :)⟩

/-- Settles O53. -/
theorem hostTransactionsAndPages : Obligations.HostTransactionsAndPages := by
  unfold Obligations.HostTransactionsAndPages
  refine ⟨fun s m h => ?nop, fun s m hphase => ?silent, fun s m tag x ok d h _ hx hresp => ?fetched, fun s m tag x h hx hresp => ?released,
    fun s m tag x h hx hresp => ?waits, fun s m mask h => ?acknowledged, fun s m result tag halive hphase hbooted => ?unbooted,
    fun s m tag h => ?discarded, fun s p d rest halive hdue hp hlast hclosed hdirectory => ?closed,
    fun s p d rest halive hdue hopen hfull => ?opened, fun s m p h hp hlast hlength hshadow => ?read,
    fun s m first count updates ecc h hrange => ?range⟩
  case nop =>
    refine transaction_leaves h m (f := hostNop) ?_
    rw [hostNop, (booted_transacted s m).trans h.1.2]
    rfl
  case silent =>
    have hnone : transaction s m hostNop = s := if_pos hphase
    change done s (act s fun s => transaction s m hostNop) = _
    rw [act, hnone]
    split <;> rfl
  case fetched =>
    intro f v
    have hx' : Tab.find v.host.tags tag = some x := by rwa [frameTaken_host]
    exact transaction_leaves h m (f := fun s => hostInline s fun s => fetch s tag) ((hostInline_ready h m _).trans (fetch_ready hx' hresp))
  case released =>
    have hx' : Tab.find (frameTaken s m).host.tags tag = some x := by rwa [frameTaken_host]
    obtain ⟨hhost, hsource⟩ := countReady_source (setHost (frameTaken s m) { (frameTaken s m).host with tags := Tab.del (frameTaken s m).host.tags tag })
    refine ⟨_, transaction_leaves h m (f := fun s => hostInline s fun s => releaseTag s tag)
      ((hostInline_ready h m _).trans (releaseTag_ready hx' hresp)), ?_, ?_, ?_⟩
    · rw [settled_host, hhost, setHost_host, frameTaken_host]
    · rw [settled_host, hhost, setHost_host, frameTaken_host]
    · rw [rdBit, rdN_settled]
      refine hsource.trans ?_
      rw [setHost_host, frameTaken_host]
  case waits =>
    have hx' : Tab.find (frameTaken s m).host.tags tag = some x := by rwa [frameTaken_host]
    exact transaction_leaves h m (f := fun s => hostInline s fun s => releaseTag s tag)
      ((hostInline_ready h m _).trans (releaseTag_waits hx' hresp))
  case acknowledged =>
    have hsource {i : Nat} (hi : i < 16) : rdBit (settled s (ackIrq (frameTaken s m) mask)) 0x2810 0x80 i =
        (rdBit s 0x2810 0x80 i && !(decide (1 ≤ i ∧ i ≤ 10) && bit mask i)) := by
      rw [← rdBit_frameTaken s m, ← ackIrq_source (frameTaken s m) mask hi, rdBit, rdN_settled]
      rfl
    refine ⟨_, transaction_leaves h m (f := fun s => hostInline s fun s => ackIrq s mask) (hostInline_ready h m _), ?_, fun i hi hi' => ?_⟩
    · rw [hsource (by decide)]
      simp
    · rw [hsource (by omega), decide_eq_true ⟨hi, hi'⟩, Bool.true_and]
  case unbooted =>
    intro c hc
    have hbooted' : booted (transacted s m) = false := (booted_transacted s m).trans hbooted
    simp only [List.mem_cons, List.not_mem_nil, or_false] at hc
    obtain rfl | rfl := hc
    · refine (transaction_done halive hphase m hostNop).trans ?_
      rw [hostNop, hbooted', ← lastResult_transacted]
      rfl
    · refine (transaction_done halive hphase m fun s => hostBad s result tag).trans ?_
      rw [← lastResult_transacted]
      exact congrArg (fun t => Host.Outcome.next (settled s t)) (if_pos (by rw [hbooted']; rfl))
  case discarded =>
    have hbad (r : Nat) (h4 : r ≠ 4) (h5 : r ≠ 5) : hostBad (transacted s m) r tag = hostDiscard (transacted s m) r := by
      unfold hostBad
      refine (if_neg (by rw [(booted_transacted s m).trans h.1.2]; decide)).trans ?_
      split
      · contradiction
      · contradiction
      · rfl
    refine ⟨?_, ?_, ?_⟩
    · refine transaction_leaves h m (f := fun s => hostBad s 2 tag) ((hbad 2 (by decide) (by decide)).trans ?_)
      exact congrArg (inc · 0x2810 0x82) (lastResult_transacted ..)
    · refine transaction_leaves h m (f := fun s => hostBad s 3 tag) ((hbad 3 (by decide) (by decide)).trans ?_)
      exact congrArg (inc · 0x2810 0x83) (lastResult_transacted ..)
    · refine transaction_leaves h m (f := fun s => hostBad s 6 tag) ((hbad 6 (by decide) (by decide)).trans ?_)
      exact lastResult_transacted ..
  case closed =>
    obtain ⟨hpage, hrest, hsource⟩ := pageUpdate_closed (s := setHost s { s.host with pageDue := rest }) (d := d) hp hclosed hdirectory
    refine ⟨settled s (processPageUpdate s), ?_, ?_⟩
    · change done s (act s fun s => processPageUpdate s) = _
      rw [act_alive halive]
      rfl
    · rw [processPageUpdate, hdue]
      refine ⟨hpage, hrest, ?_⟩
      rw [rdBit, rdN_settled]
      exact hsource
  case opened =>
    obtain ⟨hpage, hlost, hcount, hsource⟩ := pageUpdate_open (s := setHost s { s.host with pageDue := rest }) (d := d) hopen hfull
    refine ⟨settled s (processPageUpdate s), ?_, ?_⟩
    · change done s (act s fun s => processPageUpdate s) = _
      rw [act_alive halive]
      rfl
    · rw [processPageUpdate, hdue]
      refine ⟨hpage, hlost, ?_, ?_⟩
      · rw [rdN_settled]
        exact hcount
      · rw [rdBit, rdN_settled]
        exact hsource
  case read =>
    have hpage : pageOf (transacted s m) p = pageOf s p := pageOf_of_host (congrArg HostPort.pages (transacted_host s m)) p
    rw [← hpage] at hlength hshadow
    obtain ⟨hframe, hclosed⟩ := piRead_alone ((booted_transacted s m).trans h.1.2) hp hlast hlength hshadow
    rw [hpage] at hframe hclosed
    exact ⟨_, transaction_ready h m fun s => piRead s p 1 [] [], hframe, hclosed⟩
  case range =>
    have hbad : (count == 0 || decide (first + count > 64)) = true := by simpa using hrange
    refine transaction_leaves h m (f := fun s => piRead s first count updates ecc) ?_
    rw [piRead, (booted_transacted s m).trans h.1.2, hbad]
    exact congrArg (inc · 0x2810 0x83) (lastResult_transacted ..)

end Sys2Proof.Machine
end

section
/-! SUPPORT. The witness (R349, R354, R356): its grants, its lines, the kill and the BEACON. -/
namespace Sys2Proof.Machine
open Sys2Proof Sys2Proof.OD

/-- A command that acts on a live device. -/
theorem reaches_act {s : State} {c : Instr} {f : State → State} {P : State → Prop} (halive : Alive s)
    (hexec : exec c s = done s (act s f)) (hP : P (settled s (f s))) : Reaches c s P := by
  refine ⟨_, hexec.trans ?_, hP⟩
  rw [act_alive halive]
  rfl

-- Orders (R347) ---------------------------------------------------------------------------------------------------------------------

/-- `t` is `s` but for the controllers, and the object 0x2500 stands: what a frame sent on CAN3 leaves. -/
theorem submitted_can3 (s : State) (id : Nat) (data : List Byte) : Submitted s (can3 s id data) := submitted_submit ..

theorem Submitted.dup_eq {s t : State} (h : Submitted s t) : t.dup = s.dup := by
  obtain ⟨⟨_, _, rfl⟩, -⟩ := h
  rfl

/-- The next GRANT of the witness. -/
def nextGrant (s : State) (u : Nat) (old : Option Nat) (kill : Bool) (off : Nat) : Grant :=
  { unit := u, num := (s.dup.wit.num + 1) % 256, epoch := (s.dup.wit.epoch + 1) % 65536, at_ := now10 s off, old := old, kill := kill }

/-- A GRANT stands at the witness as it goes out. -/
theorem grantTo_grants (s : State) (u : Nat) (old : Option Nat) (kill : Bool) (off : Nat) :
    (grantTo s u old kill off).dup = { s.dup with wit :=
      { s.dup.wit with num := (s.dup.wit.num + 1) % 256, grant := some (nextGrant s u old kill off) } } ∧
    ∀ j < 256, rdN (grantTo s u old kill off) 0x2500 j = rdN s 0x2500 j := by
  have hsent : Submitted (setWit (nextNum s).1 { (nextNum s).1.dup.wit with grant := some (nextGrant s u old kill off) })
    (grantTo s u old kill off) := submitted_can3 ..
  obtain ⟨-, hread⟩ := id hsent
  exact ⟨hsent.dup_eq, fun j hj => hread 0x2500 j (by decide) hj⟩

/-- A takeover is counted in 0x2500:93. -/
theorem takeover_counts (s : State) (u : Nat) (old : Option Nat) (off : Nat) :
    rdN (inc (grantTo s u old true off) 0x2500 0x93) 0x2500 0x93 = (rdN s 0x2500 0x93 + 1) % 2 ^ 32 := by
  obtain ⟨-, hread⟩ := grantTo_grants s u old true off
  rw [inc, rdN_wrN_width (n := 4) _ _ rfl, hread 0x93 (by decide)]
  rfl

theorem inc_dup (s : State) (i j : Nat) : (inc s i j).dup = s.dup := wrN_dup ..

theorem grantLapse_none {s : State} (h : s.dup.wit.grant = none) (off : Nat) : grantLapse s off = s := by rw [grantLapse, h]

-- Takeover, forced end and cold start (R349, R354, R356) ------------------------------------------------------------------------------

theorem unitFailed_grants {s : State} {u off : Nat} (hwitness : witness s = true) (hholder : u = holder s) (hunit : u ≤ 1)
    (hsilent : toggles s u off = false) (hfree : s.dup.wit.grant = none) (hqualifies : qualifies s (1 - u) off false = true) :
    unitFailed s u off = inc (grantTo (setWit s { s.dup.wit with swap := none }) (1 - u) (some u) true off) 0x2500 0x93 := by
  have hacts : (!witness s || decide (u > 1) || toggles s u off) = false := by simp [hwitness, hunit, hsilent]
  have hholds : (u != holder s) = false := bne_eq_false_iff_eq.mpr hholder
  simp only [unitFailed, hacts, grantLapse_none hfree, hholds, hfree, hqualifies, Option.isSome_none, Bool.not_true, Bool.false_and,
    Bool.or_false, Bool.false_eq_true, if_false]

theorem withdrawnTimeout_grants {s : State} {off v w e : Nat} (hwitness : witness s = true) (hswap : s.dup.wit.swap = some (v, w, some e))
    (hdue : e + 200 ≤ s.now) (hfree : s.dup.wit.grant = none) (htoggles : toggles s v off = true) (hfresh : fresh s v = true) :
    withdrawnTimeout s off = inc (grantTo s v (some (1 - v)) true off) 0x2500 0x93 := by
  have hacts : (!witness s || decide (s.now < e + msT 20) || s.dup.wit.grant.isSome || !toggles s v off || !fresh s v) = false := by
    have hlate : ¬ s.now < e + msT 20 := Nat.not_lt.mpr hdue
    simp [hwitness, hfree, htoggles, hfresh, hlate]
  simp only [withdrawnTimeout, hswap, hacts, Bool.false_eq_true, if_false]

theorem coldStart_grants {s : State} {off : Nat} (hwitness : witness s = true) (hnone : 1 < holder s) (hfree : s.dup.wit.grant = none)
    (hrole0 : (witUnit s 0).role = 1) (hrole1 : (witUnit s 1).role = 1) (hfresh0 : fresh s 0 = true) (hfresh1 : fresh s 1 = true)
    (hqualifies : qualifies s (rdN s 0x2500 0x22) off true = true) :
    coldStart s off = grantTo s (rdN s 0x2500 0x22) none false off := by
  have hholder : noHolder s off = true := by simp [noHolder, hnone]
  have hkill : (decide (holder s ≤ 1) && !toggles s (holder s) off) = false := by simp [hnone]
  simp only [coldStart, hwitness, hholder, grantLapse_none hfree, hfree, Option.isSome_none, Bool.not_true, Bool.or_self, Bool.false_eq_true,
    if_false, hkill, hfresh0, hfresh1, hrole0, hrole1, hqualifies, if_true, gt_iff_lt, hnone, Bool.false_and]
  rfl

-- The REPORT of a GRANT (R349) -----------------------------------------------------------------------------------------------------------

/-- The lines of the old holder break, its kill first counted (R339, R349). -/
theorem killUnit_keeps (s : State) (u : Nat) : (killUnit s u).dup.wit.ensign = s.dup.wit.ensign ∧
    (killUnit s u).dup.wit.kill = setBit s.dup.wit.kill u true ∧ rdN (killUnit s u) 0x2500 0x91 = (rdN s 0x2500 0x91 + 1) % 2 ^ 32 := by
  unfold killUnit
  extract_lets x ks counted wit marked
  have hcounted : counted.dup = (setWitUnit s u { x with kills := ks, killAt := some s.now }).dup := inc_dup ..
  have hcount : rdN counted 0x2500 0x91 = (rdN s 0x2500 0x91 + 1) % 2 ^ 32 := by
    simp only [counted]
    rw [inc, rdN_wrN_width (n := 4) _ _ rfl]
    rfl
  have hmarked : marked.dup.wit.ensign = s.dup.wit.ensign ∧ marked.dup.wit.kill = setBit s.dup.wit.kill u true := by
    simp only [marked, wit, setWit, hcounted]
    exact ⟨rfl, rfl⟩
  split
  · rw [wrBit, wrN_dup, rdN_wrN_sub _ _ _ (by decide)]
    exact ⟨hmarked.1, hmarked.2, hcount⟩
  · exact ⟨hmarked.1, hmarked.2, hcount⟩

/-- The lines once the old holder `o` has broken. -/
def lineBroken (s : State) (g : Grant) (o : Nat) : State :=
  if g.kill then killUnit (setWit s { s.dup.wit with ensign := setBit s.dup.wit.ensign o false }) o
  else setWit s { s.dup.wit with ensign := setBit s.dup.wit.ensign o false }

theorem lineBroken_keeps (s : State) (g : Grant) (o : Nat) : (lineBroken s g o).dup.wit.ensign = setBit s.dup.wit.ensign o false ∧
    (g.kill = true → bit (lineBroken s g o).dup.wit.kill o = true ∧
      rdN (lineBroken s g o) 0x2500 0x91 = (rdN s 0x2500 0x91 + 1) % 2 ^ 32) := by
  obtain ⟨hensign, hkill, hcount⟩ := killUnit_keeps (setWit s { s.dup.wit with ensign := setBit s.dup.wit.ensign o false }) o
  unfold lineBroken
  split
  · refine ⟨hensign, fun _ => ⟨?_, hcount⟩⟩
    rw [hkill, ← bit_mod (w := o + 1) (by omega)]
    exact bit_setBit_self _ (by omega)
  · rename_i hspares
    exact ⟨rfl, fun hkills => absurd hkills hspares⟩

theorem moveLines_eq {s : State} {g : Grant} {o : Nat} (hold : g.old = some o) : moveLines s g =
    let b := lineBroken s g o
    let w := { b.dup.wit with ensign := setBit b.dup.wit.ensign g.unit true, latch := true, grant := none, swap := none, epoch := g.epoch }
    wrN (wrN (setWit b w) 0x2500 0x90 g.unit) 0x2500 0x82 g.epoch := by
  rw [moveLines, hold]
  rfl

/-- An accepted GRANT moves the lines (R349). -/
theorem moveLines_moves {s : State} {g : Grant} {o : Nat} (hunit : g.unit < 2) (hold : g.old = some o) (hother : o = 1 - g.unit) :
    holder (moveLines s g) = g.unit ∧ epoch (moveLines s g) = g.epoch % 65536 ∧ (moveLines s g).dup.wit.grant = none ∧
      (moveLines s g).dup.wit.latch = true ∧ bit (moveLines s g).dup.wit.ensign g.unit = true ∧
      bit (moveLines s g).dup.wit.ensign o = false ∧
      (g.kill = true → bit (moveLines s g).dup.wit.kill o = true ∧ rdN (moveLines s g) 0x2500 0x91 = (rdN s 0x2500 0x91 + 1) % 2 ^ 32) := by
  obtain ⟨hensign, hkilled⟩ := lineBroken_keeps s g o
  have hmade (n : Nat) : bit (setBit n g.unit true) g.unit = true := by
    rw [← bit_mod (w := 1) (by omega)]
    exact bit_setBit_self _ (by omega)
  rw [moveLines_eq hold]
  simp only [holder, epoch, wrN_dup]
  refine ⟨?_, ?_, rfl, rfl, hmade _, ?_, fun hkill => ⟨(hkilled hkill).left, ?_⟩⟩
  · rw [rdN_wrN_sub _ _ _ (by decide), rdN_wrN_width (n := 1) _ _ rfl]
    omega
  · exact rdN_wrN_width (n := 2) _ _ rfl
  · change bit (setBit (lineBroken s g o).dup.wit.ensign g.unit true) o = false
    rw [hensign, bit_setBit_ne _ _ (by omega), bit_setBit_false]
  · rw [rdN_wrN_sub _ _ _ (by decide), rdN_wrN_sub _ _ _ (by decide)]
    exact (hkilled hkill).right

/-- A REPORT of the GRANT that waits (R349). -/
theorem witReport_granted {s : State} {r : Report} {off : Nat} {g : Grant} (hgrant : s.dup.wit.grant = some g) (hcmd : r.cmd = 1)
    (hru : r.unit = g.unit) (hunit : g.unit < 2) (hnum : r.num = g.num) :
    let t := setWitUnit s (r.unit % 2) { witUnit s (r.unit % 2) with role := r.role }
    witReport s r off = if r.result == 0 && decide (now10 s off ≤ g.at_ + 100) then moveLines t g
      else setWit t { t.dup.wit with grant := none } := by
  have hsame : (g.unit != r.unit % 2 || g.num != r.num) = false := by
    rw [hru, Nat.mod_eq_of_lt hunit, hnum]
    simp
  unfold witReport
  rw [hcmd]
  simp only
  rw [show (setWitUnit s (r.unit % 2) _).dup.wit.grant = some g from hgrant]
  simp only [hsame, Bool.false_eq_true, if_false]
  rfl

/-- Settles O57. -/
theorem witnessKeepsItsRules : Obligations.WitnessKeepsItsRules := by
  unfold Obligations.WitnessKeepsItsRules
  refine ⟨fun s u off halive hwitness hholder hunit hsilent hfree hqualifies => ?failed,
    fun s r off g o halive hwitness hgrant hcmd hru hunit hnum hold hother => ⟨fun hresult htime => ?moved, fun hresult => ?lapsed⟩,
    fun s u t₀ halive hwitness hunit hkilled hdue hlatch => ?held,
    fun s off v w e halive hwitness hswap hdue hfree htoggles hfresh => ?forced,
    fun s off halive hwitness hnone hfree _ hrole0 hrole1 hfresh0 hfresh1 hqualifies => ?cold,
    fun s off halive hwitness hdue => ?beacon⟩
  case failed =>
    have hgrants := unitFailed_grants hwitness hholder hunit hsilent hfree hqualifies
    obtain ⟨hdup, -⟩ := grantTo_grants (setWit s { s.dup.wit with swap := none }) (1 - u) (some u) true off
    refine reaches_act halive (f := (unitFailed · u off)) rfl ?_
    rw [rdN_settled, settled_dup, hgrants, takeover_counts, inc_dup, hdup]
    exact ⟨rfl, rfl, rfl, rfl⟩
  case moved =>
    refine reaches_act halive (f := (reportReceived · r off)) rfl ?_
    have hreport : reportReceived s r off = moveLines (setWitUnit s (r.unit % 2) { witUnit s (r.unit % 2) with role := r.role }) g := by
      rw [reportReceived, if_pos hwitness, witReport_granted hgrant hcmd hru hunit hnum]
      exact if_pos (by simpa using ⟨hresult, htime⟩)
    rw [hreport]
    simp only [holder, epoch, rdN_settled, settled_dup]
    exact moveLines_moves hunit hold hother
  case lapsed =>
    refine reaches_act halive (f := (reportReceived · r off)) rfl ?_
    have hreport : (reportReceived s r off).dup.wit = { s.dup.wit with
        units := Tab.put s.dup.wit.units (r.unit % 2) { witUnit s (r.unit % 2) with role := r.role }, grant := none } := by
      rw [reportReceived, if_pos hwitness, witReport_granted hgrant hcmd hru hunit hnum, if_neg (by simp [hresult])]
      rfl
    rw [settled_dup, hreport]
    exact ⟨rfl, rfl, rfl⟩
  case held =>
    refine reaches_act halive (f := (killHoldExpired · u)) rfl ?_
    have hends : (witness s && decide (u ≤ 1) && decide (t₀ + msT (rdN s 0x2500 0x21) ≤ s.now) && !killLatched s u) = true := by
      have hdue' : t₀ + msT (rdN s 0x2500 0x21) ≤ s.now := by rwa [msT, Nat.mul_comm]
      simp [hwitness, hunit, hlatch, hdue']
    rw [killHoldExpired, hkilled]
    simp only [hends, if_true, settled_dup, witUnit]
    refine ⟨bit_setBit_false .., ?_⟩
    simp only [setWit, setWitUnit, Tab.get, Tab.find_put_self, Option.getD_some]
  case forced =>
    have hgrants := withdrawnTimeout_grants hwitness hswap hdue hfree htoggles hfresh
    obtain ⟨hdup, -⟩ := grantTo_grants s v (some (1 - v)) true off
    refine reaches_act halive (f := (withdrawnTimeout · off)) rfl ?_
    rw [rdN_settled, settled_dup, hgrants, takeover_counts, inc_dup, hdup]
    exact ⟨rfl, rfl⟩
  case cold =>
    obtain ⟨hdup, -⟩ := grantTo_grants s (rdN s 0x2500 0x22) none false off
    refine reaches_act halive (f := (coldStart · off)) rfl ?_
    rw [settled_dup, coldStart_grants hwitness hnone hfree hrole0 hrole1 hfresh0 hfresh1 hqualifies, hdup]
    rfl
  case beacon =>
    refine reaches_act halive (f := (beaconSend · off)) rfl ?_
    have hsends : (!witness s || decide (s.now < s.dup.wit.sentAt + msT 10)) = false := by
      have hdue' : ¬ s.now < s.dup.wit.sentAt + msT 10 := Nat.not_lt.mpr hdue
      simp [hwitness, hdue']
    have hdup : (beaconSend s off).dup = { s.dup with wit := { s.dup.wit with ctr := (s.dup.wit.ctr + 1) % 256, sentAt := s.now } } := by
      simp only [beaconSend, hsends, Bool.false_eq_true, if_false]
      exact (submitted_can3 ..).dup_eq
    rw [settled_dup, hdup]
    exact ⟨rfl, rfl⟩

end Sys2Proof.Machine
end

section
/-! SUPPORT. The roles of the pair (R336, R345, R360): what a change of role leaves. -/
namespace Sys2Proof.Machine
open Sys2Proof Sys2Proof.OD

-- What a change of role leaves ---------------------------------------------------------------------------------------------------------

/-- The sub-indices that a change of role writes beside the role itself: the power state, the CAN controllers, and the objects of the
units from the field ports on. -/
def roleKey (k : Nat) : Bool := k == key 0x2100 0x80 || within (k / 256) 0x2800 0x2803 || decide (0x3000 ≤ k / 256)

/-- `t` is `s` but for the trace, the position channels, the CAN controllers, the loops and the sub-indices of these. -/
def RoleMoved (s t : State) : Prop :=
  (∃ d tr ps cs ls, t = { s with dict := d, trace := tr, pos := ps, cans := cs, loops := ls }) ∧ Writes roleKey s t

namespace RoleMoved
variable {s t u : State}

theorem refl (s : State) : RoleMoved s s := ⟨⟨s.dict, s.trace, s.pos, s.cans, s.loops, rfl⟩, .refl _ s⟩
theorem trans (h : RoleMoved s t) (k : RoleMoved t u) : RoleMoved s u := by
  obtain ⟨⟨_, _, _, _, _, rfl⟩, hdict⟩ := h
  obtain ⟨⟨_, _, _, _, _, rfl⟩, kdict⟩ := k
  exact ⟨⟨_, _, _, _, _, rfl⟩, hdict.trans kdict⟩
theorem wrN {i j v : Nat} (hk : roleKey (key i j) = true) (h : RoleMoved s t) : RoleMoved s (wrN t i j v) := by
  obtain ⟨d, hd⟩ := wrN_eq t i j v
  exact h.trans ⟨⟨d, t.trace, t.pos, t.cans, t.loops, hd⟩, .wrN hk (.refl _ t)⟩
theorem foldS {α : Type} {f : State → α → State} {l : List α} (hf : ∀ t, ∀ a ∈ l, RoleMoved t (f t a)) (h : RoleMoved s t) :
    RoleMoved s (foldS t l f) := by
  induction l generalizing t with
  | nil => exact h
  | cons a l ih => exact ih (fun t b hb => hf t b (by simp [hb])) (h.trans (hf t a (by simp)))
theorem setPos {c : Nat} {p : Pos} (h : RoleMoved s t) : RoleMoved s (setPos t c p) :=
  h.trans ⟨⟨t.dict, t.trace, _, t.cans, t.loops, rfl⟩, .of_dict rfl⟩
theorem setCan {x : Nat} {c : Can} (h : RoleMoved s t) : RoleMoved s (setCan t x c) :=
  h.trans ⟨⟨t.dict, t.trace, t.pos, _, t.loops, rfl⟩, .of_dict rfl⟩
theorem setLoop {n : Nat} {l : Loop} (h : RoleMoved s t) : RoleMoved s (setLoop t n l) :=
  h.trans ⟨⟨t.dict, t.trace, t.pos, t.cans, _, rfl⟩, .of_dict rfl⟩

theorem unitKey {i j : Nat} (hi : 0x3000 ≤ i) (hj : j < 256) : roleKey (key i j) = true := by
  have hobject : (i * 256 + j) / 256 = i := by omega
  simp [roleKey, key, hobject, hi]
theorem canKey {x j : Nat} (hx : x < 4) (hj : j < 256) : roleKey (key (canObj x) j) = true := by
  have hobject : (canObj x * 256 + j) / 256 = canObj x := by omega
  have hwithin : within (canObj x) 0x2800 0x2803 = true := within_iff.mpr (by unfold canObj; omega)
  simp [roleKey, key, hobject, hwithin]

theorem traceClear (h : RoleMoved s t) : RoleMoved s (traceClear t) := by
  have hcleared : RoleMoved s { t with trace := { cmds := t.trace.cmds } } :=
    h.trans ⟨⟨t.dict, _, t.pos, t.cans, t.loops, rfl⟩, .of_dict rfl⟩
  refine .foldS (fun u j hj => .wrN (unitKey (by decide) ?_) (.refl u)) hcleared
  simp only [List.mem_cons, List.not_mem_nil, or_false] at hj
  omega
theorem armList {c : Nat} {on : Bool} (h : RoleMoved s t) : RoleMoved s (armList t c on) :=
  .wrN (unitKey (by unfold cmpObj; omega) (by decide)) (.wrN (unitKey (by unfold cmpObj; omega) (by decide)) h)
theorem posRestart {c : Nat} (h : RoleMoved s t) : RoleMoved s (posRestart t c) := by
  have hobject : 0x3000 ≤ pcObj c := by unfold pcObj; omega
  exact .armList (.wrN (unitKey hobject (by decide)) (.wrN (unitKey hobject (by decide)) (.wrN (unitKey hobject (by decide)) (.setPos h))))
theorem posStop (h : RoleMoved s t) : RoleMoved s (posStop t) := .foldS (fun u _ _ => .posRestart (.setPos (.refl u))) h
theorem loopsSuspend {doze : Bool} (h : RoleMoved s t) : RoleMoved s (loopsSuspend t doze) := by
  have hobject (n : Nat) : 0x3000 ≤ lpObj n := by unfold lpObj; omega
  refine .foldS (fun u n _ => ?_) h
  simp only
  split
  · exact .setLoop (.wrN (unitKey (hobject n) (by decide)) (.refl u))
  · split
    · exact .wrN (unitKey (hobject n) (by decide)) (.refl u)
    · exact .refl u
theorem modesDue (h : RoleMoved s t) : RoleMoved s (modesDue t) := by
  refine .foldS (fun u x _ => ?_) h
  split
  · exact .setCan (.refl u)
  · exact .refl u
theorem submit {x : Nat} {f : Frame} {pdo : Bool} (hx : x < 4) (h : RoleMoved s t) : RoleMoved s (submit t x f pdo) := by
  have hqueued {u : State} (hu : RoleMoved s u) (c : Can) : RoleMoved s (fillTx (Machine.setCan u x c) x) :=
    .wrN (canKey hx (by decide)) (.setCan hu)
  have hdiscards {u : State} (hu : RoleMoved s u) : RoleMoved s (inc u (canObj x) 0x8B) := .wrN (canKey hx (by decide)) hu
  unfold Machine.submit
  simp only
  generalize (if rdF t (canObj x) 9 then f else { f with fd := false, brs := false, esi := false }) = g
  generalize (if (can t x).held.isSome then 1 else 0) = heldFrames
  split
  · exact h
  · split
    · exact hdiscards h
    · split
      · exact hqueued h _
      · split
        · exact .wrN (canKey hx (by decide)) (hdiscards (.setCan h))
        · exact hdiscards h
theorem report {cmd result num val : Nat} (h : RoleMoved s t) : RoleMoved s (report t cmd result num val) := .submit (by decide) h
theorem answerOrder {cmd result num : Nat} (h : RoleMoved s t) : RoleMoved s (answerOrder t cmd result num) := .report h

theorem dup_eq (h : RoleMoved s t) : t.dup = s.dup := by
  obtain ⟨⟨_, _, _, _, _, rfl⟩, -⟩ := h
  rfl
theorem net_eq (h : RoleMoved s t) : t.net = s.net := by
  obtain ⟨⟨_, _, _, _, _, rfl⟩, -⟩ := h
  rfl
theorem ensign_eq (h : RoleMoved s t) : t.ensign = s.ensign := by
  obtain ⟨⟨_, _, _, _, _, rfl⟩, -⟩ := h
  rfl
/-- The object of the pair stands. -/
theorem rdN_pair (h : RoleMoved s t) {j : Nat} (hj : j < 256) : rdN t 0x2500 j = rdN s 0x2500 j := by
  have hobject : (0x2500 * 256 + j) / 256 = 0x2500 := by omega
  refine h.2.rdN_eq ?_
  simp [roleKey, key, hobject, within]
  omega
theorem role_eq (h : RoleMoved s t) : role t = role s := h.rdN_pair (by decide)

end RoleMoved

-- The roles (R336) ------------------------------------------------------------------------------------------------------------------------

/-- The role changes: beside 0x2500:81, no more than `RoleMoved` says. -/
theorem setRole_moved {s : State} {r : Nat} (hother : role s ≠ r) : RoleMoved (wrN s 0x2500 0x81 r) (setRole s r) := by
  have hpower {u : State} (v : Nat) : RoleMoved u (wrN u 0x2100 0x80 v) := .wrN rfl (.refl u)
  have hsame : (role s == r) = false := beq_eq_false_iff_ne.mpr hother
  simp only [setRole, hsame, Bool.false_eq_true, if_false]
  refine .report (.modesDue ?_)
  split_ifs
  · exact .traceClear (.posStop (hpower 2))
  · exact hpower 0
  · exact .loopsSuspend (hpower 0)
  · exact .refl _

theorem role_setRole (s : State) {r : Nat} (hr : r < 256) : role (setRole s r) = r := by
  by_cases hsame : role s = r
  · rw [setRole, if_pos (beq_iff_eq.mpr hsame), hsame]
  · rw [(setRole_moved hsame).role_eq, role, rdN_wrN_width (n := 1) _ _ rfl]
    omega

/-- Whether the role changes or stands, its sub-index is the only one of 0x2500 that does. -/
theorem setRole_cases (s : State) (r : Nat) : setRole s r = s ∨ RoleMoved (wrN s 0x2500 0x81 r) (setRole s r) := by
  by_cases hsame : role s = r
  · exact .inl (if_pos (beq_iff_eq.mpr hsame))
  · exact .inr (setRole_moved hsame)

theorem setRole_dup (s : State) (r : Nat) : (setRole s r).dup = s.dup := by
  obtain h | h := setRole_cases s r
  · rw [h]
  · rw [h.dup_eq, wrN_dup]
theorem setRole_ensign (s : State) (r : Nat) : (setRole s r).ensign = s.ensign := by
  obtain h | h := setRole_cases s r
  · rw [h]
  · rw [h.ensign_eq, wrN_ensign]
theorem rdN_setRole (s : State) (r : Nat) {j : Nat} (hj : j < 256) (hother : j ≠ 0x81) : rdN (setRole s r) 0x2500 j = rdN s 0x2500 j := by
  obtain h | h := setRole_cases s r
  · rw [h]
  · rw [h.rdN_pair hj, rdN_wrN_sub _ _ _ (Ne.symm hother)]

end Sys2Proof.Machine
end

section
/-! SUPPORT. What the rest of the device leaves of the pair (R334 to R360): the shared operations, by rule. -/
namespace Sys2Proof.Machine
open Sys2Proof Sys2Proof.OD

/-- The parts of the state in which two states agree that differ in nothing the pair reads. -/
def pairParts (s : State) := (s.dup, s.net.reqs, s.net.xfers, s.ensign, s.ensignIn, s.now, s.tick, s.counting, s.conds, s.emcyQ, s.dict)

/-- The pair's own part, the transfers, the ensign and the time stand, and the object of the pair but for the sub-indices in `L`; the conditions
that hold go on, the EMCYs that wait and IRQ source 5 stay. -/
structure Held (L : List Nat) (s t : State) : Prop where
  dup : t.dup = s.dup
  net : t.net.reqs = s.net.reqs ∧ t.net.xfers = s.net.xfers
  ensign : t.ensign = s.ensign ∧ t.ensignIn = s.ensignIn
  time : t.now = s.now ∧ t.tick = s.tick ∧ t.counting = s.counting
  conds : ∀ c ∈ s.conds, c ∈ t.conds
  emcys : ∀ e ∈ s.emcyQ, e ∈ t.emcyQ
  source : rdBit s 0x2810 0x80 5 = true → rdBit t 0x2810 0x80 5 = true
  pair : ∀ j < 256, j ∉ L → rdN t 0x2500 j = rdN s 0x2500 j

namespace Held
variable {L : List Nat} {s t u : State}

-- The relation ------------------------------------------------------------------------------------------------------------

theorem refl (L : List Nat) (s : State) : Held L s s :=
  ⟨rfl, ⟨rfl, rfl⟩, ⟨rfl, rfl⟩, ⟨rfl, rfl, rfl⟩, fun _ h => h, fun _ h => h, id, fun _ _ _ => rfl⟩
theorem trans (h : Held L s t) (k : Held L t u) : Held L s u where
  dup := k.dup.trans h.dup
  net := ⟨k.net.1.trans h.net.1, k.net.2.trans h.net.2⟩
  ensign := ⟨k.ensign.1.trans h.ensign.1, k.ensign.2.trans h.ensign.2⟩
  time := ⟨k.time.1.trans h.time.1, k.time.2.1.trans h.time.2.1, k.time.2.2.trans h.time.2.2⟩
  conds c hc := k.conds c (h.conds c hc)
  emcys e he := k.emcys e (h.emcys e he)
  source hs := k.source (h.source hs)
  pair j hj hL := (k.pair j hj hL).trans (h.pair j hj hL)
theorem widen (h : Held [] s t) : Held L s t := { h with pair := fun j hj _ => h.pair j hj List.not_mem_nil }
/-- A change of parts that the pair does not read. -/
theorem beside (h : Held L s t) (hu : pairParts u = pairParts t) : Held L s u := by
  simp only [pairParts, Prod.mk.injEq] at hu
  obtain ⟨hdup, hreqs, hxfers, hensign, hin, hnow, htick, hcounting, hconds, hemcys, hdict⟩ := hu
  have hread (i j : Nat) : rdN u i j = rdN t i j := by rw [rdN, rdN, rdB, rdB, hdict]
  refine h.trans ⟨hdup, ⟨hreqs, hxfers⟩, ⟨hensign, hin⟩, ⟨hnow, htick, hcounting⟩, fun c hc => hconds ▸ hc,
    fun e he => hemcys ▸ he, fun hs => ?_,
    fun j _ _ => hread _ j⟩
  rwa [rdBit, hread]
/-- A change of the dictionary that leaves source 5 and the object of the pair. -/
theorem dict {d : Tab (List Byte)} (h : Held L s t)
    (hsource : rdBit t 0x2810 0x80 5 = true → rdBit { t with dict := d } 0x2810 0x80 5 = true)
    (hpair : ∀ j < 256, j ∉ L → rdN { t with dict := d } 0x2500 j = rdN t 0x2500 j) : Held L s { t with dict := d } :=
  h.trans ⟨rfl, ⟨rfl, rfl⟩, ⟨rfl, rfl⟩, ⟨rfl, rfl, rfl⟩, fun _ hc => hc, fun _ he => he, hsource, hpair⟩
theorem foldS {α : Type} {f : State → α → State} {l : List α} (hf : ∀ t, ∀ a ∈ l, Held L t (f t a)) (h : Held L s t) :
    Held L s (foldS t l f) := by
  induction l generalizing t with
  | nil => exact h
  | cons a l ih => exact ih (fun t b hb => hf t b (by simp [hb])) (h.trans (hf t a (by simp)))

-- Values ------------------------------------------------------------------------------------------------------------------

theorem written {i j v : Nat} (h : Held L s t)
    (hsource : rdBit t 0x2810 0x80 5 = true → rdBit (Machine.wrN t i j v) 0x2810 0x80 5 = true)
    (hpair : ∀ k < 256, k ∉ L → rdN (Machine.wrN t i j v) 0x2500 k = rdN t 0x2500 k) : Held L s (Machine.wrN t i j v) := by
  obtain ⟨d, hd⟩ := wrN_eq t i j v
  rw [hd] at hsource hpair ⊢
  exact h.dict hsource hpair
theorem wrN_of {i j v : Nat} (hsource : key i j ≠ key 0x2810 0x80) (hpair : ∀ k < 256, k ∉ L → key i j ≠ key 0x2500 k)
    (h : Held L s t) : Held L s (wrN t i j v) :=
  h.written (fun hs => by rwa [rdBit, rdN_wrN_ne _ _ hsource]) fun k hk hL => rdN_wrN_ne _ _ (hpair k hk hL)
/-- A value of another object than 0x2500. -/
theorem wrN {i j v : Nat} (hi : i ≠ 0x2500) (hj : j < 256) (hsource : key i j ≠ key 0x2810 0x80) (h : Held L s t) :
    Held L s (wrN t i j v) := by
  refine h.wrN_of hsource fun k hk _ hkey => hi ?_
  exact ((key_inj hj hk).mp hkey).left
/-- A value of another object than 0x2500 and 0x2810. -/
theorem wrOther {i j v : Nat} (hi : i ≠ 0x2500 ∧ i ≠ 0x2810) (hj : j < 256) (h : Held L s t) : Held L s (Machine.wrN t i j v) :=
  h.wrN hi.1 hj fun hkey => hi.2 ((key_inj hj (by decide)).mp hkey).left
/-- A value of 0x2500 that may change. -/
theorem wrPair {j v : Nat} (hj : j < 256) (hL : j ∈ L) (h : Held L s t) : Held L s (Machine.wrN t 0x2500 j v) := by
  refine h.wrN_of ?_ fun k hk hkL hkey => ?_
  · rw [ne_eq, key_inj hj (by decide)]
    omega
  · obtain ⟨-, rfl⟩ := (key_inj hj hk).mp hkey
    exact hkL hL
/-- IRQ source 5 stays under a write of a bit that leaves it. -/
theorem wrSource {n : Nat} {b : Bool} (hb : n = 5 → b = true) (h : Held L s t) : Held L s (wrBit t 0x2810 0x80 n b) := by
  refine h.written (fun hs => ?_) fun k hk _ => rdN_wrN_object _ (by decide) (by decide) hk _
  change rdBit (wrBit t 0x2810 0x80 n b) 0x2810 0x80 5 = true
  rw [rdBit_wrBit t b (r := rowOf 0x2810 0x80 |>.get rfl) rfl (by decide)]
  split
  · rename_i hn
    exact hb hn.symm
  · exact hs
theorem irq {n : Nat} (h : Held L s t) : Held L s (irq t n) := h.wrSource fun _ => rfl
theorem wrI {i j : Nat} {v : Int} (hi : i ≠ 0x2500 ∧ i ≠ 0x2810) (hj : j < 256) (h : Held L s t) : Held L s (wrI t i j v) := by
  have hne {i' j' : Nat} (hi' : i ≠ i') (hj' : j' < 256) : key i' j' ≠ key i j := fun hkey =>
    hi' ((key_inj hj' hj).mp hkey).left.symm
  have hread (d : List Byte) {i' j' : Nat} (hi' : i ≠ i') (hj' : j' < 256) : rdN (wrB t i j d) i' j' = rdN t i' j' :=
    (Writes.wrB (W := (· == key i j)) (beq_self_eq_true _) (.refl _ t)).rdN_eq (beq_eq_false_iff_ne.mpr (hne hi' hj'))
  unfold Machine.wrI
  split
  · rename_i r _
    exact h.dict (fun hs => (congrArg (bit · 5) (hread _ hi.2 (by decide))).trans hs) fun k hk _ => hread _ hi.1 hk
  · exact h

-- Reports -----------------------------------------------------------------------------------------------------------------

theorem logAdd {code loc qual data : Nat} (h : Held L s t) : Held L s (logAdd t code loc qual data) := by
  have hentered {r : State} {l : List LogEntry} {n : Nat} (hr : Held L s r) :
      Held L s (Machine.wrBit (Machine.wrN { r with log := l } 0x2710 0x80 n) 0x2810 0x80 2 true) :=
    irq (n := 2) (wrOther (by decide) (by decide) (hr.beside rfl))
  unfold Machine.logAdd
  simp only
  split
  · exact hentered (wrOther (i := 0x2710) (j := 0x82) (by decide) (by decide) h)
  · exact hentered h
theorem emcy {e : Emcy} (h : Held L s t) : Held L s (emcy t e) := by
  unfold Machine.emcy
  split
  · exact wrOther (i := 0x1FF0) (j := 0x83) (by decide) (by decide) h
  · exact h.trans ⟨rfl, ⟨rfl, rfl⟩, ⟨rfl, rfl⟩, ⟨rfl, rfl, rfl⟩, fun _ hc => hc, fun _ he => List.mem_append_left _ he, id,
      fun _ _ _ => rfl⟩
theorem announce {p loc src : Nat} (h : Held L s t) : Held L s (announce t p loc src) := by
  unfold Machine.announce
  split
  · exact h
  · exact emcy (wrOther (i := 0x1001) (j := 0) (by decide) (by decide) (h.beside rfl))
theorem pennantWord {b p v : Nat} (hb : b ≤ 0x80) (hp : p < 128) (h : Held L s t) : Held L s (Machine.wrN t 0x2700 (b + p / 32) v) :=
  wrOther (by decide) (by omega) h
theorem raiseBit {p : Nat} (hp : p < 128) (h : Held L s t) : Held L s (raiseBit t p) :=
  irq (beside (wrOther (i := 0x2700) (j := 0x84) (by decide) (by decide) (pennantWord (b := 1) (by decide) hp h)) rfl)
theorem eventWith {p loc code data src : Nat} (hp : p < 128) (h : Held L s t) : Held L s (eventWith t p loc code data src) := by
  have hentered : Held L s (Machine.logAdd (Machine.raiseBit t p) code loc p data) := logAdd (raiseBit hp h)
  unfold Machine.eventWith
  split
  · exact h
  · simp only
    split
    · exact announce hentered
    · exact hentered
theorem condStart {p c loc src : Nat} (hp : p < 128) (h : Held L s t) : Held L s (condStart t p c loc src) := by
  have hheld : Held L s { t with conds := (p, c) :: t.conds } := h.trans
    ⟨rfl, ⟨rfl, rfl⟩, ⟨rfl, rfl⟩, ⟨rfl, rfl, rfl⟩, fun _ hx => List.mem_cons_of_mem _ hx, fun _ he => he, id, fun _ _ _ => rfl⟩
  unfold Machine.condStart
  split
  · exact h
  · split
    · exact h
    · simp only
      split
      · exact announce (logAdd (raiseBit hp (pennantWord (b := 0x80) (by decide) hp hheld)))
      · exact hheld

-- Work items and answers --------------------------------------------------------------------------------------------------

theorem itemSet {i : Nat} {f : WorkItem → WorkItem} (h : Held L s t) : Held L s (itemSet t i f) := by
  unfold Machine.itemSet
  split
  · exact h.beside rfl
  · exact h
theorem itemDone {i : Nat} (h : Held L s t) : Held L s (itemDone t i) := by
  unfold Machine.itemDone
  split
  · split
    · simp only
      split
      · exact irq (itemSet h)
      · exact itemSet h
    · exact h
  · exact h
theorem itemFail {i reason code : Nat} (h : Held L s t) : Held L s (itemFail t i reason code) := by
  unfold Machine.itemFail
  split
  · split
    · exact irq (logAdd (itemSet h))
    · exact h
  · exact h
theorem newItem {kind origin idx sub : Nat} (h : Held L s t) : Held L s (newItem t kind origin idx sub).1 := by
  unfold Machine.newItem
  split
  · exact h
  · exact h.beside rfl
theorem waited (h : Held L s t) : Held L s (waited t) := wrOther (i := 0x2700) (j := 0x85) (by decide) (by decide) h
theorem answer {client code : Nat} {data : List Byte} (h : Held L s t) : Held L s (answer t client code data) := by
  unfold Machine.answer
  split
  · exact h
  · exact h.beside rfl
theorem hostReady {tag : Nat} {ok : Bool} {data : List Byte} (h : Held L s t) : Held L s (hostReady t tag ok data) := by
  unfold Machine.hostReady
  exact wrSource (fun hn => absurd hn (by decide)) (wrN (by decide) (by decide) (by decide) (h.beside rfl))
theorem later {client idx code : Nat} {data : List Byte} (h : Held L s t) : Held L s (later t client idx code data) := by
  have hanswer : Held L s (Machine.answer t client code data) := h.answer
  unfold Machine.later
  simp only
  split
  · exact hanswer
  · rename_i w _
    have hitem : Held L s (itemAnswered
        { Machine.answer t client code data with waiting := (Machine.answer t client code data).waiting.filter (· != w) } w.item code) := by
      unfold itemAnswered
      split
      · split
        · exact itemDone (hanswer.beside rfl)
        · exact itemFail (hanswer.beside rfl)
      · exact hanswer.beside rfl
    split
    · exact hostReady hitem
    · exact hitem
theorem roleMoved (h : Held L s t) (hu : RoleMoved t u) : Held L s u := by
  obtain ⟨⟨d, tr, ps, cs, ls, rfl⟩, hdict⟩ := id hu
  have hparts : Held L s { t with trace := tr, pos := ps, cans := cs, loops := ls } := h.beside rfl
  refine hparts.dict (fun hs => ?_) fun j hj _ => hu.rdN_pair hj
  exact (hdict.rdBit_eq (by decide) 5).trans hs
theorem submit {x : Nat} {f : Frame} {pdo : Bool} (hx : x < 4) (h : Held L s t) : Held L s (submit t x f pdo) :=
  h.roleMoved (.submit hx (.refl t))
theorem modesDue (h : Held L s t) : Held L s (modesDue t) := h.roleMoved (.modesDue (.refl t))
theorem report {cmd result num val : Nat} (h : Held L s t) : Held L s (report t cmd result num val) := h.roleMoved (.report (.refl t))

end Held
end Sys2Proof.Machine
end

section
/-! SUPPORT. The planned swap (R353) and the commands of 0x2500:10 (R360). -/
namespace Sys2Proof.Machine
open Sys2Proof Sys2Proof.OD

-- The units wake (R351) -----------------------------------------------------------------------------------------------------------------

/-- A standby that arms: its role, and nothing more of the pair. -/
theorem wakeUnits_held (s : State) : Held [] (setDup (setRole s 4) { (setRole s 4).dup with loaded := false }) (wakeUnits s) := by
  unfold wakeUnits
  extract_lets d r m v e w
  have hw : Held [] (setDup r { r.dup with loaded := false }) w := (Held.refl _ _).beside rfl
  clear_value w
  split
  · exact hw
  · refine .foldS (fun t p _ => .wrOther ?_ (by decide) (.refl _ t)) (.foldS (fun t p _ => ?_) hw)
    · unfold pcObj
      omega
    · split
      · exact (Held.refl _ t).beside rfl
      · exact .refl _ t

theorem wakeUnits_role (s : State) : role (wakeUnits s) = 4 := by
  rw [role, (wakeUnits_held s).pair _ (by decide) (by decide)]
  exact role_setRole s (by decide)
theorem wakeUnits_dup (s : State) : (wakeUnits s).dup = { s.dup with loaded := false } := by
  rw [(wakeUnits_held s).dup, setRole_dup]
  rfl
theorem wakeUnits_ensign (s : State) : (wakeUnits s).ensign = s.ensign := (wakeUnits_held s).ensign.1.trans (setRole_ensign s 4)

-- The orders of a swap (R353) -------------------------------------------------------------------------------------------------------------

/-- The holder takes a SWAP order: the plan, role 6, the REPORT. -/
theorem orderSwap_holder {s : State} {unit num w off : Nat} (hpair : inPair s = true) (hunit : unit ≠ unitNo s) (hensign : s.ensign = true)
    (hrole : role s = 5) (hready : rdN s 0x2500 0x83 = 3) :
    let h := (tickAt s (stamp s off) + 10 + 9) / 10 * 10
    role (orderSwap s unit num w off false) = 6 ∧
      (orderSwap s unit num w off false).dup.swap = some { unit := unit, h := h, hp := h + 100, e := h + 100 + w } := by
  intro h
  let t := setDup s { s.dup with swap := some { unit := unit, h := h, hp := h + 100, e := h + 100 + w } }
  have horder : orderSwap s unit num w off false = report (setRole t 6) 3 0 num ((h + 100) % 65536) := by
    have hother : (unit == unitNo s) = false := beq_eq_false_iff_ne.mpr hunit
    simp only [orderSwap, hpair, hother, hensign, hrole, hready]
    rfl
  have hreport : RoleMoved (setRole t 6) (orderSwap s unit num w off false) := horder ▸ .report (.refl _)
  rw [hreport.role_eq, hreport.dup_eq, setRole_dup]
  exact ⟨role_setRole t (by decide), rfl⟩

theorem orderSwap_refused {s : State} {unit num w off : Nat} {urgent : Bool} (hpair : inPair s = true) (hunit : unit ≠ unitNo s)
    (hrefused : s.ensign = false ∨ role s = 6 ∨ rdN s 0x2500 0x83 ≠ 3) :
    orderSwap s unit num w off urgent = answerOrder s 3 (if s.ensign = false then 3 else if role s = 6 then 4 else 1) num := by
  have hother : (unit == unitNo s) = false := beq_eq_false_iff_ne.mpr hunit
  cases hensign : s.ensign with
  | false => simp [orderSwap, hpair, hother, hensign]
  | true =>
    by_cases hrole : role s = 6
    · simp [orderSwap, hpair, hother, hensign, hrole]
    · have hpartner : rdN s 0x2500 0x83 ≠ 3 := by simpa [hensign, hrole] using hrefused
      simp [orderSwap, hpair, hother, hensign, hrole, hpartner]

theorem orderSwap_named {s : State} {num w off : Nat} (hpair : inPair s = true) (hrole : role s = 3) :
    role (orderSwap s (unitNo s) num w off false) = 4 ∧
      (orderSwap s (unitNo s) num w off false).dup.swap = some { unit := unitNo s, h := 0, hp := 0, e := w } := by
  have horder : orderSwap s (unitNo s) num w off false =
      setDup (wakeUnits s) { (wakeUnits s).dup with swap := some { unit := unitNo s, h := 0, hp := 0, e := w } } := by
    simp [orderSwap, hpair, hrole]
  rw [horder]
  exact ⟨wakeUnits_role s, rfl⟩

-- The window (R353) -------------------------------------------------------------------------------------------------------------------------

section
variable {s : State} {w : SwapPlan} (hpair : inPair s = true) (hswap : s.dup.swap = some w)
include hpair hswap

/-- At h' a unit that has the final hoist takes the modes of the window. -/
theorem swallowtailStart_holder (hstarted : w.started = false) (hplanned : w.hp ≠ 0) (hdue : w.hp ≤ s.tick + 1) (hrole : role s = 6)
    (hfinal : w.finalDone = true) :
    swallowtailStart s = modesDue (setDup s { s.dup with modes := [(1, 1)], swap := some { w with started := true } }) := by
  have hwaits : (!inPair s || w.started || w.hp == 0 || decide (s.tick + 1 < w.hp)) = false := by simp [hpair, hstarted, hplanned, hdue]
  simp only [swallowtailStart, hswap, hwaits, hrole, hfinal]
  rfl
theorem swallowtailStart_off (hstarted : w.started = false) (hplanned : w.hp ≠ 0) (hdue : w.hp ≤ s.tick + 1) (hrole : role s = 6)
    (hfinal : w.finalDone = false) : swallowtailStart s = setRole (setDup s { s.dup with swap := none, modes := [] }) 5 := by
  have hwaits : (!inPair s || w.started || w.hp == 0 || decide (s.tick + 1 < w.hp)) = false := by simp [hpair, hstarted, hplanned, hdue]
  have hrole' : role (setDup s { s.dup with swap := none, modes := [] }) = 6 := hrole
  simp only [swallowtailStart, hswap, hwaits, hrole, hfinal, swapOff, hrole']
  rfl
theorem swallowtailStart_incoming (hstarted : w.started = false) (hplanned : w.hp ≠ 0) (hdue : w.hp ≤ s.tick + 1) (hrole : role s = 4)
    (hfinal : w.finalDone = true) : swallowtailStart s = modesDue
      (setDup s { s.dup with modes := [(0, 1), (1, 0), (2, 1)], loaded := true, swap := some { w with started := true } }) := by
  have hwaits : (!inPair s || w.started || w.hp == 0 || decide (s.tick + 1 < w.hp)) = false := by simp [hpair, hstarted, hplanned, hdue]
  simp only [swallowtailStart, hswap, hwaits, hrole, hfinal]
  rfl

/-- At e the holder withdraws: its clients' items end. -/
theorem swallowtailEnd_holder (hstarted : w.started = true) (hwithdrawn : w.withdrawn = false) (hdue : w.e ≤ s.tick + 1)
    (hrole : role s = 6) : (swallowtailEnd s).dup.modes = [(0, 1), (1, 1), (2, 1)] ∧
      (swallowtailEnd s).dup.swap = some { w with withdrawn := true } ∧ (swallowtailEnd s).net.reqs = [] ∧
      (swallowtailEnd s).net.xfers = [] := by
  have hwaits : (!inPair s || !w.started || w.withdrawn || decide (s.tick + 1 < w.e)) = false := by simp [hpair, hstarted, hwithdrawn, hdue]
  unfold swallowtailEnd
  split
  case h_2 hnone => exact absurd (hswap.symm.trans hnone) (by simp)
  rename_i w' hw'
  obtain rfl : w = w' := Option.some.inj (hswap.symm.trans hw')
  rw [if_neg (Bool.eq_false_iff.mp hwaits), if_pos (beq_iff_eq.mpr hrole)]
  extract_lets d t u v x n y
  have ht : t.dup = { s.dup with modes := [(0, 1), (1, 1), (2, 1)], swap := some { w with withdrawn := true } } :=
    (RoleMoved.modesDue (.refl _)).dup_eq
  have hx : Held [] t x := by
    refine .foldS (fun r q _ => ?_) (.foldS (fun r _ _ => .itemFail (.refl _ r)) (.foldS (fun r _ _ => .itemFail (.refl _ r)) (.refl _ t)))
    split
    · exact .itemFail (.refl _ r)
    · exact .refl _ r
  clear_value x
  have hy : y.dup = t.dup := hx.dup
  have hreport : RoleMoved y (report y 0x11 0 0 (w.e % 65536)) := .report (.refl y)
  rw [hreport.dup_eq, hreport.net_eq, hy, ht]
  exact ⟨rfl, rfl, rfl, rfl⟩
theorem swallowtailEnd_incoming (hstarted : w.started = true) (hwithdrawn : w.withdrawn = false) (hdue : w.e ≤ s.tick + 1)
    (hrole : role s = 4) : swallowtailEnd s =
      modesDue (setDup s { s.dup with modes := [(0, 0), (1, 0), (2, 0)], swap := some { w with withdrawn := true } }) := by
  have hwaits : (!inPair s || !w.started || w.withdrawn || decide (s.tick + 1 < w.e)) = false := by simp [hpair, hstarted, hwithdrawn, hdue]
  simp only [swallowtailEnd, hswap, hwaits, hrole]
  rfl

end

-- The commands of 0x2500:10 (R360) ---------------------------------------------------------------------------------------------------------

theorem performAny_duplex {v : Nat} (hv : v < 256) (s : State) (client off : Nat) (item : Option Nat) :
    performAny s client 0x2500 0x10 (leBytes 1 v) off item = success (duplexCommand s v) client := by
  rw [performAny, if_neg (by decide), perform, leNat_leBytes, Nat.pow_one, Nat.mod_eq_of_lt hv]
  rfl

/-- An accepted command of the pair, which its partner is told. -/
theorem put_duplex {s : State} {client v : Nat} (off : Nat) (hv : v < 256) (h : Accepts s client 0x2500 0x10 (leBytes 1 v))
    (hwork : (duplexCommand { s with answers := Tab.del s.answers client } v).work = s.work) :
    put s client 0x2500 0x10 (leBytes 1 v) off =
      paired (success (duplexCommand { s with answers := Tab.del s.answers client } v) client) client 0x2500 0x10 (leBytes 1 v) :=
  put_succeeds h rfl rfl (by decide) (by decide) (performAny_duplex hv ..) hwork

theorem paired_duplex (t : State) (client : Nat) (data : List Byte) :
    paired t client 0x2500 0x10 data = mirrorPut t (.write 0x2500 0x10 data) := by
  have hpersistent : persistent 0x2500 0x10 = false := rfl
  have hstandby : standbyWrite t client 0x2500 0x10 = t := by simp [standbyWrite, hpersistent]
  rw [paired, hstandby]
  rfl

/-- What the partner is told waits in the mirror's queue, and counts in 0x2500:8E. -/
theorem mirrorPut_pair (t : State) (m : MirrorItem) : (∃ q a, (mirrorPut t m).dup = { t.dup with mirrorQ := q, mirrorAt := a }) ∧
    ∀ j < 256, j ≠ 0x8E → rdN (mirrorPut t m) 0x2500 j = rdN t 0x2500 j := by
  unfold mirrorPut
  split
  · exact ⟨⟨t.dup.mirrorQ, t.dup.mirrorAt, rfl⟩, fun _ _ _ => rfl⟩
  · let counted := inc t 0x2500 0x8E
    have hdup : counted.dup = t.dup := inc_dup ..
    refine ⟨⟨counted.dup.mirrorQ ++ [(rdN counted 0x2500 0x8E, m)],
      if counted.dup.mirrorQ.isEmpty then counted.now else counted.dup.mirrorAt, ?_⟩, fun j _ hne => rdN_wrN_sub _ _ _ hne.symm⟩
    rw [← hdup]

/-- What an accepted command of the pair leaves. -/
theorem duplexWritten {s t : State} {client v : Nat} (off : Nat) (hv : v < 256) (h : Accepts s client 0x2500 0x10 (leBytes 1 v))
    (hcommand : duplexCommand { s with answers := Tab.del s.answers client } v = t) (hwork : t.work = s.work) :
    let u := settled s (put s client 0x2500 0x10 (leBytes 1 v) off)
    Tab.find u.answers client = some { code := 0, data := [] } ∧ (∃ q a, u.dup = { t.dup with mirrorQ := q, mirrorAt := a }) ∧
      ∀ j < 256, j ≠ 0x8E → rdN u 0x2500 j = rdN t 0x2500 j := by
  have ⟨_, hclient, _⟩ := h
  have hput := put_duplex off hv h (hcommand ▸ hwork)
  rw [hcommand, success_le hclient, paired_duplex] at hput
  obtain ⟨⟨q, a, hdup⟩, hread⟩ :=
    mirrorPut_pair { t with answers := Tab.put t.answers client { code := 0, data := [] } } (.write 0x2500 0x10 (leBytes 1 v))
  refine ⟨?_, ⟨q, a, ?_⟩, fun j hj hne => ?_⟩
  · rw [settled_answers, hput, (mirrorPut_keeps ..).2, Tab.find_put_self]
  · rw [settled_dup, hput, hdup]
  · rw [rdN_settled, hput, hread j hj hne]
    rfl

theorem standby_of_accepted {s : State} {client : Nat} (h : Accepts s client 0x2500 0x10 (leBytes 1 2)) : standby s = true := by
  have hpresent := presentState_of_accepted h
  cases hresync : inPair s && within (role s) 2 3 with
  | true =>
    obtain ⟨hpair, hrole⟩ := Bool.and_eq_true_iff.mp hresync
    rw [within_iff] at hrole
    rw [standby, hpair, Bool.true_and, within_iff]
    omega
  | false => simp [presentState, ownerState, duplexRefusal, hresync, leNat_leBytes] at hpresent

/-- A standby that joins (R357). -/
theorem join_eq {s : State} (h : standby s = true) :
    join s = setRole (setDup s { s.dup with hoists := [], segBad := false, hoistAt := some s.now, mirrorSync := true }) 2 := by
  rw [join, h]
  rfl
theorem setRole_work (s : State) (r : Nat) : (setRole s r).work = s.work := by
  obtain h | ⟨⟨_, _, _, _, _, h⟩, -⟩ := setRole_cases s r
  · rw [h]
  · rw [h]
    exact wrN_work ..

/-- The witness's SWAP order, not urgent. -/
theorem swapOrder_orders {s : State} (hholder : holder s ≤ 1) (hnone : s.dup.wit.swap = none) (hfree : s.dup.wit.grant = none) :
    Submitted (setWit (nextNum s).1 { (nextNum s).1.dup.wit with swap := some (1 - holder s, rdN s 0x2500 3, none) })
      (swapOrder s false) := by
  have hholder' : ¬ holder s > 1 := Nat.not_lt.mpr hholder
  unfold swapOrder
  rw [if_neg (by simp [hholder', hnone, hfree])]
  exact submitted_can3 ..

theorem submitted_work {s t : State} (h : Submitted s t) : t.work = s.work := by
  obtain ⟨⟨_, _, rfl⟩, -⟩ := h
  rfl
theorem swapOrder_cases (s : State) (urgent : Bool) :
    swapOrder s urgent = s ∨ ∃ x, Submitted (setWit (nextNum s).1 x) (swapOrder s urgent) := by
  unfold swapOrder
  exact iteInduction (motive := fun t => t = s ∨ ∃ x, Submitted (setWit (nextNum s).1 x) t) (fun _ => .inl rfl)
    fun _ => .inr ⟨_, submitted_can3 ..⟩
theorem swapOrder_work (s : State) (urgent : Bool) : (swapOrder s urgent).work = s.work := by
  obtain h | ⟨x, h⟩ := swapOrder_cases s urgent
  · rw [h]
  · rw [submitted_work h]
    rfl

/-- The kill lines that the release of the latches `latches` leaves asserted. -/
def killReleased (kill latches : Nat) : Nat :=
  setBit (if bit latches 0 then setBit kill 0 false else kill) 1 (bit kill 1 && !bit latches 1)

theorem killReleased_clear {kill latches u : Nat} (hu : u < 2) (hlatched : bit latches u = true) : bit (killReleased kill latches) u = false := by
  obtain rfl | rfl : u = 0 ∨ u = 1 := by omega
  · rw [killReleased, bit_setBit_ne _ _ (by decide), if_pos hlatched, bit_setBit_false]
  · rw [killReleased, hlatched, Bool.not_true, Bool.and_false, bit_setBit_false]

/-- Settles O56: the orders by the unit that takes them, the window by the role, the commands by what they leave. -/
theorem plannedSwapRunsItsSteps : Obligations.PlannedSwapRunsItsSteps := by
  unfold Obligations.PlannedSwapRunsItsSteps
  refine ⟨fun s unit num w off halive hpair hunit hensign hrole hready => ?holder,
    fun s unit num w off urgent halive hpair hunit hrefused => ?refused,
    fun s num w off halive hpair hrole => ?named,
    fun s w halive hpair hswap hstarted hplanned hdue => ⟨fun hrole hfinal => ?start, fun hrole hfinal => ?off, fun hrole hfinal => ?incoming⟩,
    fun s w halive hpair hswap hstarted hwithdrawn hdue => ⟨fun hrole => ?withdraws, fun hrole => ?ends⟩,
    fun s client off h => ?swap, fun s client off h => ?resync, fun s client off h => ?order, fun s client off h => ?release⟩
  case holder =>
    refine reaches_act halive (f := (orderSwap · unit num w off false)) rfl ?_
    rw [role, rdN_settled, settled_dup]
    exact orderSwap_holder hpair hunit hensign hrole hready
  case refused =>
    change done s (act s fun s => orderSwap s unit num w off urgent) = _
    rw [act_alive halive, orderSwap_refused hpair hunit hrefused]
    rfl
  case named =>
    refine reaches_act halive (f := (orderSwap · (unitNo s) num w off false)) rfl ?_
    rw [role, rdN_settled, settled_dup]
    exact orderSwap_named hpair hrole
  case start =>
    refine reaches_act halive (f := swallowtailStart) rfl ?_
    have hmodes := RoleMoved.modesDue (.refl (setDup s { s.dup with modes := [(1, 1)], swap := some { w with started := true } }))
    rw [role, rdN_settled, settled_dup, swallowtailStart_holder hpair hswap hstarted hplanned hdue hrole hfinal, hmodes.dup_eq]
    exact ⟨rfl, rfl, hmodes.role_eq.trans hrole⟩
  case off =>
    refine reaches_act halive (f := swallowtailStart) rfl ?_
    rw [role, rdN_settled, settled_dup, swallowtailStart_off hpair hswap hstarted hplanned hdue hrole hfinal, setRole_dup]
    exact ⟨rfl, rfl, role_setRole _ (by decide)⟩
  case incoming =>
    refine reaches_act halive (f := swallowtailStart) rfl ?_
    rw [settled_dup, swallowtailStart_incoming hpair hswap hstarted hplanned hdue hrole hfinal, (RoleMoved.modesDue (.refl _)).dup_eq]
    exact ⟨rfl, rfl, rfl⟩
  case withdraws =>
    refine reaches_act halive (f := swallowtailEnd) rfl ?_
    rw [settled_dup, settled_net]
    exact swallowtailEnd_holder hpair hswap hstarted hwithdrawn hdue hrole
  case ends =>
    refine reaches_act halive (f := swallowtailEnd) rfl ?_
    rw [settled_dup, swallowtailEnd_incoming hpair hswap hstarted hwithdrawn hdue hrole, (RoleMoved.modesDue (.refl _)).dup_eq]
    exact ⟨rfl, rfl⟩
  case swap =>
    have ⟨_, hclient, _⟩ := h
    change done s (put s client 0x2500 0x10 (leBytes 1 1) off) = _
    rw [put_duplex off (by decide) h rfl, success_le hclient]
    rfl
  case resync =>
    let r := { s with answers := Tab.del s.answers client }
    have hjoin : duplexCommand r 2 = setRole (setDup r { r.dup with hoists := [], segBad := false, hoistAt := some r.now, mirrorSync := true }) 2 :=
      join_eq (standby_of_accepted h)
    obtain ⟨hanswer, ⟨q, a, hdup⟩, hread⟩ := duplexWritten off (by decide) h hjoin (setRole_work ..)
    refine ⟨_, rfl, hanswer, ?_, ?_⟩
    · exact (hread 0x81 (by decide) (by decide)).trans (role_setRole _ (by decide))
    · rw [hdup, setRole_dup]
      rfl
  case order =>
    let r := { s with answers := Tab.del s.answers client }
    obtain ⟨hanswer, ⟨q, a, hdup⟩, -⟩ := duplexWritten (t := swapOrder r false) off (by decide) h rfl (swapOrder_work r false)
    refine ⟨_, rfl, hanswer, fun hholder hnone hfree => ?_⟩
    rw [hdup, (swapOrder_orders (s := r) hholder hnone hfree).dup_eq]
    exact ⟨rfl, rfl⟩
  case release =>
    let r := { s with answers := Tab.del s.answers client }
    let k := killReleased s.dup.wit.kill (rdN s 0x2500 0x92)
    obtain ⟨us, hrelease⟩ : ∃ us, duplexCommand r 4 = wrN (setWit r { r.dup.wit with kill := k, units := us }) 0x2500 0x92 0 := ⟨_, rfl⟩
    obtain ⟨hanswer, ⟨q, a, hdup⟩, hread⟩ := duplexWritten off (by decide) h hrelease (wrN_work ..)
    refine ⟨_, rfl, hanswer, ?_, fun u hu hlatched => ?_⟩
    · rw [hread 0x92 (by decide) (by decide), rdN_wrN_width (n := 1) _ _ rfl, Nat.zero_mod]
    · rw [hdup, wrN_dup]
      exact killReleased_clear hu hlatched

end Sys2Proof.Machine
end

section
/-! SUPPORT. The ensign (R339, R348): what the panels, the measurement and the update leave of the pair. -/
namespace Sys2Proof.Machine
open Sys2Proof Sys2Proof.OD

namespace Held
variable {L : List Nat} {s t u : State}

-- The panels --------------------------------------------------------------------------------------------------------------

/-- The objects of the units are none of the pair's and none of the host port's. -/
theorem wrUnit {i j v : Nat} (hi : 0x2900 ≤ i) (hj : j < 256) (h : Held L s t) : Held L s (Machine.wrN t i j v) :=
  h.wrOther (by omega) hj
theorem wrPanel {p j v : Nat} (hj : j < 256) (h : Held L s t) : Held L s (Machine.wrN t (ppObj p) j v) :=
  h.wrUnit (by unfold ppObj; omega) hj
theorem account {p : Nat} (h : Held L s t) : Held L s (account t p) := by
  unfold Machine.account
  split
  · exact h
  · refine .foldS (fun u g hg => ?_) h
    have hlane : g < 48 := List.mem_range.mp hg
    have hzeroed (v : Int) : Held L u (Machine.wrI u (accObj p) (0x80 + g) v) :=
      .wrI (by unfold accObj; omega) (by omega) (.refl L u)
    simp only
    split
    · exact .refl L u
    · exact hzeroed _
theorem panelStatus {p : Nat} (h : Held L s t) : Held L s (panelStatus t p) :=
  wrPanel (by decide) (wrPanel (j := 0x87) (by decide) (wrPanel (j := 0x87) (by decide) (wrPanel (j := 0x87) (by decide)
    (wrPanel (j := 0x87) (by decide) h))))
theorem updateCut {p reason : Nat} (h : Held L s t) : Held L s (updateCut t p reason) := by
  unfold Machine.updateCut
  split
  · exact h
  · refine panelStatus (wrPanel (by decide) ?_)
    split
    · exact itemFail (h.beside rfl)
    · exact h.beside rfl
theorem portHardCut {reason p : Nat} (h : Held L s t) : Held L s (portHardCut reason t p) := by
  have hcut : Held L s (Machine.updateCut (Machine.account t p) p reason) := updateCut (account h)
  have hsilenced {r : State} {x : Panel} (hr : Held L s r) : Held L s (wrR (setPanel r p x) (ppObj p) 0x8E F32.zero) :=
    wrPanel (by decide) (hr.beside rfl)
  unfold Machine.portHardCut
  split
  · exact h
  · simp only
    split
    · exact hsilenced hcut
    · exact wrPanel (j := 0x83) (by decide) (hsilenced hcut)
theorem panelsHardCut {reason : Nat} (h : Held L s t) : Held L s (panelsHardCut t reason) := by
  rw [panelsHardCut_eq]
  exact portHardCut (portHardCut h)
theorem panelsOn {own : Nat} (h : Held L s t) : Held L s (panelsOn t own) := by
  refine .foldS (fun u p _ => ?_) h
  split
  · exact .refl L u
  · exact (refl L u).beside rfl

-- The measurement -----------------------------------------------------------------------------------------------------------

theorem measStop {why : Nat} (h : Held L s t) : Held L s (measStop t why) := by
  have hlast {u : State} (hu : Held L s u) (m : Meas) : Held L s { u with meas := m } := hu.beside rfl
  have hspare {u : State} (b : Bool) (hu : Held L s u) : Held L s (if b then Machine.wrN u 0x3170 0x80 4 else u) := by
    split
    · exact wrUnit (by decide) (by decide) hu
    · exact hu
  have hphase {u : State} {sl : Nat} (b : Bool) (hu : Held L s u) : Held L s (if b then u else
      Machine.wrN (Machine.wrN (Machine.wrN (Machine.wrN u (slObj sl) 0x80 0) (slObj sl) 0x81 16) 0x3170 0x80 4) 0x3170 0x81 0) := by
    have hslice : 0x2900 ≤ slObj sl := by unfold slObj; omega
    split
    · exact hu
    · exact wrUnit (by decide) (by decide) (wrUnit (by decide) (by decide) (wrUnit hslice (by decide) (wrUnit hslice (by decide) hu)))
  have hcoefs {u : State} {sl : Nat} {c : List (Real32 × Real32)} (b : Bool) (hu : Held L s u) :
      Held L s (if b then setCoefs u sl c else u) := by
    split
    · exact hu.beside rfl
    · exact hu
  have hitem : Held L s (match t.meas.calItem with | some i => Machine.itemFail t i why 0 | none => t) := by
    split
    · exact itemFail h
    · exact h
  unfold Machine.measStop
  exact hlast (hspare _ (hphase _ (hcoefs _ hitem))) _

-- The update ----------------------------------------------------------------------------------------------------------------

theorem wrFw {j v : Nat} (hj : j < 256) (h : Held L s t) : Held L s (Machine.wrN t 0x2400 j v) := h.wrOther (by decide) hj
theorem undecayed {tag : Nat} {one : Bool} (h : Held L s t) : Held L s (undecayed t tag one) := by
  obtain ⟨l, hl⟩ := undecayed_store t tag one
  rw [hl]
  exact h.beside rfl
theorem bankWritten {tag serial : Nat} {p : Payload} (h : Held L s t) : Held L s (bankWritten t tag serial p) := by
  have hput : Held L s (bankPut t tag serial p) := (undecayed h).beside rfl
  have hworn {u : State} (hu : Held L s u) (e : Nat) : Held L s (if rdN u 0x2400 0x98 < e then Machine.wrN u 0x2400 0x98 e else u) := by
    split
    · exact wrFw (by decide) hu
    · exact hu
  rw [bankWritten_counts]
  split
  · exact condStart (by decide) (hworn (wrFw (j := 0x95) (by decide) (wrFw (by decide) hput)) _)
  · exact hworn (wrFw (j := 0x95) (by decide) (wrFw (by decide) hput)) _
theorem setImage {i : Nat} {x : Image} (hi : i ≤ 1) (h : Held L s t) : Held L s (setImage t i x) :=
  wrFw (by omega) (wrFw (by omega) (wrFw (by omega) (h.beside rfl)))
theorem bootRecord {b : Boot} (h : Held L s t) : Held L s (bootRecord t b) := by
  have hstored : Held L s (Machine.bankWritten (setFw t { t.fw with boot := some b }) 0x901 0 (.boot b)) := bankWritten (h.beside rfl)
  exact wrFw (j := 0x91) (by decide) (wrFw (j := 0x90) (by decide) (wrFw (j := 0x8F) (by decide) hstored))
theorem fwConfirmNow (h : Held L s t) : Held L s (fwConfirmNow t) := by
  unfold Machine.fwConfirmNow
  extract_lets r l u b v o
  have hu : Held L s u := by
    simp only [u]
    split
    · exact wrFw (by decide) h
    · exact h
  have hv : Held L s v := bootRecord hu
  split
  · exact setImage (Nat.sub_le ..) hv
  · exact hv
theorem fwAuto (h : Held L s t) : Held L s (fwAuto t) := by
  unfold Machine.fwAuto
  split
  · exact fwConfirmNow h
  · exact h

end Held

-- A change of ensign (R348) -------------------------------------------------------------------------------------------------

/-- A change of role beside the role itself. -/
theorem setRole_held (s : State) (r : Nat) : Held [0x81] s (setRole s r) := by
  obtain h | h := setRole_cases s r
  · rw [h]
    exact .refl _ s
  · exact .roleMoved (.wrPair (by decide) (by decide) (.refl _ s)) h

theorem setRole_emcyQ (s : State) (r : Nat) : (setRole s r).emcyQ = s.emcyQ := by
  obtain h | ⟨⟨_, _, _, _, _, h⟩, -⟩ := setRole_cases s r
  · rw [h]
  · rw [h]
    exact wrN_emcyQ ..

/-- A change of ensign counts, by whether it is a planned swap's, and takes its tick (R348). -/
theorem ensignChanged_held (s : State) (gained planned : Bool) : Held [0x8A, 0x8B, 0x8D] s (ensignChanged s gained planned) := by
  refine .irq (.logAdd (.wrPair (by decide) (by decide) (.wrPair ?_ ?_ (.refl _ s))))
  · cases planned <;> decide
  · cases planned <;> decide

theorem ensignChanged_reports (s : State) (gained : Bool) : let t := ensignChanged s gained false
    rdN t 0x2500 0x8A = (rdN s 0x2500 0x8A + 1) % 2 ^ 32 ∧ rdN t 0x2500 0x8D = s.tick % 2 ^ 64 ∧ rdBit t 0x2810 0x80 5 = true ∧
      t.emcyQ = s.emcyQ := by
  let u := wrN (inc s 0x2500 0x8A) 0x2500 0x8D (inc s 0x2500 0x8A).tick
  have hlog : Held [] u (ensignChanged s gained false) := .irq (.logAdd (.refl _ _))
  have htick : (inc s 0x2500 0x8A).tick = s.tick := wrN_tick ..
  refine ⟨?_, ?_, ?_, ?_⟩
  · rw [hlog.pair _ (by decide) (by decide), rdN_wrN_sub _ _ _ (by decide), inc, rdN_wrN_width (n := 4) _ _ rfl]
    rfl
  · rw [hlog.pair _ (by decide) (by decide), rdN_wrN_width (n := 8) _ _ rfl, htick]
    rfl
  · exact rdBit_irqs (n := 5) _ (by decide)
  · simp only [ensignChanged, irq, wrBit, wrN_emcyQ, logAdd_emcyQ, inc]

end Sys2Proof.Machine
end

section
/-! SUPPORT. The ensign changes hands (R348, R351, R352). -/
namespace Sys2Proof.Machine
open Sys2Proof Sys2Proof.OD

-- Taking it -----------------------------------------------------------------------------------------------------------------

/-- The armed device as it takes the ensign, before its role follows. -/
def ensignTaken (s : State) (e : Nat) : State :=
  let t := wrN { s with ensign := true } 0x2500 0x82 e
  setDup t { t.dup with armed := none, modes := [], swap := none, loaded := t.dup.loaded || s.dup.hoists.isEmpty, swapReq := false, joined := false }

/-- The EMCY of a takeover. -/
def takeoverEmcy : Emcy := { code := 0xFF03, loc := 0, pennant := 0xFF, source := 0xFF, obj := 0 }

/-- A takeover outside a planned swap: ensign, role, the change's reports and the EMCY; the units follow. -/
theorem takeEnsign_held {s : State} (e : Nat) (hunplanned : windowOver s = false) :
    Held [] (emcy (ensignChanged (setRole (ensignTaken s e) 5) true false) takeoverEmcy) (takeEnsign s e) := by
  unfold takeEnsign
  rw [hunplanned]
  extract_lets planned cold a d t b c x y p q n
  have hx : Held [] c x := by
    refine .foldS (fun u ch _ => ?_) (.refl _ c)
    split
    · exact (Held.refl _ u).beside rfl
    · exact .refl _ u
  have hy : Held [] c y := .fwAuto (.modesDue hx)
  clear_value x
  split
  · exact hy
  · clear_value y
    have hp : Held [] c p := hy.beside rfl
    clear_value p
    have hq : Held [] c q := .panelsOn hp
    clear_value q
    exact .submit (by decide) (.submit (by decide) (.submit (by decide) (hq.beside rfl)))

/-- What a takeover leaves. -/
theorem takeEnsign_takes {s : State} (e : Nat) (hunplanned : windowOver s = false) (hroom : s.emcyQ.length < 32) :
    let t := takeEnsign s e
    t.ensign = true ∧ t.ensignIn = s.ensignIn ∧ t.dup.armed = none ∧ epoch t = e % 65536 ∧ role t = 5 ∧
      rdN t 0x2500 0x8A = (rdN s 0x2500 0x8A + 1) % 2 ^ 32 ∧ rdN t 0x2500 0x8D = s.tick % 2 ^ 64 ∧ rdBit t 0x2810 0x80 5 = true ∧
      takeoverEmcy ∈ t.emcyQ := by
  intro t
  let a := ensignTaken s e
  let b := setRole a 5
  let c := ensignChanged b true false
  have hab : Held [0x81] a b := setRole_held a 5
  have hbc := ensignChanged_held b true false
  obtain ⟨hcount, htick, hsource, hemcys⟩ := ensignChanged_reports b true
  have hct : Held [] c t := (Held.emcy (.refl [] c)).trans (takeEnsign_held e hunplanned)
  have hsent : takeoverEmcy ∈ t.emcyQ := by
    refine (takeEnsign_held e hunplanned).emcys _ ?_
    have hqueue : c.emcyQ = s.emcyQ := hemcys.trans ((setRole_emcyQ a 5).trans (wrN_emcyQ ..))
    have hroom' : ¬ c.emcyQ.length ≥ 32 := by
      rw [hqueue]
      omega
    rw [emcy, if_neg hroom']
    exact List.mem_append_right _ (List.mem_singleton_self _)
  have haread {j : Nat} (hj : j ≠ 0x82) : rdN a 0x2500 j = rdN s 0x2500 j := rdN_wrN_sub { s with ensign := true } _ _ hj.symm
  have hensign : a.ensign = true ∧ a.ensignIn = s.ensignIn ∧ a.tick = s.tick := ⟨wrN_ensign .., wrN_ensignIn .., wrN_tick ..⟩
  obtain ⟨ha, hain, hatick⟩ := hensign
  refine ⟨?_, ?_, ?_, ?_, ?_, ?_, ?_, hct.source hsource, hsent⟩
  · exact hct.ensign.1.trans (hbc.ensign.1.trans (hab.ensign.1.trans ha))
  · exact hct.ensign.2.trans (hbc.ensign.2.trans (hab.ensign.2.trans hain))
  · rw [hct.dup, hbc.dup, hab.dup]
    rfl
  · rw [epoch, hct.pair _ (by decide) (by decide), hbc.pair _ (by decide) (by decide), hab.pair _ (by decide) (by decide)]
    exact rdN_wrN_width (n := 2) { s with ensign := true } e rfl
  · rw [role, hct.pair _ (by decide) (by decide), hbc.pair _ (by decide) (by decide)]
    exact role_setRole a (by decide)
  · rw [hct.pair _ (by decide) (by decide), hcount, hab.pair _ (by decide) (by decide), haread (by decide)]
  · rw [hct.pair _ (by decide) (by decide), htick, hab.time.2.1, hatick]

-- Losing it -----------------------------------------------------------------------------------------------------------------

/-- The holder without the ensign `s`, as its role and its own part of the pair's state are about to follow: the services, `w`, and
the pair's state, `d`. -/
theorem loseEnsign_eq {s : State} (h : s.ensign = true) : ∃ w d, loseEnsign s = setRole (notReady (setDup w d) 2 true) 2 ∧
    d.hoists = [] ∧ d.heardAt = s.dup.heardAt ∧ w.ensign = false ∧ w.ensignIn = s.ensignIn ∧ w.net.reqs = [] ∧ w.net.xfers = [] ∧
    ∀ j < 256, j ∉ [0x8A, 0x8B, 0x8D] → rdN w 0x2500 j = rdN s 0x2500 j := by
  unfold loseEnsign
  rw [h, if_neg (by decide)]
  extract_lets planned why a b c x y z g n k l m u v
  have hab : Held [] a b := .panelsHardCut (.refl _ a)
  have hbc : Held [] b c := .measStop (.refl _ b)
  clear_value b
  have hcx : Held [] c x := .foldS (fun r _ _ => .itemFail (.refl _ r)) (.refl _ c)
  clear_value c
  have hxy : Held [] x y := .foldS (fun r _ _ => .itemFail (.refl _ r)) (.refl _ x)
  clear_value x
  have hyz : Held [] y z := by
    refine .foldS (fun r q _ => ?_) (.refl _ y)
    split
    · exact .itemFail (.refl _ r)
    · exact .refl _ r
  clear_value y
  have haz : Held [] a z := hab.trans (hbc.trans (hcx.trans (hxy.trans hyz)))
  clear_value z
  have hg : Held [] a g := haz.beside rfl
  clear_value g
  have hkl : Held [] k l := by
    refine .foldS (fun r q _ => ?_) (.refl _ k)
    split
    · exact .itemFail (.refl _ r)
    · exact .refl _ r
  have hkdup : k.dup = s.dup := hg.dup
  have hkensign : k.ensign = false ∧ k.ensignIn = s.ensignIn := hg.ensign
  have hkread (j : Nat) (hj : j < 256) : rdN k 0x2500 j = rdN s 0x2500 j := hg.pair j hj List.not_mem_nil
  have hknet : k.net.reqs = [] ∧ k.net.xfers = [] := ⟨rfl, rfl⟩
  clear_value k l
  have hkm : Held [0x8A, 0x8B, 0x8D] k m := hkl.widen.trans (ensignChanged_held l false planned)
  clear_value m
  refine ⟨m, _, rfl, rfl, ?_, hkm.ensign.1.trans hkensign.1, hkm.ensign.2.trans hkensign.2, ?_, ?_, fun j hj hL => ?_⟩
  · exact (congrArg Dup.heardAt (hkm.dup.trans hkdup) :)
  · exact hkm.net.1.trans hknet.1
  · exact hkm.net.2.trans hknet.2
  · rw [hkm.pair j hj hL, hkread j hj]

/-- A device without the ensign, however it came to be without. -/
theorem loseEnsign_pair (s : State) : (loseEnsign s).ensign = false ∧ (loseEnsign s).ensignIn = s.ensignIn ∧
    (loseEnsign s).dup.heardAt = s.dup.heardAt ∧
    ∀ j < 256, j ∉ [0x81, 0x8A, 0x8B, 0x8C, 0x8D] → rdN (loseEnsign s) 0x2500 j = rdN s 0x2500 j := by
  cases h : s.ensign with
  | false =>
    have hstands : loseEnsign s = s := by simp [loseEnsign, h]
    rw [hstands]
    exact ⟨h, rfl, rfl, fun _ _ _ => rfl⟩
  | true =>
    obtain ⟨w, d, hloses, -, hheard, hensign, hin, -, -, hread⟩ := loseEnsign_eq h
    have hrole : Held [0x81] (notReady (setDup w d) 2 true) (loseEnsign s) := hloses ▸ setRole_held _ 2
    have hdup : (notReady (setDup w d) 2 true).dup = d := wrN_dup ..
    refine ⟨?_, ?_, ?_, fun j hj hL => ?_⟩
    · exact hrole.ensign.1.trans ((wrN_ensign ..).trans hensign)
    · exact hrole.ensign.2.trans ((wrN_ensignIn ..).trans hin)
    · rw [hrole.dup, hdup, hheard]
    · simp only [List.mem_cons, List.not_mem_nil, or_false, not_or] at hL
      obtain ⟨h81, h8A, h8B, h8C, h8D⟩ := hL
      rw [hrole.pair j hj (by simpa using h81), notReady, wrBit, rdN_wrN_sub _ _ _ (Ne.symm h8C)]
      exact hread j hj (by simp [h8A, h8B, h8D])

/-- The holder that loses the ensign is a standby without a hoist, and its transfers are gone. -/
theorem loseEnsign_loses {s : State} (h : s.ensign = true) : role (loseEnsign s) = 2 ∧ (loseEnsign s).dup.hoists = [] ∧
    (loseEnsign s).net.reqs = [] ∧ (loseEnsign s).net.xfers = [] := by
  obtain ⟨w, d, hloses, hhoists, -, -, -, hreqs, hxfers, -⟩ := loseEnsign_eq h
  have hrole : Held [0x81] (notReady (setDup w d) 2 true) (loseEnsign s) := hloses ▸ setRole_held _ 2
  have hdup : (notReady (setDup w d) 2 true).dup = d := wrN_dup ..
  have hnet : (notReady (setDup w d) 2 true).net = w.net := wrN_net ..
  refine ⟨?_, ?_, ?_, ?_⟩
  · rw [hloses]
    exact role_setRole _ (by decide)
  · rw [hrole.dup, hdup, hhoists]
  · rw [hrole.net.1, hnet, hreqs]
  · rw [hrole.net.2, hnet, hxfers]

-- The orders (R348, R357) ----------------------------------------------------------------------------------------------------

/-- A GRANT that a unit takes: it is armed, awake, and has no ensign by it. -/
theorem orderGrant_arms {s : State} {num e : Nat} (hpair : inPair s = true) (hnewer : newer e (epoch s) = true)
    (hrole : (role s = 1 ∧ rdN s 0x2500 0x83 ≠ 5) ∨ role s = 3 ∨ role s = 4) (hfree : s.dup.armed = none) :
    (orderGrant s (unitNo s) num e).dup.armed = some (e, s.now, role s) ∧ role (orderGrant s (unitNo s) num e) = 4 ∧
      (orderGrant s (unitNo s) num e).ensign = s.ensign := by
  have htakes : (!(role s == 1 || role s == 3 || role s == 4) || (role s == 1 && rdN s 0x2500 0x83 == 5)) = false := by
    rcases hrole with ⟨hrole, hpartner⟩ | hrole | hrole
    · simp [hrole, hpartner]
    · simp [hrole]
    · simp [hrole]
  unfold orderGrant
  rw [hpair, if_neg (by decide), if_neg (by simp), if_neg (by simp [hnewer]), htakes, if_neg (by decide), hfree]
  extract_lets prev d a b
  have ha : a.now = s.now ∧ a.ensign = s.ensign ∧ role a = role s := by
    simp only [a]
    split
    · exact ⟨rfl, rfl, rfl⟩
    · exact ⟨rfl, rfl, rfl⟩
  have hb : b.now = s.now ∧ b.ensign = s.ensign ∧ role b = 4 := by
    simp only [b]
    split
    · rename_i hawake
      exact ⟨ha.1, ha.2.1, beq_iff_eq.mp hawake⟩
    · have hwakes := wakeUnits_held a
      exact ⟨(hwakes.time.1.trans (setRole_held a 4).time.1).trans ha.1, (wakeUnits_ensign a).trans ha.2.1, wakeUnits_role a⟩
  clear_value b
  have hanswer (u : State) : RoleMoved u (answerOrder u 1 0 num) := .report (.refl u)
  rw [(hanswer _).dup_eq, (hanswer _).role_eq, (hanswer _).ensign_eq]
  exact ⟨congrArg (fun n => some (e, n, role s)) hb.1, hb.2.2, hb.2.1⟩

theorem orderGrant_state {s : State} {num e : Nat} (hpair : inPair s = true) (hnewer : newer e (epoch s) = true)
    (hrole : role s = 2 ∨ (role s = 1 ∧ rdN s 0x2500 0x83 = 5)) : orderGrant s (unitNo s) num e = answerOrder s 1 1 num := by
  rcases hrole with hrole | ⟨hrole, hpartner⟩
  · simp [orderGrant, hpair, hnewer, hrole]
  · simp [orderGrant, hpair, hnewer, hrole, hpartner]

theorem orderGrant_old {s : State} {num e : Nat} (hpair : inPair s = true) (hold : newer e (epoch s) = false) :
    orderGrant s (unitNo s) num e = answerOrder s 1 2 num := by simp [orderGrant, hpair, hold]

/-- The epoch that the device is told as it loses the ensign. -/
theorem loseEnsign_epoch (s : State) (e : Nat) : epoch (loseEnsign (wrN s 0x2500 0x82 e)) = e % 65536 := by
  obtain ⟨-, -, -, hread⟩ := loseEnsign_pair (wrN s 0x2500 0x82 e)
  rw [epoch, hread _ (by decide) (by decide)]
  exact rdN_wrN_width (n := 2) s e rfl

theorem orderRevoke_takes {s : State} {num e : Nat} (hpair : inPair s = true) (hensign : s.ensign = true)
    (hnewer : newer e (epoch s) = true) : (orderRevoke s (unitNo s) num e).ensign = false ∧
      epoch (orderRevoke s (unitNo s) num e) = e % 65536 ∧ role (orderRevoke s (unitNo s) num e) = 2 := by
  have hrevoke : orderRevoke s (unitNo s) num e = answerOrder (loseEnsign (wrN s 0x2500 0x82 e)) 2 0 num := by
    simp [orderRevoke, hpair, hensign, hnewer]
  have hanswer : RoleMoved (loseEnsign (wrN s 0x2500 0x82 e)) (orderRevoke s (unitNo s) num e) := hrevoke ▸ .report (.refl _)
  have hholds : (wrN s 0x2500 0x82 e).ensign = true := (wrN_ensign ..).trans hensign
  refine ⟨?_, ?_, ?_⟩
  · exact hanswer.ensign_eq.trans (loseEnsign_pair _).1
  · exact (hanswer.rdN_pair (by decide)).trans (loseEnsign_epoch s e)
  · exact hanswer.role_eq.trans (loseEnsign_loses hholds).1

theorem orderResync_joins {s : State} {num : Nat} (hpair : inPair s = true) (hrole : role s = 2 ∨ role s = 3) :
    role (orderResync s (unitNo s) num) = 2 ∧ (orderResync s (unitNo s) num).dup.hoists = [] := by
  have hwithin (lo : Nat) (hlo : lo ≤ 2) : within (role s) lo 3 = true := within_iff.mpr (by omega)
  have hstandby : standby s = true := by rw [standby, hpair, hwithin 1 (by decide), Bool.true_and]
  have horder : orderResync s (unitNo s) num = answerOrder (join s) 4 0 num := by simp [orderResync, hpair, hwithin 2]
  have hanswer : RoleMoved (join s) (orderResync s (unitNo s) num) := horder ▸ .report (.refl _)
  rw [hanswer.role_eq, hanswer.dup_eq, join_eq hstandby, setRole_dup]
  exact ⟨role_setRole _ (by decide), rfl⟩

-- HEALTH (R346, R347) --------------------------------------------------------------------------------------------------------

/-- A join leaves the partner's role and its last HEALTH. -/
theorem join_heard (s : State) : (join s).dup.heardAt = s.dup.heardAt ∧ rdN (join s) 0x2500 0x83 = rdN s 0x2500 0x83 ∧
    rdN (join s) 0x2500 0x82 = rdN s 0x2500 0x82 := by
  cases h : standby s with
  | false =>
    have hstands : join s = s := by simp [join, h]
    rw [hstands]
    exact ⟨rfl, rfl, rfl⟩
  | true =>
    rw [join_eq h, setRole_dup, rdN_setRole _ _ (by decide) (by decide), rdN_setRole _ _ (by decide) (by decide)]
    exact ⟨rfl, rfl, rfl⟩

theorem healthReceived_partner {s : State} {h : Health} (hpair : inPair s = true) (hunit : h.unit ≠ unitNo s) :
    rdN (healthReceived s h) 0x2500 0x83 = h.role % 8 ∧ (healthReceived s h).dup.heardAt = some s.now ∧
      (h.role = 5 → newer h.epoch (epoch s) = true →
        (healthReceived s h).ensign = false ∧ epoch (healthReceived s h) = h.epoch % 65536) := by
  have hmember : rdN s 0x2500 1 = 1 := by simpa using (Bool.and_eq_true_iff.mp hpair).2
  have hwitness : witness s = false := by simp [witness, hmember]
  have hpartner : (inPair s && h.unit != unitNo s) = true := by simp [hpair, hunit]
  unfold healthReceived
  rw [hwitness, if_neg (by decide), hpartner, if_pos rfl]
  extract_lets d b c
  have hb : b.dup.heardAt = some s.now ∧ rdN b 0x2500 0x83 = h.role % 8 ∧ rdN b 0x2500 0x82 = rdN s 0x2500 0x82 := by
    refine ⟨rfl, ?_, rdN_wrN_sub _ _ _ (by decide)⟩
    refine (rdN_wrN_width (n := 1) s _ rfl).trans (Nat.mod_eq_of_lt ?_)
    omega
  clear_value b
  have hc : c.dup.heardAt = some s.now ∧ rdN c 0x2500 0x83 = h.role % 8 ∧ epoch c = epoch s := by
    obtain ⟨hheard, hread, hepoch⟩ := join_heard b
    simp only [c]
    split
    · exact ⟨hheard.trans hb.1, hread.trans hb.2.1, hepoch.trans hb.2.2⟩
    · exact hb
  clear_value c
  obtain ⟨hheard, hread, hepoch⟩ := hc
  rw [hepoch]
  split
  · obtain ⟨hensign, -, hkept, hpairs⟩ := loseEnsign_pair (wrN c 0x2500 0x82 h.epoch)
    refine ⟨?_, ?_, fun _ _ => ⟨hensign, loseEnsign_epoch c h.epoch⟩⟩
    · rw [hpairs _ (by decide) (by decide), rdN_wrN_sub _ _ _ (by decide), hread]
    · rw [hkept, wrN_dup, hheard]
  · rename_i hstands
    exact ⟨hread, hheard, fun hrole hnewer => absurd (by simp [hrole, hnewer]) hstands⟩

-- The hoist is loaded (R352) ---------------------------------------------------------------------------------------------------

theorem nmt_loadHoist (s : State) (h : Hoist) : nmt (loadHoist s h) = h.nmt % 256 := by
  unfold loadHoist
  extract_lets d keep a b c e f g i j nodes k n
  have hj : rdN j 0x1FF0 0x80 = h.nmt % 256 := rdN_wrN_width (n := 1) _ _ rfl
  clear_value j
  have hk : Writes reportKey j k := .foldS (fun u x => .condStart (fun _ hk => hk) (by decide) (.refl _ u)) (.refl _ j)
  exact (hk.rdN_eq rfl).trans hj

theorem panelsOn_dict (s : State) (own : Nat) : Writes (fun _ => false) s (panelsOn s own) := by
  refine .foldS (fun u p => ?_) (.refl _ s)
  split
  · exact .refl _ u
  · exact .of_dict rfl

theorem takeoverLoaded_loads {s : State} {h : Hoist} {l : List Hoist} (hpair : inPair s = true) (hloaded : s.dup.loaded = false)
    (hswap : s.dup.swap = none) (hrole : role s = 4 ∨ role s = 5) (hhoists : s.dup.hoists = h :: l) :
    (takeoverLoaded s).dup.loaded = true ∧ nmt (takeoverLoaded s) = h.nmt % 256 := by
  have hwithin : within (role s) 4 5 = true := within_iff.mpr (by omega)
  unfold takeoverLoaded
  rw [if_neg (by simp [hpair, hloaded, hswap, hwithin])]
  split
  case h_2 hnone => exact absurd (hhoists.symm.trans hnone) (by simp)
  rename_i h' l' hhoists'
  obtain ⟨rfl, rfl⟩ : h = h' ∧ l = l' := by simpa using hhoists.symm.trans hhoists'
  extract_lets d u p
  have hu : u.dup.loaded = true ∧ nmt u = h.nmt % 256 := ⟨rfl, nmt_loadHoist s h⟩
  clear_value u
  split
  · have hon : Held [] u p := .panelsOn (.refl _ u)
    exact ⟨(congrArg Dup.loaded hon.dup).trans hu.1, ((panelsOn_dict u u.now).rdN_eq rfl).trans hu.2⟩
  · exact hu

-- The pin, the arming and the BEACON -------------------------------------------------------------------------------------------

theorem role_settled (s t : State) : role (settled s t) = role t := rdN_settled ..
theorem epoch_settled (s t : State) : epoch (settled s t) = epoch t := rdN_settled ..

/-- A command of the pin, in a live device. -/
theorem reaches_alive {s : State} {c : Instr} {t u : State} {P : State → Prop} (halive : Alive s)
    (hexec : exec c s = done s (if alive s then t else u)) (hP : P (settled s t)) : Reaches c s P := by
  refine ⟨_, hexec.trans ?_, hP⟩
  rw [if_pos halive]
  rfl

theorem Told.ensign_eq {s t : State} (h : Told s t) : t.ensign = s.ensign ∧ t.ensignIn = s.ensignIn ∧ t.dup = s.dup := by
  obtain ⟨_, _, _, _, _, _, rfl⟩ := h
  exact ⟨rfl, rfl, rfl⟩

theorem zh6432_of_inPair {s : State} (h : inPair s = true) : s.zh6432 = false := by
  simpa using (Bool.and_eq_true_iff.mp h).1

/-- On a member of a pair every condition is present. -/
theorem present_of_inPair {s : State} (h : inPair s = true) (p : Nat) : pennantAbsent s p = false := by
  rw [pennantAbsent, zh6432_of_inPair h, Bool.false_and]

theorem ensignDeasserted_loses {s : State} (hpair : inPair s = true) (hensign : s.ensign = true) :
    (ensignDeasserted s).ensignIn = false ∧ (ensignDeasserted s).ensign = false ∧ role (ensignDeasserted s) = 2 ∧
      (ensignDeasserted s).dup.hoists = [] ∧ (ensignDeasserted s).net.reqs = [] ∧ (ensignDeasserted s).net.xfers = [] := by
  let t := condEnd { s with ensignIn := false } 52 0 0
  obtain ⟨ht, htin, -⟩ := (told_condEnd { s with ensignIn := false } 52 0 0).ensign_eq
  have hholds : t.ensign = true := ht.trans hensign
  have hpart : s.zh6432 = false := zh6432_of_inPair hpair
  have hmember : inPair { s with ensignIn := false } = true := hpair
  have hloses : ensignDeasserted s = loseEnsign t := by
    unfold ensignDeasserted
    rw [if_neg (by simp [hpart]), if_pos hmember]
    exact if_pos hholds
  rw [hloses]
  exact ⟨(loseEnsign_pair t).2.1.trans htin, (loseEnsign_pair t).1, loseEnsign_loses hholds⟩

theorem armTimeout_disarms {s : State} {e t₀ prev : Nat} (harmed : s.dup.armed = some (e, t₀, prev)) (hprev : prev < 8)
    (hlate : t₀ + 50 ≤ s.now) : (armTimeout s).dup.armed = none ∧ role (armTimeout s) = prev := by
  have hdisarms : armTimeout s = setRole (setDup s { s.dup with armed := none, loaded := s.dup.loaded && prev == 4 }) prev := by
    have hlate' : ¬ s.now < t₀ + msT 5 := Nat.not_lt.mpr hlate
    unfold armTimeout
    rw [harmed]
    exact if_neg hlate'
  rw [hdisarms, setRole_dup]
  exact ⟨rfl, role_setRole _ (by omega)⟩

theorem ensignAsserted_armed {s : State} {e t₀ prev : Nat} (hpair : inPair s = true) (harmed : s.dup.armed = some (e, t₀, prev)) :
    ensignAsserted s = takeEnsign { s with ensignIn := true } e := by
  have hmember : inPair { s with ensignIn := true } = true := hpair
  unfold ensignAsserted
  rw [if_neg (by simp [zh6432_of_inPair hpair]), if_pos hmember]
  simp only [harmed]

theorem ensignAsserted_unexpected {s : State} (hpair : inPair s = true) (harmed : s.dup.armed = none) (hensign : s.ensign = false) :
    ensignAsserted s = condStart { s with ensignIn := true } 52 0 0 0xFF := by
  have hmember : inPair { s with ensignIn := true } = true := hpair
  unfold ensignAsserted
  rw [if_neg (by simp [zh6432_of_inPair hpair]), if_pos hmember]
  simp only [harmed]
  exact if_neg (by simp [hensign])

theorem healthSend_sends {s : State} (hpair : inPair s = true) (hstate : canState s 3 ≠ 0) (hdue : s.dup.healthAt + 100 ≤ s.now) :
    (healthSend s).dup = { s.dup with healthAt := s.now, healthCtr := (s.dup.healthCtr + 1) % 256 } := by
  have hdue' : ¬ s.now < s.dup.healthAt + msT 10 := Nat.not_lt.mpr hdue
  unfold healthSend
  rw [if_neg (by simp [hpair, hstate, hdue'])]
  exact (submitted_can3 ..).dup_eq

/-- Settles O55: the orders by what they find, the pin by the arming, then the hoist and the frames. -/
theorem theEnsignChangesHands : Obligations.TheEnsignChangesHands := by
  unfold Obligations.TheEnsignChangesHands
  refine ⟨fun s unit num e halive hpair hunit hnewer hrole hfree => ?arms, fun s unit num e halive hpair hunit hnewer hrole => ?state,
    fun s unit num e halive hpair hunit hold => ?old, fun s e t₀ prev halive hpair harmed hroom hswap => ?takes,
    fun s halive hpair harmed hensign => ?unexpected, fun s halive hpair hensign => ?falls, fun s hdead => ?dead,
    fun s num e halive hpair hensign hnewer => ?revoked, fun s num e halive hpair hensign => ?none,
    fun s e t₀ prev halive harmed hprev hlate => ?disarms, fun s h l halive hpair hloaded hswap hrole hhoists => ?loads,
    fun s halive hpair => ?beacon, fun s t₀ halive hpair hbeacon hlate => ?lost, fun s h halive hpair hunit => ?heard,
    fun s halive hpair hstate hdue => ?health, fun s num halive hpair hrole => ?resync⟩
  case arms =>
    refine reaches_act halive (f := (orderGrant · unit num e)) rfl ?_
    rw [role_settled, settled_dup, settled_ensign, hunit]
    exact orderGrant_arms hpair hnewer hrole hfree
  case state =>
    change done s (act s fun s => orderGrant s unit num e) = _
    rw [act_alive halive, hunit, orderGrant_state hpair hnewer hrole]
    rfl
  case old =>
    change done s (act s fun s => orderGrant s unit num e) = _
    rw [act_alive halive, hunit, orderGrant_old hpair hold]
    rfl
  case takes =>
    have hunplanned : windowOver { s with ensignIn := true } = false := by simp [windowOver, hswap]
    obtain ⟨hensign, hin, hfree, hepoch, hrole, hcount, htick, hsource, hsent⟩ := takeEnsign_takes e hunplanned hroom
    refine reaches_alive halive (t := ensignAsserted s) rfl ?_
    simp only [epoch_settled, role_settled, rdBit, rdN_settled, settled_ensign, settled_ensignIn, settled_dup, settled_emcyQ,
      ensignAsserted_armed hpair harmed]
    exact ⟨hensign, hin, hfree, hepoch, hrole, hcount, htick, hsource, List.any_eq_true.mpr ⟨_, hsent, rfl⟩⟩
  case unexpected =>
    refine reaches_alive halive (t := ensignAsserted s) rfl ?_
    rw [settled_ensign, settled_ensignIn, settled_conds, ensignAsserted_unexpected hpair harmed hensign]
    obtain ⟨hkept, hin, -⟩ := (told_condStart { s with ensignIn := true } 52 0 0 0xFF).ensign_eq
    exact ⟨hin, hkept.trans hensign, mem_conds_condStart (present_of_inPair (s := { s with ensignIn := true }) hpair 52) ..⟩
  case falls =>
    refine reaches_alive halive (t := ensignDeasserted s) rfl ?_
    rw [role_settled, settled_ensign, settled_ensignIn, settled_dup, settled_net]
    exact ensignDeasserted_loses hpair hensign
  case dead =>
    change done s (if alive s then ensignDeasserted s else _) = _
    rw [if_neg (by simp [hdead])]
    rfl
  case revoked =>
    refine reaches_act halive (f := (orderRevoke · (unitNo s) num e)) rfl ?_
    rw [epoch_settled, role_settled, settled_ensign]
    exact orderRevoke_takes hpair hensign hnewer
  case none =>
    change done s (act s fun t => orderRevoke t (unitNo s) num e) = _
    have hrevoke : orderRevoke s (unitNo s) num e = answerOrder s 2 3 num := by simp [orderRevoke, hpair, hensign]
    rw [act_alive halive, hrevoke]
    rfl
  case disarms =>
    refine reaches_act halive (f := armTimeout) rfl ?_
    rw [role_settled, settled_dup]
    exact armTimeout_disarms harmed hprev hlate
  case loads =>
    refine reaches_act halive (f := takeoverLoaded) rfl ?_
    rw [nmt, rdN_settled, settled_dup]
    exact takeoverLoaded_loads hpair hloaded hswap hrole hhoists
  case beacon =>
    refine reaches_act halive (f := beaconReceived) rfl ?_
    have hreceived : beaconReceived s = condEnd (setDup s { s.dup with beaconAt := some s.now }) 54 0 0 := by simp [beaconReceived, hpair]
    obtain ⟨-, -, hdup⟩ := (told_condEnd (setDup s { s.dup with beaconAt := some s.now }) 54 0 0).ensign_eq
    rw [settled_dup, settled_conds, hreceived, hdup, condEnd_conds]
    exact ⟨rfl, by simp⟩
  case lost =>
    refine reaches_act halive (f := beaconTimeout) rfl ?_
    have hlate' : t₀ + msT (rdN s 0x2500 6) ≤ s.now := by rwa [msT, Nat.mul_comm]
    have hlost : beaconTimeout s = condStart s 54 0 0 0xFF := by simp [beaconTimeout, hbeacon, hpair, hlate']
    rw [settled_conds, hlost]
    exact mem_conds_condStart (present_of_inPair hpair 54) ..
  case heard =>
    refine reaches_act halive (f := (healthReceived · h)) rfl ?_
    rw [epoch_settled, rdN_settled, settled_ensign, settled_dup]
    exact healthReceived_partner hpair hunit
  case health =>
    refine reaches_act halive (f := healthSend) rfl ?_
    rw [settled_dup, healthSend_sends hpair hstate hdue]
    exact ⟨rfl, rfl⟩
  case resync =>
    refine reaches_act halive (f := (orderResync · (unitNo s) num)) rfl ?_
    rw [role_settled, settled_dup]
    exact orderResync_joins hpair hrole

end Sys2Proof.Machine
end

section
/-! SUPPORT. The halyard link (R340 to R345, R357): what the store and the standby's readiness leave of the pair. -/
namespace Sys2Proof.Machine
open Sys2Proof Sys2Proof.OD

-- The store's work (R418 to R421) -----------------------------------------------------------------------------------------------

namespace Held
variable {L : List Nat} {s t : State}

theorem bankBegin {l : List (Nat × Nat × Payload)} (h : Held L s t) : Held L s (bankBegin t l) := by
  unfold Machine.bankBegin
  split
  · rename_i tag _ _ _
    obtain ⟨rs, ds, herased⟩ := bankErased_eq t tag
    rw [herased]
    exact h.beside rfl
  · exact h
theorem journalDrop {i : Nat} (h : Held L s t) : Held L s (journalDrop t i) := by
  unfold Machine.journalDrop
  split
  · split
    · exact wrFw (by decide) (h.beside rfl)
    · exact h
  · exact h
theorem journalAdd {i : Nat} {l : List (Nat × Nat)} (h : Held L s t) : Held L s (journalAdd t i l) := by
  unfold Machine.journalAdd
  split
  · exact wrFw (j := 0x9A) (by decide) (beside (itemSet h) rfl)
  · exact h
theorem storeEnd {ok : Bool} {reason : Nat} (h : Held L s t) : Held L s (storeEnd t ok reason) := by
  unfold Machine.storeEnd
  split
  · exact h
  · rename_i q _
    have hanswered {u : State} (hu : Held L s u) : Held L s (match q.client with
        | some c => Machine.later u c (workObject q.work).1 (if ok then 0 else 0x08000020) []
        | none => u) := by
      split
      · exact later hu
      · exact hu
    refine hanswered ?_
    split
    · split
      · exact itemDone (journalDrop (h.beside rfl))
      · exact itemFail (journalDrop (h.beside rfl))
    · exact h.beside rfl
theorem storeTaken {x : StoreWork} (h : Held L s t) : Held L s (storeTaken t x) := by
  cases x with
  | save _ => exact h
  | restore areas => exact .foldS (fun u _ _ => (refl L u).beside rfl) h
  | coupling => exact .foldS (fun u z _ => wrUnit (by unfold dcObj; omega) (by decide) (.refl L u)) h
  | coefs => exact h.beside rfl
  | panel _ _ => exact h.beside rfl
  | hoist _ => exact h.beside rfl
theorem serialsRaised {x : StoreWork} (h : Held L s t) : Held L s (serialsRaised t x) := by
  unfold Machine.serialsRaised
  split
  · exact h.beside rfl
  · exact h
/-- The begin of a store work with its item `i`. -/
theorem storeTakes {q : StoreReq} {rest : List StoreReq} {i : Nat} (h : Held L s t) : Held L s (storeTakes t q rest i) := by
  unfold Machine.storeTakes
  extract_lets a w u r v
  have ha : Held L s a := itemSet (journalAdd h)
  have hu : Held L s u := serialsRaised ha
  clear_value u
  have hv : Held L s v := hu.beside rfl
  split
  · exact storeEnd (storeTaken hv)
  · exact bankBegin hv
theorem storeKick (h : Held L s t) : Held L s (storeKick t) := by
  cases hactive : t.store.active with
  | some q => simpa [Machine.storeKick, hactive] using h
  | none =>
    cases hqueue : t.store.queue with
    | nil => simpa [Machine.storeKick, hactive, hqueue] using h
    | cons q rest =>
      cases hitem : q.item with
      | some i =>
        rw [storeKick_of_item hactive hqueue hitem]
        exact storeTakes h
      | none =>
        obtain hwaits | ⟨i, htakes⟩ := storeKick_of_no_item hactive hqueue hitem
        · rw [hwaits]
          exact newItem h
        · rw [htakes]
          exact storeTakes (newItem h)
/-- A hoist that the store takes: its save tells the partner nothing. -/
theorem hoistSave {x : Hoist} (h : Held L s t) : Held L s (unitSave t (.hoist x)) := by
  have hasked {u : State} (hu : Held L s u) (kind origin idx sub : Nat) : Held L s (storeAsk
      (if (Machine.newItem u kind origin idx sub).2.isNone then Machine.waited (Machine.newItem u kind origin idx sub).1
        else (Machine.newItem u kind origin idx sub).1)
      { item := (Machine.newItem u kind origin idx sub).2, client := none, work := .hoist x }) := by
    refine storeKick (beside (t := if (Machine.newItem u kind origin idx sub).2.isNone then Machine.waited (Machine.newItem u kind origin idx sub).1
        else (Machine.newItem u kind origin idx sub).1) ?_ rfl)
    split
    · exact waited (newItem hu)
    · exact newItem hu
  unfold Machine.unitSave
  split
  · exact h
  · exact hasked h 2 0x100 (workObject (.hoist x)).1 (workObject (.hoist x)).2
theorem hoistStore {x : Hoist} (h : Held L s t) : Held L s (hoistStore t x) := by
  unfold Machine.hoistStore
  extract_lets n r u since
  have hu : Held L s u := h.beside rfl
  split
  · exact hoistSave hu
  · exact hu

end Held

-- The reasons of a standby (R357, R360) -----------------------------------------------------------------------------------------

/-- The other reasons stand as one is set or cleared. -/
theorem rdBit_notReady (s : State) {i n : Nat} (hn : n < 8) (b : Bool) :
    rdBit (notReady s i b) 0x2500 0x8C n = if n = i then b else rdBit s 0x2500 0x8C n :=
  rdBit_wrBit s b (r := rowOf 0x2500 0x8C |>.get rfl) rfl (Nat.lt_of_lt_of_le hn (by decide))

/-- The reasons that the device knows of itself: its debug unlock and the link. -/
def reasonsTold (s : State) : State := notReady (notReady s 6 (rdN s 0x2600 0x82 == 1)) 0 (!linkUp s)

theorem Held.notReady {L : List Nat} {s t : State} {i : Nat} {b : Bool} (hL : 0x8C ∈ L) (h : Held L s t) : Held L s (notReady t i b) :=
  .wrPair (by decide) hL h

theorem reasonsTold_held (s : State) : Held [0x8C] s (reasonsTold s) := .notReady (by decide) (.notReady (by decide) (.refl _ s))

theorem rdBit_reasonsTold (s : State) {n : Nat} (hn : n < 8) (hself : n ≠ 0 ∧ n ≠ 6) :
    rdBit (reasonsTold s) 0x2500 0x8C n = rdBit s 0x2500 0x8C n := by
  rw [reasonsTold, rdBit_notReady _ hn, if_neg hself.1, rdBit_notReady _ hn, if_neg hself.2]

/-- A standby that no reason keeps from being ready. -/
def ready (s : State) : Bool := rdN s 0x2500 0x8C == 0 && !s.dup.hoists.isEmpty

theorem readyCheck_standby {s : State} (h : standby s = true) : readyCheck s =
    if role (reasonsTold s) == 2 && ready (reasonsTold s) then fwAuto (setRole (reasonsTold s) 3)
    else if role (reasonsTold s) == 3 && !ready (reasonsTold s) then setRole (reasonsTold s) 2 else reasonsTold s := by
  rw [readyCheck, h]
  rfl

/-- Readiness changes the role and confirms an image; the object of the pair stands beside the role. -/
theorem readyCheck_cases (s : State) : readyCheck s = s ∨ Held [0x81] (reasonsTold s) (readyCheck s) := by
  cases h : standby s with
  | false => exact .inl (by simp [readyCheck, h])
  | true =>
    refine .inr ?_
    rw [readyCheck_standby h]
    split
    · exact .fwAuto (setRole_held _ 3)
    · split
      · exact setRole_held _ 2
      · exact .refl _ _

theorem readyCheck_held (s : State) : Held [0x81, 0x8C] s (readyCheck s) := by
  obtain h | h := readyCheck_cases s
  · rw [h]
    exact .refl _ s
  · have htold := reasonsTold_held s
    exact .trans { htold with pair := fun j hj hL => htold.pair j hj (by simp at hL ⊢; omega) }
      { h with pair := fun j hj hL => h.pair j hj (by simp at hL ⊢; omega) }

theorem rdBit_readyCheck (s : State) {n : Nat} (hn : n < 8) (hself : n ≠ 0 ∧ n ≠ 6) :
    rdBit (readyCheck s) 0x2500 0x8C n = rdBit s 0x2500 0x8C n := by
  obtain h | h := readyCheck_cases s
  · rw [h]
  · rw [rdBit, h.pair _ (by decide) (by decide)]
    exact rdBit_reasonsTold s hn hself

/-- A standby with a reason of its own is not ready. -/
theorem readyCheck_waits {s : State} {n : Nat} (hn : n < 8) (hself : n ≠ 0 ∧ n ≠ 6) (hreason : rdBit s 0x2500 0x8C n = true)
    (hstandby : standby s = true) :
    role (readyCheck s) ≠ 3 := by
  have hsome : (rdN (reasonsTold s) 0x2500 0x8C == 0) = false := by
    have hbit := rdBit_reasonsTold s hn hself
    rw [hreason] at hbit
    refine beq_eq_false_iff_ne.mpr fun hzero => ?_
    rw [rdBit, hzero] at hbit
    simp [bit] at hbit
  have hunready : ready (reasonsTold s) = false := by rw [ready, hsome, Bool.false_and]
  rw [readyCheck_standby hstandby, hunready, Bool.and_false, if_neg (by decide), Bool.not_false, Bool.and_true]
  split
  · rw [role_setRole _ (by decide)]
    decide
  · rename_i hrole
    exact fun hready => hrole (beq_iff_eq.mpr hready)

end Sys2Proof.Machine
end

section
/-! SUPPORT. The halyard link: its frames, its hoists and their acknowledgement. -/
namespace Sys2Proof.Machine
open Sys2Proof Sys2Proof.OD

-- The link (R340, R357) ---------------------------------------------------------------------------------------------------------

theorem setRole_conds (s : State) (r : Nat) : (setRole s r).conds = s.conds := by
  obtain h | ⟨⟨_, _, _, _, _, h⟩, -⟩ := setRole_cases s r
  · rw [h]
  · rw [h]
    exact wrN_conds ..

/-- A join changes the role, and of the object of the pair nothing more. -/
theorem join_keeps (s : State) : (join s).conds = s.conds ∧ ∀ j < 256, j ≠ 0x81 → rdN (join s) 0x2500 j = rdN s 0x2500 j := by
  cases h : standby s with
  | false =>
    have hstands : join s = s := by simp [join, h]
    rw [hstands]
    exact ⟨rfl, fun _ _ _ => rfl⟩
  | true =>
    rw [join_eq h, setRole_conds]
    exact ⟨rfl, fun j hj hne => rdN_setRole _ _ hj hne⟩

/-- The link up, with its condition ended, before a standby joins. -/
def linkedUp (s : State) : State := notReady (condEnd (wrF s 0x2500 0x84 true) 53 0 0x0CF00000) 0 false

/-- Reports write no sub-index of the pair. -/
theorem reportKey_pair {j : Nat} (hj : j < 256) : reportKey (key 0x2500 j) = false := by
  by_contra hkey
  have hobject := reportKey_object (Bool.not_eq_false _ ▸ hkey)
  simp only [reportObjects, List.mem_cons, List.not_mem_nil, or_false] at hobject
  unfold key at hobject
  omega

theorem linkedUp_keeps (s : State) : (linkedUp s).conds = s.conds.filter (· != (53, 0)) ∧ (linkedUp s).zh6432 = s.zh6432 ∧
    linkUp (linkedUp s) = true ∧ ∀ j < 256, j ≠ 0x84 → j ≠ 0x8C → rdN (linkedUp s) 0x2500 j = rdN s 0x2500 j := by
  have htold : Told (wrF s 0x2500 0x84 true) (condEnd (wrF s 0x2500 0x84 true) 53 0 0x0CF00000) := told_condEnd ..
  have hreports : Writes reportKey (wrF s 0x2500 0x84 true) (condEnd (wrF s 0x2500 0x84 true) 53 0 0x0CF00000) :=
    .condEnd (fun _ hk => hk) (by decide) (.refl _ _)
  have hread {j : Nat} (hj : j < 256) (hne : j ≠ 0x8C) : rdN (linkedUp s) 0x2500 j = rdN (wrF s 0x2500 0x84 true) 0x2500 j := by
    rw [linkedUp, notReady, wrBit, rdN_wrN_sub _ _ _ hne.symm, hreports.rdN_eq (reportKey_pair hj)]
  refine ⟨?_, ?_, ?_, fun j hj hlink hreasons => ?_⟩
  · rw [linkedUp, notReady, wrBit, wrN_conds, condEnd_conds, wrF, wrN_conds]
  · rw [linkedUp, notReady, wrBit, wrN_zh6432, htold.zh6432_eq, wrF, wrN_zh6432]
  · rw [linkUp, rdF, hread (by decide) (by decide), wrF, rdN_wrN_width (n := 1) _ _ rfl]
    rfl
  · rw [hread hj hreasons, wrF, rdN_wrN_sub _ _ _ hlink.symm]

theorem linkUpEvent_eq {s : State} (hpair : inPair s = true) (hcfg : s.cfgLoaded = true) (hdown : linkUp s = false) :
    linkUpEvent s = if role (linkedUp s) == 1 && !partnerHolds (linkedUp s) then linkedUp s else join (linkedUp s) := by
  unfold linkUpEvent
  rw [if_neg (by simp [haveLink, hpair, hcfg, hdown])]
  rfl

theorem linkUpEvent_joins {s : State} (hpair : inPair s = true) (hcfg : s.cfgLoaded = true) (hdown : linkUp s = false) :
    linkUp (linkUpEvent s) = true ∧ (53, 0) ∉ (linkUpEvent s).conds ∧
      (standby s = true → (role s ≠ 1 ∨ within (rdN s 0x2500 0x83) 5 6 = true) →
        role (linkUpEvent s) = 2 ∧ (linkUpEvent s).dup.hoists = [] ∧ (linkUpEvent s).dup.mirrorSync = true) := by
  obtain ⟨hconds, hpart, hlink, hread⟩ := linkedUp_keeps s
  obtain ⟨hjconds, hjread⟩ := join_keeps (linkedUp s)
  have hended : (53, 0) ∉ (linkedUp s).conds := by simp [hconds]
  have hrole : role (linkedUp s) = role s := hread 0x81 (by decide) (by decide) (by decide)
  have hpartner : partnerHolds (linkedUp s) = within (rdN s 0x2500 0x83) 5 6 := by
    rw [partnerHolds, hread 0x83 (by decide) (by decide) (by decide)]
  have hmember : inPair (linkedUp s) = inPair s := by
    rw [inPair, hpart, hread 1 (by decide) (by decide) (by decide), inPair]
  rw [linkUpEvent_eq hpair hcfg hdown, hrole, hpartner]
  split
  · rename_i hwaits
    obtain ⟨hfirst, hnone⟩ := Bool.and_eq_true_iff.mp hwaits
    refine ⟨hlink, hended, fun _ hjoins => ?_⟩
    rcases hjoins with hother | hholds
    · exact absurd (beq_iff_eq.mp hfirst) hother
    · rw [hholds] at hnone
      exact absurd hnone (by decide)
  · refine ⟨?_, hjconds ▸ hended, fun hstandby _ => ?_⟩
    · rw [linkUp, rdF, hjread 0x84 (by decide) (by decide)]
      exact hlink
    · have hstandby' : standby (linkedUp s) = true := by rwa [standby, hmember, hrole]
      rw [join_eq hstandby', setRole_dup]
      exact ⟨role_setRole _ (by decide), rfl, rfl⟩

theorem linkDownEvent_leaves {s : State} (hpair : inPair s = true) (hcfg : s.cfgLoaded = true) (hup : linkUp s = true) :
    linkUp (linkDownEvent s) = false ∧ (53, 0) ∈ (linkDownEvent s).conds ∧ (linkDownEvent s).dup.joined = false ∧
      (linkDownEvent s).dup.mirrorQ = [] := by
  unfold linkDownEvent
  rw [if_neg (by simp [haveLink, hpair, hcfg, hup])]
  extract_lets t
  have hpresent : pennantAbsent (wrF s 0x2500 0x84 false) 53 = false := by
    rw [pennantAbsent, wrF, wrN_zh6432, zh6432_of_inPair hpair, Bool.false_and]
  have hcond : (53, 0) ∈ t.conds := mem_conds_condStart hpresent ..
  have ht : Held [] (wrF s 0x2500 0x84 false) t := .condStart (by decide) (.refl _ _)
  have hlink : linkUp t = false := by
    rw [linkUp, rdF, ht.pair _ (by decide) (by decide), wrF, rdN_wrN_width (n := 1) _ _ rfl]
    rfl
  clear_value t
  have hchecked := readyCheck_held (setDup t { t.dup with joined := false, mirrorQ := [], mirrorTries := 0 })
  rw [linkUp, rdF, hchecked.pair _ (by decide) (by decide), hchecked.dup]
  exact ⟨hlink, hchecked.conds _ hcond, rfl, rfl⟩

-- The frames (R340 to R342) ---------------------------------------------------------------------------------------------------

theorem frameCrcOk_iff (raw : List Byte) (crc : Nat) : frameCrcOk ⟨raw, crc⟩ = true ↔ crc32 raw = crc := beq_iff_eq

/-- A TICK frame with a good CRC at the standby: the partner's count, and its outputs. -/
theorem tickFrame_taken {s : State} {count : Nat} {duties : List Nat} {sps : List Int} {aligned : Bool} (hpair : inPair s = true)
    (hcfg : s.cfgLoaded = true) (hup : linkUp s = true) (hensign : s.ensign = false) :
    let t := tickFrame s count duties sps aligned true
    t.tick = count % 2 ^ 64 ∧ t.counting = true ∧ t.dup.mirrorOut = some (duties, sps) ∧ rdBit t 0x2500 0x8C 7 = !aligned := by
  unfold tickFrame
  rw [if_neg (by simp [haveLink, hpair, hcfg, hup]), if_neg (by decide), if_neg (by simp [hensign])]
  extract_lets a b d c
  have hb : b.tick = count % 2 ^ 64 ∧ b.counting = true ∧ rdBit b 0x2500 0x8C 7 = !aligned :=
    ⟨wrN_tick .., wrN_counting .., (rdBit_notReady _ (by decide) _).trans (if_pos rfl)⟩
  clear_value b
  obtain ⟨htick, hcounting, haligned⟩ := hb
  have hchecked := readyCheck_held (setDup b { b.dup with mirrorOut := some (duties, sps) })
  refine ⟨hchecked.time.2.1.trans htick, hchecked.time.2.2.trans hcounting, congrArg Dup.mirrorOut hchecked.dup, ?_⟩
  rw [rdBit_readyCheck _ (by decide) (by decide)]
  exact haligned

theorem tickFrame_bad {s : State} (count : Nat) (duties : List Nat) (sps : List Int) (aligned : Bool) (hpair : inPair s = true)
    (hcfg : s.cfgLoaded = true) (hup : linkUp s = true) : tickFrame s count duties sps aligned false = inc s 0x2500 0x89 := by
  unfold tickFrame
  rw [if_neg (by simp [haveLink, hpair, hcfg, hup])]
  rfl

/-- A mirror item in its order, or the first of a new count, is taken; an earlier one is not; a later one starts the joining anew. -/
theorem mirrorReceived_order {s : State} (seq : Nat) (m : MirrorItem) (hstandby : standby s = true) (hup : linkUp s = true)
    (hensign : s.ensign = false) : mirrorReceived s seq m true =
      if s.dup.mirrorSync || seq == (rdN s 0x2500 0x8E + 1) % 2 ^ 32 then mirrorTake s seq m
      else if seq ≤ rdN s 0x2500 0x8E then s else mirrorTake (notReady (join s) 1 true) seq m := by
  have hpair : inPair s = true := (Bool.and_eq_true_iff.mp hstandby).1
  unfold mirrorReceived
  rw [if_neg (by simp [hpair, hup]), if_neg (by decide), if_neg (by simp [hensign])]

/-- A log entry of the partner's enters with package 1 and its own time (R37). -/
theorem logFrame_enters {s : State} {e : LogEntry} (hpair : inPair s = true) (hcfg : s.cfgLoaded = true) (hensign : s.ensign = true)
    (hup : linkUp s = true) : (logFrame s e true).log.head? =
        some { e with num := rdN s 0x2710 0x80, loc := e.loc % 2 ^ 30 + 2 ^ 30, data := e.data % 65536 } ∧
      rdN (logFrame s e true) 0x2710 0x85 = (rdN s 0x2710 0x85 + 1) % 2 ^ 32 := by
  unfold logFrame
  rw [if_neg (by simp [haveLink, hpair, hcfg, hup]), if_neg (by decide), if_neg (by simp [hensign])]
  extract_lets t l
  have hlog : t.log = (logEntryOf s e.code (e.loc % 2 ^ 30 + 2 ^ 30) e.qual e.data :: s.log).take 4096 := logAdd_log ..
  have hread : rdN t 0x2710 0x85 = rdN s 0x2710 0x85 := (Writes.logAdd (W := logKey) (fun _ hk => hk) (.refl _ s)).rdN_eq rfl
  constructor
  · rw [inc, wrN_log]
    simp only [l, hlog, List.take_succ_cons]
    rfl
  · rw [inc, rdN_wrN_width (n := 4) _ _ rfl]
    exact congrArg (fun n => (n + 1) % 2 ^ 32) hread

-- The mirror's items (R342, R357) -----------------------------------------------------------------------------------------------

theorem joined_mirrorPut (s : State) (m : MirrorItem) : (mirrorPut s m).dup.joined = s.dup.joined := by
  obtain ⟨⟨q, a, hdup⟩, -⟩ := mirrorPut_pair s m
  rw [hdup]
theorem joined_foldS {α : Type} {f : State → α → State} (hf : ∀ s a, (f s a).dup.joined = s.dup.joined) (l : List α) (s : State) :
    (foldS s l f).dup.joined = s.dup.joined := by
  induction l generalizing s with
  | nil => rfl
  | cons a l ih => exact (ih (f s a)).trans (hf s a)
theorem joined_joinItems (s : State) (areas : List Nat) : (joinItems s areas).dup.joined = s.dup.joined := by
  unfold joinItems
  extract_lets t u
  refine (joined_foldS (fun v p => ?_) _ u).trans ((joined_mirrorPut t _).trans (joined_foldS (fun v a => joined_mirrorPut v _) areas s))
  split
  · rfl
  · exact joined_mirrorPut v _

theorem controlJoin_joins {s : State} (hash : List Byte) (version : Nat) (serials : List Nat) (hpair : inPair s = true)
    (hcfg : s.cfgLoaded = true) (hensign : s.ensign = true) (hup : linkUp s = true) :
    (controlJoin s hash version serials).dup.joined = true := by
  unfold controlJoin
  rw [if_neg (by simp [haveLink, hpair, hcfg, hensign, hup])]
  exact joined_joinItems _ _

theorem mirrorAckTimeout_sends {s : State} (hwaits : s.dup.mirrorQ ≠ []) (hlate : s.dup.mirrorAt + 10 ≤ s.now) : mirrorAckTimeout s =
    if s.dup.mirrorTries < 3 then { s with dup := { s.dup with mirrorTries := s.dup.mirrorTries + 1, mirrorAt := s.now } }
    else joinItems { s with dup := { s.dup with mirrorQ := [], mirrorTries := 0 } } [2, 3, 4] := by
  have hlate' : ¬ s.now < s.dup.mirrorAt + msT 1 := Nat.not_lt.mpr hlate
  unfold mirrorAckTimeout
  rw [if_neg (by simp [hwaits, hlate'])]
  rfl

end Sys2Proof.Machine
end

section
/-! SUPPORT. The hoists over the halyard link (R343 to R345, R357). -/
namespace Sys2Proof.Machine
open Sys2Proof Sys2Proof.OD

-- Capture and acknowledgement (R343) ----------------------------------------------------------------------------------------------

/-- The transfer of a copy starts as an active work item of kind 6. -/
theorem hoistCapture_starts {s : State} {h : Hoist} {i : Nat} (hsnap : s.dup.snap = some h) (htick : h.tick = s.tick)
    (hup : linkUp s = true) (hjoined : s.dup.joined = true) (hidle : transferring s = false) (hquiet : quiescing s = false)
    (hfree : freeItem s = some i) :
    (hoistCapture s).dup.sent = (h, some i, s.now) :: s.dup.sent ∧ (hoistCapture s).dup.snap = none ∧
      (hoistCapture s).dup.number = h.number ∧ rdN (hoistCapture s) 0x2500 0x87 = (rdN s 0x2500 0x87 + 1) % 2 ^ 32 ∧
      ∃ w, Tab.find (hoistCapture s).work i = some w ∧ w.kind = 6 ∧ w.state = 1 := by
  let t := setDup s { s.dup with snap := none }
  have hidle' : transferring t = false := hidle
  obtain ⟨u, w, hnew, -, hw, hkind, hstate, -⟩ := newItem_free (s := t) hquiet hfree 6 0x100 0x2500 0x87
  have hu : Held [] t u := by
    have hitem := (Held.refl [] t).newItem (kind := 6) (origin := 0x100) (idx := 0x2500) (sub := 0x87)
    rwa [hnew] at hitem
  have hactive : itemActive u i = { u with work := Tab.put u.work i { w with state := 1 } } := by
    rw [itemActive, itemSet_found hw]
    simp only [hstate, beq_self_eq_true, if_true]
  let v := inc (itemActive u i) 0x2500 0x87
  have hcapture : hoistCapture s = setDup v { u.dup with number := h.number, sent := (h, some i, u.now) :: u.dup.sent } := by
    unfold hoistCapture
    simp only [hsnap]
    rw [if_neg (by simp [htick, hup, hjoined]), if_neg (by simpa using hidle')]
    change (match newItem t 6 0x100 0x2500 0x87 with | (a, b) => _) = _
    rw [hnew]
  rw [hcapture]
  refine ⟨?_, congrArg Dup.snap hu.dup, rfl, ?_, { w with state := 1 }, ?_, hkind, rfl⟩
  · change (h, some i, u.now) :: u.dup.sent = _
    rw [hu.dup, hu.time.1]
    rfl
  · refine (rdN_wrN_width (n := 4) (itemActive u i) _ rfl).trans ?_
    rw [hactive]
    exact congrArg (fun n => (n + 1) % 2 ^ 32) (hu.pair 0x87 (by decide) List.not_mem_nil)
  · change Tab.find v.work i = _
    rw [show v.work = _ from wrN_work .., hactive, Tab.find_put_self]

section
variable {s : State} {h : Hoist} {i t₀ : Nat} {w : WorkItem} (hsent : s.dup.sent = [(h, some i, t₀)])
  (hw : Tab.find s.work i = some w) (hflight : w.state < 2)
include hsent hw hflight

/-- A hoist that is not acknowledged fails its item; the planned swap that it was for ends. -/
theorem hoistAckTimeout_fails (hlate : t₀ + 200 ≤ s.now) : (hoistAckTimeout s).dup.sent = [] ∧
    Tab.find (hoistAckTimeout s).work i = some { w with state := 3, reason := 10, ended := s.tick, abort := 0 } := by
  have hpast : t₀ + msT 20 ≤ s.now := hlate
  have hfilter : (s.dup.sent.filter fun x => decide (x.2.2 + msT 20 ≤ s.now)) = [(h, some i, t₀)] := by simp [hsent, hpast]
  have hfail : Held [] s (itemFail s i 10 0) := .itemFail (.refl _ s)
  have hwork := itemFail_work hw hflight 10 0
  unfold hoistAckTimeout
  rw [hfilter]
  extract_lets late t d u
  have ht : t = itemFail s i 10 0 := rfl
  have hu : u.dup.sent = [] ∧ u.work = t.work := by
    refine ⟨?_, rfl⟩
    have hpast' : ¬ t.now < t₀ + msT 20 := by rw [ht, hfail.time.1]; omega
    change t.dup.sent.filter _ = []
    rw [ht, hfail.dup, hsent]
    simp [← ht, hpast']
  clear_value u
  rw [← ht, ← hu.2] at hwork
  split
  · obtain ⟨hswap, hkept⟩ : (swapOff u).dup.sent = u.dup.sent ∧ (swapOff u).work = u.work := by
      unfold swapOff
      simp only
      split
      · rw [setRole_dup, setRole_work]
        exact ⟨rfl, rfl⟩
      · obtain ⟨⟨_, _, _, _, _, hmodes⟩, -⟩ := RoleMoved.modesDue (.refl (setDup u { u.dup with swap := none, modes := [] }))
        rw [hmodes]
        exact ⟨rfl, rfl⟩
    rw [hswap, hkept]
    exact ⟨hu.1, hwork⟩
  · exact ⟨hu.1, hwork⟩

/-- An acknowledged hoist ends its item. -/
theorem hoistAcked_ends : (hoistAcked s h.number).dup.sent = [] ∧
    Tab.find (hoistAcked s h.number).work i = some { w with state := 2, ended := s.tick } := by
  have hdone : Held [] s (itemDone s i) := .itemDone (.refl _ s)
  have hacked : ∃ sw, hoistAcked s h.number = setDup (itemDone s i)
      { (itemDone s i).dup with sent := (itemDone s i).dup.sent.filter (fun x => x.1.number != h.number), swap := sw } := by
    unfold hoistAcked
    rw [hsent]
    simp only [List.find?_cons, beq_self_eq_true]
    exact ⟨_, rfl⟩
  obtain ⟨sw, hacked⟩ := hacked
  rw [hacked]
  refine ⟨?_, itemDone_work hw hflight⟩
  change (itemDone s i).dup.sent.filter _ = []
  rw [hdone.dup, hsent]
  simp

end

-- The receiver (R345, R360) -------------------------------------------------------------------------------------------------------

/-- The reasons that a hoist shows: its format, and its configuration. -/
def reasonsShown (s : State) (h : Hoist) : State :=
  notReady (notReady s 3 (h.format != rdN s 0x2400 0x92)) 1 (h.hash != configHash s || h.version != rdN s 0x4F00 0x81)

/-- The receiver once a hoist is whole: the next one starts good. -/
def hoistWhole (s : State) (h : Hoist) : State := setDup (reasonsShown s h) { (reasonsShown s h).dup with segBad := false }

theorem hoistWhole_keeps (s : State) (h : Hoist) : (hoistWhole s h).dup = { s.dup with segBad := false } ∧ (hoistWhole s h).now = s.now ∧
    ∀ j < 256, j ≠ 0x8C → rdN (hoistWhole s h) 0x2500 j = rdN s 0x2500 j := by
  have hshown : Held [0x8C] s (reasonsShown s h) := .notReady (by decide) (.notReady (by decide) (.refl _ s))
  refine ⟨?_, hshown.time.1, fun j hj hne => hshown.pair j hj (by simpa using hne)⟩
  rw [hoistWhole, ← hshown.dup]
  rfl

/-- A valid hoist counts and shows its number and tick (R345). -/
def hoistCounted (s : State) (h : Hoist) : State :=
  notReady (inc (wrN (wrN s 0x2500 0x85 h.number) 0x2500 0x86 h.tick) 0x2500 0x88) 2 false

theorem hoistCounted_shows (s : State) (h : Hoist) : rdN (hoistCounted s h) 0x2500 0x85 = h.number % 2 ^ 32 ∧
    rdN (hoistCounted s h) 0x2500 0x86 = h.tick % 2 ^ 64 ∧ rdN (hoistCounted s h) 0x2500 0x88 = (rdN s 0x2500 0x88 + 1) % 2 ^ 32 ∧
    role (hoistCounted s h) = role s ∧ (hoistCounted s h).dup = s.dup := by
  have hread {j : Nat} (hj : j ≠ 0x8C) :
      rdN (hoistCounted s h) 0x2500 j = rdN (inc (wrN (wrN s 0x2500 0x85 h.number) 0x2500 0x86 h.tick) 0x2500 0x88) 0x2500 j :=
    rdN_wrN_sub _ _ _ hj.symm
  refine ⟨?_, ?_, ?_, ?_, ?_⟩
  · rw [hread (by decide), inc, rdN_wrN_sub _ _ _ (by decide), rdN_wrN_sub _ _ _ (by decide)]
    exact rdN_wrN_width (n := 4) s _ rfl
  · rw [hread (by decide), inc, rdN_wrN_sub _ _ _ (by decide)]
    exact rdN_wrN_width (n := 8) _ _ rfl
  · rw [hread (by decide), inc, rdN_wrN_width (n := 4) _ _ rfl, rdN_wrN_sub _ _ _ (by decide), rdN_wrN_sub _ _ _ (by decide)]
    rfl
  · rw [role, hread (by decide), inc, rdN_wrN_sub _ _ _ (by decide), rdN_wrN_sub _ _ _ (by decide), rdN_wrN_sub _ _ _ (by decide), role]
  · simp only [hoistCounted, notReady, wrBit, inc, wrN_dup]

/-- The receiver with the newest hoist before the one that it had. -/
def hoistKept (s : State) (h : Hoist) : State :=
  setDup (hoistCounted s h) { (hoistCounted s h).dup with
    hoists := h :: (hoistCounted s h).dup.hoists.take 1, hoistAt := some (hoistCounted s h).now }

theorem hoistKept_shows (s : State) (h : Hoist) : (hoistKept s h).dup.hoists = h :: s.dup.hoists.take 1 ∧
    rdN (hoistKept s h) 0x2500 0x85 = h.number % 2 ^ 32 ∧ rdN (hoistKept s h) 0x2500 0x86 = h.tick % 2 ^ 64 ∧
    rdN (hoistKept s h) 0x2500 0x88 = (rdN s 0x2500 0x88 + 1) % 2 ^ 32 ∧ role (hoistKept s h) = role s := by
  obtain ⟨hnumber, htick, hcount, hrole, hdup⟩ := hoistCounted_shows s h
  exact ⟨congrArg (fun d : Dup => h :: d.hoists.take 1) hdup, (rdN_setDup ..).trans hnumber, (rdN_setDup ..).trans htick,
    (rdN_setDup ..).trans hcount, (rdN_setDup ..).trans hrole⟩

/-- The last segment of a valid hoist, outside a planned swap's arming. -/
theorem hoistSegment_eq {s : State} {h : Hoist} (hpair : inPair s = true) (hcfg : s.cfgLoaded = true) (hup : linkUp s = true)
    (hensign : s.ensign = false) (hvalid : hoistValid s h = true)
    (hother : (role (hoistStore (hoistKept (hoistWhole s h) h) h) == 4 && h.final) = false) :
    hoistSegment s (some h) true true = readyCheck (hoistStore (hoistKept (hoistWhole s h) h) h) := by
  have hok : (hoistValid s h && true) = true := by rw [hvalid, Bool.true_and]
  unfold hoistSegment
  rw [if_neg (by simp [haveLink, hpair, hcfg, hup]), if_neg (by simp [hensign]), if_pos rfl]
  refine (if_pos hok).trans ?_
  extract_lets c d u v
  split
  · rename_i hfinal _
    exact absurd (hfinal.symm.trans hother) (by decide)
  · rfl

/-- A whole and valid hoist is the newest of the two that the receiver keeps. -/
theorem hoistSegment_valid {s : State} {h : Hoist} (hpair : inPair s = true) (hcfg : s.cfgLoaded = true) (hup : linkUp s = true)
    (hensign : s.ensign = false) (hrole : role s ≠ 4) (hvalid : hoistValid s h = true) :
    let t := hoistSegment s (some h) true true
    t.dup.hoists = h :: s.dup.hoists.take 1 ∧ rdN t 0x2500 0x85 = h.number % 2 ^ 32 ∧ rdN t 0x2500 0x86 = h.tick % 2 ^ 64 ∧
      rdN t 0x2500 0x88 = (rdN s 0x2500 0x88 + 1) % 2 ^ 32 := by
  obtain ⟨hwdup, -, hwread⟩ := hoistWhole_keeps s h
  obtain ⟨hhoists, hnumber, htick, hcount, hkrole⟩ := hoistKept_shows (hoistWhole s h) h
  have hstored : Held [] (hoistKept (hoistWhole s h) h) (hoistStore (hoistKept (hoistWhole s h) h) h) := .hoistStore (.refl _ _)
  have hother : (role (hoistStore (hoistKept (hoistWhole s h) h) h) == 4 && h.final) = false := by
    have hkept : role (hoistStore (hoistKept (hoistWhole s h) h) h) = role s :=
      (hstored.pair 0x81 (by decide) List.not_mem_nil).trans (hkrole.trans (hwread 0x81 (by decide) (by decide)))
    simp [hkept, hrole]
  rw [hoistSegment_eq hpair hcfg hup hensign hvalid hother]
  generalize hoistStore (hoistKept (hoistWhole s h) h) h = u at hstored
  have hchecked := readyCheck_held u
  have hread {j : Nat} (hj : j < 256) (hne : j ∉ [0x81, 0x8C]) : rdN (readyCheck u) 0x2500 j = rdN (hoistKept (hoistWhole s h) h) 0x2500 j :=
    (hchecked.pair j hj hne).trans (hstored.pair j hj List.not_mem_nil)
  refine ⟨?_, ?_, ?_, ?_⟩
  · rw [hchecked.dup, hstored.dup, hhoists, hwdup]
  · rw [hread (by decide) (by decide), hnumber]
  · rw [hread (by decide) (by decide), htick]
  · rw [hread (by decide) (by decide), hcount, hwread 0x88 (by decide) (by decide)]

/-- A hoist whose last segment is bad is none. -/
theorem hoistSegment_bad {s : State} {h : Hoist} {trailer : Bool} (hpair : inPair s = true) (hcfg : s.cfgLoaded = true)
    (hup : linkUp s = true) (hensign : s.ensign = false) (hrole : role s ≠ 4) :
    (hoistSegment s (some h) trailer false).dup.hoists = s.dup.hoists ∧
      rdN (hoistSegment s (some h) trailer false) 0x2500 0x89 = (rdN s 0x2500 0x89 + 1) % 2 ^ 32 := by
  let b := setDup (halyardBad s) { (halyardBad s).dup with segBad := true }
  obtain ⟨hwdup, -, hwread⟩ := hoistWhole_keeps b h
  have hinvalid : hoistValid b h = false := by
    have hbad : b.dup.segBad = true := rfl
    rw [hoistValid, hbad, Bool.not_true, Bool.false_and, Bool.false_and, Bool.false_and]
  have hother : (role (hoistWhole b h) == 4 && h.final) = false := by
    have hkept : role (hoistWhole b h) = role s := by
      rw [role, hwread 0x81 (by decide) (by decide)]
      exact rdN_wrN_sub s _ _ (by decide)
    simp [hkept, hrole]
  have hsegment : hoistSegment s (some h) trailer false = readyCheck (hoistWhole b h) := by
    unfold hoistSegment
    rw [if_neg (by simp [haveLink, hpair, hcfg, hup]), if_neg (by simp [hensign])]
    change (if (hoistValid b h && trailer) = true then _ else if (role (hoistWhole b h) == 4 && h.final) = true then _
      else readyCheck (hoistWhole b h)) = _
    rw [hinvalid, Bool.false_and, if_neg (by decide), hother, if_neg (by decide)]
  have hchecked := readyCheck_held (hoistWhole b h)
  rw [hsegment, hchecked.dup, hchecked.pair _ (by decide) (by decide), hwdup, hwread 0x89 (by decide) (by decide)]
  have hdup : (halyardBad s).dup = s.dup := inc_dup ..
  exact ⟨(congrArg Dup.hoists hdup :), rdN_wrN_width (n := 4) s _ rfl⟩

theorem noValidHoist_waits {s : State} {t₀ : Nat} (hstandby : standby s = true) (hlast : s.dup.hoistAt = some t₀)
    (hlate : t₀ + 10 * (rdN s 0x2500 2 + 20) ≤ s.now) :
    rdBit (noValidHoist s) 0x2500 0x8C 2 = true ∧ role (noValidHoist s) ≠ 3 := by
  have hlate' : t₀ + msT (rdN s 0x2500 2 + 20) ≤ s.now := by rwa [msT, Nat.mul_comm]
  have hwaits : noValidHoist s = readyCheck (notReady s 2 true) := by simp [noValidHoist, hlast, hstandby, hlate']
  have hreason : rdBit (notReady s 2 true) 0x2500 0x8C 2 = true := (rdBit_notReady s (by decide) true).trans (if_pos rfl)
  have hstandby' : standby (notReady s 2 true) = true := by
    have hread {j : Nat} (hj : j ≠ 0x8C) : rdN (notReady s 2 true) 0x2500 j = rdN s 0x2500 j := rdN_wrN_sub _ _ _ hj.symm
    rw [standby, inPair, role, hread (by decide), hread (by decide), notReady, wrBit, wrN_zh6432]
    exact hstandby
  rw [hwaits]
  refine ⟨?_, readyCheck_waits (n := 2) (by decide) (by decide) hreason hstandby'⟩
  rw [rdBit_readyCheck _ (by decide) (by decide)]
  exact hreason

/-- Settles O54: the link by its events, the frames by their CRC, the hoists by their item and their receiver. -/
theorem halyardCarriesThePair : Obligations.HalyardCarriesThePair := by
  unfold Obligations.HalyardCarriesThePair
  refine ⟨fun s halive hpair hcfg hdown => ?up, fun s halive hpair hcfg hup => ?down,
    fun s count duties sps aligned raw crc halive hpair hcfg hup hensign => ⟨fun hcrc => ?tick, fun hcrc => ?bad⟩,
    fun s seq m raw crc halive hstandby hensign hup hcrc => ⟨fun hnext => ?next, fun hsync hother hold => ?old, fun hsync hlater => ?later⟩,
    fun s halive hwaits hlate => ?resend, fun s e raw crc halive hpair hcfg hensign hup hcrc => ?log,
    fun s hash version serials halive hpair hcfg hensign hup => ?joins,
    fun s h i halive hsnap htick hup hjoined hidle hquiet hfree => ?capture,
    fun s h image raw crc halive hpair hcfg hup hensign hrole hcrc htrailer hvalid => ?hoist,
    fun s h image raw crc halive hpair hcfg hup hensign hrole hcrc => ?segment,
    fun s h i t₀ w halive hsent hlate hw hflight => ?fails, fun s h i t₀ w halive hsent hw hflight => ?acked,
    fun s n halive hwaits => ?mirrored, fun s t₀ halive hstandby hlast hlate => ?unready⟩
  case up =>
    refine reaches_act halive (f := linkUpEvent) rfl ?_
    rw [linkUp, rdF, rdN_settled, settled_conds, settled_dup, role_settled]
    exact linkUpEvent_joins hpair hcfg hdown
  case down =>
    refine reaches_act halive (f := linkDownEvent) rfl ?_
    rw [linkUp, rdF, rdN_settled, settled_conds, settled_dup]
    exact linkDownEvent_leaves hpair hcfg hup
  case tick =>
    refine reaches_act halive (f := fun s => tickFrame s count duties sps aligned (frameCrcOk ⟨raw, crc⟩)) rfl ?_
    rw [(frameCrcOk_iff raw crc).mpr hcrc, rdBit, rdN_settled, settled_dup, settled_tick, settled_counting]
    exact tickFrame_taken hpair hcfg hup hensign
  case bad =>
    have hframe : frameCrcOk ⟨raw, crc⟩ = false := Bool.eq_false_iff.mpr fun h => hcrc ((frameCrcOk_iff raw crc).mp h)
    change done s (act s fun s => tickFrame s count duties sps aligned (frameCrcOk ⟨raw, crc⟩)) = _
    rw [act_alive halive, hframe, tickFrame_bad count duties sps aligned hpair hcfg hup]
    rfl
  case next =>
    change done s (act s fun s => storeHash s (mirrorReceived s seq m (frameCrcOk ⟨raw, crc⟩))) = _
    rw [act_alive halive, (frameCrcOk_iff raw crc).mpr hcrc, mirrorReceived_order seq m hstandby hup hensign, if_pos (by simpa using hnext)]
    rfl
  case old =>
    change done s (act s fun s => storeHash s (mirrorReceived s seq m (frameCrcOk ⟨raw, crc⟩))) = _
    rw [act_alive halive, (frameCrcOk_iff raw crc).mpr hcrc, mirrorReceived_order seq m hstandby hup hensign,
      if_neg (by simpa [hsync] using hother), if_pos hold, storeHash_same rfl]
    rfl
  case later =>
    have hother : seq ≠ (rdN s 0x2500 0x8E + 1) % 2 ^ 32 := by
      have := Nat.mod_le (rdN s 0x2500 0x8E + 1) (2 ^ 32)
      omega
    change done s (act s fun s => storeHash s (mirrorReceived s seq m (frameCrcOk ⟨raw, crc⟩))) = _
    rw [act_alive halive, (frameCrcOk_iff raw crc).mpr hcrc, mirrorReceived_order seq m hstandby hup hensign,
      if_neg (by simpa [hsync] using hother), if_neg (by omega)]
    rfl
  case resend =>
    change done s (act s fun s => mirrorAckTimeout s) = _
    rw [act_alive halive, mirrorAckTimeout_sends hwaits hlate]
    rfl
  case log =>
    refine reaches_act halive (f := fun s => logFrame s e (frameCrcOk ⟨raw, crc⟩)) rfl ?_
    rw [(frameCrcOk_iff raw crc).mpr hcrc, rdN_settled, settled_log]
    exact logFrame_enters hpair hcfg hensign hup
  case joins =>
    refine reaches_act halive (f := (controlJoin · hash version serials)) rfl ?_
    rw [settled_dup]
    exact controlJoin_joins hash version serials hpair hcfg hensign hup
  case capture =>
    refine reaches_act halive (f := hoistCapture) rfl ?_
    rw [rdN_settled, settled_dup, settled_work]
    exact hoistCapture_starts hsnap htick hup hjoined hidle hquiet hfree
  case hoist =>
    refine reaches_act halive (f := fun s => hoistSegment s (some h) (trailerOk image) (frameCrcOk ⟨raw, crc⟩)) rfl ?_
    rw [(frameCrcOk_iff raw crc).mpr hcrc, htrailer]
    simp only [rdN_settled, settled_dup]
    exact hoistSegment_valid hpair hcfg hup hensign hrole hvalid
  case segment =>
    have hframe : frameCrcOk ⟨raw, crc⟩ = false := Bool.eq_false_iff.mpr fun h => hcrc ((frameCrcOk_iff raw crc).mp h)
    refine reaches_act halive (f := fun s => hoistSegment s (some h) (trailerOk image) (frameCrcOk ⟨raw, crc⟩)) rfl ?_
    rw [hframe, rdN_settled, settled_dup]
    exact hoistSegment_bad hpair hcfg hup hensign hrole
  case fails =>
    refine reaches_act halive (f := hoistAckTimeout) rfl ?_
    rw [settled_dup, settled_work]
    exact hoistAckTimeout_fails hsent hw hflight hlate
  case acked =>
    refine reaches_act halive (f := (hoistAcked · h.number)) rfl ?_
    rw [settled_dup, settled_work]
    exact hoistAcked_ends hsent hw hflight
  case mirrored =>
    change done s (act s fun s => mirrorAcked s n) = _
    rw [act_alive halive, mirrorAcked, if_pos hwaits]
    rfl
  case unready =>
    refine reaches_act halive (f := noValidHoist) rfl ?_
    rw [rdBit, rdN_settled, role_settled]
    exact noValidHoist_waits hstandby hlast hlate

end Sys2Proof.Machine
end
